-- ==== Sys2Proof/Word.lean ====
section
/-! DEFINITION. The words of the TN-8: bytes of frames, 16-bit quantities of reports and counters, station numbers. -/

namespace Sys2Proof

/-- One byte of a frame (R2, R15). -/
abbrev Byte := BitVec 8

/-- A 16-bit quantity: a field report's value, a counter, a digest (Names in 00_scope.md; R15). -/
abbrev Half := BitVec 16

/-- A station number as the header carries it, four bits (Table 1-3). Target 0 addresses every station. -/
abbrev Station := BitVec 4

/-- An arbitration key: urgency, then sender number, six bits (R3). -/
abbrev Key := BitVec 6

end Sys2Proof
end

