-- ==== Sys2Proof/Config.lean ====
section
/-! DEFINITION. What is fixed for one node, and the free values the manual leaves open. -/

namespace Sys2Proof.Config

/-- DESIGN CHOICE (log 1), unsafe: the strap pins that `State.reset` is taken to have read.
COLD_RESET carries the pins it reads, so every strapping is reached from any state (R16). -/
def strapsAtReset : BitVec 3 := 0

/-- Beacon period, ms (R31). -/
def beaconPeriod : Nat := 50

/-- Silence interval, ms (R34). -/
def silenceInterval : Nat := 150

/-- Listen window, ms (R24). -/
def listenWindow : Nat := 150

/-- Vote window, ms (R47). -/
def voteWindow : Nat := 200

/-- Sample timer of guard mode, ms (R94). -/
def samplePeriod : Nat := 500

/-- Length of a probe, ms (R95). -/
def probeLength : Nat := 100

/-- Limit of a CLEARING or RESEATING stage, ms (R122). -/
def stageLimit : Nat := 20000

/-- Limit of one placement, ms (R124). -/
def placementLimit : Nat := 120000

/-- Limit of one dose, ms (R150). -/
def doseLimit : Nat := 30000

/-- Places of the transmit queue, a frame on the wire included (R4). -/
def txqPlaces : Nat := 16

/-- Free value (log 5): what a 32-bit mass of Table 9-1 holds after an addition whose sum does not fit it.
The manual states no result there; nothing constrains this value. -/
opaque freeMass : Nat → BitVec 32

/-- Free value (log 6): the item number recorded for a CHAIN rejection (R20 records one and names none). -/
opaque freeRejectItem : Nat → Nat

/-- Free value (log 6): the member recorded for a LENGTH or ZONE_MAP rejection (R20 names none). -/
opaque freeRejectMember : Nat → Option Nat

/-- Free value (log 4): which of several timers that run out at the same tick is taken first. -/
opaque freeOrder : Nat → Nat

end Sys2Proof.Config
end

