-- ==== Sys2Proof/Syntax.lean ====
section
/-! DEFINITION. The commands the node takes: frames on the shield link, field reports, timers that run out, events of
the link interface and the reset line. One constructor of `Instr` for each row of spec/opcode_table.json. -/

namespace Sys2Proof

/-- Grade of a hold (R38). -/
inductive Grade where
  | soft
  | hard
  deriving DecidableEq, Repr

/-- Hold causes (Table 1-8). -/
inductive HoldCause where
  | peerSilent | discord | nodeFault | driveTrip | cylFail | jam | seatFail | zoneTimeout | faceLow
  | strokeEnd | ringDone | shortfall | overdig | noCar | restart | console
  deriving DecidableEq, Repr

/-- Target of a vote round (Table 1-9). -/
inductive VoteTarget where
  | bore
  | build
  deriving DecidableEq, Repr

/-- Vote refusal reasons (Table 1-10), in the order of Table 3-5. -/
inductive RefuseReason where
  | phase | joining | faulted | peerAbsent | ringMismatch | notBearing | driveTripped | strokeDone | shortfall
  | ringOpen | noCar | overdig | faceLow | jam | drivesTurning | strokeShort | noPlan
  deriving DecidableEq, Repr

/-- Answer byte of a VOTE (Table 1-9). -/
inductive VoteAnswer where
  | ready
  | refuse (reason : RefuseReason)
  deriving DecidableEq, Repr

/-- Node states a beacon can report (Table 1-6, byte 0 bits 7..6). -/
inductive BeaconState where
  | joining | member | faulted
  deriving DecidableEq, Repr

/-- Phase codes of a beacon (Table 1-6, byte 0 bits 5..4). -/
inductive PhaseCode where
  | hold | bore | build
  deriving DecidableEq, Repr

/-- The contents of a beacon (Table 1-6). -/
structure Beacon where
  nodeState : BeaconState
  phase : PhaseCode
  /-- `none` is code 0. -/
  grade : Option Grade
  roundOpen : Bool
  noticePending : Bool
  guardMode : Bool
  steerPause : Bool
  strokeReached : Bool
  headCar : Bool
  grout : Bool
  muck : Bool
  torqueHigh : Bool
  face : Bool
  ring : Half
  digest : Half
  advance : Half
  torque : Half
  shortfall : Half
  /-- Placement engine state code. -/
  engine : Byte
  deriving DecidableEq, Repr

/-- The payload of a frame by kind (Table 1-4). Kinds whose layout and ranges their chapters judge carry raw bytes. -/
inductive Body where
  | hold (cause : HoldCause) (grade : Grade)
  | propose (target : VoteTarget)
  | vote (target : VoteTarget) (answer : VoteAnswer)
  | restrain (payload : List Byte)
  | release (payload : List Byte)
  | zoneClear (payload : List Byte)
  | zoneCleared (payload : List Byte)
  | zoneRefused (payload : List Byte)
  | zoneSeat (payload : List Byte)
  | zoneHeld (payload : List Byte)
  | ringClosed (payload : List Byte)
  | beacon (contents : Beacon)
  | configure (payload : List Byte)
  | setpoint (payload : List Byte)
  | ringSet (payload : List Byte)
  | restart
  | command (service : Byte) (args : List Byte)
  | reply (payload : List Byte)
  deriving DecidableEq, Repr

/-- A well-formed frame: its header fields and its payload (Table 1-3). -/
structure Frame where
  sender : Station
  target : Station
  body : Body
  deriving DecidableEq, Repr

/-- What is heard back at the end of a transmission (R9). -/
inductive Heard where
  /-- The frame sent, byte for byte. -/
  | same
  /-- These bytes. -/
  | bytes (received : List Byte)
  /-- No frame by the end of the idle gap. -/
  | nothing
  deriving DecidableEq, Repr

/-- The parts of ARBITRATION (R3). `whole` is the row as one event; `start` and `settle` are its two ends, between
which other events of the node may be taken (R5 speaks of a beacon queued while another is on the wire and has yet to
lose arbitration). -/
inductive ArbitrationEvent where
  | whole
  | start
  | settle
  deriving DecidableEq, Repr

/-- The commands, one constructor for each row of spec/opcode_table.json. -/
inductive Instr where
  | coldReset (straps : BitVec 3)
  | badFrame (received : List Byte)
  | arbitration (event : ArbitrationEvent) (contenders : List Key)
  | loopbackCheck (heard : Heard)
  | hold (sender target : Station) (cause : HoldCause) (grade : Grade)
  | propose (sender target : Station) (phase : VoteTarget)
  | vote (sender target : Station) (phase : VoteTarget) (answer : VoteAnswer)
  | beacon (sender target : Station) (contents : Beacon)
  | beaconPeriod
  | silenceExpiry (peer : Nat)
  | listenWindowEnd
  | voteWindowExpiry
  | restrain (sender target : Station) (payload : List Byte)
  | release (sender target : Station) (payload : List Byte)
  | zoneClear (sender target : Station) (payload : List Byte)
  | zoneSeat (sender target : Station) (payload : List Byte)
  | zoneCleared (sender target : Station) (payload : List Byte)
  | zoneHeld (sender target : Station) (payload : List Byte)
  | zoneRefused (sender target : Station) (payload : List Byte)
  | ringClosed (sender target : Station) (payload : List Byte)
  | configure (sender target : Station) (payload : List Byte)
  | setpoint (sender target : Station) (payload : List Byte)
  | ringSet (sender target : Station) (payload : List Byte)
  | restart (sender target : Station)
  | read (sender target : Station) (args : List Byte)
  | watchSet (sender target : Station) (args : List Byte)
  | watchRead (sender target : Station) (args : List Byte)
  | notices (sender target : Station) (args : List Byte)
  | echo (sender target : Station) (args : List Byte)
  | unknownServiceCode (sender target : Station) (service : Byte) (args : List Byte)
  | reply (sender target : Station) (payload : List Byte)
  | clearFault (sender target : Station) (args : List Byte)
  | guardOn (sender target : Station) (args : List Byte)
  | guardOff (sender target : Station) (args : List Byte)
  | guardLevel (sender target : Station) (args : List Byte)
  | guardProbe (sender target : Station) (args : List Byte)
  | guardReset (sender target : Station) (args : List Byte)
  | sampleTimerExpiry
  | probeEnd
  | override (sender target : Station) (args : List Byte)
  | overrideCancel (sender target : Station) (args : List Byte)
  | planOpen (sender target : Station) (args : List Byte)
  | planStep (sender target : Station) (args : List Byte)
  | planClose (sender target : Station) (args : List Byte)
  | planAbort (sender target : Station) (args : List Byte)
  | planStop (sender target : Station) (args : List Byte)
  | planFlush (sender target : Station) (args : List Byte)
  | planEnable (sender target : Station) (args : List Byte)
  | planResume (sender target : Station) (args : List Byte)
  | stageLimitExpiry
  | placementLimitExpiry
  | seated
  | seatFail
  | erectorFaultIndication (present : Bool)
  | cylinderReport (cylinder : Nat) (stroke pressure : Half) (fault retracted : Bool)
  | driveReport (drive : Nat) (speed torque : Half) (fault : Bool)
  | strokeReport
  | linePressure (kPa : Half)
  | pumpAtRest (atRest : Bool)
  | doseLimitExpiry
  | unblock (sender target : Station) (args : List Byte)
  | screwReport (fault : Bool)
  | facePressureReport (kPa : Half)
  | beltScaleReport (kg : Half)
  | trainArrive (sender target : Station) (args : List Byte)
  | carIndexed (sender target : Station) (args : List Byte)
  | overdigExcuse (sender target : Station) (args : List Byte)
  deriving DecidableEq, Repr

end Sys2Proof
end

