-- ==== Sys2Proof/WellFormed.lean ====
section
/-! DEFINITION. Which commands are well formed: those the bus and the field channels can deliver. -/

namespace Sys2Proof

/-- Service codes of Table 1-5. -/
def knownServiceCodes : List Byte :=
  [0x01, 0x02, 0x03, 0x04, 0x05, 0x06, 0x10, 0x11, 0x12, 0x13, 0x14, 0x20, 0x21] ++
  [0x30, 0x31, 0x32, 0x33, 0x34, 0x35, 0x36, 0x37, 0x40, 0x50, 0x51, 0x52]

/-- A payload is 0 to 24 bytes (R2). -/
def payloadFits (payload : List Byte) : Bool := payload.length ≤ 24

/-- The arguments of a COMMAND follow its service code in a payload of at most 24 bytes (Table 1-4). -/
def argsFit (args : List Byte) : Bool := args.length ≤ 23

/-- Whether the payload of a frame fits its length field and, for a COMMAND, its code is any code (R2, R15). -/
def Body.wf : Body → Bool
  | .hold _ _ | .propose _ | .vote _ _ | .beacon _ | .restart => true
  | .restrain p | .release p | .zoneClear p | .zoneCleared p | .zoneRefused p | .zoneSeat p | .zoneHeld p
  | .ringClosed p | .configure p | .setpoint p | .ringSet p | .reply p => payloadFits p
  | .command _ args => argsFit args

/-- The frame a frame row stands for; `none` for the rows that are no received frame. Table 1-5 gives the codes. -/
def Instr.frame? : Instr → Option Frame
  | .hold s t c g => some ⟨s, t, .hold c g⟩
  | .propose s t p => some ⟨s, t, .propose p⟩
  | .vote s t p a => some ⟨s, t, .vote p a⟩
  | .beacon s t c => some ⟨s, t, .beacon c⟩
  | .restrain s t p => some ⟨s, t, .restrain p⟩
  | .release s t p => some ⟨s, t, .release p⟩
  | .zoneClear s t p => some ⟨s, t, .zoneClear p⟩
  | .zoneSeat s t p => some ⟨s, t, .zoneSeat p⟩
  | .zoneCleared s t p => some ⟨s, t, .zoneCleared p⟩
  | .zoneHeld s t p => some ⟨s, t, .zoneHeld p⟩
  | .zoneRefused s t p => some ⟨s, t, .zoneRefused p⟩
  | .ringClosed s t p => some ⟨s, t, .ringClosed p⟩
  | .configure s t p => some ⟨s, t, .configure p⟩
  | .setpoint s t p => some ⟨s, t, .setpoint p⟩
  | .ringSet s t p => some ⟨s, t, .ringSet p⟩
  | .restart s t => some ⟨s, t, .restart⟩
  | .read s t a => some ⟨s, t, .command 0x01 a⟩
  | .watchSet s t a => some ⟨s, t, .command 0x02 a⟩
  | .watchRead s t a => some ⟨s, t, .command 0x03 a⟩
  | .notices s t a => some ⟨s, t, .command 0x04 a⟩
  | .echo s t a => some ⟨s, t, .command 0x05 a⟩
  | .unknownServiceCode s t c a => some ⟨s, t, .command c a⟩
  | .reply s t p => some ⟨s, t, .reply p⟩
  | .clearFault s t a => some ⟨s, t, .command 0x06 a⟩
  | .guardOn s t a => some ⟨s, t, .command 0x10 a⟩
  | .guardOff s t a => some ⟨s, t, .command 0x11 a⟩
  | .guardLevel s t a => some ⟨s, t, .command 0x12 a⟩
  | .guardProbe s t a => some ⟨s, t, .command 0x13 a⟩
  | .guardReset s t a => some ⟨s, t, .command 0x14 a⟩
  | .override s t a => some ⟨s, t, .command 0x20 a⟩
  | .overrideCancel s t a => some ⟨s, t, .command 0x21 a⟩
  | .planOpen s t a => some ⟨s, t, .command 0x30 a⟩
  | .planStep s t a => some ⟨s, t, .command 0x31 a⟩
  | .planClose s t a => some ⟨s, t, .command 0x32 a⟩
  | .planAbort s t a => some ⟨s, t, .command 0x33 a⟩
  | .planStop s t a => some ⟨s, t, .command 0x34 a⟩
  | .planFlush s t a => some ⟨s, t, .command 0x35 a⟩
  | .planEnable s t a => some ⟨s, t, .command 0x36 a⟩
  | .planResume s t a => some ⟨s, t, .command 0x37 a⟩
  | .unblock s t a => some ⟨s, t, .command 0x40 a⟩
  | .trainArrive s t a => some ⟨s, t, .command 0x50 a⟩
  | .carIndexed s t a => some ⟨s, t, .command 0x51 a⟩
  | .overdigExcuse s t a => some ⟨s, t, .command 0x52 a⟩
  | .coldReset _ | .badFrame _ | .arbitration _ _ | .loopbackCheck _ | .beaconPeriod | .silenceExpiry _
  | .listenWindowEnd | .voteWindowExpiry | .sampleTimerExpiry | .probeEnd | .stageLimitExpiry
  | .placementLimitExpiry | .seated | .seatFail | .erectorFaultIndication _ | .cylinderReport _ _ _ _ _
  | .driveReport _ _ _ _ | .strokeReport | .linePressure _ | .pumpAtRest _ | .doseLimitExpiry | .screwReport _
  | .facePressureReport _ | .beltScaleReport _ => none

/-- Well-formed commands: a frame's payload fits the length field; an unknown service code is not in Table 1-5; a field
report names a channel a node can have, cylinders 1 to 6 and drives 1 to 4 (Numbering, 00_scope.md); a peer is 1 to 8. -/
def Instr.wf (i : Instr) : Bool :=
  match i with
  | .unknownServiceCode _ _ c a => !knownServiceCodes.contains c && argsFit a
  | .silenceExpiry p => decide (1 ≤ p ∧ p ≤ 8)
  | .cylinderReport n _ _ _ _ => decide (1 ≤ n ∧ n ≤ 6)
  | .driveReport n _ _ _ => decide (1 ≤ n ∧ n ≤ 4)
  | _ => match i.frame? with
    | some f => f.body.wf
    | none => true

end Sys2Proof
end

