-- ==== Sys2Proof/Decode.lean ====
section
/-! DEFINITION. The decoder of the opcode table's words. The table gives no row any bits (spec/opcode_table.json: every
row's "fields" is empty and none has "fixed"), so no word spells a command. The bytes of frames are read in
Machine/Operands.lean (`parseFrame`). -/

namespace Sys2Proof

/-- The command a word of the table's bits spells: none, since no row of the table gives bits. -/
def decodeTableWord (_nbits _w : Nat) : Option Instr := none

end Sys2Proof
end

