-- ==== Sys2Proof/Machine/State.lean ====
section
/-! DEFINITION. The state of one node: every register, record, queue, timer and pin the manual gives it, as plain data. -/

namespace Sys2Proof.Machine

/-! ### Link interface (Chapter 1) -/

/-- What the console service has to do when a queued frame ends (R195, R197). -/
inductive TxTag where
  | plain
  /-- A part of the data reply in flight. -/
  | dataPart
  /-- A NOTICES reply that reported these flags. -/
  | notices (reported : BitVec 15)
  deriving DecidableEq, Repr

/-- A frame of the transmit queue (R4). -/
structure TxFrame where
  frame : Frame
  tag : TxTag
  /-- Place in the order of first queuing; smaller is older. -/
  age : Nat
  failures : Nat
  /-- To be discarded if its loopback check fails (R7, R14). -/
  discard : Bool
  deriving DecidableEq, Repr

/-- The frame on the wire, and whether its arbitration has been won (R3). -/
structure WireFrame where
  tx : TxFrame
  won : Bool
  deriving DecidableEq, Repr

/-- The link interface (Sections 1.4 to 1.7). Its three counters stand with the others of Table 11-5. -/
structure LinkUnit where
  /-- Pending frames, head first. -/
  queue : List TxFrame
  onWire : Option WireFrame
  transmitting : Bool
  nextAge : Nat
  deriving DecidableEq, Repr

/-- Endings of a queued frame (R8). -/
inductive Ending where
  | sent | dropped | evicted | removed | failed
  deriving DecidableEq, Repr

/-! ### Configuration and node state (Chapter 2) -/

/-- Node states (Table 2-1). -/
inductive NodeState where
  | unconfigured | joining | member | faulted
  deriving DecidableEq, Repr

/-- Fault causes (R26). -/
inductive FaultCause where
  | link | pump | erector | screw
  deriving DecidableEq, Repr

/-- Items 25 to 34 of Table 2-3 for one member, as read. -/
structure MemberSection where
  drives : Nat
  cylinders : Nat
  ports : Nat
  priority : Nat
  chainStart : Nat
  nextPort : List Nat
  factors : List Nat
  muckOwner : Nat
  erectorOwner : Nat
  zones : List Nat
  deriving DecidableEq, Repr

/-- A configuration: items 1 to 24 of Table 2-3 and one member section per member, in the listed order. -/
structure Configuration where
  members : List Nat
  positions : Nat
  hMin : Nat
  strokeTarget : Nat
  steerLimit : Nat
  creepSpeed : Nat
  ratedTorque : Nat
  guardIndex : Nat
  doseStrokes : Nat
  strokeVolume : Nat
  cutPressure : Nat
  shortfallOff : Nat
  shortfallOn : Nat
  shortfallHold : Nat
  massPerMm : Nat
  overdigAllowance : Nat
  spillLimit : Nat
  pMin : Nat
  pRelease : Nat
  pHigh : Nat
  contactPressure : Nat
  reseatPressure : Nat
  startRing : Nat
  sections : List MemberSection
  deriving DecidableEq, Repr

/-- The collection of CONFIGURE parts: parts 1 to j, contents only, of an announced count (R18). -/
structure Collection where
  sender : Station
  count : Nat
  parts : List (List Byte)
  deriving DecidableEq, Repr

/-- Validation reasons (Table 2-4). -/
inductive RejectReason where
  | length | range | notMember | chain | zoneMap | muckOwner | erectorOwner
  deriving DecidableEq, Repr

/-- The last rejection (R20). -/
structure Rejection where
  reason : RejectReason
  item : Option Nat
  member : Option Nat
  deriving DecidableEq, Repr

/-- The node-state record and the configuration store (R16). -/
structure NodeRecord where
  number : Nat
  state : NodeState
  cause : Option FaultCause
  furtherFaults : Half
  config : Option Configuration
  digest : Option Half
  collection : Option Collection
  lastRejection : Option Rejection
  firstMembership : Bool
  /-- Elapsed ms of the listen window (R24). -/
  listen : Option Nat
  deriving DecidableEq, Repr

/-! ### Phase unit (Chapter 3) -/

/-- The machine phase with its hold grade (R38). -/
inductive Phase where
  | hold (grade : Grade)
  | bore
  | build
  deriving DecidableEq, Repr

/-- A hold record (R43). -/
structure HoldRecord where
  cause : HoldCause
  source : Nat
  ring : Nat
  grade : Grade
  further : Nat
  deriving DecidableEq, Repr

/-- The open vote round (Table 3-6): votes in member order. -/
structure Round where
  target : VoteTarget
  remaining : Nat
  votes : List (Nat × Option VoteAnswer)
  deriving DecidableEq, Repr

/-- Reasons a round can fail for (R53). -/
inductive FailReason where
  | refused (reason : RefuseReason)
  | noVote
  | held
  deriving DecidableEq, Repr

/-- The last failure (R53). -/
structure RoundFailure where
  target : VoteTarget
  station : Nat
  reason : FailReason
  deriving DecidableEq, Repr

/-- Presence of a member (Table 3-1). -/
inductive Presence where
  | present | silent | alien
  deriving DecidableEq, Repr

/-- An entry of the membership view (Table 3-1). -/
structure ViewEntry where
  member : Nat
  presence : Presence
  last : Option Beacon
  /-- Time since the last beacon, ms; `none` is not running. -/
  since : Option Nat
  strikes : Nat
  deriving DecidableEq, Repr

/-- The phase unit (R38, R43, R46, R29, R31, R136). -/
structure PhaseUnit where
  phase : Phase
  current : Option HoldRecord
  previous : Option HoldRecord
  round : Option Round
  lastFailure : Option RoundFailure
  view : List ViewEntry
  ring : Nat
  /-- Elapsed ms of the beacon period (R31). -/
  beaconTimer : Nat
  deriving DecidableEq, Repr

/-! ### Thrust unit (Chapter 4) -/

/-- Cylinder states (Table 4-2). -/
inductive CylState where
  | bearing | advancing | retracting | clear | reseating | parked | failed
  deriving DecidableEq, Repr

/-- A cylinder record (Table 4-1). Contact, zone position and pin are computed from their one home. -/
structure Cylinder where
  number : Nat
  state : CylState
  stroke : Half
  pressure : Half
  fault : Bool
  origin : Option Half
  reseatTarget : Option Nat
  deriving DecidableEq, Repr

/-- Kinds of zone request (R73). -/
inductive ZoneKind where
  | clear | seat
  deriving DecidableEq, Repr

/-- A zone request in flight (R73). The pressure is 0 for a clear. -/
structure ZoneRequest where
  kind : ZoneKind
  ring : Nat
  position : Nat
  attempt : Nat
  pressure : Nat
  deriving DecidableEq, Repr

/-- Restraint reasons (Table 4-4). -/
inductive RestraintReason where
  | grout | muck | torque | face
  deriving DecidableEq, Repr

/-- The thrust unit (Tables 4-1, 4-3, R73, R77). -/
structure ThrustUnit where
  cylinders : List Cylinder
  sectorAdvance : Nat
  credited : Nat
  setpoint : Nat
  steerPause : Bool
  strokeReached : Bool
  zone : Option ZoneRequest
  /-- Sorted by source, then by reason, without repeats. -/
  restraints : List (Nat × RestraintReason)
  deriving DecidableEq, Repr

/-! ### Drive unit (Chapter 5) -/

/-- Drive states (Table 5-2). -/
inductive DriveState where
  | stopped | starting | running | stopping | tripped
  deriving DecidableEq, Repr

/-- A drive record (Table 5-1). -/
structure Drive where
  number : Nat
  state : DriveState
  speed : Half
  torque : Half
  fault : Bool
  deriving DecidableEq, Repr

/-- A probe in flight: elapsed ms, and the sum of percent times ms so far (R95). -/
structure Probe where
  elapsed : Nat
  weighted : Nat
  deriving DecidableEq, Repr

/-- The last probe (Table 5-4); `isOver` is the result OVER. -/
structure LastProbe where
  isOver : Bool
  mean : Nat
  level : Nat
  deriving DecidableEq, Repr

/-- The guard record (Table 5-4). -/
structure Guard where
  level : Option Nat
  manual : Bool
  latch : Bool
  previous : Option Nat
  probe : Option Probe
  timer : Option Nat
  last : Option LastProbe
  stalls : Nat
  jam : Bool
  probes : Half
  deriving DecidableEq, Repr

/-- The drive unit. -/
structure DriveUnit where
  drives : List Drive
  setpoint : Nat
  guard : Guard
  deriving DecidableEq, Repr

/-! ### Plan store and placement engine (Chapters 6 and 7) -/

/-- Segment kinds (Table 6-1). -/
inductive SegmentKind where
  | standard | key
  deriving DecidableEq, Repr

/-- A step record (Table 6-1). -/
structure PlanStep where
  index : Nat
  position : Nat
  kind : SegmentKind
  rotation : Nat
  reseat : Option Nat
  deriving DecidableEq, Repr

/-- A plan record (Table 6-2). It is CLOSED when its closed count is present. -/
structure Plan where
  identifier : Nat
  opener : Station
  closedCount : Option Nat
  steps : List PlanStep
  deriving DecidableEq, Repr

/-- The plan store (R99): closed plans, oldest first, and the open plan at the tail. -/
structure PlanStore where
  closed : List Plan
  opened : Option Plan
  deriving DecidableEq, Repr

/-- Placement engine states (Table 6-4). -/
inductive EngineState where
  | disabled | idle | clearing | placing | reseating | suspended | stalled | faulted
  deriving DecidableEq, Repr

/-- Reasons of a ZONE_REFUSED (Table 7-3). -/
inductive ZoneRefusal where
  | pinned | minimum
  deriving DecidableEq, Repr

/-- The last refusal (Table 7-1). -/
structure LastRefusal where
  member : Nat
  reason : ZoneRefusal
  position : Nat
  kind : ZoneKind
  attempt : Nat
  deriving DecidableEq, Repr

/-- Engine fault reasons (R110). -/
inductive EngineFaultReason where
  | placed | keyEarly | keyMissing | incomplete
  deriving DecidableEq, Repr

/-- The engine fault record (R110). -/
structure EngineFault where
  reason : EngineFaultReason
  plan : Nat
  index : Nat
  position : Nat
  deriving DecidableEq, Repr

/-- Erector channel states (R120). -/
inductive ErectorState where
  | ready | placing | halted
  deriving DecidableEq, Repr

/-- Commands on the erector channel (R120). -/
inductive ErectorCommand where
  | halt
  | place (position : Nat) (kind : SegmentKind) (rotation : Nat)
  deriving DecidableEq, Repr

/-- The placement engine record (Table 7-1) and the erector channel (R120). -/
structure Engine where
  state : EngineState
  /-- Present while a step is held: whether the erector has reported SEATED for it. The step is the store's head step. -/
  seated : Option Bool
  attempt : Nat
  zoneMembers : List Nat
  answered : List Nat
  retry : Nat
  /-- Time remaining of the stage or placement limit, ms. -/
  limit : Option Nat
  stopping : Bool
  closePending : Bool
  /-- A RING_CLOSED that ended DROPPED and waits to be queued again (R129). -/
  requeue : Option Nat
  /-- Sorted, without repeats. -/
  placed : List Nat
  lastRefusal : Option LastRefusal
  seatRetries : Half
  zoneRefusals : Half
  fault : Option EngineFault
  erector : ErectorState
  erectorCommand : ErectorCommand
  deriving DecidableEq, Repr

/-! ### Grout unit (Chapter 8) -/

/-- Port states (Table 8-1). -/
inductive PortState where
  | opened | blocked
  deriving DecidableEq, Repr

/-- A port account (Table 8-1). -/
structure Port where
  number : Nat
  state : PortState
  owed : Nat
  delivered : Nat
  cuts : Nat
  deriving DecidableEq, Repr

/-- Pump states (Table 8-3). -/
inductive PumpState where
  | idle | dosing | failed
  deriving DecidableEq, Repr

/-- Endings of a dose (Table 8-4). -/
inductive DoseEnding where
  | complete | cut | stopped | shut | limit
  deriving DecidableEq, Repr

/-- The last dose record (Table 8-4); elapsed in ms. -/
structure Dose where
  port : Nat
  credited : Nat
  elapsed : Nat
  ending : Option DoseEnding
  deriving DecidableEq, Repr

/-- The grout unit (Table 8-5). -/
structure GroutUnit where
  ports : List Port
  pointer : Option Nat
  pump : PumpState
  dose : Option Dose
  restrained : Bool
  deriving DecidableEq, Repr

/-! ### Muck unit (Chapter 9) -/

/-- Screw commands (R165). -/
inductive ScrewCommand where
  | run | stop
  deriving DecidableEq, Repr

/-- Car states (Table 9-2). -/
inductive CarState where
  | queued | filling | due
  deriving DecidableEq, Repr

/-- A car record (Table 9-2). -/
structure Car where
  number : Nat
  capacity : Nat
  fill : Nat
  state : CarState
  deriving DecidableEq, Repr

/-- The muck unit (Table 9-1). Its face reading and screw fault indication are the channels' latest. -/
structure MuckUnit where
  screw : ScrewCommand
  faceRestrained : Bool
  faceLow : Bool
  queue : List Car
  lastIndexed : Option Nat
  muckRestrained : Bool
  spill : Nat
  weighed : Nat
  carried : Nat
  uncarried : Nat
  excused : Nat
  indexed : Half
  machineAdvance : Nat
  overdig : Bool
  deriving DecidableEq, Repr

/-! ### Field channels -/

/-- The latest report of a cylinder channel (R58). -/
structure CylReport where
  stroke : Half
  pressure : Half
  fault : Bool
  retracted : Bool
  deriving DecidableEq, Repr

/-- The latest report of a drive channel (R83). -/
structure DriveReport where
  speed : Half
  torque : Half
  fault : Bool
  deriving DecidableEq, Repr

/-- The latest report of every field channel. -/
structure Channels where
  /-- Cylinder channels 1 to 6. -/
  cylinders : List CylReport
  /-- Drive channels 1 to 4. -/
  drives : List DriveReport
  /-- The last report of at rest; `none` before the first, when the pump is taken as at rest (R145). -/
  pumpAtRest : Option Bool
  linePressure : Option Half
  screwFault : Bool
  face : Option Half
  erectorFault : Bool
  deriving DecidableEq, Repr

/-! ### Overrides (Chapter 10) and console service (Chapter 11) -/

/-- Item kinds (Table 10-2). -/
inductive ItemKind where
  | cylinder | port | drive
  deriving DecidableEq, Repr

/-- Forced states (Table 10-2). -/
inductive ForcedState where
  | forceBear | forceClear | shut | off
  deriving DecidableEq, Repr

/-- An entry of the override table (Table 10-1). -/
structure OverrideEntry where
  kind : ItemKind
  number : Nat
  forced : ForcedState
  deriving DecidableEq, Repr

/-- A watch item (R196). -/
structure WatchItem where
  cls : Nat
  item : Nat
  value : Nat
  deriving DecidableEq, Repr

/-- The counters of Table 11-5. -/
structure Counters where
  badCheck : Half
  foreignSender : Half
  txqDrops : Half
  discardedProposals : Half
  failedVotes : Half
  dosesCompleted : Half
  cuts : Half
  seatRetries : Half
  uploadOverflows : Half
  deriving DecidableEq, Repr

/-- The data reply in flight (R195): the part queued or on the wire, the part count, and the values still to be sent. -/
structure DataReply where
  station : Station
  service : Byte
  part : Nat
  count : Nat
  values : List (Option Nat)
  deriving DecidableEq, Repr

/-- The tallies only the muck owner supplies to a ring record (R181). -/
structure RingTallies where
  weighed : Nat
  carried : Nat
  uncarried : Nat
  excused : Nat
  indexed : Half
  deriving DecidableEq, Repr

/-- The ring statistics only the erector owner writes into a ring record (R139). -/
structure RingStatistics where
  seatRetries : Half
  zoneRefusals : Half
  deriving DecidableEq, Repr

/-- A ring record (Table 11-6). -/
structure RingRecord where
  ring : Nat
  advance : Nat
  delivered : Nat
  shortfall : Nat
  /-- Numbers of the blocked ports. -/
  blocked : List Nat
  probes : Half
  tallies : Option RingTallies
  statistics : Option RingStatistics
  deriving DecidableEq, Repr

/-- The console service. -/
structure ConsoleUnit where
  watch : List WatchItem
  notices : BitVec 15
  counters : Counters
  dataReply : Option DataReply
  records : List RingRecord
  deriving DecidableEq, Repr

/-! ### The node -/

/-- The state of one node. `freeIndex` is the model's own field (log 31): the counter that picks fresh free values.
`pending` is the queue of commands that wait, first in, first out. -/
structure State where
  link : LinkUnit
  node : NodeRecord
  machine : PhaseUnit
  thrust : ThrustUnit
  drive : DriveUnit
  plans : PlanStore
  engine : Engine
  grout : GroutUnit
  muck : MuckUnit
  channels : Channels
  overrides : List OverrideEntry
  console : ConsoleUnit
  freeIndex : Nat
  pending : List Instr
  deriving DecidableEq, Repr

/-- Faults that would stop the model. The manual gives every command an effect in every state, so no meaning raises
one: the node's own faults (R26) are changes of State. -/
inductive Fault where
  /-- Raised by no command. Safe. -/
  | noneRaised
  deriving DecidableEq, Repr

/-- Refusals of the model. -/
inductive Refusal where
  /-- Raised by exec's arm of a command that has no meaning yet; there is none. Safe: the model stops. -/
  | notModelled (mnemonic : String)
  deriving DecidableEq, Repr

/-- The outcome of a step of the node. -/
abbrev Outcome := Host.Outcome State Fault Refusal

namespace State

/-! Updates of one unit each (the lemmas of Laws/State.lean are about these). -/

def setLink (s : State) (x : LinkUnit) : State := { s with link := x }
def setNode (s : State) (x : NodeRecord) : State := { s with node := x }
def setMachine (s : State) (x : PhaseUnit) : State := { s with machine := x }
def setThrust (s : State) (x : ThrustUnit) : State := { s with thrust := x }
def setDrive (s : State) (x : DriveUnit) : State := { s with drive := x }
def setPlans (s : State) (x : PlanStore) : State := { s with plans := x }
def setEngine (s : State) (x : Engine) : State := { s with engine := x }
def setGrout (s : State) (x : GroutUnit) : State := { s with grout := x }
def setMuck (s : State) (x : MuckUnit) : State := { s with muck := x }
def setChannels (s : State) (x : Channels) : State := { s with channels := x }
def setOverrides (s : State) (x : List OverrideEntry) : State := { s with overrides := x }
def setConsole (s : State) (x : ConsoleUnit) : State := { s with console := x }
def setFreeIndex (s : State) (x : Nat) : State := { s with freeIndex := x }
def setPending (s : State) (x : List Instr) : State := { s with pending := x }

/-- The guard record at cold reset (Table 5-4). -/
def resetGuard : Guard :=
  { level := none, manual := false, latch := false, previous := none, probe := none, timer := none, last := none
    stalls := 0, jam := false, probes := 0 }

/-- The placement engine at cold reset (Table 7-1, R120). -/
def resetEngine : Engine :=
  { state := .disabled, seated := none, attempt := 0, zoneMembers := [], answered := [], retry := 0, limit := none
    stopping := false, closePending := false, requeue := none, placed := [], lastRefusal := none, seatRetries := 0
    zoneRefusals := 0, fault := none, erector := .halted, erectorCommand := .halt }

/-- The muck unit at cold reset (Table 9-4); the machine advance is log 20's. -/
def resetMuck : MuckUnit :=
  { screw := .stop, faceRestrained := false, faceLow := false, queue := [], lastIndexed := none
    muckRestrained := false, spill := 0, weighed := 0, carried := 0, uncarried := 0, excused := 0, indexed := 0
    machineAdvance := 0, overdig := false }

/-- The channels after power-up: none has reported (R56, R82, R145, R164). -/
def resetChannels : Channels :=
  { cylinders := List.replicate 6 ⟨0, 0, false, false⟩, drives := List.replicate 4 ⟨0, 0, false⟩
    pumpAtRest := none, linePressure := none, screwFault := false, face := none, erectorFault := false }

/-- The node right after a cold reset that read the strap pins as `straps` (R13, R16, R55, R56, R77, R82, R100, R117,
R142, R164, R183, R195 to R200). -/
def coldReset (straps : BitVec 3) : State :=
  { link := { queue := [], onWire := none, transmitting := true, nextAge := 0 }
    node := { number := straps.toNat + 1, state := .unconfigured, cause := none, furtherFaults := 0, config := none
              digest := none, collection := none, lastRejection := none, firstMembership := true, listen := none }
    machine := { phase := .hold .hard, current := none, previous := none, round := none, lastFailure := none
                 view := [], ring := 0, beaconTimer := 0 }
    thrust := { cylinders := [], sectorAdvance := 0, credited := 0, setpoint := 0, steerPause := false
                strokeReached := false, zone := none, restraints := [] }
    drive := { drives := [], setpoint := 0, guard := resetGuard }
    plans := { closed := [], opened := none }
    engine := resetEngine
    grout := { ports := [], pointer := none, pump := .idle, dose := none, restrained := false }
    muck := resetMuck
    channels := resetChannels
    overrides := []
    console := { watch := [], notices := 0, counters := ⟨0, 0, 0, 0, 0, 0, 0, 0, 0⟩, dataReply := none, records := [] }
    freeIndex := 0
    pending := [] }

/-- The node right after reset, the strap pins as log 1 takes them, no command waiting. -/
def reset : State := coldReset Config.strapsAtReset

end State

end Sys2Proof.Machine
end

