-- ==== Sys2Proof/Machine/Operands.lean ====
section
/-! DEFINITION. Byte fields, the check, the layout of frames and of command arguments (R2, R15, Section 1.8, the
argument tables of Chapters 4 to 11). -/

namespace Sys2Proof.Machine

/-! ### Byte fields -/

/-- The byte of a number, its low eight bits. -/
def byteOf (n : Nat) : Byte := BitVec.ofNat 8 n

/-- A two-byte field, high byte first (R15). -/
def bytes16 (n : Nat) : List Byte := [byteOf (n / 256), byteOf n]

/-- A four-byte value, high byte first (R194). -/
def bytes32 (n : Nat) : List Byte := bytes16 (n / 65536) ++ bytes16 n

/-- The quantity of a two-byte field. -/
def word16 (hi lo : Byte) : Nat := hi.toNat * 256 + lo.toNat

/-- A quantity as a two-byte field carries it: the largest value when it exceeds the field (R15). -/
def sat16 (n : Nat) : Half := BitVec.ofNat 16 (min n 65535)

/-- One bit of a byte as a number. -/
def bitAt (b : Byte) (i : Nat) : Bool := b.getLsbD i

/-- A flag as bit `i` of a byte. -/
def flagBit (b : Bool) (i : Nat) : Nat := if b then 2 ^ i else 0

/-! ### The check (R2) -/

/-- One bit into the register of the code x^16 + x^12 + x^5 + 1. -/
def crcBit (reg : Half) (bit : Bool) : Half :=
  if reg.getLsbD 15 == bit then reg <<< 1 else (reg <<< 1) ^^^ 0x1021

/-- One byte, most significant bit first. -/
def crcByte (reg : Half) (b : Byte) : Half :=
  [7, 6, 5, 4, 3, 2, 1, 0].foldl (fun r i => crcBit r (bitAt b i)) reg

/-- The 16-bit cyclic code over bytes in the order sent: preset to all ones, no final inversion (R2). -/
def crc (bs : List Byte) : Half := bs.foldl crcByte 0xFFFF

/-! ### Codes of Section 1.8 -/

def gradeCode : Grade → Byte
  | .soft => 1
  | .hard => 2

def gradeOf (b : Byte) : Option Grade :=
  if b = 1 then some .soft else if b = 2 then some .hard else none

/-- Table 1-8. -/
def causeCode : HoldCause → Byte
  | .peerSilent => 0x01 | .discord => 0x02 | .nodeFault => 0x03 | .driveTrip => 0x04 | .cylFail => 0x05
  | .jam => 0x06 | .seatFail => 0x07 | .zoneTimeout => 0x08 | .faceLow => 0x09 | .strokeEnd => 0x10
  | .ringDone => 0x11 | .shortfall => 0x12 | .overdig => 0x13 | .noCar => 0x14 | .restart => 0x15 | .console => 0x20

def allCauses : List HoldCause :=
  [.peerSilent, .discord, .nodeFault, .driveTrip, .cylFail, .jam, .seatFail, .zoneTimeout, .faceLow, .strokeEnd,
   .ringDone, .shortfall, .overdig, .noCar, .restart, .console]

def causeOf (b : Byte) : Option HoldCause := allCauses.find? (fun c => causeCode c == b)

/-- The grade Table 1-8 gives a cause; for CONSOLE it is the grade sent. -/
def causeGrade (c : HoldCause) (sent : Grade) : Grade :=
  match c with
  | .peerSilent | .discord | .nodeFault | .driveTrip | .cylFail | .jam | .seatFail | .zoneTimeout | .faceLow => .hard
  | .strokeEnd | .ringDone | .shortfall | .overdig | .noCar | .restart => .soft
  | .console => sent

/-- Table 1-9. -/
def targetCode : VoteTarget → Byte
  | .bore => 1
  | .build => 2

def targetOf (b : Byte) : Option VoteTarget :=
  if b = 1 then some .bore else if b = 2 then some .build else none

/-- Table 1-10. -/
def reasonCode : RefuseReason → Byte
  | .phase => 0x01 | .joining => 0x02 | .faulted => 0x03 | .peerAbsent => 0x04 | .ringMismatch => 0x05
  | .notBearing => 0x06 | .driveTripped => 0x07 | .strokeDone => 0x08 | .shortfall => 0x09 | .ringOpen => 0x0A
  | .noCar => 0x0B | .overdig => 0x0C | .faceLow => 0x0D | .jam => 0x0E | .drivesTurning => 0x0F
  | .strokeShort => 0x10 | .noPlan => 0x11

def allReasons : List RefuseReason :=
  [.phase, .joining, .faulted, .peerAbsent, .ringMismatch, .notBearing, .driveTripped, .strokeDone, .shortfall,
   .ringOpen, .noCar, .overdig, .faceLow, .jam, .drivesTurning, .strokeShort, .noPlan]

def answerCode : VoteAnswer → Byte
  | .ready => 0
  | .refuse r => reasonCode r

def answerOf (b : Byte) : Option VoteAnswer :=
  if b = 0 then some .ready else (allReasons.find? (fun r => reasonCode r == b)).map .refuse

/-! ### Beacons (Table 1-6) -/

def beaconStateCode : BeaconState → Nat
  | .joining => 1 | .member => 2 | .faulted => 3

def beaconStateOf (n : Nat) : Option BeaconState :=
  if n = 1 then some .joining else if n = 2 then some .member else if n = 3 then some .faulted else none

def phaseCodeNat : PhaseCode → Nat
  | .hold => 0 | .bore => 1 | .build => 2

def phaseCodeOf (n : Nat) : Option PhaseCode :=
  if n = 0 then some .hold else if n = 1 then some .bore else if n = 2 then some .build else none

def beaconGradeCode : Option Grade → Nat
  | none => 0 | some .soft => 1 | some .hard => 2

def beaconGradeOf (n : Nat) : Option (Option Grade) :=
  if n = 0 then some none else if n = 1 then some (some .soft) else if n = 2 then some (some .hard) else none

/-- The four reason flags, GROUT, MUCK, TORQUE, FACE from bit 3 down. -/
def reasonNibble (b : Beacon) : Nat :=
  flagBit b.grout 3 + flagBit b.muck 2 + flagBit b.torqueHigh 1 + flagBit b.face 0

/-- The 13 payload bytes of a beacon (Table 1-6). -/
def beaconBytes (b : Beacon) : List Byte :=
  [byteOf (beaconStateCode b.nodeState * 64 + phaseCodeNat b.phase * 16 + beaconGradeCode b.grade * 4
      + flagBit b.roundOpen 1 + flagBit b.noticePending 0),
   byteOf (flagBit b.guardMode 7 + flagBit b.steerPause 6 + flagBit b.strokeReached 5 + flagBit b.headCar 4
      + reasonNibble b)]
  ++ bytes16 b.ring.toNat ++ bytes16 b.digest.toNat ++ bytes16 b.advance.toNat ++ bytes16 b.torque.toNat
  ++ bytes16 b.shortfall.toNat ++ [b.engine]

/-- Reads a beacon payload; `none` where a code field holds no listed value (R15). -/
def beaconOf (payload : List Byte) : Option Beacon :=
  match payload with
  | [b0, b1, r1, r0, d1, d0, a1, a0, t1, t0, s1, s0, e] =>
    match beaconStateOf (b0.toNat / 64), phaseCodeOf (b0.toNat / 16 % 4), beaconGradeOf (b0.toNat / 4 % 4) with
    | some st, some ph, some g =>
      some { nodeState := st, phase := ph, grade := g, roundOpen := bitAt b0 1, noticePending := bitAt b0 0
             guardMode := bitAt b1 7, steerPause := bitAt b1 6, strokeReached := bitAt b1 5, headCar := bitAt b1 4
             grout := bitAt b1 3, muck := bitAt b1 2, torqueHigh := bitAt b1 1, face := bitAt b1 0
             ring := r1 ++ r0, digest := d1 ++ d0, advance := a1 ++ a0, torque := t1 ++ t0, shortfall := s1 ++ s0
             engine := e }
    | _, _, _ => none
  | _ => none

/-! ### Frames (Tables 1-3, 1-4) -/

/-- Urgency of a kind (Table 1-1). -/
def urgency : Body → Nat
  | .hold _ _ => 0
  | .propose _ | .vote _ _ | .restrain _ | .release _ | .zoneClear _ | .zoneCleared _ | .zoneRefused _ | .zoneSeat _
  | .zoneHeld _ | .ringClosed _ => 1
  | .beacon _ => 2
  | .configure _ | .setpoint _ | .ringSet _ | .restart | .command _ _ | .reply _ => 3

/-- Kind codes (Table 1-4). -/
def kindCode : Body → Byte
  | .hold _ _ => 0x01
  | .propose _ => 0x10
  | .vote _ _ => 0x11
  | .restrain _ => 0x12
  | .release _ => 0x13
  | .zoneClear _ => 0x14
  | .zoneCleared _ => 0x15
  | .zoneRefused _ => 0x16
  | .zoneSeat _ => 0x17
  | .zoneHeld _ => 0x18
  | .ringClosed _ => 0x19
  | .beacon _ => 0x20
  | .configure _ => 0x30
  | .setpoint _ => 0x31
  | .ringSet _ => 0x32
  | .restart => 0x33
  | .command _ _ => 0x34
  | .reply _ => 0x35

/-- Payload bytes of a frame. -/
def payloadBytes : Body → List Byte
  | .hold c g => [causeCode c, gradeCode g]
  | .propose t => [targetCode t]
  | .vote t a => [targetCode t, answerCode a]
  | .beacon b => beaconBytes b
  | .restart => []
  | .command c args => c :: args
  | .restrain p | .release p | .zoneClear p | .zoneCleared p | .zoneRefused p | .zoneSeat p | .zoneHeld p
  | .ringClosed p | .configure p | .setpoint p | .ringSet p | .reply p => p

/-- Header and payload bytes of a frame in the order sent (Table 1-3). -/
def frameContent (f : Frame) : List Byte :=
  [byteOf (urgency f.body * 64 + f.sender.toNat * 4), byteOf (f.target.toNat * 16), kindCode f.body,
   byteOf (payloadBytes f.body).length] ++ payloadBytes f.body

/-- All bytes of a frame: header, payload, check with its high byte first (Table 1-3). -/
def encodeFrame (f : Frame) : List Byte := frameContent f ++ bytes16 (crc (frameContent f)).toNat

/-- The payload a kind code and payload bytes stand for; `none` where the code is not of Table 1-4, the length is not
the kind's fixed length, or a code field holds no listed value (R2, R15). -/
def bodyOf (kind : Byte) (p : List Byte) : Option Body :=
  match kind.toNat with
  | 0x01 => match p with
    | [c, g] => match causeOf c, gradeOf g with
      | some c, some g => some (.hold c g)
      | _, _ => none
    | _ => none
  | 0x10 => match p with
    | [t] => (targetOf t).map .propose
    | _ => none
  | 0x11 => match p with
    | [t, a] => match targetOf t, answerOf a with
      | some t, some a => some (.vote t a)
      | _, _ => none
    | _ => none
  | 0x12 => some (.restrain p)
  | 0x13 => some (.release p)
  | 0x14 => some (.zoneClear p)
  | 0x15 => some (.zoneCleared p)
  | 0x16 => some (.zoneRefused p)
  | 0x17 => some (.zoneSeat p)
  | 0x18 => some (.zoneHeld p)
  | 0x19 => some (.ringClosed p)
  | 0x20 => (beaconOf p).map .beacon
  | 0x30 => some (.configure p)
  | 0x31 => some (.setpoint p)
  | 0x32 => some (.ringSet p)
  | 0x33 => match p with
    | [] => some .restart
    | _ :: _ => none
  | 0x34 => match p with
    | c :: args => some (.command c args)
    | [] => none
  | 0x35 => some (.reply p)
  | _ => none

/-- Reads received bytes: the frame when they are well formed under R2 and R15, `none` for a bad frame. -/
def parseFrame (bs : List Byte) : Option Frame :=
  match bs with
  | h0 :: h1 :: kind :: len :: rest =>
    if len.toNat ≤ 24 ∧ rest.length = len.toNat + 2 ∧ h0.toNat % 4 = 0 ∧ h1.toNat % 16 = 0
        ∧ rest.drop len.toNat = bytes16 (crc (h0 :: h1 :: kind :: len :: rest.take len.toNat)).toNat then
      match bodyOf kind (rest.take len.toNat) with
      | some body =>
        if urgency body = h0.toNat / 64 then
          some ⟨BitVec.ofNat 4 (h0.toNat / 4), BitVec.ofNat 4 (h1.toNat / 16), body⟩
        else none
      | none => none
    else none
  | _ => none

/-- The arbitration key of a frame: urgency followed by sender (R3). -/
def frameKey (f : Frame) : Key := BitVec.ofNat 6 (urgency f.body * 16 + f.sender.toNat)

/-! ### Payloads the chapters give as fields -/

/-- Codes of restraint reasons (Table 4-4). -/
def restraintCode : RestraintReason → Byte
  | .grout => 1 | .muck => 2 | .torque => 3 | .face => 4

/-- The reason of a RESTRAIN or RELEASE payload: one byte holding a code of Table 4-4 (R79). -/
def restraintOf (payload : List Byte) : Option RestraintReason :=
  match payload with
  | [b] => [RestraintReason.grout, .muck, .torque, .face].find? (fun r => restraintCode r == b)
  | _ => none

/-- Ring, position and attempt of a four-byte zone frame (Table 7-3). -/
def zoneFields (payload : List Byte) : Option (Nat × Nat × Nat) :=
  match payload with
  | [r1, r0, p, a] => some (word16 r1 r0, p.toNat, a.toNat)
  | _ => none

/-- A ZONE_CLEAR payload of correct form (Table 7-3, R130). -/
def zoneClearOf (payload : List Byte) : Option ZoneRequest :=
  (zoneFields payload).map fun (r, p, a) => ⟨.clear, r, p, a, 0⟩

/-- A ZONE_SEAT payload of correct form: six bytes, the pressure within 1,000..35,000 kPa (Table 7-3, R130). -/
def zoneSeatOf (payload : List Byte) : Option ZoneRequest :=
  match payload with
  | [r1, r0, p, a, k1, k0] =>
    if 1000 ≤ word16 k1 k0 ∧ word16 k1 k0 ≤ 35000 then
      some ⟨.seat, word16 r1 r0, p.toNat, a.toNat, word16 k1 k0⟩
    else none
  | _ => none

/-- Codes of refusal reasons (Table 7-3). -/
def zoneRefusalCode : ZoneRefusal → Byte
  | .pinned => 1 | .minimum => 2

/-- A ZONE_REFUSED payload of correct form (Table 7-3, R130). -/
def zoneRefusedOf (payload : List Byte) : Option (Nat × Nat × Nat × ZoneRefusal) :=
  match payload with
  | [r1, r0, p, a, c] =>
    if c = 1 then some (word16 r1 r0, p.toNat, a.toNat, .pinned)
    else if c = 2 then some (word16 r1 r0, p.toNat, a.toNat, .minimum)
    else none
  | _ => none

/-- The ring number of a two-byte payload (RING_CLOSED, Table 7-3; RING_SET, R140). -/
def ringOf (payload : List Byte) : Option Nat :=
  match payload with
  | [r1, r0] => some (word16 r1 r0)
  | _ => none

/-- The two fields of a SETPOINT payload: advance speed, cutterhead speed (R68). -/
def setpointOf (payload : List Byte) : Option (Nat × Nat) :=
  match payload with
  | [a1, a0, c1, c0] => some (word16 a1 a0, word16 c1 c0)
  | _ => none

/-- Ring, position and attempt as a payload. -/
def zoneBytes (ring position attempt : Nat) : List Byte := bytes16 ring ++ [byteOf position, byteOf attempt]

/-- The segment kind of a code (Table 6-3). -/
def segmentOf (b : Byte) : Option SegmentKind :=
  if b = 1 then some .standard else if b = 2 then some .key else none

/-- The step of PLAN_STEP's arguments, five or seven bytes with a listed kind (Table 6-3); ranges are judged by R103. -/
def planStepOf (args : List Byte) : Option PlanStep :=
  match args with
  | [i, p, k, r1, r0] => (segmentOf k).map fun kind => ⟨i.toNat, p.toNat, kind, word16 r1 r0, none⟩
  | [i, p, k, r1, r0, k1, k0] =>
    (segmentOf k).map fun kind => ⟨i.toNat, p.toNat, kind, word16 r1 r0, some (word16 k1 k0)⟩
  | _ => none

/-- The item kind of a code (Table 10-2). -/
def itemKindOf (b : Byte) : Option ItemKind :=
  if b = 1 then some .cylinder else if b = 2 then some .port else if b = 3 then some .drive else none

/-- The forced state of a code when it belongs to the item kind (Table 10-2, R184 check 2). -/
def forcedOf (kind : ItemKind) (b : Byte) : Option ForcedState :=
  match kind with
  | .cylinder => if b = 1 then some .forceBear else if b = 2 then some .forceClear else none
  | .port => if b = 3 then some .shut else none
  | .drive => if b = 4 then some .off else none

/-- Codes of forced states (Table 10-2). -/
def forcedCode : ForcedState → Nat
  | .forceBear => 1 | .forceClear => 2 | .shut => 3 | .off => 4

/-- Service codes (Table 1-5). -/
inductive Service where
  | read | watchSet | watchRead | notices | echo | clearFault | guardOn | guardOff | guardLevel | guardProbe
  | guardReset | override | overrideCancel | planOpen | planStep | planClose | planAbort | planStop | planFlush
  | planEnable | planResume | unblock | trainArrive | carIndexed | overdigExcuse
  deriving DecidableEq, Repr

def serviceCode : Service → Byte
  | .read => 0x01 | .watchSet => 0x02 | .watchRead => 0x03 | .notices => 0x04 | .echo => 0x05 | .clearFault => 0x06
  | .guardOn => 0x10 | .guardOff => 0x11 | .guardLevel => 0x12 | .guardProbe => 0x13 | .guardReset => 0x14
  | .override => 0x20 | .overrideCancel => 0x21 | .planOpen => 0x30 | .planStep => 0x31 | .planClose => 0x32
  | .planAbort => 0x33 | .planStop => 0x34 | .planFlush => 0x35 | .planEnable => 0x36 | .planResume => 0x37
  | .unblock => 0x40 | .trainArrive => 0x50 | .carIndexed => 0x51 | .overdigExcuse => 0x52

/-- End codes (Table 11-1). REFUSED carries reason MINIMUM, the only one there is (Table 11-2). -/
inductive EndCode where
  | done | busy | range | format | state | refusedMinimum
  deriving DecidableEq, Repr

def endCode : EndCode → Byte
  | .done => 0 | .busy => 1 | .range => 2 | .format => 3 | .state => 4 | .refusedMinimum => 5

/-- The detail byte: 2 MINIMUM for REFUSED, otherwise 0 (Table 11-2). -/
def detailCode : EndCode → Byte
  | .refusedMinimum => 2
  | _ => 0

/-- A value of a reply: four bytes, FFFFFFFFh when absent (R194). -/
def valueBytes (v : Option Nat) : List Byte :=
  match v with
  | some n => bytes32 n
  | none => [0xFF, 0xFF, 0xFF, 0xFF]

/-- The payload of a REPLY (Table 11-2). -/
def replyPayload (service : Byte) (e : EndCode) (part count : Nat) (tail : List Byte) : List Byte :=
  [service, endCode e, detailCode e, byteOf part, byteOf count] ++ tail

end Sys2Proof.Machine
end

