-- ==== Sys2Proof/Machine/Flags.lean ====
section
/-! DEFINITION. Values computed from the state: what the configuration gives, pins, contact, guard mode, torque,
shortfall, the receiving car, the excess, the advance speed, the channel commands, and the contents of a beacon. -/

namespace Sys2Proof.Machine

/-! ### Configuration -/

/-- What a node without a configuration reads for every item; no rule uses it. -/
def noConfiguration : Configuration :=
  { members := [], positions := 0, hMin := 0, strokeTarget := 0, steerLimit := 0, creepSpeed := 0, ratedTorque := 0
    guardIndex := 0, doseStrokes := 0, strokeVolume := 0, cutPressure := 0, shortfallOff := 0, shortfallOn := 0
    shortfallHold := 0, massPerMm := 0, overdigAllowance := 0, spillLimit := 0, pMin := 0, pRelease := 0, pHigh := 0
    contactPressure := 0, reseatPressure := 0, startRing := 0, sections := [] }

def noSection : MemberSection := ⟨0, 0, 0, 0, 0, [], [], 0, 0, []⟩

namespace State

/-- The stored configuration (R23). -/
def cfg (s : State) : Configuration := s.node.config.getD noConfiguration

/-- Whether the node holds a configuration. -/
def configured (s : State) : Bool := s.node.config.isSome

/-- The node's own station number (R1). -/
def own (s : State) : Nat := s.node.number

def ownStation (s : State) : Station := BitVec.ofNat 4 s.node.number

/-- The member section of a member number, when it is a member (Table 2-3). -/
def memberSection? (s : State) (member : Nat) : Option MemberSection :=
  ((s.cfg.members.zip s.cfg.sections).find? (fun e => e.1 == member)).map (·.2)

/-- The node's own member section. -/
def ownSection (s : State) : MemberSection := (s.memberSection? s.own).getD noSection

def isMember (s : State) (n : Nat) : Bool := s.cfg.members.contains n

/-- Whether a member's section carries the erector owner flag (item 33). -/
def isErectorOwner (s : State) (n : Nat) : Bool := ((s.memberSection? n).getD noSection).erectorOwner == 1

/-- Whether a member's section carries the muck owner flag (item 32). -/
def isMuckOwner (s : State) (n : Nat) : Bool := ((s.memberSection? n).getD noSection).muckOwner == 1

/-- The node is the erector owner. -/
def ownsErector (s : State) : Bool := s.configured && s.isErectorOwner s.own

/-- The node is the muck owner. -/
def ownsMuck (s : State) : Bool := s.configured && s.isMuckOwner s.own

/-- The phase is HOLD. -/
def inHold (s : State) : Bool :=
  match s.machine.phase with
  | .hold _ => true
  | .bore | .build => false

/-- Members in member-number order (Section 3.1). -/
def membersInOrder (s : State) : List Nat := [1, 2, 3, 4, 5, 6, 7, 8].filter s.isMember

/-! ### Pins (R183) -/

/-- The override entry of an item. -/
def override? (s : State) (kind : ItemKind) (n : Nat) : Option OverrideEntry :=
  s.overrides.find? (fun e => e.kind == kind && e.number == n)

/-- An item is pinned while the table holds an entry for it. -/
def pinned (s : State) (kind : ItemKind) (n : Nat) : Bool := (s.override? kind n).isSome

/-- The forced state of an item. -/
def forced (s : State) (kind : ItemKind) (n : Nat) : Option ForcedState := (s.override? kind n).map (·.forced)

def cylPinned (s : State) (c : Cylinder) : Bool := s.pinned .cylinder c.number

/-! ### Cylinders -/

/-- Contact: the pressure is at or above the configured contact pressure (Table 4-1). -/
def contact (s : State) (pressure : Half) : Bool := s.cfg.contactPressure ≤ pressure.toNat

/-- The zone position of a cylinder of a member (item 34); 0 when there is none. -/
def zonePosition (s : State) (member cylinder : Nat) : Nat :=
  if cylinder = 0 then 0 else (((s.memberSection? member).getD noSection).zones[cylinder - 1]?).getD 0

/-- A cylinder of the node belongs to the zone of a position (Section 4.5). -/
def inZone (s : State) (position : Nat) (c : Cylinder) : Bool :=
  position != 0 && s.zonePosition s.own c.number == position

/-- The zone cylinders of the node for a position. -/
def zoneCylinders (s : State) (position : Nat) : List Cylinder := s.thrust.cylinders.filter (s.inZone position)

end State

/-- A cylinder is bearing when BEARING or ADVANCING (Table 4-2). -/
def Cylinder.isBearing (c : Cylinder) : Bool := c.state == .bearing || c.state == .advancing

namespace State

/-- The bearing count of the node (Section 4.1). -/
def bearingCount (s : State) : Nat := s.thrust.cylinders.countP Cylinder.isBearing

/-- The test of R64: the retraction of these cylinders leaves at least h_min bearing. -/
def retractionPermitted (s : State) (cs : List Cylinder) : Bool :=
  s.cfg.hMin + cs.countP Cylinder.isBearing ≤ s.bearingCount

/-- Cylinders that count for the sector advance: neither FAILED nor pinned (R66). -/
def usableCylinders (s : State) : List Cylinder :=
  s.thrust.cylinders.filter (fun c => c.state != .failed && !s.cylPinned c)

end State

/-- Stroke less origin; a negative difference counts as 0, and so does an absent origin (R66). -/
def Cylinder.gain (c : Cylinder) : Nat :=
  match c.origin with
  | some o => c.stroke.toNat - o.toNat
  | none => 0

/-- The least of a list of numbers over a starting value. -/
def leastOver (start : Nat) (xs : List Nat) : Nat := xs.foldl min start

namespace State

/-- The sector advance as R66 computes it: the least gain of the usable cylinders, or the last value with none. -/
def computedAdvance (s : State) : Nat :=
  match s.usableCylinders.map Cylinder.gain with
  | [] => s.thrust.sectorAdvance
  | g :: gs => leastOver g gs

/-! ### The view of the peers -/

/-- Last beacons of the PRESENT peers. -/
def peerBeacons (s : State) : List Beacon :=
  s.machine.view.filterMap fun e => if e.member != s.own && e.presence == .present then e.last else none

/-- The least value L of R70: own advance and the advances of PRESENT peers that report MEMBER. -/
def slowestAdvance (s : State) : Nat :=
  leastOver s.thrust.sectorAdvance
    ((s.peerBeacons.filter (fun b => b.nodeState == .member)).map (·.advance.toNat))

/-- The machine advance of R178: least of own advance and the advances of every PRESENT peer. -/
def computedMachineAdvance (s : State) : Nat :=
  leastOver s.thrust.sectorAdvance (s.peerBeacons.map (·.advance.toNat))

/-! ### Advance speed and channel commands -/

/-- The advance speed commanded in BORE (R69). -/
def advanceSpeed (s : State) : Nat :=
  if s.thrust.steerPause then 0
  else if s.thrust.strokeReached then 0
  else if s.thrust.restraints.isEmpty then s.thrust.setpoint
  else min s.thrust.setpoint s.cfg.creepSpeed

end State

/-- Commands of a cylinder channel (Table 4-2). -/
inductive CylCommand where
  | holdPosition
  | extend (speed : Nat)
  | retract
  | holdAtStop
  | extendToPressure (target : Nat)
  | holdStill
  deriving DecidableEq, Repr

/-- Commands of a drive channel (Table 5-2). -/
inductive DriveCommand where
  | stop
  | run (setpoint : Nat)
  deriving DecidableEq, Repr

/-- Commands of the pump channel (Table 8-2). -/
inductive PumpCommand where
  | stop
  | run (port : Nat)
  deriving DecidableEq, Repr

namespace State

/-- The node's equipment is held still: FAULTED or UNCONFIGURED (R57). -/
def standsStill (s : State) : Bool := s.node.state == .faulted || s.node.state == .unconfigured

/-- What cylinder channel `n` is commanded (R56, R57, Table 4-2, R69). -/
def cylCommand (s : State) (n : Nat) : CylCommand :=
  match s.thrust.cylinders.find? (fun c => c.number == n) with
  | none => .holdStill
  | some c =>
    if s.standsStill then .holdStill
    else match c.state with
      | .bearing => .holdPosition
      | .advancing => .extend s.advanceSpeed
      | .retracting => .retract
      | .clear => .holdAtStop
      | .reseating => .extendToPressure (c.reseatTarget.getD 0)
      | .parked | .failed => .holdStill

/-- What drive channel `n` is commanded (R82, Table 5-2). -/
def driveCommand (s : State) (n : Nat) : DriveCommand :=
  match s.drive.drives.find? (fun d => d.number == n) with
  | none => .stop
  | some d => match d.state with
    | .starting | .running => .run s.drive.setpoint
    | .stopped | .stopping | .tripped => .stop

/-- What the pump channel is commanded (Table 8-3, R142). -/
def pumpCommand (s : State) : PumpCommand :=
  match s.grout.pump, s.grout.dose with
  | .dosing, some d => .run d.port
  | _, _ => .stop

/-! ### Drives and guard -/

/-- The own drive torque sum (R88). -/
def ownTorque (s : State) : Nat := (s.drive.drives.map (·.torque.toNat)).sum

/-- The total torque in percent of the rating, rounded down; 0 without a configuration (R88). -/
def totalPercent (s : State) : Nat :=
  if s.configured then
    (s.ownTorque + (s.peerBeacons.map (·.torque.toNat)).sum) * 100 / s.cfg.ratedTorque
  else 0

end State

/-- Guard mode is set while the manual flag or the automatic latch is set (Table 5-4). -/
def Guard.mode (g : Guard) : Bool := g.manual || g.latch

/-- Percent of rated torque of a guard level index (Table 5-3). -/
def guardPercent (index : Nat) : Nat := 70 + 5 * index

/-! ### Grout -/

/-- Owed less delivered of a port. -/
def Port.gap (p : Port) : Nat := p.owed - p.delivered

namespace State

/-- The shortfall in mL (R144). -/
def shortfallMl (s : State) : Nat := (s.grout.ports.map Port.gap).sum

/-- The shortfall in L, rounded down (R144). -/
def shortfallL (s : State) : Nat := s.shortfallMl / 1000

/-- A port's factor (item 31). -/
def portFactor (s : State) (n : Nat) : Nat := if n = 0 then 0 else (s.ownSection.factors[n - 1]?).getD 0

/-- A port's next-port entry (item 30). -/
def nextPort (s : State) (n : Nat) : Nat := if n = 0 then 0 else (s.ownSection.nextPort[n - 1]?).getD 0

/-- The dose volume: dose strokes times stroke volume (R147). -/
def doseVolume (s : State) : Nat := s.cfg.doseStrokes * s.cfg.strokeVolume

/-- A dose is in flight when its record has no ending (R145). -/
def doseInFlight (s : State) : Bool :=
  match s.grout.dose with
  | some d => d.ending.isNone
  | none => false

/-! ### Muck -/

/-- A receiving car exists when the head car's fill is below its capacity (R169). -/
def receivingCar (s : State) : Bool :=
  match s.muck.queue with
  | c :: _ => decide (c.fill < c.capacity)
  | [] => false

/-- The excess of R179, which may be below 0. -/
def excess (s : State) : Int :=
  (s.muck.weighed : Int) - s.muck.excused - s.muck.machineAdvance * s.cfg.massPerMm - s.cfg.overdigAllowance

/-! ### Plan store and engine -/

/-- Steps held in all plans together (R99). -/
def stepsHeld (s : State) : Nat :=
  (s.plans.closed.map (·.steps.length)).sum + (match s.plans.opened with | some p => p.steps.length | none => 0)

/-- The head step: the first step held by the oldest closed plan (R99). -/
def headStep (s : State) : Option (Plan × PlanStep) :=
  match s.plans.closed with
  | p :: _ => match p.steps with
    | st :: _ => some (p, st)
    | [] => none
  | [] => none

/-- The engine's current step: the head step while a step is held (R117). -/
def currentStep (s : State) : Option (Plan × PlanStep) :=
  if s.engine.seated.isSome then s.headStep else none

/-- The next ring number: plus one, 1 after 65,000 (R136). -/
def nextRing (s : State) : Nat := if s.machine.ring ≥ 65000 then 1 else s.machine.ring + 1

/-- Every segment position of the ring is in the placed set. -/
def ringFull (s : State) : Bool := (List.range s.cfg.positions).all (fun i => s.engine.placed.contains (i + 1))

/-- Members whose section maps a cylinder to a position (R122), in member order. -/
def zoneMembersOf (s : State) (position : Nat) : List Nat :=
  s.membersInOrder.filter (fun m => ((s.memberSection? m).getD noSection).zones.contains position)

end State

/-- Beacon codes of the engine state (Table 6-4). -/
def engineCode : EngineState → Nat
  | .disabled => 1 | .idle => 2 | .clearing => 3 | .placing => 4 | .reseating => 5 | .suspended => 6 | .stalled => 7
  | .faulted => 8

namespace State

/-! ### The beacon (Tables 1-6, 3-2) -/

/-- The node's own restraint entry for a reason is held. -/
def restrains (s : State) (r : RestraintReason) : Bool := s.thrust.restraints.contains (s.own, r)

/-- The phase as a beacon codes it (Table 1-6). -/
def phaseCode (s : State) : PhaseCode :=
  match s.machine.phase with
  | .hold _ => .hold
  | .bore => .bore
  | .build => .build

/-- The contents of a beacon queued now (R31). -/
def beaconContents (s : State) : Beacon :=
  { nodeState := match s.node.state with
      | .member => .member
      | .faulted => .faulted
      | .unconfigured | .joining => .joining
    phase := s.phaseCode
    grade := match s.machine.phase with
      | .hold g => some g
      | .bore | .build => none
    roundOpen := s.machine.round.isSome
    noticePending := s.console.notices != 0
    guardMode := s.drive.guard.mode
    steerPause := s.thrust.steerPause
    strokeReached := s.thrust.strokeReached
    headCar := s.ownsMuck && s.receivingCar
    grout := s.restrains .grout
    muck := s.restrains .muck
    torqueHigh := s.restrains .torque
    face := s.restrains .face
    ring := sat16 s.machine.ring
    digest := s.node.digest.getD 0
    advance := sat16 s.thrust.sectorAdvance
    torque := sat16 s.ownTorque
    shortfall := sat16 s.shortfallL
    engine := if s.ownsErector then byteOf (engineCode s.engine.state) else 0 }

end State

end Sys2Proof.Machine
end

