-- ==== Sys2Proof/Machine/Ops.lean ====
section
/-! DEFINITION. The named operations over the state: notice flags, counters, the transmit queue, the restraint set,
replies, the records of the units, and the passing of time. -/

namespace Sys2Proof.Machine

/-! ### Notice flags and counters (Tables 11-4, 11-5) -/

/-- Notice flags (Table 11-4). -/
inductive Notice where
  | configOrder | configRejected | ringMismatch | voteFailed | discord | peerSilent | cylFault | guardProbe
  | guardEntered | planFault | zoneRefused | portBlocked | indexDue | txqDrop | nodeFault
  deriving DecidableEq, Repr

/-- The number of a flag less one: its bit in the NOTICES value (Table 11-4, R197). -/
def noticeBit : Notice → Nat
  | .configOrder => 0 | .configRejected => 1 | .ringMismatch => 2 | .voteFailed => 3 | .discord => 4
  | .peerSilent => 5 | .cylFault => 6 | .guardProbe => 7 | .guardEntered => 8 | .planFault => 9 | .zoneRefused => 10
  | .portBlocked => 11 | .indexDue => 12 | .txqDrop => 13 | .nodeFault => 14

/-- The flag as the one set bit of its number. -/
def noticeMask (n : Notice) : BitVec 15 := BitVec.twoPow 15 (noticeBit n)

namespace State

/-- Sets a notice flag; one already set stays as it is (R197). -/
def notify (n : Notice) (s : State) : State :=
  s.setConsole { s.console with notices := s.console.notices ||| noticeMask n }

/-- Clears the flags a NOTICES reply reported (R197). -/
def clearNotices (reported : BitVec 15) (s : State) : State :=
  s.setConsole { s.console with notices := s.console.notices &&& ~~~reported }

/-- Changes the counters; each is 16 bits wide and wraps (R198). -/
def count (f : Counters → Counters) (s : State) : State :=
  s.setConsole { s.console with counters := f s.console.counters }

def countBadCheck (s : State) : State := s.count fun c => { c with badCheck := c.badCheck + 1 }
def countForeign (s : State) : State := s.count fun c => { c with foreignSender := c.foreignSender + 1 }

/-- A drop adds one to the TXQ drop counter and sets TXQ_DROP (R4). -/
def countDrop (s : State) : State := (s.count fun c => { c with txqDrops := c.txqDrops + 1 }).notify .txqDrop

/-! ### Transmit queue (R4 to R8) -/

end State

/-- Frames the queue holds, a frame on the wire included (R4). -/
def LinkUnit.held (l : LinkUnit) : Nat := l.queue.length + (if l.onWire.isSome then 1 else 0)

/-- Order of the queue: urgency first, then age (R4). -/
def TxFrame.before (a b : TxFrame) : Bool :=
  urgency a.frame.body < urgency b.frame.body
    || (urgency a.frame.body == urgency b.frame.body && decide (a.age < b.age))

/-- Places a frame by urgency and age (R4); a frame that becomes pending again finds its old place (R3, R9). -/
def insertTx (f : TxFrame) : List TxFrame → List TxFrame
  | [] => [f]
  | g :: rest => if g.before f then g :: insertTx f rest else f :: g :: rest

/-- The youngest pending frame of urgency 2 or 3 (R6). -/
def youngestLow : List TxFrame → Option TxFrame
  | [] => none
  | g :: rest =>
    match youngestLow rest with
    | none => if 2 ≤ urgency g.frame.body then some g else none
    | some y => if 2 ≤ urgency g.frame.body && decide (y.age < g.age) then some g else some y

def isBeacon : Body → Bool
  | .beacon _ => true
  | _ => false

def isHold : Body → Bool
  | .hold _ _ => true
  | _ => false

/-- ZONE_CLEAR and ZONE_SEAT, the frames entry to HOLD removes (R7). -/
def isZoneRequest : Body → Bool
  | .zoneClear _ | .zoneSeat _ => true
  | _ => false

namespace State

def setQueue (s : State) (q : List TxFrame) : State := s.setLink { s.link with queue := q }

def setWire (s : State) (w : Option WireFrame) : State := s.setLink { s.link with onWire := w }

/-- Ends the data reply in flight (R195). -/
def endDataReply (s : State) : State := s.setConsole { s.console with dataReply := none }

/-- What a block does when a frame of its own ends other than SENT (R8): a part of a data reply ends the reply (R195),
a RING_CLOSED DROPPED waits to be queued again, and one that ends otherwise clears close pending (R129). No other frame
is acted on. -/
def frameEnded (f : TxFrame) (e : Ending) (s : State) : State :=
  let s := match f.tag with
    | .dataPart => s.endDataReply
    | .plain | .notices _ => s
  match f.frame.body with
  | .ringClosed p => match e with
    | .dropped => s.setEngine { s.engine with requeue := ringOf p }
    | .sent | .evicted | .removed | .failed => s.setEngine { s.engine with closePending := false }
  | _ => s

/-- Admission of a frame that evicts none (R4): discarded while the transmitter is stopped (R10), dropped and counted
when the queue holds 16 frames, otherwise placed. -/
def admitFrame (f : TxFrame) (s : State) : State :=
  if !s.link.transmitting then s.frameEnded f .removed
  else if Config.txqPlaces ≤ s.link.held then s.countDrop.frameEnded f .dropped
  else s.setQueue (insertTx f s.link.queue)

/-- A new frame of the node, its age the present moment (R1, R4). -/
def newFrame (s : State) (target : Station) (body : Body) (tag : TxTag) : TxFrame :=
  { frame := ⟨s.ownStation, target, body⟩, tag := tag, age := s.link.nextAge, failures := 0, discard := false }

def stepAge (s : State) : State := s.setLink { s.link with nextAge := s.link.nextAge + 1 }

/-- Queues again a RING_CLOSED that had been dropped, when a frame has ended other than DROPPED (R129). -/
def retryRingClosed (s : State) : State :=
  match s.engine.requeue with
  | none => s
  | some n =>
    (s.setEngine { s.engine with requeue := none }).stepAge.admitFrame
      (s.newFrame 0 (.ringClosed (bytes16 n)) .plain)

/-- A HOLD frame met by a full queue (R6): the youngest pending frame of urgency 2 or 3 is evicted, or the HOLD frame
itself is dropped. -/
def admitHold (f : TxFrame) (s : State) : State :=
  if s.link.transmitting && decide (Config.txqPlaces ≤ s.link.held) then
    match youngestLow s.link.queue with
    | none => s.countDrop.frameEnded f .dropped
    | some v =>
      (((s.setQueue (insertTx f (s.link.queue.erase v))).countDrop).frameEnded v .evicted).retryRingClosed
  else s.admitFrame f

/-- Queues a frame: a block of the node sends it (R4). -/
def queueTagged (target : Station) (body : Body) (tag : TxTag) (s : State) : State :=
  let f := s.newFrame target body tag
  if isHold body then s.stepAge.admitHold f else s.stepAge.admitFrame f

/-- Queues a broadcast frame (R1). -/
def queueFrame (body : Body) (s : State) : State := s.queueTagged 0 body .plain

/-- Queues several broadcast frames, one after another. -/
def queueFrames (bs : List Body) (s : State) : State := bs.foldl (fun s b => s.queueFrame b) s

/-- Replaces the payload of the pending beacon (R5). -/
def replaceBeacon (b : Body) (q : List TxFrame) : List TxFrame :=
  q.map fun f => if isBeacon f.frame.body then { f with frame := { f.frame with body := b } } else f

/-- Queues a beacon with the node's values: a pending beacon takes the new contents in place (R5, R31). -/
def queueBeacon (s : State) : State :=
  let b := Body.beacon s.beaconContents
  if s.link.transmitting && s.link.queue.any (fun f => isBeacon f.frame.body) then
    s.setQueue (replaceBeacon b s.link.queue)
  else s.queueFrame b

/-- Reports one ending to the owners of each of several frames. -/
def framesEnded (fs : List TxFrame) (e : Ending) (s : State) : State := fs.foldl (fun s f => s.frameEnded f e) s

/-- Entry to HOLD removes pending ZONE_CLEAR and ZONE_SEAT frames and marks one on the wire for discard (R7). -/
def removeZoneFrames (s : State) : State :=
  let out := s.link.queue.filter (fun f => isZoneRequest f.frame.body)
  let wire := s.link.onWire.map fun w =>
    if isZoneRequest w.tx.frame.body then { w with tx := { w.tx with discard := true } } else w
  let s := (s.setWire wire).setQueue (s.link.queue.filter (fun f => !isZoneRequest f.frame.body))
  if out.isEmpty then s else (s.framesEnded out .removed).retryRingClosed

/-! ### Replies (R192) -/

/-- Answers an addressed service with a single-frame reply; a broadcast one is never answered (R192). -/
def answerWith (station : Station) (addressed : Bool) (service : Byte) (e : EndCode) (tail : List Byte) (tag : TxTag)
    (s : State) : State :=
  if addressed then s.queueTagged station (.reply (replyPayload service e 1 1 tail)) tag else s

/-- Answers with an end code and no values. -/
def answer (station : Station) (addressed : Bool) (service : Service) (e : EndCode) (s : State) : State :=
  s.answerWith station addressed (serviceCode service) e [] .plain

/-! ### Restraint set (R77, R78) -/

end State

/-- Place of a restraint entry in the set's order (R77). -/
def restraintRank (e : Nat × RestraintReason) : Nat := e.1 * 8 + (restraintCode e.2).toNat

/-- Adds an entry in its place; one already held changes nothing (R77). -/
def insertRestraint (e : Nat × RestraintReason) : List (Nat × RestraintReason) → List (Nat × RestraintReason)
  | [] => [e]
  | g :: rest =>
    if restraintRank e < restraintRank g then e :: g :: rest
    else if restraintRank e = restraintRank g then g :: rest
    else g :: insertRestraint e rest

namespace State

def addRestraint (source : Nat) (r : RestraintReason) (s : State) : State :=
  s.setThrust { s.thrust with restraints := insertRestraint (source, r) s.thrust.restraints }

def removeRestraint (source : Nat) (r : RestraintReason) (s : State) : State :=
  s.setThrust { s.thrust with restraints := s.thrust.restraints.filter (fun e => e != (source, r)) }

/-- A unit decides to restrain: the own entry is added and RESTRAIN queued (R78). -/
def restrain (r : RestraintReason) (s : State) : State :=
  (s.addRestraint s.own r).queueFrame (.restrain [restraintCode r])

/-- A unit decides to release: the own entry is removed and RELEASE queued (R78). -/
def release (r : RestraintReason) (s : State) : State :=
  (s.removeRestraint s.own r).queueFrame (.release [restraintCode r])

/-- Removes every entry of a peer that leaves PRESENT (R81). -/
def removeSource (source : Nat) (s : State) : State :=
  s.setThrust { s.thrust with restraints := s.thrust.restraints.filter (fun e => e.1 != source) }

/-! ### Records of the units -/

def setPhase (s : State) (p : Phase) : State := s.setMachine { s.machine with phase := p }
def setRound (s : State) (r : Option Round) : State := s.setMachine { s.machine with round := r }
def setRing (s : State) (n : Nat) : State := s.setMachine { s.machine with ring := n }
def setView (s : State) (v : List ViewEntry) : State := s.setMachine { s.machine with view := v }
def setCylinders (s : State) (cs : List Cylinder) : State := s.setThrust { s.thrust with cylinders := cs }
def setZone (s : State) (z : Option ZoneRequest) : State := s.setThrust { s.thrust with zone := z }
def setDrives (s : State) (ds : List Drive) : State := s.setDrive { s.drive with drives := ds }
def setGuard (s : State) (g : Guard) : State := s.setDrive { s.drive with guard := g }
def setPorts (s : State) (ps : List Port) : State := s.setGrout { s.grout with ports := ps }
def setDose (s : State) (d : Option Dose) : State := s.setGrout { s.grout with dose := d }

/-- Applies a change to every cylinder record. -/
def mapCylinders (f : Cylinder → Cylinder) (s : State) : State := s.setCylinders (s.thrust.cylinders.map f)

/-- Applies a change to the record of one cylinder. -/
def updateCylinder (n : Nat) (f : Cylinder → Cylinder) (s : State) : State :=
  s.mapCylinders fun c => if c.number = n then f c else c

/-- Applies a change to the record of one drive. -/
def updateDrive (n : Nat) (f : Drive → Drive) (s : State) : State :=
  s.setDrives (s.drive.drives.map fun d => if d.number = n then f d else d)

/-- Applies a change to one port account. -/
def updatePort (n : Nat) (f : Port → Port) (s : State) : State :=
  s.setPorts (s.grout.ports.map fun p => if p.number = n then f p else p)

/-- Applies a change to the view entry of one member. -/
def updateEntry (member : Nat) (f : ViewEntry → ViewEntry) (s : State) : State :=
  s.setView (s.machine.view.map fun e => if e.member = member then f e else e)

def cylinder? (s : State) (n : Nat) : Option Cylinder := s.thrust.cylinders.find? (fun c => c.number == n)
def drive? (s : State) (n : Nat) : Option Drive := s.drive.drives.find? (fun d => d.number == n)
def port? (s : State) (n : Nat) : Option Port := s.grout.ports.find? (fun p => p.number == n)
def entry? (s : State) (member : Nat) : Option ViewEntry := s.machine.view.find? (fun e => e.member == member)

/-- The latest report of a cylinder channel (R56). -/
def cylReport (s : State) (n : Nat) : CylReport :=
  if n = 0 then ⟨0, 0, false, false⟩ else (s.channels.cylinders[n - 1]?).getD ⟨0, 0, false, false⟩

/-- The latest report of a drive channel (R82). -/
def driveReport (s : State) (n : Nat) : DriveReport :=
  if n = 0 then ⟨0, 0, false⟩ else (s.channels.drives[n - 1]?).getD ⟨0, 0, false⟩

/-- Takes a fresh index for a free value (log 31). -/
def stepFree (s : State) : State := s.setFreeIndex (s.freeIndex + 1)

/-! ### Time (log 2) -/

end State

/-- A timer that counts up to a limit. -/
def advanceUp (limit ms elapsed : Nat) : Nat := max elapsed (min limit (elapsed + ms))

namespace State

/-- `ms` milliseconds pass: every running timer moves on, none past its limit. A probe weighs the total torque by the
time it stood (R95). -/
def passTime (ms : Nat) (s : State) : State :=
  let total := s.totalPercent
  let s := s.setNode { s.node with listen := s.node.listen.map (advanceUp Config.listenWindow ms) }
  let s := s.setMachine { s.machine with
    beaconTimer := if s.configured then advanceUp Config.beaconPeriod ms s.machine.beaconTimer
      else s.machine.beaconTimer
    round := s.machine.round.map fun r => { r with remaining := r.remaining - ms }
    view := s.machine.view.map fun e => { e with since := e.since.map (advanceUp Config.silenceInterval ms) } }
  let g := s.drive.guard
  let s := s.setGuard { g with
    timer := g.timer.map (advanceUp Config.samplePeriod ms)
    probe := g.probe.map fun p =>
      { elapsed := advanceUp Config.probeLength ms p.elapsed
        weighted := p.weighted + total * (advanceUp Config.probeLength ms p.elapsed - p.elapsed) } }
  let s := s.setEngine { s.engine with limit := s.engine.limit.map (· - ms) }
  if s.doseInFlight then
    s.setDose (s.grout.dose.map fun d => { d with elapsed := advanceUp Config.doseLimit ms d.elapsed })
  else s

end State

end Sys2Proof.Machine
end

