-- ==== Sys2Proof/Machine/Units.lean ====
section
/-! DEFINITION. What each unit does when a change of phase, grade or node state is handed to it (R44), and the
operations of the units that decide no hold: cylinder moves, the run condition, doses, steps of the engine, the screw. -/

namespace Sys2Proof.Machine

namespace State

/-! ### Thrust unit -/

/-- Entry to HOLD (R61): from BORE every ADVANCING cylinder becomes BEARING and the steer pause clears; from either
phase unpinned RETRACTING and RESEATING cylinders park, and a zone request in flight ends without an answer. -/
def thrustEntersHold (fromBore : Bool) (s : State) : State :=
  let s := s.mapCylinders fun c =>
    if c.state = .advancing ∧ fromBore then { c with state := .bearing }
    else if (c.state = .retracting ∨ c.state = .reseating) ∧ !s.cylPinned c then
      { c with state := .parked, reseatTarget := none }
    else c
  s.setThrust { s.thrust with zone := none, steerPause := if fromBore then false else s.thrust.steerPause }

/-- Entry to FAULTED: every RETRACTING or RESEATING cylinder parks, pinned or not (R62). -/
def thrustEntersFaulted (s : State) : State :=
  s.mapCylinders fun c =>
    if c.state = .retracting ∨ c.state = .reseating then { c with state := .parked, reseatTarget := none } else c

/-- A CLEAR cylinder without a pin is reseated in BORE (R60). -/
def reseatClear (s : State) (c : Cylinder) : Cylinder :=
  if c.state = .clear ∧ s.machine.phase = .bore ∧ !s.cylPinned c then
    { c with state := .reseating, reseatTarget := some s.cfg.reseatPressure }
  else c

/-! ### Drive unit -/

/-- The run condition of a drive (R84). -/
def runCondition (s : State) (d : Drive) : Bool :=
  s.machine.phase == .bore && s.node.state == .member && !s.pinned .drive d.number && d.state != .tripped

/-- The test of R84 on one drive. -/
def testDrive (s : State) (d : Drive) : Drive :=
  match d.state with
  | .stopped | .stopping => if s.runCondition d then { d with state := .starting } else d
  | .starting | .running => if s.runCondition d then d else { d with state := .stopping }
  | .tripped => d

/-- The run condition of every drive is tested (R84). -/
def testDrives (s : State) : State := s.setDrives (s.drive.drives.map s.testDrive)

/-! ### Grout unit -/

/-- A port is a chain port: numbered above the priority count (R22). -/
def isChainPort (s : State) (n : Nat) : Bool := s.ownSection.priority < n

/-- The rotation pointer after a dose at port `n` ends (R149): next of a chain port, or that port where the dose was
stopped or passed its limit. -/
def pointerAfter (s : State) (n : Nat) (e : DoseEnding) : Option Nat :=
  if s.isChainPort n then
    match e with
    | .complete | .cut | .shut => some (s.nextPort n)
    | .stopped | .limit => some n
  else s.grout.pointer

/-- A dose in flight ends: its record, STOP on the channel, and the pointer (R145, R149). The pump becomes IDLE, or
FAILED at the dose limit (R155); a FAILED pump stays FAILED (R154). The record keeps the elapsed time it ended at
(log 42). -/
def endDose (e : DoseEnding) (s : State) : State :=
  match s.grout.dose with
  | some d =>
    if d.ending.isNone then
      s.setGrout { s.grout with
        dose := some { d with ending := some e }
        pump := if e = .limit ∨ s.grout.pump = .failed then .failed else .idle
        pointer := s.pointerAfter d.port e }
    else s
  | none => s

/-- A dose in flight is stopped (R154). -/
def stopDose (s : State) : State := s.endDose .stopped

/-- The dose condition (R146). -/
def doseCondition (s : State) : Bool :=
  s.configured && (s.node.state == .joining || s.node.state == .member) && s.machine.phase != .hold .hard
    && s.grout.pump == .idle && s.channels.pumpAtRest != some false

/-- A port is eligible (R147). -/
def eligible (s : State) (p : Port) : Bool :=
  p.state == .opened && !s.pinned .port p.number && decide (p.delivered + s.doseVolume ≤ p.owed)

def eligibleNumber (s : State) (n : Nat) : Bool :=
  match s.port? n with
  | some p => s.eligible p
  | none => false

/-- Follows the next-port entries from a port, at most `fuel` ports, to the first eligible one (R148 step 2). -/
def scanChain (s : State) : Nat → Nat → Option Nat
  | 0, _ => none
  | fuel + 1, n => if s.eligibleNumber n then some n else s.scanChain fuel (s.nextPort n)

/-- The port R148 selects: priority ports in order of number, then the chain from the pointer, each port once. -/
def selectPort (s : State) : Option Nat :=
  match (s.grout.ports.filter (fun p => decide (p.number ≤ s.ownSection.priority))).find? s.eligible with
  | some p => some p.number
  | none =>
    match s.grout.pointer with
    | some n => if n = 0 then none else s.scanChain (s.ownSection.ports - s.ownSection.priority) n
    | none => none

/-- A dose starts at a port (R150). The pump then runs, so a report of at rest lapses until the next (log 11); a channel
that has never reported is taken as at rest still (R145). -/
def startDose (n : Nat) (s : State) : State :=
  (s.setGrout { s.grout with dose := some ⟨n, 0, 0, none⟩, pump := .dosing }).setChannels
    { s.channels with pumpAtRest := s.channels.pumpAtRest.map fun _ => false }

/-- Tests for a dose: a port is selected when the dose condition holds, and dosed at once (R148). -/
def testDose (s : State) : State :=
  if s.doseCondition then
    match s.selectPort with
    | some n => s.startDose n
    | none => s
  else s

/-- The GROUT restraint test (R158), made at each recomputation of the shortfall. -/
def testGrout (s : State) : State :=
  if !s.configured then s
  else if !s.grout.restrained && decide (s.cfg.shortfallOn ≤ s.shortfallL) then
    (s.setGrout { s.grout with restrained := true }).restrain .grout
  else if s.grout.restrained && decide (s.shortfallL ≤ s.cfg.shortfallOff) then
    (s.setGrout { s.grout with restrained := false }).release .grout
  else s

/-! ### Plan store and placement engine -/

/-- The head step leaves the store; a plan whose last step leaves goes with it (R108). -/
def popHeadStep (s : State) : State :=
  match s.plans.closed with
  | p :: rest =>
    match p.steps with
    | _ :: st :: more => s.setPlans { s.plans with closed := { p with steps := st :: more } :: rest }
    | _ => s.setPlans { s.plans with closed := rest }
  | [] => s

/-- HALT on the erector channel (R120). -/
def haltErector (s : State) : State := s.setEngine { s.engine with erector := .halted, erectorCommand := .halt }

/-- PLACE on the erector channel with the current step's arguments, at a MEMBER node (R120, R124, R126). -/
def commandPlace (s : State) : State :=
  match s.currentStep with
  | some (_, st) =>
    if s.node.state = .member then
      s.setEngine { s.engine with erector := .placing, erectorCommand := .place st.position st.kind st.rotation }
    else s
  | none => s

/-- The current step is dropped and the engine becomes DISABLED (R112): it leaves the store when SEATED was reported,
and stays at its head otherwise. The stopping flag clears. -/
def dropStep (s : State) : State :=
  let s := if s.engine.seated = some true then s.popHeadStep else s
  s.setEngine { s.engine with
    state := .disabled, seated := none, zoneMembers := [], answered := [], limit := none, stopping := false }

/-- Entry to HOLD at the engine (R133, R113). -/
def engineEntersHold (s : State) : State :=
  match s.engine.state with
  | .clearing | .reseating | .placing =>
    let s := if s.engine.state = .placing then s.haltErector else s
    let s := s.setEngine { s.engine with
      state := .suspended, zoneMembers := [], answered := [], limit := none
      retry := if s.engine.state = .placing then 0 else s.engine.retry }
    if s.engine.stopping then s.dropStep else s
  | .disabled | .idle | .suspended | .stalled | .faulted => s

/-- The engine becomes FAULTED with a record of the step, and PLAN_FAULT is set (R110). -/
def engineFaults (reason : EngineFaultReason) (p : Plan) (st : PlanStep) (s : State) : State :=
  (s.setEngine { s.engine with
    state := .faulted, seated := none, zoneMembers := [], answered := [], limit := none
    fault := some ⟨reason, p.identifier, st.index, st.position⟩ }).notify .planFault

/-- The request frame of a stage (R122 step 4). -/
def stageRequest (s : State) (kind : ZoneKind) (st : PlanStep) (attempt : Nat) : Body :=
  match kind with
  | .clear => .zoneClear (zoneBytes s.machine.ring st.position attempt)
  | .seat => .zoneSeat (zoneBytes s.machine.ring st.position attempt
      ++ bytes16 (st.reseat.getD s.cfg.reseatPressure))

/-- A zone stage is issued for the current step (R122, R118). -/
def issueStage (kind : ZoneKind) (s : State) : State :=
  match s.currentStep with
  | none => s
  | some (_, st) =>
    let attempt := if s.engine.attempt ≥ 255 then 1 else s.engine.attempt + 1
    let s := s.setEngine { s.engine with
      attempt := attempt
      zoneMembers := s.zoneMembersOf st.position
      answered := []
      state := match kind with
        | .clear => .clearing
        | .seat => .reseating }
    let s := s.queueFrame (s.stageRequest kind st attempt)
    s.setEngine { s.engine with limit := some Config.stageLimit }

/-- The stage of the resume point is issued again, the retry count at 0 (R117, R132, R135). -/
def resumeStage (s : State) : State :=
  let s := s.setEngine { s.engine with retry := 0 }
  s.issueStage (if s.engine.seated = some true then .seat else .clear)

/-- The check of the head step against its plan and the placed set (R109). -/
def stepCheck (s : State) (p : Plan) (st : PlanStep) : Option EngineFaultReason :=
  if s.engine.placed.contains st.position then some .placed
  else if st.kind = .key ∧ st.index < p.closedCount.getD 0 then some .keyEarly
  else if st.kind = .standard ∧ st.index = p.closedCount.getD 0 then some .keyMissing
  else none

/-- The engine tests whether it takes the head step, and takes it (R121, R109). -/
def takeHeadStep (s : State) : State :=
  if s.engine.state = .idle ∧ s.node.state = .member ∧ s.machine.phase = .build ∧ s.engine.closePending = false then
    match s.headStep with
    | none => s
    | some (p, st) =>
      match s.stepCheck p st with
      | some reason => s.engineFaults reason p st
      | none => (s.setEngine { s.engine with seated := some false, retry := 0 }).issueStage .clear
  else s

/-- Entry to BUILD at the engine (R135). -/
def engineEntersBuild (s : State) : State :=
  match s.engine.state with
  | .suspended => s.resumeStage
  | .idle => s.takeHeadStep
  | .disabled | .clearing | .placing | .reseating | .stalled | .faulted => s

/-! ### Muck unit -/

/-- The screw command afresh: RUN in BORE at a MEMBER node, else STOP (R165); the unit works at the muck owner only. -/
def commandScrew (s : State) : State :=
  if s.ownsMuck then
    s.setMuck { s.muck with
      screw := if s.machine.phase = .bore ∧ s.node.state = .member then .run else .stop }
  else s

/-- The MUCK restraint test (R175). -/
def testMuck (s : State) : State :=
  if !s.muck.muckRestrained && !s.receivingCar then
    (s.setMuck { s.muck with muckRestrained := true }).restrain .muck
  else if s.muck.muckRestrained && s.receivingCar then
    (s.setMuck { s.muck with muckRestrained := false }).release .muck
  else s

end State

end Sys2Proof.Machine
end

