-- ==== Sys2Proof/Machine/Hold.lean ====
section
/-! DEFINITION. Holds and faults: the operations by which any block of the node holds the machine (R38 to R44, R52, R53)
or takes a fault (R10, R26). -/

namespace Sys2Proof.Machine

namespace State

/-! ### Failed rounds (R53) -/

/-- A round fails: the round closes, VOTE_FAILED is set, the failed-vote counter rises, the last failure is replaced
(R46, R53). -/
def failRound (station : Nat) (reason : FailReason) (s : State) : State :=
  match s.machine.round with
  | none => s
  | some r =>
    (((s.setMachine { s.machine with round := none, lastFailure := some ⟨r.target, station, reason⟩ }).notify
      .voteFailed).count fun c => { c with failedVotes := c.failedVotes + 1 })

/-! ### Handing a change on (R44) -/

/-- Entry to HOLD handed to the link interface, drive, thrust and grout units, the engine and the muck unit. -/
def handEntryToHold (fromBore : Bool) (g : Grade) (s : State) : State :=
  let s := s.removeZoneFrames
  let s := s.testDrives
  let s := s.thrustEntersHold fromBore
  let s := if g = .hard then s.stopDose else s
  let s := s.engineEntersHold
  s.commandScrew

/-- Entry to HOLD from BORE or BUILD with a grade and a new current record (R40, R42): phase, grade, record. -/
def openHold (cause : HoldCause) (source : Nat) (g : Grade) (s : State) : State :=
  s.setMachine { s.machine with phase := .hold g, current := some ⟨cause, source, s.machine.ring, g, 0⟩ }

/-- A hold met in phase HOLD with grade `now` (R41, R42): the record is opened or counted, its grade and the phase's
grade rising to HARD for a HARD cause. -/
def countHold (cause : HoldCause) (source : Nat) (now g : Grade) (s : State) : State :=
  let grade := if g = .hard then .hard else now
  s.setMachine { s.machine with
    phase := .hold grade
    current := some (match s.machine.current with
      | none => ⟨cause, source, s.machine.ring, grade, 0⟩
      | some r => { r with further := min 255 (r.further + 1)
                           grade := if g = .hard ∧ now = .soft then .hard else r.grade }) }

/-- Whether a hold of grade `g` raises the grade in force. -/
def raises (now g : Grade) : Bool := now == .soft && g == .hard

/-- The node decides to hold the machine (R40, R41, R52). `always` is the warm restart, which queues its HOLD frame in
every case (R27). -/
def imposeHold (cause : HoldCause) (s : State) (always : Bool := false) : State :=
  let g := causeGrade cause .soft
  let s := s.failRound s.own .held
  match s.machine.phase with
  | .hold now =>
    let s := s.countHold cause s.own now g
    let s := if raises now g || always then s.queueFrame (.hold cause g) else s
    if raises now g then s.stopDose else s
  | .bore => ((s.openHold cause s.own g).queueFrame (.hold cause g)).handEntryToHold true g
  | .build => ((s.openHold cause s.own g).queueFrame (.hold cause g)).handEntryToHold false g

/-- A HOLD frame accepted from a peer or a console station (R42, R52). -/
def takeHold (sender : Nat) (cause : HoldCause) (sent : Grade) (s : State) : State :=
  let g := causeGrade cause sent
  let s := s.failRound sender .held
  match s.machine.phase with
  | .hold now =>
    let s := s.countHold cause sender now g
    if raises now g then s.stopDose else s
  | .bore => (s.openHold cause sender g).handEntryToHold true g
  | .build => (s.openHold cause sender g).handEntryToHold false g

/-! ### Faults (R26) -/

/-- The node's own blocks act on entry to FAULTED (R84, R62, R154, R134, R165). -/
def blocksEnterFaulted (s : State) : State :=
  let s := s.testDrives
  let s := s.thrustEntersFaulted
  let s := s.stopDose
  let s := if s.ownsErector then s.haltErector else s
  s.commandScrew

/-- A block reports a fault (R26). -/
def takeFault (cause : FaultCause) (s : State) : State :=
  match s.node.state with
  | .faulted => s.setNode { s.node with furtherFaults := s.node.furtherFaults + 1 }
  | .unconfigured =>
    (s.setNode { s.node with state := .faulted, cause := some cause, collection := none }).notify .nodeFault
  | .joining | .member =>
    let s := s.setNode { s.node with state := .faulted, cause := some cause, listen := none }
    ((s.notify .nodeFault).imposeHold .nodeFault).blocksEnterFaulted

/-- Every pending frame ends REMOVED (R10, R14). -/
def removePending (s : State) : State := (s.setQueue []).framesEnded s.link.queue .removed

/-- The node takes the LINK fault (R10): the transmitter stops, pending frames end REMOVED, a RING_CLOSED waiting to be
queued again is discarded on arrival (R129), and R26 is taken. At a node already FAULTED the transmitter stops and the
frames go all the same, while R26 keeps the first cause and raises the further-fault count (log 40). -/
def linkFault (s : State) : State :=
  let s := (s.setLink { s.link with transmitting := false, onWire := none }).removePending
  s.retryRingClosed.takeFault .link

end State

end Sys2Proof.Machine
end

