-- ==== Sys2Proof/Machine/Advance.lean ====
section
/-! DEFINITION. What follows a change of the sector advance, of the total torque, of the view or of the phase: the
credited advance and the grout increment (R66, R67, R143), steer pause, stroke reached and stroke end (R70 to R72),
machine advance and overdig (R178, R179), the automatic latch and guard mode (R88, R92, R93), entry to BORE and BUILD. -/

namespace Sys2Proof.Machine

/-- Owed volumes stay at their largest value when an addition would pass it (R143). -/
def owedCap : Nat := 4294967295

namespace State

/-! ### Grout increments -/

/-- An increment of credited advance at the grout unit (R143, R158, R159). -/
def groutIncrement (d : Nat) (s : State) : State :=
  let s := s.setPorts (s.grout.ports.map fun p => { p with owed := min owedCap (p.owed + d * s.portFactor p.number) })
  let s := s.testGrout
  let s := if s.cfg.shortfallHold ≤ s.shortfallL ∧ !s.inHold then s.imposeHold .shortfall else s
  s.testDose

/-! ### Overdig -/

/-- Overdig is evaluated (R179). -/
def evaluateOverdig (s : State) : State :=
  if !s.muck.overdig && decide (0 < s.excess) then
    (s.setMuck { s.muck with overdig := true }).imposeHold .overdig
  else if s.muck.overdig && decide (s.excess ≤ 0) then s.setMuck { s.muck with overdig := false }
  else s

/-- The muck owner recomputes the machine advance and evaluates overdig (R178). -/
def updateMachineAdvance (s : State) : State :=
  if s.ownsMuck then (s.setMuck { s.muck with machineAdvance := s.computedMachineAdvance }).evaluateOverdig else s

/-! ### Tests on the sector advance -/

/-- The steer pause (R70), in BORE. -/
def testSteer (s : State) : State :=
  if s.machine.phase = .bore then
    let lead := s.thrust.sectorAdvance - s.slowestAdvance
    if s.cfg.steerLimit < lead then s.setThrust { s.thrust with steerPause := true }
    else if 2 * lead ≤ s.cfg.steerLimit then s.setThrust { s.thrust with steerPause := false }
    else s
  else s

/-- Stroke reached (R71), in BORE. -/
def testStrokeReached (s : State) : State :=
  if s.machine.phase = .bore ∧ s.cfg.strokeTarget ≤ s.thrust.sectorAdvance ∧ s.thrust.strokeReached = false then
    (s.setThrust { s.thrust with strokeReached := true }).mapCylinders fun c =>
      if c.state = .advancing then { c with state := .bearing } else c
  else s

/-- Stroke end (R72), in BORE. -/
def testStrokeEnd (s : State) : State :=
  if s.machine.phase = .bore ∧ s.cfg.strokeTarget ≤ s.thrust.sectorAdvance
      ∧ s.peerBeacons.all (fun b => s.cfg.strokeTarget ≤ b.advance.toNat) then
    s.imposeHold .strokeEnd
  else s

/-- A rise of the sector advance above the credited advance is credited and handed to the grout unit (R67). -/
def creditAdvance (s : State) : State :=
  if s.thrust.credited < s.thrust.sectorAdvance then
    let d := s.thrust.sectorAdvance - s.thrust.credited
    (s.setThrust { s.thrust with credited := s.thrust.sectorAdvance }).groutIncrement d
  else s

/-- In BORE the sector advance is recomputed (R66), credited (R67), and tested (R70, R71); on a change also R72 and
R178. The order of the tests is log 12's. -/
def recomputeAdvance (s : State) : State :=
  if s.machine.phase = .bore then
    let before := s.thrust.sectorAdvance
    let after := s.computedAdvance
    let s := s.setThrust { s.thrust with sectorAdvance := after }
    let s := s.creditAdvance
    let s := s.testSteer
    let s := s.testStrokeReached
    if after = before then s else s.testStrokeEnd.updateMachineAdvance
  else s

/-- The stroke origin is captured (R65). -/
def captureOrigin (s : State) : State :=
  let s := s.mapCylinders fun c => { c with origin := some c.stroke }
  let s := s.setThrust { s.thrust with sectorAdvance := 0, credited := 0, strokeReached := false, steerPause := false }
  let s := s.testSteer
  let s := s.testStrokeEnd
  s.updateMachineAdvance

/-! ### Torque and guard mode -/

/-- A probe starts if none is in flight (R93, R94). -/
def startProbe (s : State) : State :=
  match s.drive.guard.probe with
  | some _ => s
  | none => s.setGuard { s.drive.guard with probe := some ⟨0, 0⟩ }

/-- Guard mode begins (R93). -/
def guardBegins (s : State) : State :=
  let s := (s.notify .guardEntered).restrain .torque
  (s.setGuard { s.drive.guard with timer := some 0 }).startProbe

/-- Guard mode ends (R93). -/
def guardEnds (s : State) : State :=
  let s := s.release .torque
  s.setGuard { s.drive.guard with timer := none }

/-- Changes the manual flag and the automatic latch, guard mode beginning or ending as they say (R93). -/
def setGuardFlags (manual latch : Bool) (s : State) : State :=
  let before := s.drive.guard.mode
  let s := s.setGuard { s.drive.guard with manual := manual, latch := latch }
  if !before && s.drive.guard.mode then s.guardBegins
  else if before && !s.drive.guard.mode then s.guardEnds
  else s

/-- The total torque is recomputed (R88): a rise through 90 percent in BORE sets the automatic latch, and the previous
total becomes the new one (R92). -/
def recomputeTotal (s : State) : State :=
  if s.configured then
    let total := s.totalPercent
    let rise := s.machine.phase == .bore && decide (90 ≤ total) && decide (s.drive.guard.previous.getD 0 < 90)
    let s := if rise then s.setGuardFlags s.drive.guard.manual true else s
    s.setGuard { s.drive.guard with previous := some total }
  else s

/-- The units that read the view see a change of it (R88, R70, R72, R178); order: log 13. -/
def viewChanged (s : State) : State :=
  let s := s.recomputeTotal
  let s := s.testSteer
  let s := s.testStrokeEnd
  s.updateMachineAdvance

/-- A peer entry leaves PRESENT (R35): its restraint entries are removed, and a MEMBER node sets PEER_SILENT and holds
the machine. -/
def peerDeparts (member : Nat) (s : State) : State :=
  let s := s.removeSource member
  if s.node.state = .member then (s.notify .peerSilent).imposeHold .peerSilent else s

/-! ### Entry to BORE and BUILD (R44; log 14) -/

/-- Entry to BORE at the drive unit: the run condition, then the hold for a drive TRIPPED since the vote (R84, R85), in that
order, so that a drive the entry starts ends STOPPING where another is TRIPPED (log 14). -/
def driveEntersBore (s : State) : State :=
  let s := s.testDrives
  if s.drive.drives.any (fun d => d.state == .tripped) then s.imposeHold .driveTrip else s

/-- Entry to BORE at the thrust unit (R60). -/
def thrustEntersBore (s : State) : State :=
  let s := s.mapCylinders fun c =>
    if c.state = .bearing ∧ !s.cylPinned c ∧ s.thrust.strokeReached = false then { c with state := .advancing }
    else s.reseatClear c
  s.recomputeAdvance

/-- Hands a change on to one block while the phase still stands. -/
def whilePhase (p : Phase) (f : State → State) (s : State) : State := if s.machine.phase = p then f s else s

/-- Entry to BORE handed to the drive, thrust, grout and muck units; the engine does nothing (R135). The test for a dose
is made at each entry (R146), a SOFT hold of the thrust unit within it included. -/
def handEntryToBore (s : State) : State :=
  (((s.driveEntersBore).whilePhase .bore thrustEntersBore).testDose).commandScrew

/-- Entry to BUILD handed to the drive, thrust, grout and muck units and the engine; it moves no cylinder (R60). -/
def handEntryToBuild (s : State) : State :=
  ((s.testDrives).testDose).engineEntersBuild.commandScrew

end State

end Sys2Proof.Machine
end

