-- ==== Sys2Proof/Machine/Reception.lean ====
section
/-! DEFINITION. The receive filter (R11) and the gate a COMMAND passes before its owning block (R12, R17). -/

namespace Sys2Proof.Machine

/-- Who may send a kind (Table 1-4). -/
inductive SentBy where
  | node
  | console
  | both
  deriving DecidableEq, Repr

/-- Table 1-4's "Sent by" column. -/
def sentBy : Body → SentBy
  | .hold _ _ => .both
  | .propose _ | .configure _ | .setpoint _ | .ringSet _ | .restart | .command _ _ => .console
  | .vote _ _ | .restrain _ | .release _ | .zoneClear _ | .zoneCleared _ | .zoneRefused _ | .zoneSeat _ | .zoneHeld _
  | .ringClosed _ | .beacon _ | .reply _ => .node

/-- Stations 14 and 15 are console stations (R1). -/
def isConsole (st : Station) : Bool := st == 14 || st == 15

/-- What the filter does with a well-formed frame (R11, tests 2 to 4). -/
inductive Verdict where
  | ignored
  | foreign
  | accepted
  deriving DecidableEq, Repr

namespace State

/-- A frame addressed to every station or to this node (R1). -/
def reaches (s : State) (target : Station) : Bool := target == 0 || target.toNat == s.own

/-- The kind is one that class of sender may send (R11 test 4). -/
def mayBeSentBy (s : State) (by' : SentBy) (sender : Station) : Bool :=
  match by' with
  | .console => isConsole sender
  | .node => s.isMember sender.toNat && !isConsole sender
  | .both => isConsole sender || s.isMember sender.toNat

/-- The filter's tests 2 to 4 on a frame this node does not have on the wire (R11). -/
def filterVerdict (s : State) (by' : SentBy) (sender target : Station) : Verdict :=
  if !s.reaches target then .ignored
  else if !s.configured && !isConsole sender then .ignored
  else if !(s.isMember sender.toNat || isConsole sender) || !s.mayBeSentBy by' sender || sender.toNat == s.own then
    .foreign
  else .accepted

/-- Filters a received frame and hands an accepted one to `take` (R11, R12). -/
def receive (by' : SentBy) (sender target : Station) (take : State → State) (s : State) : State :=
  match s.filterVerdict by' sender target with
  | .ignored => s
  | .foreign => s.countForeign
  | .accepted => take s

/-- The service of a COMMAND: sender, whether it is addressed to this node and not broadcast, arguments. -/
abbrev ServiceTake := Station → Bool → List Byte → State → State

/-- A received COMMAND frame (R11, R12). -/
def receiveCommand (take : ServiceTake) (sender target : Station) (args : List Byte) (s : State) : State :=
  s.receive .console sender target (take sender (target != 0) args)

/-- A service a node without a configuration does not take: STATE when addressed, ignored when broadcast (R17, R26). -/
def configuredOnly (service : Service) (take : ServiceTake) : ServiceTake := fun station addressed args s =>
  if s.configured then take station addressed args s else s.answer station addressed service .state

end State

end Sys2Proof.Machine
end

