-- ==== Sys2Proof/Machine/Phase.lean ====
section
/-! DEFINITION. The phase unit (Chapter 3) and joining (Section 2.5): HOLD, PROPOSE, VOTE, BEACON, BEACON_PERIOD,
SILENCE_EXPIRY, LISTEN_WINDOW_END, VOTE_WINDOW_EXPIRY. -/

namespace Sys2Proof.Machine

namespace State

/-! ### HOLD -/

/-- An accepted HOLD frame (R42); a node without a configuration ignores it (R17, R26). -/
def takeHoldFrame (sender : Station) (cause : HoldCause) (sent : Grade) (s : State) : State :=
  if s.configured then s.takeHold sender.toNat cause sent else s

/-! ### Readiness (Table 3-5) -/

/-- Some member's entry is not PRESENT (test 4). -/
def somePeerAbsent (s : State) : Bool := s.machine.view.any (fun e => e.presence != .present)

/-- Some PRESENT member's last beacon reports another ring number; an absent last beacon agrees (test 5). -/
def someRingDiffers (s : State) : Bool :=
  s.machine.view.any fun e => e.presence == .present && (match e.last with
    | some b => b.ring.toNat != s.machine.ring
    | none => false)

/-- The tests of Table 3-5 in order, each with its reason: the reasons of the tests that fail. STROKE_DONE fails
by the sector advance (Table 3-5) and by the stroke reached flag (R71) alike (log 41). -/
def failedTests (s : State) (t : VoteTarget) : List RefuseReason :=
  let both : List (Bool × RefuseReason) :=
    [(!s.inHold, .phase), (s.node.state == .joining, .joining), (s.node.state == .faulted, .faulted),
     (s.somePeerAbsent, .peerAbsent), (s.someRingDiffers, .ringMismatch)]
  let own : List (Bool × RefuseReason) := match t with
    | .bore =>
      [(s.thrust.cylinders.any (fun c => !s.cylPinned c && c.state != .bearing), .notBearing),
       (s.drive.drives.any (fun d => d.state == .tripped), .driveTripped),
       (s.thrust.strokeReached || decide (s.cfg.strokeTarget ≤ s.thrust.sectorAdvance), .strokeDone),
       (decide (s.cfg.shortfallHold ≤ s.shortfallL), .shortfall),
       (s.ownsErector && !s.engine.placed.isEmpty, .ringOpen),
       (s.ownsMuck && !s.receivingCar, .noCar),
       (s.ownsMuck && s.muck.overdig, .overdig),
       (s.ownsMuck && s.muck.faceLow, .faceLow),
       (s.drive.guard.jam, .jam)]
    | .build =>
      [(s.drive.drives.any (fun d => d.state != .stopped), .drivesTurning),
       (decide (s.thrust.sectorAdvance < s.cfg.strokeTarget), .strokeShort),
       (s.ownsErector && !(s.engine.state == .suspended || (s.engine.state == .idle && s.headStep.isSome)), .noPlan)]
  ((both ++ own).filter (·.1)).map (·.2)

/-- READY, or REFUSE with the reason of the first test that fails (R45). -/
def readiness (s : State) (t : VoteTarget) : VoteAnswer :=
  match s.failedTests t with
  | [] => .ready
  | r :: _ => .refuse r

/-! ### The vote round -/

/-- An accepted PROPOSE (R47). -/
def takePropose (t : VoteTarget) (s : State) : State :=
  if !s.configured then s
  else match s.machine.round with
    | some _ => s.count fun c => { c with discardedProposals := c.discardedProposals + 1 }
    | none =>
      let s := s.setRound (some ⟨t, Config.voteWindow, s.membersInOrder.map (fun m => (m, none))⟩)
      s.queueFrame (.vote t (s.readiness t))

/-- A round succeeds (R49): phase, records, round, and the change handed on. -/
def succeedRound (t : VoteTarget) (s : State) : State :=
  let previous := match s.machine.current with
    | some r => some r
    | none => s.machine.previous
  match t with
  | .bore =>
    (s.setMachine { s.machine with phase := .bore, previous := previous, current := none, round := none }).handEntryToBore
  | .build =>
    (s.setMachine { s.machine with phase := .build, previous := previous, current := none, round := none }).handEntryToBuild

/-- A VOTE of a member, or the node's own heard back, is recorded and the round tested (R48, R49, R50), at a FAULTED node as at
any other: a READY queued before the fault may be recorded in a later round and take it out of HOLD, against R38 (log 44). -/
def recordVote (member : Nat) (t : VoteTarget) (a : VoteAnswer) (s : State) : State :=
  match s.machine.round with
  | none => s
  | some r =>
    if r.target = t ∧ r.votes.contains (member, none) then
      let votes := r.votes.map fun v => if v = (member, none) then (member, some a) else v
      let s := s.setRound (some { r with votes := votes })
      match a with
      | .refuse reason => s.failRound member (.refused reason)
      | .ready => if votes.all (fun v => v.2 == some .ready) then s.succeedRound t else s
    else s

/-- The lowest-numbered member from which no vote is recorded (R51). -/
def missingVoter (r : Round) : Nat := ((r.votes.find? (fun v => v.2.isNone)).map (·.1)).getD 0

/-! ### Beacons of peers -/

/-- The discord check on a peer's beacon (R36, R37). -/
def discordCheck (peer : Nat) (b : Beacon) (s : State) : State :=
  if b.nodeState ≠ .member then s.updateEntry peer fun e => { e with strikes := 0 }
  else if s.node.state ≠ .member then s
  else if b.phase = s.phaseCode ∧ b.ring.toNat = s.machine.ring then
    s.updateEntry peer fun e => { e with strikes := 0 }
  else
    match s.entry? peer with
    | some e =>
      if 1 ≤ e.strikes then
        ((s.updateEntry peer fun e => { e with strikes := 0 }).notify .discord).imposeHold .discord
      else s.updateEntry peer fun e => { e with strikes := e.strikes + 1 }
    | none => s

/-- One reason flag of a beacon sets or removes the peer's entry (R80). -/
def reconcileOne (peer : Nat) (r : RestraintReason) (held : Bool) (s : State) : State :=
  if held then s.addRestraint peer r else s.removeRestraint peer r

/-- A beacon's restraint flags set the peer's entries (R80). -/
def reconcile (peer : Nat) (b : Beacon) (s : State) : State :=
  (((s.reconcileOne peer .grout b.grout).reconcileOne peer .muck b.muck).reconcileOne peer .torque
    b.torqueHigh).reconcileOne peer .face b.face

/-- A beacon with the node's own digest (R32). -/
def takeMatchingBeacon (peer : Nat) (b : Beacon) (s : State) : State :=
  let s := s.updateEntry peer fun e =>
    { e with since := some 0, strikes := if e.presence = .present then e.strikes else 0
             presence := .present, last := some b }
  let s := s.discordCheck peer b
  let s := s.reconcile peer b
  s.viewChanged

/-- A beacon with another digest (R33, R35). -/
def takeAlienBeacon (peer : Nat) (s : State) : State :=
  match s.entry? peer with
  | none => s
  | some old =>
    let s := s.updateEntry peer fun e => { e with since := some 0, presence := .alien, last := none, strikes := 0 }
    let s := if old.presence = .present then s.peerDeparts peer else s
    if old.presence = .alien then s else s.viewChanged

/-- An accepted BEACON frame of a peer (R32, R33). -/
def takeBeacon (sender : Station) (b : Beacon) (s : State) : State :=
  if some b.digest = s.node.digest then s.takeMatchingBeacon sender.toNat b else s.takeAlienBeacon sender.toNat

/-- The node's own beacon heard back matching (R30). -/
def ownBeaconHeard (b : Beacon) (s : State) : State := s.updateEntry s.own fun e => { e with last := some b }

/-- The view with every peer SILENT (R29). -/
def freshView (s : State) : List ViewEntry :=
  s.membersInOrder.map fun m => ⟨m, if m = s.own then .present else .silent, none, none, 0⟩

/-! ### Joining (R24) -/

/-- Ring numbers the MEMBER peers last reported (R24). -/
def memberPeerRings (s : State) : List Nat :=
  (s.peerBeacons.filter (fun b => b.nodeState == .member)).map (·.ring.toNat)

/-- If the first-membership flag is set, the stroke origin is captured and the flag cleared (R24, R28, R65). -/
def firstMember (s : State) : State :=
  if s.node.firstMembership then (s.setNode { s.node with firstMembership := false }).captureOrigin else s

/-- The node enters MEMBER at the end of a listen window (R24); its units see the change of node state (R84, R146,
R165). -/
def enterMember (s : State) : State :=
  let s := s.setNode { s.node with state := .member, listen := none }
  let s := s.firstMember
  (s.testDrives.commandScrew).testDose

/-- The end of a listen window (R24). -/
def endListen (s : State) : State :=
  match s.memberPeerRings with
  | [] => s.enterMember
  | n :: more =>
    if more.all (fun m => m == n) then (s.setRing n).enterMember
    else (s.setNode { s.node with listen := some 0 }).notify .ringMismatch

end State

/-! ### Meanings -/

/-- HOLD (R42). -/
def execHold (sender target : Station) (cause : HoldCause) (grade : Grade) (s : State) : Outcome :=
  .next (s.receive .both sender target (State.takeHoldFrame sender cause grade))

/-- PROPOSE (R47). -/
def execPropose (sender target : Station) (phase : VoteTarget) (s : State) : Outcome :=
  .next (s.receive .console sender target (State.takePropose phase))

/-- VOTE (R48). -/
def execVote (sender target : Station) (phase : VoteTarget) (answer : VoteAnswer) (s : State) : Outcome :=
  .next (s.receive .node sender target (State.recordVote sender.toNat phase answer))

/-- BEACON (R32, R33). -/
def execBeacon (sender target : Station) (contents : Beacon) (s : State) : Outcome :=
  .next (s.receive .node sender target (State.takeBeacon sender contents))

/-- BEACON_PERIOD (R31): a node that holds a configuration and is JOINING, MEMBER or FAULTED queues a beacon. -/
def execBeaconPeriod (s : State) : Outcome :=
  if s.configured && s.node.state != .unconfigured then
    let s := s.passTime (Config.beaconPeriod - s.machine.beaconTimer)
    .next (s.setMachine { s.machine with beaconTimer := 0 }).queueBeacon
  else .next s

/-- SILENCE_EXPIRY (R34, R35): the peer's running time reaches 150 ms. -/
def execSilenceExpiry (peer : Nat) (s : State) : Outcome :=
  match s.entry? peer with
  | some e =>
    match e.since with
    | some t =>
      if peer = s.own ∨ e.presence = .silent then .next s
      else
        let s := s.passTime (Config.silenceInterval - t)
        let s := s.updateEntry peer fun e => { e with presence := .silent, last := none, since := none, strikes := 0 }
        .next (if e.presence = .present then s.peerDeparts peer else s).viewChanged
    | none => .next s
  | none => .next s

/-- LISTEN_WINDOW_END (R24). -/
def execListenWindowEnd (s : State) : Outcome :=
  match s.node.state, s.node.listen with
  | .joining, some t => .next (s.passTime (Config.listenWindow - t)).endListen
  | _, _ => .next s

/-- VOTE_WINDOW_EXPIRY (R51). -/
def execVoteWindowExpiry (s : State) : Outcome :=
  match s.machine.round with
  | some r => .next ((s.passTime r.remaining).failRound (State.missingVoter r) .noVote)
  | none => .next s

end Sys2Proof.Machine
end

