-- ==== Sys2Proof/Machine/Thrust.lean ====
section
/-! DEFINITION. The thrust unit (Chapter 4): RESTRAIN, RELEASE, ZONE_CLEAR, ZONE_SEAT, SETPOINT, CYLINDER_REPORT, and
the rebuilding of cylinder records. -/

namespace Sys2Proof.Machine

namespace State

/-! ### Restraint frames (R79) -/

/-- A peer's entry in the view is PRESENT. -/
def peerPresent (s : State) (peer : Nat) : Bool :=
  match s.entry? peer with
  | some e => e.presence == .present
  | none => false

/-- An accepted RESTRAIN of a peer (R79). -/
def takeRestrain (sender : Station) (payload : List Byte) (s : State) : State :=
  match restraintOf payload with
  | some r => if s.peerPresent sender.toNat then s.addRestraint sender.toNat r else s
  | none => s

/-- An accepted RELEASE of a peer (R79). -/
def takeRelease (sender : Station) (payload : List Byte) (s : State) : State :=
  match restraintOf payload with
  | some r => if s.peerPresent sender.toNat then s.removeRestraint sender.toNat r else s
  | none => s

/-! ### Zone requests (Section 4.5, R188) -/

/-- Queues the answer of a completed request (R76). -/
def queueAnswer (z : ZoneRequest) (s : State) : State :=
  match z.kind with
  | .clear => s.queueFrame (.zoneCleared (zoneBytes z.ring z.position z.attempt))
  | .seat => s.queueFrame (.zoneHeld (zoneBytes z.ring z.position z.attempt))

/-- Queues ZONE_REFUSED for a request (R74, R75, R188). -/
def queueRefusal (z : ZoneRequest) (r : ZoneRefusal) (s : State) : State :=
  s.queueFrame (.zoneRefused (zoneBytes z.ring z.position z.attempt ++ [zoneRefusalCode r]))

/-- A zone cylinder is pinned against the request and has not reached the state that completes it (R188). -/
def pinnedAgainst (s : State) (kind : ZoneKind) (c : Cylinder) : Bool :=
  match kind with
  | .clear => s.forced .cylinder c.number == some .forceBear && c.state != .failed && c.state != .clear
  | .seat => s.forced .cylinder c.number == some .forceClear && c.state != .failed && c.state != .bearing

/-- The state of a cylinder completes the request, FAILED cylinders dropping out (R76). -/
def completes (kind : ZoneKind) (c : Cylinder) : Bool :=
  c.state == .failed || (match kind with
    | .clear => c.state == .clear
    | .seat => c.state == .bearing)

/-- The request in flight is tested: first for a pin against it (R188), then for completion (R76). -/
def testZone (s : State) : State :=
  match s.thrust.zone with
  | none => s
  | some z =>
    let cs := s.zoneCylinders z.position
    if cs.any (s.pinnedAgainst z.kind) then (s.setZone none).queueRefusal z .pinned
    else if cs.all (completes z.kind) then (s.setZone none).queueAnswer z
    else s

/-- The conditions of R73 on a request of a sender. -/
def zoneTaken (s : State) (sender : Nat) (z : ZoneRequest) : Bool :=
  s.isErectorOwner sender && s.node.state == .member && s.machine.phase == .build && z.ring == s.machine.ring
    && !(s.zoneCylinders z.position).isEmpty

/-- The request equals the one in flight in kind, ring, position and attempt (R73). -/
def zoneRepeats (s : State) (z : ZoneRequest) : Bool :=
  match s.thrust.zone with
  | some w => w.kind == z.kind && w.ring == z.ring && w.position == z.position && w.attempt == z.attempt
  | none => false

/-- A ZONE_CLEAR taken under R73 (R74). -/
def clearZone (z : ZoneRequest) (s : State) : State :=
  let s := s.setZone none
  let cs := s.zoneCylinders z.position
  if cs.any (fun c => s.cylPinned c && c.state == .bearing) then s.queueRefusal z .pinned
  else if !s.retractionPermitted cs then s.queueRefusal z .minimum
  else
    let s := s.mapCylinders fun c =>
      if s.inZone z.position c ∧ !s.cylPinned c ∧ c.state ≠ .failed ∧ c.state ≠ .clear then
        { c with state := .retracting, reseatTarget := none }
      else c
    (s.setZone (some z)).testZone

/-- A ZONE_SEAT taken under R73 (R75). -/
def seatZone (z : ZoneRequest) (s : State) : State :=
  let s := s.setZone none
  let cs := s.zoneCylinders z.position
  if cs.any (fun c => s.cylPinned c && c.state == .clear) then s.queueRefusal z .pinned
  else
    let s := s.mapCylinders fun c =>
      if s.inZone z.position c ∧ !s.cylPinned c
          ∧ (c.state = .clear ∨ c.state = .parked ∨ c.state = .retracting ∨ c.state = .reseating) then
        { c with state := .reseating, reseatTarget := some z.pressure }
      else c
    (s.setZone (some z)).testZone

/-- An accepted ZONE_CLEAR, the erector owner's own at loopback included (R73, R74, R130). -/
def takeZoneClear (sender : Nat) (payload : List Byte) (s : State) : State :=
  match zoneClearOf payload with
  | some z => if s.zoneTaken sender z && !s.zoneRepeats z then s.clearZone z else s
  | none => s

/-- An accepted ZONE_SEAT, the erector owner's own at loopback included (R73, R75, R130). -/
def takeZoneSeat (sender : Nat) (payload : List Byte) (s : State) : State :=
  match zoneSeatOf payload with
  | some z => if s.zoneTaken sender z && !s.zoneRepeats z then s.seatZone z else s
  | none => s

/-! ### Setpoints (R68, R86) -/

/-- The advance field: 0..120 replaces the setpoint (R68). -/
def takeAdvanceSetpoint (v : Nat) (s : State) : State :=
  if v ≤ 120 then s.setThrust { s.thrust with setpoint := v } else s

/-- The cutterhead field: 0..600 replaces the setpoint (R86). -/
def takeCutterSetpoint (v : Nat) (s : State) : State :=
  if v ≤ 600 then s.setDrive { s.drive with setpoint := v } else s

/-- An accepted SETPOINT (R68, R86); a node without a configuration ignores it (R17). -/
def takeSetpoint (payload : List Byte) (s : State) : State :=
  if s.configured then
    match setpointOf payload with
    | some (a, c) => (s.takeAdvanceSetpoint a).takeCutterSetpoint c
    | none => s
  else s

/-! ### Cylinder reports -/

/-- Keeps the latest report of a cylinder channel. -/
def keepCylReport (n : Nat) (r : CylReport) (s : State) : State :=
  if n = 0 then s else s.setChannels { s.channels with cylinders := s.channels.cylinders.set (n - 1) r }

/-- A cylinder whose channel reports a fault (R59). A cylinder already FAILED changes nothing. -/
def cylinderFault (n : Nat) (old : CylState) (s : State) : State :=
  if old = .failed then s
  else
    let s := (s.updateCylinder n fun c => { c with state := .failed, reseatTarget := none }).notify .cylFault
    let s := if s.machine.phase = .bore ∧ s.bearingCount < s.cfg.hMin then s.imposeHold .cylFail else s
    s.recomputeAdvance

/-- A RETRACTING cylinder whose report shows the stop becomes CLEAR (R58 step 3); without a pin it is reseated in BORE
(R60). -/
def stopMoves (s : State) (retracted : Bool) (c : Cylinder) : Cylinder :=
  if c.state = .retracting ∧ retracted = true then s.reseatClear { c with state := .clear } else c

/-- A RESEATING cylinder at its target becomes BEARING, or ADVANCING in BORE without a pin before the stroke is reached
(R58 step 4). -/
def targetMoves (s : State) (c : Cylinder) : Cylinder :=
  if c.state = .reseating ∧ c.reseatTarget.getD 0 ≤ c.pressure.toNat then
    { c with
      reseatTarget := none
      state := if s.machine.phase = .bore ∧ !s.cylPinned c ∧ s.thrust.strokeReached = false then .advancing
        else .bearing }
  else c

/-- Steps 3 and 4 of one report, in turn (R58). -/
def reportMoves (s : State) (retracted : Bool) (c : Cylinder) : Cylinder := s.targetMoves (s.stopMoves retracted c)

/-- The request in flight has the cylinder in its zone. -/
def inFlightZoneHas (s : State) (n : Nat) : Bool :=
  match s.thrust.zone with
  | some z => z.position != 0 && s.zonePosition s.own n == z.position
  | none => false

/-- A cylinder report is taken (R58). -/
def takeCylReport (n : Nat) (r : CylReport) (s : State) : State :=
  let s := s.keepCylReport n r
  match s.cylinder? n with
  | none => s
  | some old =>
    let s := s.updateCylinder n fun c => { c with stroke := r.stroke, pressure := r.pressure, fault := r.fault }
    let s := if r.fault then s.cylinderFault n old.state
      else (s.updateCylinder n (s.reportMoves r.retracted)).recomputeAdvance
    if s.inFlightZoneHas n then s.testZone else s

/-! ### Rebuilding (R56, R62, R63) -/

/-- A record rebuilt from its channel's latest report: stroke, pressure, fault, and the state they give (R56). -/
def rebuiltCylinder (s : State) (c : Cylinder) : Cylinder :=
  let r := s.cylReport c.number
  { c with
    stroke := r.stroke, pressure := r.pressure, fault := r.fault, reseatTarget := none
    state := if r.fault then .failed else if s.contact r.pressure then .bearing else .parked }

/-- The records at validation (R56). -/
def builtCylinders (s : State) : List Cylinder :=
  (List.range s.ownSection.cylinders).map fun i =>
    s.rebuiltCylinder ⟨i + 1, .parked, 0, 0, false, none, none⟩

/-- A FAILED cylinder rebuilt at CLEAR_FAULT takes its forced state when it carries a pin (R62, R190). -/
def clearedCylinder (s : State) (c : Cylinder) : Cylinder :=
  let r := s.rebuiltCylinder c
  if r.state = .failed then r
  else match s.forced .cylinder c.number with
    | some .forceBear =>
      if r.state = .bearing then r
      else { r with state := .reseating, reseatTarget := some s.cfg.reseatPressure }
    | some .forceClear => { r with state := .retracting }
    | some .shut | some .off | none => r

/-- CLEAR_FAULT at the thrust unit (R62): FAILED cylinders are rebuilt; when the node leaves FAULTED, a PARKED cylinder
pinned FORCE_CLEAR becomes RETRACTING. -/
def clearCylinders (leavesFaulted : Bool) (s : State) : State :=
  s.mapCylinders fun c =>
    if c.state = .failed then s.clearedCylinder c
    else if leavesFaulted ∧ c.state = .parked ∧ s.forced .cylinder c.number = some .forceClear then
      { c with state := .retracting }
    else c

/-- Warm restart at the thrust unit (R63), the override table already emptied. -/
def restartCylinders (s : State) : State :=
  let s := s.mapCylinders fun c => if c.state = .failed then c else s.rebuiltCylinder c
  s.setThrust { s.thrust with steerPause := false, zone := none }

/-- Adds the own entries of several reasons. -/
def addOwn (rs : List RestraintReason) (s : State) : State := rs.foldl (fun s r => s.addRestraint s.own r) s

/-- Warm restart at the restraint set (R81): emptied, own entries added as the units decide, changes announced. -/
def restartRestraints (s : State) : State :=
  let all := [RestraintReason.grout, .muck, .torque, .face]
  let before := all.filter s.restrains
  let after := all.filter fun r => match r with
    | .grout => s.grout.restrained
    | .muck => s.muck.muckRestrained
    | .torque => s.drive.guard.mode
    | .face => s.muck.faceRestrained
  let s := s.setThrust { s.thrust with restraints := [] }
  let s := s.addOwn after
  let s := s.queueFrames ((before.filter (fun r => !after.contains r)).map (fun r => .release [restraintCode r]))
  s.queueFrames ((after.filter (fun r => !before.contains r)).map (fun r => .restrain [restraintCode r]))

end State

/-! ### Meanings -/

/-- RESTRAIN (R79). -/
def execRestrain (sender target : Station) (payload : List Byte) (s : State) : Outcome :=
  .next (s.receive .node sender target (State.takeRestrain sender payload))

/-- RELEASE (R79). -/
def execRelease (sender target : Station) (payload : List Byte) (s : State) : Outcome :=
  .next (s.receive .node sender target (State.takeRelease sender payload))

/-- ZONE_CLEAR (R73, R74). -/
def execZoneClear (sender target : Station) (payload : List Byte) (s : State) : Outcome :=
  .next (s.receive .node sender target (State.takeZoneClear sender.toNat payload))

/-- ZONE_SEAT (R73, R75). -/
def execZoneSeat (sender target : Station) (payload : List Byte) (s : State) : Outcome :=
  .next (s.receive .node sender target (State.takeZoneSeat sender.toNat payload))

/-- SETPOINT (R68, R86). -/
def execSetpoint (sender target : Station) (payload : List Byte) (s : State) : Outcome :=
  .next (s.receive .console sender target (State.takeSetpoint payload))

/-- CYLINDER_REPORT (R58). -/
def execCylinderReport (cylinder : Nat) (stroke pressure : Half) (fault retracted : Bool) (s : State) : Outcome :=
  .next (s.takeCylReport cylinder ⟨stroke, pressure, fault, retracted⟩)

end Sys2Proof.Machine
end

