-- ==== Sys2Proof/Machine/Drive.lean ====
section
/-! DEFINITION. The drive unit and the torque guard (Chapter 5): DRIVE_REPORT, the guard services, SAMPLE_TIMER_EXPIRY,
PROBE_END. -/

namespace Sys2Proof.Machine

namespace State

/-! ### Drive reports -/

/-- Keeps the latest report of a drive channel. -/
def keepDriveReport (n : Nat) (r : DriveReport) (s : State) : State :=
  if n = 0 then s else s.setChannels { s.channels with drives := s.channels.drives.set (n - 1) r }

/-- A drive whose channel reports a fault trips (R85); one already TRIPPED changes nothing. -/
def driveFault (n : Nat) (old : DriveState) (s : State) : State :=
  if old = .tripped then s
  else
    let s := s.updateDrive n fun d => { d with state := .tripped }
    if s.machine.phase = .bore then s.imposeHold .driveTrip else s

/-- R83 steps 3 and 4. -/
def driveMoves (d : Drive) : Drive :=
  match d.state with
  | .starting => if d.speed = 0 then d else { d with state := .running }
  | .stopping => if d.speed = 0 then { d with state := .stopped } else d
  | .stopped | .running | .tripped => d

/-- A drive report is taken (R83). After a fault the rest of the report is not taken, the recomputation of the total
among it (step 2; log 33). -/
def takeDriveReport (n : Nat) (r : DriveReport) (s : State) : State :=
  let s := s.keepDriveReport n r
  match s.drive? n with
  | none => s
  | some old =>
    let s := s.updateDrive n fun d => { d with speed := r.speed, torque := r.torque, fault := r.fault }
    if r.fault then s.driveFault n old.state else (s.updateDrive n driveMoves).recomputeTotal

/-! ### Rebuilding (R82, R87) -/

/-- A record rebuilt from its channel's latest report (R82). -/
def rebuiltDrive (s : State) (d : Drive) : Drive :=
  let r := s.driveReport d.number
  { d with
    speed := r.speed, torque := r.torque, fault := r.fault
    state := if r.fault then .tripped else if r.speed = 0 then .stopped else .stopping }

/-- The records at validation (R82). -/
def builtDrives (s : State) : List Drive :=
  (List.range s.ownSection.drives).map fun i => s.rebuiltDrive ⟨i + 1, .stopped, 0, 0, false⟩

/-- CLEAR_FAULT rebuilds TRIPPED drives (R87). -/
def clearDrives (s : State) : State :=
  s.setDrives (s.drive.drives.map fun d => if d.state = .tripped then s.rebuiltDrive d else d)

/-- Warm restart at the guard (Table 5-4, R89). -/
def restartGuard (s : State) : State :=
  s.setGuard { s.drive.guard with manual := false, latch := false, previous := none, probe := none, timer := none }

/-! ### Guard services (R90, R91, R97, R98) -/

/-- GUARD_ON (R91). -/
def serveGuardOn : ServiceTake := configuredOnly .guardOn fun station addressed args s =>
  if args.isEmpty then (s.setGuardFlags true s.drive.guard.latch).answer station addressed .guardOn .done
  else s.answer station addressed .guardOn .format

/-- GUARD_OFF (R91). -/
def serveGuardOff : ServiceTake := configuredOnly .guardOff fun station addressed args s =>
  if args.isEmpty then (s.setGuardFlags false s.drive.guard.latch).answer station addressed .guardOff .done
  else s.answer station addressed .guardOff .format

/-- GUARD_LEVEL (R90). -/
def serveGuardLevel : ServiceTake := configuredOnly .guardLevel fun station addressed args s =>
  match args with
  | [b] =>
    if b.toNat ≤ 7 then
      (s.setGuard { s.drive.guard with level := some b.toNat }).answer station addressed .guardLevel .done
    else s.answer station addressed .guardLevel .range
  | _ => s.answer station addressed .guardLevel .format

/-- GUARD_PROBE (R97). -/
def serveGuardProbe : ServiceTake := configuredOnly .guardProbe fun station addressed args s =>
  if !args.isEmpty then s.answer station addressed .guardProbe .format
  else if s.drive.guard.probe.isSome then s.answer station addressed .guardProbe .busy
  else s.startProbe.answer station addressed .guardProbe .done

/-- GUARD_RESET (R98). -/
def serveGuardReset : ServiceTake := configuredOnly .guardReset fun station addressed args s =>
  if !args.isEmpty then s.answer station addressed .guardReset .format
  else if s.inHold then
    (s.setGuard { s.drive.guard with jam := false, stalls := 0 }).answer station addressed .guardReset .done
  else s.answer station addressed .guardReset .state

/-! ### Probes -/

/-- The stall count at the end of a probe (R96). -/
def takeStall (mean : Nat) (s : State) : State :=
  if mean < 115 then s.setGuard { s.drive.guard with stalls := 0 }
  else if s.drive.guard.stalls + 1 < 3 then s.setGuard { s.drive.guard with stalls := s.drive.guard.stalls + 1 }
  else (s.setGuard { s.drive.guard with jam := true, stalls := 0 }).imposeHold .jam

/-- The end of a probe with the weighted sum it has taken (R95). -/
def endProbe (p : Probe) (s : State) : State :=
  let mean := p.weighted / Config.probeLength
  let level := guardPercent (s.drive.guard.level.getD 0)
  let isOver := decide (level ≤ mean)
  let s := s.setGuard { s.drive.guard with
    probe := none, last := some ⟨isOver, mean, level⟩, probes := s.drive.guard.probes + 1 }
  let s := (s.notify .guardProbe).takeStall mean
  if !isOver && s.drive.guard.latch then s.setGuardFlags s.drive.guard.manual false else s

end State

/-! ### Meanings -/

/-- DRIVE_REPORT (R83). -/
def execDriveReport (drive : Nat) (speed torque : Half) (fault : Bool) (s : State) : Outcome :=
  .next (s.takeDriveReport drive ⟨speed, torque, fault⟩)

/-- GUARD_ON (R91). -/
def execGuardOn (sender target : Station) (args : List Byte) (s : State) : Outcome :=
  .next (s.receiveCommand State.serveGuardOn sender target args)

/-- GUARD_OFF (R91). -/
def execGuardOff (sender target : Station) (args : List Byte) (s : State) : Outcome :=
  .next (s.receiveCommand State.serveGuardOff sender target args)

/-- GUARD_LEVEL (R90). -/
def execGuardLevel (sender target : Station) (args : List Byte) (s : State) : Outcome :=
  .next (s.receiveCommand State.serveGuardLevel sender target args)

/-- GUARD_PROBE (R97). -/
def execGuardProbe (sender target : Station) (args : List Byte) (s : State) : Outcome :=
  .next (s.receiveCommand State.serveGuardProbe sender target args)

/-- GUARD_RESET (R98). -/
def execGuardReset (sender target : Station) (args : List Byte) (s : State) : Outcome :=
  .next (s.receiveCommand State.serveGuardReset sender target args)

/-- SAMPLE_TIMER_EXPIRY (R94): the running timer reaches 500 ms, restarts at 0, and a probe starts if none is in
flight. -/
def execSampleTimerExpiry (s : State) : Outcome :=
  match s.drive.guard.timer with
  | some t =>
    let s := s.passTime (Config.samplePeriod - t)
    .next (s.setGuard { s.drive.guard with timer := some 0 }).startProbe
  | none => .next s

/-- PROBE_END (R95): the probe in flight has run 100 ms. -/
def execProbeEnd (s : State) : Outcome :=
  match s.drive.guard.probe with
  | some p =>
    let s := s.passTime (Config.probeLength - p.elapsed)
    .next (s.endProbe (s.drive.guard.probe.getD p))
  | none => .next s

end Sys2Proof.Machine
end

