-- ==== Sys2Proof/Machine/Plan.lean ====
section
/-! DEFINITION. The plan store services (Chapter 6): PLAN_OPEN, PLAN_STEP, PLAN_CLOSE, PLAN_ABORT, PLAN_STOP,
PLAN_FLUSH, PLAN_ENABLE, PLAN_RESUME. -/

namespace Sys2Proof.Machine

namespace State

/-- A plan service (R101): ignored when broadcast, STATE at a node that is not the erector owner. -/
def planService (service : Service) (take : Station → List Byte → State → State) : ServiceTake :=
  fun station addressed args s =>
    if !addressed then s
    else if s.ownsErector then take station args s
    else s.answer station true service .state

/-- A plan service without arguments: the length is checked first (R101). -/
def planServiceBare (service : Service) (take : Station → State → State) : ServiceTake :=
  planService service fun station args s =>
    if args.isEmpty then take station s else s.answer station true service .format

/-- The open plan is discarded with its steps (R103, R105, R106). -/
def discardOpenPlan (s : State) : State := s.setPlans { s.plans with opened := none }

/-- PLAN_OPEN (R102). -/
def servePlanOpen : ServiceTake := planService .planOpen fun station args s =>
  match args with
  | [identifier] =>
    if s.engine.state = .faulted then s.answer station true .planOpen .state
    else match s.plans.opened with
      | some p =>
        if p.opener = station ∧ p.identifier = identifier.toNat ∧ p.steps = [] then
          s.answer station true .planOpen .done
        else s.answer station true .planOpen .busy
      | none =>
        if identifier = 0 ∨ 4 ≤ s.plans.closed.length then s.answer station true .planOpen .range
        else (s.setPlans { s.plans with opened := some ⟨identifier.toNat, station, none, []⟩ }).answer station true
          .planOpen .done
  | _ => s.answer station true .planOpen .format

/-- The arguments repeat the last step held (R104). -/
def repeatsLastStep (p : Plan) (step : Option PlanStep) : Bool :=
  match step, p.steps.getLast? with
  | some st, some last => st == last && st.index == p.steps.length
  | _, _ => false

/-- The form of a step (R103 step 5), its length and kind code having been read. -/
def stepFits (s : State) (p : Plan) (st : PlanStep) : Bool :=
  st.index == p.steps.length + 1 && decide (st.index ≤ 9) && decide (1 ≤ st.position ∧ st.position ≤ s.cfg.positions)
    && decide (st.rotation ≤ 359)
    && (match st.reseat with
      | some k => decide (1000 ≤ k ∧ k ≤ 35000)
      | none => true)

/-- PLAN_STEP (R103). -/
def servePlanStep : ServiceTake := planService .planStep fun station args s =>
  if s.engine.state = .faulted then s.answer station true .planStep .state
  else match s.plans.opened with
    | none => s.answer station true .planStep .state
    | some p =>
      let step := planStepOf args
      if p.opener ≠ station then s.answer station true .planStep .busy
      else if repeatsLastStep p step then s.answer station true .planStep .done
      else match step.filter (s.stepFits p) with
        | none => s.discardOpenPlan.answer station true .planStep .format
        | some st =>
          if 40 ≤ s.stepsHeld then
            (s.discardOpenPlan.count fun c => { c with uploadOverflows := c.uploadOverflows + 1 }).answer station true
              .planStep .range
          else (s.setPlans { s.plans with opened := some { p with steps := p.steps ++ [st] } }).answer station true
            .planStep .done

/-- The open plan is closed with a count (R105 step 5); an engine that finds its head step there takes it (R121). -/
def closePlan (p : Plan) (n : Nat) (s : State) : State :=
  let made := s.headStep.isNone
  let s := s.setPlans { closed := s.plans.closed ++ [{ p with closedCount := some n }], opened := none }
  if made then s.takeHeadStep else s

/-- PLAN_CLOSE (R105). -/
def servePlanClose : ServiceTake := planService .planClose fun station args s =>
  if s.engine.state = .faulted then s.answer station true .planClose .state
  else match s.plans.opened with
    | none => s.answer station true .planClose .state
    | some p =>
      if p.opener ≠ station then s.answer station true .planClose .busy
      else match args with
        | [n] =>
          if 1 ≤ n.toNat ∧ n.toNat ≤ 9 ∧ n.toNat = p.steps.length then
            (s.closePlan p n.toNat).answer station true .planClose .done
          else s.discardOpenPlan.answer station true .planClose .format
        | _ => s.discardOpenPlan.answer station true .planClose .format

/-- PLAN_ABORT (R106). -/
def servePlanAbort : ServiceTake := planServiceBare .planAbort fun station s =>
  s.discardOpenPlan.answer station true .planAbort .done

/-- What PLAN_STOP does to the engine (R111). -/
def stopEngine (s : State) : State :=
  match s.engine.state with
  | .disabled => s
  | .idle | .faulted => s.setEngine { s.engine with state := .disabled }
  | .suspended | .stalled => s.dropStep
  | .clearing | .placing | .reseating => s.setEngine { s.engine with stopping := true }

/-- PLAN_STOP (R111). -/
def servePlanStop : ServiceTake := planServiceBare .planStop fun station s =>
  s.stopEngine.answer station true .planStop .done

/-- PLAN_FLUSH (R114). -/
def servePlanFlush : ServiceTake := planServiceBare .planFlush fun station s =>
  if s.engine.state = .disabled then
    (s.setPlans { closed := [], opened := none }).answer station true .planFlush .done
  else s.answer station true .planFlush .state

/-- PLAN_ENABLE (R115). -/
def servePlanEnable : ServiceTake := planServiceBare .planEnable fun station s =>
  match s.engine.state with
  | .disabled => (s.setEngine { s.engine with state := .idle }).takeHeadStep.answer station true .planEnable .done
  | .idle => s.answer station true .planEnable .done
  | .clearing | .placing | .reseating =>
    if s.engine.stopping then
      (s.setEngine { s.engine with stopping := false }).answer station true .planEnable .done
    else s.answer station true .planEnable .state
  | .suspended | .stalled | .faulted => s.answer station true .planEnable .state

/-- What PLAN_RESUME does to a STALLED engine (R116, R132). Outside BUILD at a MEMBER node it becomes SUSPENDED, and its
zone sets stay those of the refused stage (log 22). -/
def resumeEngine (s : State) : State :=
  if s.machine.phase = .build ∧ s.node.state = .member then s.resumeStage
  else s.setEngine { s.engine with state := .suspended }

/-- PLAN_RESUME (R116). -/
def servePlanResume : ServiceTake := planServiceBare .planResume fun station s =>
  if s.engine.state = .stalled then s.resumeEngine.answer station true .planResume .done
  else s.answer station true .planResume .state

end State

/-! ### Meanings -/

/-- PLAN_OPEN (R102). -/
def execPlanOpen (sender target : Station) (args : List Byte) (s : State) : Outcome :=
  .next (s.receiveCommand State.servePlanOpen sender target args)

/-- PLAN_STEP (R103). -/
def execPlanStep (sender target : Station) (args : List Byte) (s : State) : Outcome :=
  .next (s.receiveCommand State.servePlanStep sender target args)

/-- PLAN_CLOSE (R105). -/
def execPlanClose (sender target : Station) (args : List Byte) (s : State) : Outcome :=
  .next (s.receiveCommand State.servePlanClose sender target args)

/-- PLAN_ABORT (R106). -/
def execPlanAbort (sender target : Station) (args : List Byte) (s : State) : Outcome :=
  .next (s.receiveCommand State.servePlanAbort sender target args)

/-- PLAN_STOP (R111). -/
def execPlanStop (sender target : Station) (args : List Byte) (s : State) : Outcome :=
  .next (s.receiveCommand State.servePlanStop sender target args)

/-- PLAN_FLUSH (R114). -/
def execPlanFlush (sender target : Station) (args : List Byte) (s : State) : Outcome :=
  .next (s.receiveCommand State.servePlanFlush sender target args)

/-- PLAN_ENABLE (R115). -/
def execPlanEnable (sender target : Station) (args : List Byte) (s : State) : Outcome :=
  .next (s.receiveCommand State.servePlanEnable sender target args)

/-- PLAN_RESUME (R116). -/
def execPlanResume (sender target : Station) (args : List Byte) (s : State) : Outcome :=
  .next (s.receiveCommand State.servePlanResume sender target args)

end Sys2Proof.Machine
end

