-- ==== Sys2Proof/Machine/Ring.lean ====
section
/-! DEFINITION. Ring building (Chapter 7): the answers to zone requests, the erector channel, the limits, RING_CLOSED and
RING_SET. -/

namespace Sys2Proof.Machine

/-- Adds a number to a sorted list without repeats. -/
def insertNumber (n : Nat) : List Nat → List Nat
  | [] => [n]
  | m :: rest => if n < m then n :: m :: rest else if n = m then m :: rest else m :: insertNumber n rest

namespace State

/-! ### Stages -/

/-- The conditions of R123 on an answer with these fields, the kind of the stage apart. -/
def answerFits (s : State) (sender : Nat) (fields : Nat × Nat × Nat) : Bool :=
  s.ownsErector && fields.1 == s.machine.ring
    && (match s.currentStep with
      | some (_, st) => fields.2.1 == st.position
      | none => false)
    && fields.2.2 == s.engine.attempt && s.engine.zoneMembers.contains sender && !s.engine.answered.contains sender

/-- A complete CLEARING stage (R124). -/
def enterPlacing (s : State) : State :=
  let s := s.setEngine { s.engine with state := .placing, zoneMembers := [], answered := [], limit := none }
  let s := s.commandPlace
  s.setEngine { s.engine with limit := some Config.placementLimit }

/-- The state after a step done: IDLE, or DISABLED when the stopping flag ends the step there (R113, R127). -/
def afterStep (s : State) : State :=
  s.setEngine { s.engine with state := if s.engine.stopping then .disabled else .idle, stopping := false }

/-- The engine queues RING_CLOSED with the next ring number and sets close pending (R127). -/
def closeRing (s : State) : State :=
  let n := s.nextRing
  (s.setEngine { s.engine with closePending := true }).queueFrame (.ringClosed (bytes16 n))

/-- A step is done (R127, R113). -/
def stepDone (p : Plan) (st : PlanStep) (s : State) : State :=
  let s := s.popHeadStep
  let s := s.setEngine { s.engine with seated := none, zoneMembers := [], answered := [], limit := none }
  match st.kind with
  | .standard => s.afterStep.takeHeadStep
  | .key =>
    if s.ringFull then s.closeRing.afterStep
    else
      let s := s.engineFaults .incomplete p st
      s.setEngine { s.engine with stopping := false }

/-- A zone member's answer is counted, and a complete stage ends (R123, R124, R127). -/
def countAnswer (sender : Nat) (s : State) : State :=
  let s := s.setEngine { s.engine with answered := insertNumber sender s.engine.answered }
  if s.engine.zoneMembers.all s.engine.answered.contains then
    match s.engine.state, s.currentStep with
    | .clearing, _ => s.enterPlacing
    | .reseating, some (p, st) => s.stepDone p st
    | _, _ => s
  else s

/-- An accepted ZONE_CLEARED or ZONE_HELD, which answers a stage of this state (R123). -/
def takeZoneAnswer (stage : EngineState) (sender : Nat) (payload : List Byte) (s : State) : State :=
  match zoneFields payload with
  | some f => if s.engine.state = stage ∧ s.answerFits sender f = true then s.countAnswer sender else s
  | none => s

/-- A refusal moves the engine to STALLED (R131, R113). -/
def stallEngine (sender : Nat) (reason : ZoneRefusal) (position : Nat) (kind : ZoneKind) (s : State) : State :=
  let s := s.setEngine { s.engine with
    state := .stalled, limit := none
    lastRefusal := some ⟨sender, reason, position, kind, s.engine.attempt⟩
    zoneRefusals := s.engine.zoneRefusals + 1 }
  let s := s.notify .zoneRefused
  if s.engine.stopping then s.dropStep else s

/-- An accepted ZONE_REFUSED (R123, R130, R131). -/
def takeZoneRefused (sender : Nat) (payload : List Byte) (s : State) : State :=
  match zoneRefusedOf payload with
  | some (r, p, a, reason) =>
    if s.answerFits sender (r, p, a) then
      match s.engine.state with
      | .clearing => s.stallEngine sender reason p .clear
      | .reseating => s.stallEngine sender reason p .seat
      | .disabled | .idle | .placing | .suspended | .stalled | .faulted => s
    else s
  | none => s

/-! ### The erector channel (R120) -/

/-- A report ends the placement: the channel becomes READY. -/
def erectorReady (s : State) : State := s.setEngine { s.engine with erector := .ready }

/-- A SEATED report (R125). -/
def takeSeated (s : State) : State :=
  if s.ownsErector && s.engine.erector == .placing then
    let s := s.erectorReady
    match s.engine.state, s.currentStep with
    | .placing, some (_, st) =>
      (s.setEngine { s.engine with
        placed := insertNumber st.position s.engine.placed, seated := some true, limit := none }).issueStage .seat
    | _, _ => s
  else s

/-- A placement fails: it is retried, or the third failure holds the machine (R126). -/
def failPlacement (s : State) : State :=
  if s.engine.retry < 2 then
    let s := s.setEngine { s.engine with
      retry := s.engine.retry + 1, seatRetries := s.engine.seatRetries + 1, limit := some Config.placementLimit }
    (s.count fun c => { c with seatRetries := c.seatRetries + 1 }).commandPlace
  else s.imposeHold .seatFail

/-- A SEAT_FAIL report (R126). -/
def takeSeatFail (s : State) : State :=
  if s.ownsErector && s.engine.erector == .placing then
    let s := s.erectorReady
    if s.engine.state = .placing then s.failPlacement else s
  else s

/-- A report of the erector channel's fault indication (R120). -/
def takeErectorIndication (present : Bool) (s : State) : State :=
  let before := s.channels.erectorFault
  let s := s.setChannels { s.channels with erectorFault := present }
  if s.ownsErector && present && !before then s.takeFault .erector else s

/-! ### Ring close (R137 to R139) -/

/-- The ring record of the ring being closed (R138 step 1, R200). -/
def ringRecord (s : State) (n : Nat) : RingRecord :=
  { ring := if n = 1 then 65000 else n - 1
    advance := s.thrust.sectorAdvance
    delivered := (s.grout.ports.map (·.delivered)).sum
    shortfall := s.shortfallL
    blocked := (s.grout.ports.filter (fun p => p.state == .blocked)).map (·.number)
    probes := s.drive.guard.probes
    tallies := if s.ownsMuck then
        some ⟨s.muck.weighed, s.muck.carried, s.muck.uncarried, s.muck.excused, s.muck.indexed⟩
      else none
    statistics := none }

/-- Keeps a ring record, at most 16 (R200). -/
def keepRecord (r : RingRecord) (s : State) : State :=
  let held := if 16 ≤ s.console.records.length then s.console.records.drop 1 else s.console.records
  s.setConsole { s.console with records := held ++ [r] }

/-- The accounts are carried over (R160). -/
def carryOver (s : State) : State :=
  s.setPorts (s.grout.ports.map fun p => { p with owed := p.gap, delivered := 0 })

/-- The muck unit closes its ring tallies (R181). -/
def closeTallies (s : State) : State :=
  if s.ownsMuck then
    s.setMuck { s.muck with
      weighed := 0, carried := 0, uncarried := 0, excused := 0, indexed := 0, overdig := false }
  else s

/-- A RING_CLOSED is accepted (R138). -/
def closeAccounts (n : Nat) (s : State) : State :=
  let s := s.keepRecord (s.ringRecord n)
  let s := s.carryOver
  let s := s.closeTallies
  let s := s.setGuard { s.drive.guard with probes := 0 }
  let s := s.captureOrigin
  s.setRing n

/-- Writes the ring statistics into the record just made (R139 step 1). -/
def writeStatistics (s : State) : State :=
  let stats : RingStatistics := ⟨s.engine.seatRetries, s.engine.zoneRefusals⟩
  let records := match s.console.records.getLast? with
    | some r => s.console.records.dropLast ++ [{ r with statistics := some stats }]
    | none => []
  s.setConsole { s.console with records := records }

/-- What the erector owner adds (R139). -/
def ownerCloses (s : State) : State :=
  let s := s.writeStatistics
  let s := s.setEngine { s.engine with seatRetries := 0, zoneRefusals := 0, placed := [], closePending := false }
  s.imposeHold .ringDone

/-- An accepted RING_CLOSED, the erector owner's own at loopback included (R137 to R139). -/
def takeRingClosed (sender : Nat) (payload : List Byte) (s : State) : State :=
  match ringOf payload with
  | some n =>
    if s.configured && s.isErectorOwner sender && n == s.nextRing then
      let s := s.closeAccounts n
      if s.ownsErector then s.ownerCloses else s
    else s
  | none => s

/-! ### RING_SET (R140, R141) -/

/-- A RING_SET at the erector owner (R141). -/
def ownerRingSet (s : State) : State :=
  let s := if s.engine.state = .suspended ∨ s.engine.state = .stalled then s.dropStep else s
  (s.setEngine { s.engine with placed := [], seatRetries := 0, zoneRefusals := 0, closePending := false }).takeHeadStep

/-- An accepted RING_SET (R140). -/
def takeRingSet (payload : List Byte) (s : State) : State :=
  match ringOf payload with
  | some n =>
    if s.configured && s.inHold && decide (1 ≤ n ∧ n ≤ 65000) then
      let s := s.setRing n
      if s.ownsErector then s.ownerRingSet else s
    else s
  | none => s

end State

/-! ### Meanings -/

/-- ZONE_CLEARED (R123, R124). -/
def execZoneCleared (sender target : Station) (payload : List Byte) (s : State) : Outcome :=
  .next (s.receive .node sender target (State.takeZoneAnswer .clearing sender.toNat payload))

/-- ZONE_HELD (R123, R127). -/
def execZoneHeld (sender target : Station) (payload : List Byte) (s : State) : Outcome :=
  .next (s.receive .node sender target (State.takeZoneAnswer .reseating sender.toNat payload))

/-- ZONE_REFUSED (R123, R131). -/
def execZoneRefused (sender target : Station) (payload : List Byte) (s : State) : Outcome :=
  .next (s.receive .node sender target (State.takeZoneRefused sender.toNat payload))

/-- RING_CLOSED (R137, R138). -/
def execRingClosed (sender target : Station) (payload : List Byte) (s : State) : Outcome :=
  .next (s.receive .node sender target (State.takeRingClosed sender.toNat payload))

/-- RING_SET (R140). -/
def execRingSet (sender target : Station) (payload : List Byte) (s : State) : Outcome :=
  .next (s.receive .console sender target (State.takeRingSet payload))

/-- STAGE_LIMIT_EXPIRY (R128): the limit of CLEARING or RESEATING runs out. -/
def execStageLimitExpiry (s : State) : Outcome :=
  match s.engine.state, s.engine.limit with
  | .clearing, some t => .next ((s.passTime t).imposeHold .zoneTimeout)
  | .reseating, some t => .next ((s.passTime t).imposeHold .zoneTimeout)
  | _, _ => .next s

/-- PLACEMENT_LIMIT_EXPIRY (R126): the limit of PLACING runs out. -/
def execPlacementLimitExpiry (s : State) : Outcome :=
  match s.engine.state, s.engine.limit with
  | .placing, some t => .next (s.passTime t).failPlacement
  | _, _ => .next s

/-- SEATED (R125). -/
def execSeated (s : State) : Outcome := .next s.takeSeated

/-- SEAT_FAIL (R126). -/
def execSeatFail (s : State) : Outcome := .next s.takeSeatFail

/-- ERECTOR_FAULT_INDICATION (R120, R26). -/
def execErectorFaultIndication (present : Bool) (s : State) : Outcome := .next (s.takeErectorIndication present)

end Sys2Proof.Machine
end

