-- ==== Sys2Proof/Machine/Grout.lean ====
section
/-! DEFINITION. Grout injection (Chapter 8): STROKE_REPORT, LINE_PRESSURE, PUMP_AT_REST, DOSE_LIMIT_EXPIRY, UNBLOCK. -/

namespace Sys2Proof.Machine

namespace State

/-- A dose completes (R152). No test for a dose is made at its end, even where the channel counts as at rest (log 45). -/
def completeDose (n : Nat) (s : State) : State :=
  ((s.endDose .complete).updatePort n fun p => { p with cuts := 0 }).count fun c =>
    { c with dosesCompleted := c.dosesCompleted + 1 }

/-- A stroke is credited to the port of the last dose record (R151). -/
def creditStroke (d : Dose) (s : State) : State :=
  let s := s.setDose (some { d with credited := d.credited + 1 })
  (s.updatePort d.port fun p => { p with delivered := p.delivered + s.cfg.strokeVolume }).testGrout

/-- A STROKE report (R151, R152). -/
def takeStroke (s : State) : State :=
  match s.grout.dose with
  | some d =>
    if d.credited < s.cfg.doseStrokes then
      let s := s.creditStroke d
      if d.ending.isNone ∧ d.credited + 1 = s.cfg.doseStrokes then s.completeDose d.port else s
    else s
  | none => s

/-- A dose is cut (R153). No test for a dose is made at its end, even where the channel counts as at rest (log 45). -/
def cutDose (n : Nat) (s : State) : State :=
  let s := s.endDose .cut
  let s := (s.updatePort n fun p => { p with cuts := p.cuts + 1 }).count fun c => { c with cuts := c.cuts + 1 }
  match s.port? n with
  | some p =>
    if 2 ≤ p.cuts then (s.updatePort n fun p => { p with state := .blocked }).notify .portBlocked else s
  | none => s

/-- A line pressure report is recorded and, during a dose, compared with the cut pressure (R153). -/
def takeLinePressure (kPa : Half) (s : State) : State :=
  let s := s.setChannels { s.channels with linePressure := some kPa }
  match s.grout.dose with
  | some d => if d.ending.isNone ∧ s.cfg.cutPressure < kPa.toNat then s.cutDose d.port else s
  | none => s

/-- An at-rest report (R145, R146). -/
def takeAtRest (atRest : Bool) (s : State) : State :=
  let s := s.setChannels { s.channels with pumpAtRest := some atRest }
  if atRest then s.testDose else s

/-- The dose limit is reached (R155). -/
def doseLimitReached (s : State) : State := (s.endDose .limit).takeFault .pump

/-- UNBLOCK (R157). -/
def serveUnblock : ServiceTake := configuredOnly .unblock fun station addressed args s =>
  if !s.inHold then s.answer station addressed .unblock .state
  else match args with
    | [n] =>
      if n = 0 ∨ s.ownSection.ports < n.toNat then s.answer station addressed .unblock .range
      else
        let s := s.updatePort n.toNat fun p => { p with state := .opened, cuts := 0 }
        s.testDose.answer station addressed .unblock .done
    | _ => s.answer station addressed .unblock .format

end State

/-! ### Meanings -/

/-- STROKE_REPORT (R151). -/
def execStrokeReport (s : State) : Outcome := .next s.takeStroke

/-- LINE_PRESSURE (R153). -/
def execLinePressure (kPa : Half) (s : State) : Outcome := .next (s.takeLinePressure kPa)

/-- PUMP_AT_REST (R146). -/
def execPumpAtRest (atRest : Bool) (s : State) : Outcome := .next (s.takeAtRest atRest)

/-- DOSE_LIMIT_EXPIRY (R155): the dose in flight has run 30 s. -/
def execDoseLimitExpiry (s : State) : Outcome :=
  match s.grout.dose with
  | some d =>
    if d.ending.isNone then .next (s.passTime (Config.doseLimit - d.elapsed)).doseLimitReached else .next s
  | none => .next s

/-- UNBLOCK (R157). -/
def execUnblock (sender target : Station) (args : List Byte) (s : State) : Outcome :=
  .next (s.receiveCommand State.serveUnblock sender target args)

end Sys2Proof.Machine
end

