-- ==== Sys2Proof/Machine/Muck.lean ====
section
/-! DEFINITION. Muck removal and face pressure (Chapter 9): SCREW_REPORT, FACE_PRESSURE_REPORT, BELT_SCALE_REPORT,
TRAIN_ARRIVE, CAR_INDEXED, OVERDIG_EXCUSE. -/

namespace Sys2Proof.Machine

namespace State

/-! ### Screw and face pressure -/

/-- A screw report (R166). -/
def takeScrewReport (fault : Bool) (s : State) : State :=
  let before := s.channels.screwFault
  let s := s.setChannels { s.channels with screwFault := fault }
  if s.ownsMuck && fault && !before then s.takeFault .screw else s

/-- The FACE restraint test on a reading (R167). -/
def testFaceHigh (kPa : Half) (s : State) : State :=
  if !s.muck.faceRestrained && decide (s.cfg.pHigh < kPa.toNat) then
    (s.setMuck { s.muck with faceRestrained := true }).restrain .face
  else if s.muck.faceRestrained && decide (kPa.toNat ≤ s.cfg.pRelease) then
    (s.setMuck { s.muck with faceRestrained := false }).release .face
  else s

/-- The face-low test on a reading (R168). -/
def testFaceLow (kPa : Half) (s : State) : State :=
  if !s.muck.faceLow && decide (kPa.toNat < s.cfg.pMin) then
    (s.setMuck { s.muck with faceLow := true }).imposeHold .faceLow
  else if s.muck.faceLow && decide (s.cfg.pMin ≤ kPa.toNat) then s.setMuck { s.muck with faceLow := false }
  else s

/-- Both tests on the face reading, when there is one (R164, R167, R168). -/
def testFace (s : State) : State :=
  match s.channels.face with
  | some kPa => (s.testFaceHigh kPa).testFaceLow kPa
  | none => s

/-- A face-pressure report (R167). -/
def takeFacePressure (kPa : Half) (s : State) : State :=
  let s := s.setChannels { s.channels with face := some kPa }
  if s.ownsMuck then s.testFace else s

/-! ### Belt crediting -/

/-- Adds to a 32-bit mass; a sum that does not fit is a free value (log 5). -/
def massAdd (index a b : Nat) : Nat := if a + b < 4294967296 then a + b else (Config.freeMass index).toNat

/-- The credit the head car takes of an increment (R173 step 2). -/
def credit (s : State) (m : Nat) : Nat :=
  match s.muck.queue with
  | c :: _ => min m (c.capacity - c.fill)
  | [] => 0

/-- Fills the head car by its credit (R173 step 2). -/
def fillHead (c : Nat) : List Car → List Car
  | h :: rest => { h with fill := h.fill + c } :: rest
  | [] => []

/-- The masses after an increment (R173 steps 1 to 3). -/
def weigh (m : Nat) (s : State) : State :=
  let c := s.credit m
  let i := s.freeIndex
  let s := s.setFreeIndex (i + 4)
  s.setMuck { s.muck with
    queue := fillHead c s.muck.queue
    weighed := massAdd i s.muck.weighed m
    carried := massAdd (i + 1) s.muck.carried c
    uncarried := massAdd (i + 2) s.muck.uncarried (m - c)
    spill := massAdd (i + 3) s.muck.spill (m - c) }

/-- A FILLING head car at 95 percent of its capacity or above becomes DUE (R174). -/
def testDue (s : State) : State :=
  match s.muck.queue with
  | c :: rest =>
    if c.state = .filling ∧ c.capacity * 95 ≤ c.fill * 100 then
      (s.setMuck { s.muck with queue := { c with state := .due } :: rest }).notify .indexDue
    else s
  | [] => s

/-- The spill run against its value before the increment (R176). -/
def testSpill (before : Nat) (s : State) : State :=
  if before < s.cfg.spillLimit ∧ s.cfg.spillLimit ≤ s.muck.spill then s.imposeHold .noCar else s

/-- A belt-scale increment (R173). An increment of 0 changes no value and makes no decision. -/
def takeIncrement (m : Nat) (s : State) : State :=
  if s.ownsMuck ∧ m ≠ 0 then
    let before := s.muck.spill
    (((s.weigh m).testDue.testMuck).testSpill before).evaluateOverdig
  else s

/-! ### Muck services -/

/-- A muck service (R170): ignored when broadcast, STATE at a node that is not the muck owner. -/
def muckService (service : Service) (take : Station → List Byte → State → State) : ServiceTake :=
  fun station addressed args s =>
    if !addressed then s
    else if s.ownsMuck then take station args s
    else s.answer station true service .state

/-- The first car of a list becomes the head car: FILLING (R169). -/
def headFilling : List Car → List Car
  | c :: rest => { c with state := .filling } :: rest
  | [] => []

/-- Cars are appended; into an empty queue, the first is the head car (R171 step 5). -/
def appendCars (cars : List Car) (s : State) : State :=
  if s.muck.queue.isEmpty then s.setMuck { s.muck with queue := headFilling cars, spill := 0 }
  else s.setMuck { s.muck with queue := s.muck.queue ++ cars }

/-- Whether these car numbers repeat one another or a car of the queue (R171 check 3). -/
def carsRepeat (s : State) (numbers : List Nat) : Bool :=
  !(decide numbers.Nodup) || numbers.any (fun n => s.muck.queue.any (fun c => c.number == n))

/-- The checks of R171 and the arrival. -/
def trainArrives (station : Station) (capacity : Nat) (numbers : List Nat) (s : State) : State :=
  if capacity < 1000 ∨ 60000 < capacity then s.answer station true .trainArrive .range
  else if numbers.contains 0 || s.carsRepeat numbers then s.answer station true .trainArrive .format
  else if 16 < s.muck.queue.length + numbers.length then s.answer station true .trainArrive .range
  else
    let s := s.appendCars (numbers.map fun n => ⟨n, capacity, 0, .queued⟩)
    s.testMuck.answer station true .trainArrive .done

/-- TRAIN_ARRIVE (R171). -/
def serveTrainArrive : ServiceTake := muckService .trainArrive fun station args s =>
  match args with
  | hi :: lo :: cars =>
    if 1 ≤ cars.length ∧ cars.length ≤ 12 then s.trainArrives station (word16 hi lo) (cars.map (·.toNat))
    else s.answer station true .trainArrive .format
  | _ => s.answer station true .trainArrive .format

/-- The head car is indexed (R172 step 1). -/
def indexHead (n : Nat) (rest : List Car) (s : State) : State :=
  s.setMuck { s.muck with
    queue := headFilling rest
    lastIndexed := some n
    indexed := s.muck.indexed + 1
    spill := if rest.isEmpty then s.muck.spill else 0 }

/-- The checks of R172 on a car number. -/
def carIndexed (station : Station) (n : Nat) (s : State) : State :=
  let other : State :=
    if s.muck.lastIndexed = some n then s.answer station true .carIndexed .done
    else if s.muck.queue.isEmpty then s.answer station true .carIndexed .state
    else s.answer station true .carIndexed .format
  match s.muck.queue with
  | c :: rest =>
    if c.number = n then (s.indexHead n rest).testMuck.answer station true .carIndexed .done else other
  | [] => other

/-- CAR_INDEXED (R172). -/
def serveCarIndexed : ServiceTake := muckService .carIndexed fun station args s =>
  match args with
  | [n] => s.carIndexed station n.toNat
  | _ => s.answer station true .carIndexed .format

/-- The excess above 0 joins the excused mass (R180). -/
def excuse (s : State) : State :=
  (s.setMuck { s.muck with excused := s.muck.excused + s.excess.toNat }).evaluateOverdig

/-- OVERDIG_EXCUSE (R180). -/
def serveOverdigExcuse : ServiceTake := muckService .overdigExcuse fun station args s =>
  if !args.isEmpty then s.answer station true .overdigExcuse .format
  else if s.inHold then s.excuse.answer station true .overdigExcuse .done
  else s.answer station true .overdigExcuse .state

end State

/-! ### Meanings -/

/-- SCREW_REPORT (R166). -/
def execScrewReport (fault : Bool) (s : State) : Outcome := .next (s.takeScrewReport fault)

/-- FACE_PRESSURE_REPORT (R167, R168). -/
def execFacePressureReport (kPa : Half) (s : State) : Outcome := .next (s.takeFacePressure kPa)

/-- BELT_SCALE_REPORT (R173). -/
def execBeltScaleReport (kg : Half) (s : State) : Outcome := .next (s.takeIncrement kg.toNat)

/-- TRAIN_ARRIVE (R171). -/
def execTrainArrive (sender target : Station) (args : List Byte) (s : State) : Outcome :=
  .next (s.receiveCommand State.serveTrainArrive sender target args)

/-- CAR_INDEXED (R172). -/
def execCarIndexed (sender target : Station) (args : List Byte) (s : State) : Outcome :=
  .next (s.receiveCommand State.serveCarIndexed sender target args)

/-- OVERDIG_EXCUSE (R180). -/
def execOverdigExcuse (sender target : Station) (args : List Byte) (s : State) : Outcome :=
  .next (s.receiveCommand State.serveOverdigExcuse sender target args)

end Sys2Proof.Machine
end

