-- ==== Sys2Proof/Machine/Overrides.lean ====
section
/-! DEFINITION. The override table (Chapter 10): OVERRIDE and OVERRIDE_CANCEL. -/

namespace Sys2Proof.Machine

/-- Whether an entry is the item's. -/
def OverrideEntry.isFor (e : OverrideEntry) (kind : ItemKind) (n : Nat) : Bool := e.kind == kind && e.number == n

namespace State

/-- How many items of a kind are fitted at the node. -/
def fitted (s : State) (kind : ItemKind) : Nat :=
  match kind with
  | .cylinder => s.ownSection.cylinders
  | .port => s.ownSection.ports
  | .drive => s.ownSection.drives

/-- The item number is out of range (R184 check 3, R189 check 3). -/
def numberOutside (s : State) (kind : ItemKind) (n : Nat) : Bool := n == 0 || decide (s.fitted kind < n)

/-- The item is a cylinder of the zone of the request in flight (R184 check 4). -/
def heldByZone (s : State) (kind : ItemKind) (n : Nat) : Bool := kind == .cylinder && s.inFlightZoneHas n

/-- Adds an entry at the tail, or replaces the item's entry in its place (R183, R184). -/
def enterOverride (e : OverrideEntry) (s : State) : State :=
  if s.overrides.any (fun o => o.isFor e.kind e.number) then
    s.setOverrides (s.overrides.map fun o => if o.isFor e.kind e.number then e else o)
  else s.setOverrides (s.overrides ++ [e])

/-- A cylinder's pin has changed: the sector advance is recomputed in BORE (R66, R185, R190), and a zone request in
flight that holds the cylinder is tested (R76). -/
def cylinderPinChanged (n : Nat) (s : State) : State :=
  let s := s.recomputeAdvance
  if s.inFlightZoneHas n then s.testZone else s

/-- A cylinder pinned FORCE_BEAR (R185). -/
def forceBear (s : State) (c : Cylinder) : Cylinder :=
  match c.state with
  | .advancing => { c with state := .bearing }
  | .retracting | .clear | .parked =>
    if s.node.state = .faulted then c
    else { c with state := .reseating, reseatTarget := some s.cfg.reseatPressure }
  | .bearing | .reseating | .failed => c

/-- A cylinder pinned FORCE_CLEAR (R186). -/
def forceClear (s : State) (c : Cylinder) : Cylinder :=
  match c.state with
  | .bearing | .advancing | .reseating | .parked =>
    { c with state := if s.node.state = .faulted then .parked else .retracting, reseatTarget := none }
  | .retracting | .clear | .failed => c

/-- A port pinned SHUT (R156): a dose in flight at it ends; a change of a pin is followed by a test for a dose (R148). -/
def shutPort (n : Nat) (s : State) : State :=
  let s := match s.grout.dose with
    | some d => if d.port = n then s.endDose .shut else s
    | none => s
  s.testDose

/-- The owning unit applies a forced state (R185 to R187). -/
def applyForced (forced : ForcedState) (n : Nat) (s : State) : State :=
  match forced with
  | .forceBear => (s.updateCylinder n s.forceBear).cylinderPinChanged n
  | .forceClear => (s.updateCylinder n s.forceClear).cylinderPinChanged n
  | .shut => s.shutPort n
  | .off => s.updateDrive n s.testDrive

/-- The retraction of one cylinder fails the bearing minimum (R184 check 5, R64). -/
def minimumFails (s : State) (n : Nat) : Bool :=
  !s.retractionPermitted (s.thrust.cylinders.filter (fun c => c.number == n))

/-- OVERRIDE (R184). -/
def serveOverride : ServiceTake := configuredOnly .override fun station addressed args s =>
  if !addressed then s
  else match args with
    | [k, n, f] =>
      match itemKindOf k with
      | none => s.answer station true .override .format
      | some kind =>
        match forcedOf kind f with
        | none => s.answer station true .override .format
        | some forced =>
          if s.numberOutside kind n.toNat then s.answer station true .override .range
          else if s.heldByZone kind n.toNat then s.answer station true .override .busy
          else if forced = .forceClear ∧ s.minimumFails n.toNat = true then
            s.answer station true .override .refusedMinimum
          else
            ((s.enterOverride ⟨kind, n.toNat, forced⟩).applyForced forced n.toNat).answer station true .override .done
    | _ => s.answer station true .override .format

/-- A cylinder whose pin is removed (R190, R60). -/
def releaseCylinder (s : State) (forced : ForcedState) (c : Cylinder) : Cylinder :=
  if forced = .forceBear ∧ c.state = .bearing ∧ s.machine.phase = .bore ∧ s.thrust.strokeReached = false
      ∧ s.node.state ≠ .faulted then
    { c with state := .advancing }
  else s.reseatClear c

/-- An entry is removed and its item returns to automatic control (R190). -/
def cancelEntry (e : OverrideEntry) (s : State) : State :=
  let s := s.setOverrides (s.overrides.filter fun o => !o.isFor e.kind e.number)
  match e.kind with
  | .cylinder => (s.updateCylinder e.number (s.releaseCylinder e.forced)).cylinderPinChanged e.number
  | .port => (s.updatePort e.number fun p => { p with state := .opened, cuts := 0 }).testDose
  | .drive => s.updateDrive e.number s.testDrive

/-- Removes these entries one after another (R189). -/
def cancelEntries (es : List OverrideEntry) (s : State) : State := es.foldl (fun s e => s.cancelEntry e) s

/-- OVERRIDE_CANCEL (R189). -/
def serveOverrideCancel : ServiceTake := configuredOnly .overrideCancel fun station addressed args s =>
  match args with
  | [] =>
    if s.overrides.any (fun e => s.heldByZone e.kind e.number) then
      s.answer station addressed .overrideCancel .busy
    else (s.cancelEntries s.overrides).answer station addressed .overrideCancel .done
  | [k, n] =>
    match itemKindOf k with
    | none => s.answer station addressed .overrideCancel .format
    | some kind =>
      if s.numberOutside kind n.toNat then s.answer station addressed .overrideCancel .range
      else if s.heldByZone kind n.toNat then s.answer station addressed .overrideCancel .busy
      else (s.cancelEntries (s.overrides.filter (fun e => e.isFor kind n.toNat))).answer station addressed
        .overrideCancel .done
  | _ => s.answer station addressed .overrideCancel .format

end State

/-! ### Meanings -/

/-- OVERRIDE (R184). -/
def execOverride (sender target : Station) (args : List Byte) (s : State) : Outcome :=
  .next (s.receiveCommand State.serveOverride sender target args)

/-- OVERRIDE_CANCEL (R189). -/
def execOverrideCancel (sender target : Station) (args : List Byte) (s : State) : Outcome :=
  .next (s.receiveCommand State.serveOverrideCancel sender target args)

end Sys2Proof.Machine
end

