-- ==== Sys2Proof/Machine/Console.lean ====
section
/-! DEFINITION. The console service (Chapter 11): READ, WATCH_SET, WATCH_READ, NOTICES, ECHO, UNKNOWN_SERVICE_CODE. -/

namespace Sys2Proof.Machine

/-! ### Values of READ (R194) -/

/-- A value of a reply; `none` is absent (FFFFFFFFh). -/
abbrev Value := Option Nat

/-- Yes is 1 and no is 0. -/
def yesNo (b : Bool) : Value := some (if b then 1 else 0)

/-- A field listed "Set or clear" takes its place in that list. -/
def setOrClear (b : Bool) : Value := some (if b then 1 else 2)

/-- A set field: the sum of 2 to the power of (element - 1). -/
def setValue (xs : List Nat) : Value := some ((xs.map fun e => 2 ^ (e - 1)).sum)

/-- A list field gives one value for each place up to its capacity. -/
def places (n : Nat) (xs : List Nat) : List Value := (List.range n).map fun i => xs[i]?

/-- Every value absent. -/
def absent (n : Nat) : List Value := List.replicate n none

def halfValue (h : Half) : Value := some h.toNat

def cylStateValue : CylState → Nat
  | .bearing => 1 | .advancing => 2 | .retracting => 3 | .clear => 4 | .reseating => 5 | .parked => 6 | .failed => 7

def driveStateValue : DriveState → Nat
  | .stopped => 1 | .starting => 2 | .running => 3 | .stopping => 4 | .tripped => 5

def presenceValue : Presence → Nat
  | .present => 1 | .silent => 2 | .alien => 3

def pumpValue : PumpState → Nat
  | .idle => 1 | .dosing => 2 | .failed => 3

def doseEndingValue : DoseEnding → Nat
  | .complete => 1 | .cut => 2 | .stopped => 3 | .shut => 4 | .limit => 5

def carStateValue : CarState → Nat
  | .queued => 1 | .filling => 2 | .due => 3

def faultReasonValue : EngineFaultReason → Nat
  | .placed => 1 | .keyEarly => 2 | .keyMissing => 3 | .incomplete => 4

def faultCauseValue : FaultCause → Nat
  | .link => 1 | .pump => 2 | .erector => 3 | .screw => 4

def rejectValue : RejectReason → Nat
  | .length => 1 | .range => 2 | .notMember => 3 | .chain => 4 | .zoneMap => 5 | .muckOwner => 6 | .erectorOwner => 7

/-- Node states: UNCONFIGURED is 0, the others as a beacon codes them. -/
def nodeStateValue : NodeState → Nat
  | .unconfigured => 0 | .joining => 1 | .member => 2 | .faulted => 3

/-- The request kind of a refusal, by its kind code (Table 1-4). -/
def zoneKindValue : ZoneKind → Nat
  | .clear => 0x14 | .seat => 0x17

/-- Reasons of a failed round (R53). -/
def failReasonValue : FailReason → Nat
  | .refused r => (reasonCode r).toNat
  | .noVote => 0x20
  | .held => 0x21

def segmentValue : SegmentKind → Nat
  | .standard => 1 | .key => 2

/-- The fields of Table 1-6, the own restraint reasons as their four parts. -/
def beaconValues (b : Beacon) : List Value :=
  [some (beaconStateCode b.nodeState), some (phaseCodeNat b.phase), some (beaconGradeCode b.grade), yesNo b.roundOpen,
   yesNo b.noticePending, yesNo b.guardMode, yesNo b.steerPause, yesNo b.strokeReached, yesNo b.headCar,
   yesNo b.grout, yesNo b.muck, yesNo b.torqueHigh, yesNo b.face, halfValue b.ring, halfValue b.digest,
   halfValue b.advance, halfValue b.torque, halfValue b.shortfall, some b.engine.toNat]

/-- A hold record (R43). -/
def holdValues : Option HoldRecord → List Value
  | some r => [some (causeCode r.cause).toNat, some r.source, some r.ring, some (gradeCode r.grade).toNat, some r.further]
  | none => absent 5

/-- The fields of a step record (Table 6-1). -/
def stepValues (st : PlanStep) : List Value :=
  [some st.index, some st.position, some (segmentValue st.kind), some st.rotation, st.reseat]

/-- A plan record with nine places for steps (Table 6-2). -/
def planValues (p : Plan) : List Value :=
  [some p.identifier, some (if p.closedCount.isSome then 2 else 1), some p.opener.toNat, some p.steps.length,
   p.closedCount] ++ (p.steps.take 9).flatMap stepValues ++ absent (5 * (9 - p.steps.length))

/-- A ring record (Table 11-6). -/
def recordValues (r : RingRecord) : List Value :=
  [some r.ring, some r.advance, some r.delivered, some r.shortfall, setValue r.blocked, halfValue r.probes]
  ++ (match r.tallies with
    | some t => [some t.weighed, some t.carried, some t.uncarried, some t.excused, halfValue t.indexed]
    | none => absent 5)
  ++ (match r.statistics with
    | some t => [halfValue t.seatRetries, halfValue t.zoneRefusals]
    | none => absent 2)

/-- A member section, its list items at their capacity of six. -/
def sectionValues (m : MemberSection) : List Value :=
  [some m.drives, some m.cylinders, some m.ports, some m.priority, some m.chainStart] ++ places 6 m.nextPort
  ++ places 6 m.factors ++ [some m.muckOwner, some m.erectorOwner] ++ places 6 m.zones

/-- The machine section, the member numbers as eight values. -/
def machineValues (c : Configuration) : List Value :=
  [some c.members.length] ++ places 8 c.members ++
  [some c.positions, some c.hMin, some c.strokeTarget, some c.steerLimit, some c.creepSpeed, some c.ratedTorque,
   some c.guardIndex, some c.doseStrokes, some c.strokeVolume, some c.cutPressure, some c.shortfallOff,
   some c.shortfallOn, some c.shortfallHold, some c.massPerMm, some c.overdigAllowance, some c.spillLimit,
   some c.pMin, some c.pRelease, some c.pHigh, some c.contactPressure, some c.reseatPressure, some c.startRing]

namespace State

/-- Class CYL, item 0 (Table 4-3). -/
def advanceValues (s : State) : List Value :=
  [some s.thrust.sectorAdvance, some s.thrust.credited, some s.thrust.setpoint, setOrClear s.thrust.steerPause,
   setOrClear s.thrust.strokeReached]

/-- A cylinder record (Table 4-1). -/
def cylinderValues (s : State) (c : Cylinder) : List Value :=
  [some c.number, some (cylStateValue c.state), halfValue c.stroke, halfValue c.pressure, yesNo (s.contact c.pressure),
   yesNo c.fault, c.origin.map (·.toNat), c.reseatTarget, yesNo (s.cylPinned c),
   (s.forced .cylinder c.number).map forcedCode, some (s.zonePosition s.own c.number)]

/-- Class PORT, item 0 (Section 8.1, Table 8-4). The GROUT restraint flag, which no cell lists, is coded 1 set and 2 clear
(log 21); the elapsed time of a dose that has ended is the one it ended at (log 42). -/
def pumpValues (s : State) : List Value :=
  [some (pumpValue s.grout.pump), s.grout.pointer, some s.shortfallL, setOrClear s.grout.restrained]
  ++ (match s.grout.dose with
    | some d => [some d.port, some d.credited, some (d.elapsed / 1000), d.ending.map doseEndingValue]
    | none => absent 4)

/-- A port account (Table 8-1). Its pinned field gives the yes or no of its cell alone, no value for the forced state R183
speaks of (log 21). -/
def portValues (s : State) (p : Port) : List Value :=
  [some p.number, some (if p.state = .opened then 1 else 2), yesNo (s.pinned .port p.number),
   some (s.portFactor p.number), some (s.nextPort p.number), some p.owed, some p.delivered, some p.cuts]

/-- A drive record (Table 5-1). Its pinned field gives the yes or no of its cell alone, no value for the forced state R183
speaks of (log 21). -/
def driveValues (s : State) (d : Drive) : List Value :=
  [some d.number, some (driveStateValue d.state), halfValue d.speed, halfValue d.torque, yesNo d.fault,
   yesNo (s.pinned .drive d.number)]

/-- A view entry (Table 3-1); a time not running is absent (log 21). -/
def entryValues (e : ViewEntry) : List Value :=
  [some e.member, some (presenceValue e.presence)]
  ++ (match e.last with
    | some b => beaconValues b
    | none => absent 19)
  ++ [e.since, some e.strikes]

/-- Class CAR, item 0 (Table 9-1 without the queue). -/
def muckValues (s : State) : List Value :=
  [some (if s.muck.screw = .run then 1 else 2), setOrClear s.channels.screwFault, s.channels.face.map (·.toNat),
   setOrClear s.muck.faceRestrained, setOrClear s.muck.faceLow, s.muck.lastIndexed, setOrClear s.muck.muckRestrained,
   some s.muck.spill, some s.muck.weighed, some s.muck.carried, some s.muck.uncarried, some s.muck.excused,
   halfValue s.muck.indexed, some s.muck.machineAdvance, setOrClear s.muck.overdig]

/-- A car record (Table 9-2). -/
def carValues (c : Car) : List Value := [some c.number, some c.capacity, some c.fill, some (carStateValue c.state)]

/-- Class PLAN, item 0 (Table 7-1 with the fault record); a limit not running is absent (log 21). -/
def engineValues (s : State) : List Value :=
  let e := s.engine
  [some (engineCode e.state), s.currentStep.map (·.2.index),
   e.seated.map (fun seated => if seated then engineCode .reseating else engineCode .clearing),
   yesNo (e.seated == some true), some e.attempt, setValue e.zoneMembers, setValue e.answered, some e.retry,
   e.limit.map (· / 1000), setOrClear e.stopping, setOrClear e.closePending, setValue e.placed]
  ++ (match e.lastRefusal with
    | some r => [some r.member, some (zoneRefusalCode r.reason).toNat, some r.position, some (zoneKindValue r.kind),
        some r.attempt]
    | none => absent 5)
  ++ [halfValue e.seatRetries, halfValue e.zoneRefusals]
  ++ (match e.fault with
    | some f => [some (faultReasonValue f.reason), some f.plan, some f.index, some f.position]
    | none => absent 4)

/-- Class HOLD, item 1. -/
def phaseValues (s : State) : List Value :=
  [some (phaseCodeNat s.phaseCode),
   some (match s.machine.phase with
    | .hold g => (gradeCode g).toNat
    | .bore | .build => 0),
   yesNo s.machine.round.isSome, s.machine.round.map (fun r => (targetCode r.target).toNat)]

/-- Class HOLD, item 4 (Table 3-6). -/
def failureValues (s : State) : List Value :=
  match s.machine.lastFailure with
  | some f => [some (targetCode f.target).toNat, some f.station, some (failReasonValue f.reason)]
  | none => absent 3

/-- Class GUARD (Table 5-4). The guard mode, whose cell lists no values, is coded as the beacon codes it, 1 or 0, and a
sample timer not running is absent (log 21). -/
def guardValues (s : State) : List Value :=
  let g := s.drive.guard
  [g.level, setOrClear g.manual, setOrClear g.latch, yesNo g.mode, g.previous]
  ++ (match g.probe with
    | some p => [some p.elapsed, some p.weighted]
    | none => absent 2)
  ++ [g.timer]
  ++ (match g.last with
    | some p => [some (if p.isOver then 1 else 2), some p.mean, some p.level]
    | none => absent 3)
  ++ [some g.stalls, setOrClear g.jam, halfValue g.probes]

/-- Class COUNT (Table 11-5). -/
def counterValues (s : State) : List Nat :=
  let c := s.console.counters
  [c.badCheck, c.foreignSender, c.txqDrops, c.discardedProposals, c.failedVotes, c.dosesCompleted, c.cuts, c.seatRetries,
   c.uploadOverflows].map (·.toNat)

/-- Class CONFIG, item 0: the node-state record (R16). -/
def nodeValues (s : State) : List Value :=
  let n := s.node
  [some n.number, some (nodeStateValue n.state), n.cause.map faultCauseValue, halfValue n.furtherFaults,
   n.digest.map (·.toNat)]
  ++ (match n.collection with
    | some c => [some c.parts.length, some c.count, some c.sender.toNat]
    | none => absent 3)
  ++ (match n.lastRejection with
    | some r => [some (rejectValue r.reason), r.item, r.member]
    | none => absent 3)

/-- The plan queue, oldest first (R99). -/
def planQueue (s : State) : List Plan := s.plans.closed ++ s.plans.opened.toList

/-- A place of a class that may hold nothing. -/
def place {α : Type} (xs : List α) (item width : Nat) (values : α → List Value) : List Value :=
  match xs[item - 1]? with
  | some x => values x
  | none => absent width

end State

/-- The classes of Table 11-3. -/
inductive ReadClass where
  | cyl | port | drive | member | restraint | car | plan | ring | hold | guard | counters | config
  deriving DecidableEq, Repr

/-- Class codes. -/
def readClassOf (b : Byte) : Option ReadClass :=
  [none, some ReadClass.cyl, some .port, some .drive, some .member, some .restraint, some .car, some .plan, some .ring,
   some .hold, some .guard, some .counters, some .config][b.toNat]?.join

namespace State

/-- The last item of a class (Table 11-3). -/
def lastItem (s : State) : ReadClass → Nat
  | .cyl => s.ownSection.cylinders
  | .port => s.ownSection.ports
  | .drive => s.ownSection.drives
  | .member => 8
  | .restraint => 32
  | .car => 16
  | .plan => 5
  | .ring => 16
  | .hold => 4
  | .guard => 1
  | .counters => 9
  | .config => 9

end State

/-- Whether a class has an item 0 (Table 11-3). -/
def ReadClass.hasZero : ReadClass → Bool
  | .cyl | .port | .drive | .car | .plan | .config => true
  | .member | .restraint | .ring | .hold | .guard | .counters => false

namespace State

/-- The item exists in its class (Table 11-3). -/
def itemExists (s : State) (c : ReadClass) (item : Nat) : Bool :=
  (item != 0 || c.hasZero) && decide (item ≤ s.lastItem c)

/-- The values of an item (Table 11-3, R193, R194). -/
def itemValues (s : State) (c : ReadClass) (item : Nat) : List Value :=
  match c with
  | .cyl => if item = 0 then s.advanceValues else place s.thrust.cylinders item 11 s.cylinderValues
  | .port => if item = 0 then s.pumpValues else place s.grout.ports item 8 s.portValues
  | .drive =>
    if item = 0 then [some s.drive.setpoint, some s.ownTorque, some s.totalPercent]
    else place s.drive.drives item 6 s.driveValues
  | .member =>
    match s.entry? item with
    | some e => entryValues e
    | none => absent 23
  | .restraint => place s.thrust.restraints item 2 fun e => [some e.1, some (restraintCode e.2).toNat]
  | .car => if item = 0 then s.muckValues else place s.muck.queue item 4 carValues
  | .plan => if item = 0 then s.engineValues else place s.planQueue item 50 planValues
  | .ring => place s.console.records item 13 recordValues
  | .hold =>
    if item = 1 then s.phaseValues
    else if item = 2 then holdValues s.machine.current
    else if item = 3 then holdValues s.machine.previous
    else s.failureValues
  | .guard => s.guardValues
  | .counters => place s.counterValues item 1 fun n => [some n]
  | .config =>
    if item = 0 then s.nodeValues
    else if item = 1 then
      match s.node.config with
      | some c => machineValues c
      | none => absent 31
    else
      match s.memberSection? (item - 1) with
      | some m => sectionValues m
      | none => absent 25

/-! ### Data replies (R195) -/

/-- The frames of a data reply of `v` values. -/
def partCount (v : Nat) : Nat := max 1 ((v + 3) / 4)

/-- Queues part `k` of `n` of a data reply. -/
def queuePart (station : Station) (service : Byte) (k n : Nat) (values : List Value) (s : State) : State :=
  s.queueTagged station (.reply (replyPayload service .done k n (values.flatMap valueBytes))) .dataPart

/-- Starts a data reply: its values are taken now, and part 1 is queued. -/
def startDataReply (station : Station) (service : Service) (values : List Value) (s : State) : State :=
  let n := partCount values.length
  (s.setConsole { s.console with
    dataReply := some ⟨station, serviceCode service, 1, n, values.drop 4⟩ }).queuePart station (serviceCode service) 1 n
      (values.take 4)

/-- A part has ended SENT: the next part is queued, or the reply is complete. -/
def nextPart (s : State) : State :=
  match s.console.dataReply with
  | none => s
  | some r =>
    if r.part < r.count then
      (s.setConsole { s.console with
        dataReply := some { r with part := r.part + 1, values := r.values.drop 4 } }).queuePart r.station r.service
          (r.part + 1) r.count (r.values.take 4)
    else s.endDataReply

/-! ### READ (R193) -/

/-- The node answers STATE for a class (R193 check 3). -/
def classShut (s : State) (c : ReadClass) : Bool :=
  (!s.configured && c != .counters && c != .config) || (c == .car && !s.ownsMuck)

/-- The checks of R193 from the second on. -/
def readItems (station : Station) (c : ReadClass) (first count : Nat) (s : State) : State :=
  if s.console.dataReply.isSome then s.answer station true .read .busy
  else if s.classShut c then s.answer station true .read .state
  else if count = 0 ∨ !(List.range count).all (fun i => s.itemExists c (first + i)) then s.answer station true .read .range
  else s.startDataReply station .read ((List.range count).flatMap fun i => s.itemValues c (first + i))

/-- READ (R193). A broadcast one is not taken. -/
def serveRead : ServiceTake := fun station addressed args s =>
  if !addressed then s
  else match args with
    | [c, first, count] =>
      match readClassOf c with
      | some cls => s.readItems station cls first.toNat count.toNat
      | none => s.answer station true .read .format
    | _ => s.answer station true .read .format

/-! ### The watch list (R196) -/

/-- Reads watch items of three bytes each; `none` when the length is not a multiple of three. -/
def watchItemsOf : List Byte → Option (List WatchItem)
  | [] => some []
  | c :: i :: v :: rest => (watchItemsOf rest).map fun more => ⟨c.toNat, i.toNat, v.toNat⟩ :: more
  | _ => none

/-- The class of a watch item. -/
def watchClass (w : WatchItem) : Option ReadClass := readClassOf (byteOf w.cls)

/-- The item and the value within it exist in the class (R196 check 4). -/
def watchExists (s : State) (w : WatchItem) : Bool :=
  match watchClass w with
  | some c => s.itemExists c w.item && decide (1 ≤ w.value ∧ w.value ≤ (s.itemValues c w.item).length)
  | none => false

/-- The value a watch item names. -/
def watchValue (s : State) (w : WatchItem) : Value :=
  match watchClass w with
  | some c => if w.value = 0 then none else ((s.itemValues c w.item)[w.value - 1]?).join
  | none => none

/-- The watch list a WATCH_SET asks for: REPLACE or APPEND. -/
def watchResult (s : State) (mode : Byte) (items : List WatchItem) : List WatchItem :=
  if mode = 2 then s.console.watch ++ items else items

/-- WATCH_SET (R196). A broadcast one is not taken. -/
def serveWatchSet : ServiceTake := fun station addressed args s =>
  if !addressed then s
  else match args with
    | mode :: rest =>
      match watchItemsOf rest with
      | some items =>
        if 7 < items.length ∨ (mode ≠ 1 ∧ mode ≠ 2) ∨ items.any (fun w => (watchClass w).isNone) then
          s.answer station true .watchSet .format
        else if s.console.dataReply.isSome then s.answer station true .watchSet .busy
        else if !s.configured || (items.any (fun w => watchClass w == some .car) && !s.ownsMuck) then
          s.answer station true .watchSet .state
        else if !items.all s.watchExists || decide (16 < (s.watchResult mode items).length) then
          s.answer station true .watchSet .range
        else
          (s.setConsole { s.console with watch := s.watchResult mode items }).answer station true .watchSet .done
      | none => s.answer station true .watchSet .format
    | [] => s.answer station true .watchSet .format

/-- WATCH_READ (R196). A broadcast one is not taken. -/
def serveWatchRead : ServiceTake := fun station addressed args s =>
  if !addressed then s
  else if !args.isEmpty then s.answer station true .watchRead .format
  else if s.console.dataReply.isSome then s.answer station true .watchRead .busy
  else if !s.configured then s.answer station true .watchRead .state
  else s.startDataReply station .watchRead (s.console.watch.map s.watchValue)

/-! ### NOTICES, ECHO, unknown codes -/

/-- NOTICES (R197). -/
def serveNotices : ServiceTake := fun station addressed args s =>
  if args.isEmpty then
    s.answerWith station addressed (serviceCode .notices) .done (valueBytes (some s.console.notices.toNat))
      (.notices s.console.notices)
  else s.answer station addressed .notices .format

/-- ECHO (R199). -/
def serveEcho : ServiceTake := fun station addressed args s =>
  if args.length ≤ 19 then s.answerWith station addressed (serviceCode .echo) .done args .plain
  else s.answer station addressed .echo .format

/-- A service code that is not in Table 1-5 (R12). -/
def serveUnknown (service : Byte) : ServiceTake := fun station addressed _ s =>
  s.answerWith station addressed service .format [] .plain

end State

/-! ### Meanings -/

/-- READ (R193). -/
def execRead (sender target : Station) (args : List Byte) (s : State) : Outcome :=
  .next (s.receiveCommand State.serveRead sender target args)

/-- WATCH_SET (R196). -/
def execWatchSet (sender target : Station) (args : List Byte) (s : State) : Outcome :=
  .next (s.receiveCommand State.serveWatchSet sender target args)

/-- WATCH_READ (R196). -/
def execWatchRead (sender target : Station) (args : List Byte) (s : State) : Outcome :=
  .next (s.receiveCommand State.serveWatchRead sender target args)

/-- NOTICES (R197). -/
def execNotices (sender target : Station) (args : List Byte) (s : State) : Outcome :=
  .next (s.receiveCommand State.serveNotices sender target args)

/-- ECHO (R199). -/
def execEcho (sender target : Station) (args : List Byte) (s : State) : Outcome :=
  .next (s.receiveCommand State.serveEcho sender target args)

/-- UNKNOWN_SERVICE_CODE (R12). -/
def execUnknownServiceCode (sender target : Station) (service : Byte) (args : List Byte) (s : State) : Outcome :=
  .next (s.receiveCommand (State.serveUnknown service) sender target args)

end Sys2Proof.Machine
end

