-- ==== Sys2Proof/Machine/Configuration.lean ====
section
/-! DEFINITION. The configuration store and the node state (Chapter 2): CONFIGURE, RESTART, CLEAR_FAULT. -/

namespace Sys2Proof.Machine

/-! ### Reading the content (Table 2-3, R20) -/

/-- Reads one quantity of `w` bytes, high byte first. -/
def readNumber : Nat → Nat → List Byte → Option (Nat × List Byte)
  | 0, acc, bs => some (acc, bs)
  | w + 1, acc, b :: bs => readNumber w (acc * 256 + b.toNat) bs
  | _ + 1, _, [] => none

/-- Reads quantities of the given widths. -/
def readFields : List Nat → List Byte → Option (List Nat × List Byte)
  | [], bs => some ([], bs)
  | w :: ws, bs =>
    match readNumber w 0 bs with
    | some (n, bs) => (readFields ws bs).map fun (ns, bs) => (n :: ns, bs)
    | none => none

/-- Reads one member section; items 26 and 27 as read fix its length. -/
def readSection (bs : List Byte) : Option (MemberSection × List Byte) :=
  match readFields [1, 1, 1, 1, 1] bs with
  | some ([drives, cylinders, ports, priority, start], bs) =>
    match readFields (List.replicate ports 1) bs with
    | some (nexts, bs) =>
      match readFields (List.replicate ports 2) bs with
      | some (factors, bs) =>
        match readFields [1, 1] bs with
        | some ([muck, erector], bs) =>
          (readFields (List.replicate cylinders 1) bs).map fun (zones, bs) =>
            (⟨drives, cylinders, ports, priority, start, nexts, factors, muck, erector, zones⟩, bs)
        | _ => none
      | none => none
    | none => none
  | _ => none

/-- Reads `n` member sections. -/
def readSections : Nat → List Byte → Option (List MemberSection × List Byte)
  | 0, bs => some ([], bs)
  | n + 1, bs =>
    match readSection bs with
    | some (m, bs) => (readSections n bs).map fun (ms, bs) => (m :: ms, bs)
    | none => none

/-- Widths of items 3 to 24. -/
def machineWidths : List Nat := [1, 1, 2, 1, 1, 2, 1, 1, 2, 2, 2, 2, 2, 2, 2, 2, 2, 2, 2, 2, 2, 2]

/-- Items 1 to 24, the sections still to be read. -/
def machineOf (members : List Nat) : List Nat → Option Configuration
  | [positions, hMin, stroke, steer, creep, rated, guard, strokes, volume, cut, off, on, hold, mass, allowance, spill,
     pMin, pRelease, pHigh, contact, reseat, start] =>
    some { members := members, positions := positions, hMin := hMin, strokeTarget := stroke, steerLimit := steer
           creepSpeed := creep, ratedTorque := rated, guardIndex := guard, doseStrokes := strokes
           strokeVolume := volume, cutPressure := cut, shortfallOff := off, shortfallOn := on, shortfallHold := hold
           massPerMm := mass, overdigAllowance := allowance, spillLimit := spill, pMin := pMin, pRelease := pRelease
           pHigh := pHigh, contactPressure := contact, reseatPressure := reseat, startRing := start, sections := [] }
  | _ => none

/-- Reads the joined content; `none` for the reason LENGTH, a member count out of range among them. -/
def readConfiguration (content : List Byte) : Option Configuration :=
  match readFields [1] content with
  | some ([count], bs) =>
    if 2 ≤ count ∧ count ≤ 8 then
      match readFields (List.replicate count 1) bs with
      | some (members, bs) =>
        match readFields machineWidths bs with
        | some (items, bs) =>
          match machineOf members items, readSections count bs with
          | some c, some (sections, []) => some { c with sections := sections }
          | _, _ => none
        | none => none
      | none => none
    else none
  | _ => none

/-! ### The RANGE check (Table 2-3, R21) -/

/-- A condition of the RANGE check that fails, with its item and the member concerned. -/
abbrev RangeCheck := Bool × Nat × Option Nat

/-- An item outside its range. -/
def outside (lo hi n item : Nat) (member : Option Nat) : RangeCheck := (!decide (lo ≤ n ∧ n ≤ hi), item, member)

/-- The members with their sections. -/
def Configuration.bySection (c : Configuration) : List (Nat × MemberSection) := c.members.zip c.sections

/-- The checks of the machine section, in item order. -/
def machineChecks (c : Configuration) : List RangeCheck :=
  [(!c.members.all (fun n => decide (1 ≤ n ∧ n ≤ 8)) || !decide c.members.Nodup, 2, none),
   outside 5 9 c.positions 3 none, outside 1 5 c.hMin 4 none]
  ++ c.bySection.map (fun m => (!decide (c.hMin < m.2.cylinders), 4, some m.1))
  ++ [outside 800 2400 c.strokeTarget 5 none, outside 5 100 c.steerLimit 6 none, outside 1 20 c.creepSpeed 7 none,
   outside 1000 20000 c.ratedTorque 8 none, outside 0 7 c.guardIndex 9 none, outside 4 64 c.doseStrokes 10 none,
   outside 100 2000 c.strokeVolume 11 none, outside 100 1500 c.cutPressure 12 none,
   outside 1 2000 c.shortfallOff 13 none, outside 1 2000 c.shortfallOn 14 none,
   (!decide (c.shortfallOff < c.shortfallOn ∧ c.shortfallOn < c.shortfallHold), 14, none),
   outside 1 2000 c.shortfallHold 15 none, outside 1 500 c.massPerMm 16 none,
   outside 0 50000 c.overdigAllowance 17 none, outside 100 10000 c.spillLimit 18 none, outside 0 800 c.pMin 19 none,
   outside 0 800 c.pRelease 20 none, (!decide (c.pMin < c.pRelease ∧ c.pRelease < c.pHigh), 20, none),
   outside 0 800 c.pHigh 21 none, outside 500 5000 c.contactPressure 22 none,
   outside 1000 35000 c.reseatPressure 23 none, outside 1 65000 c.startRing 24 none]

/-- The checks of one member section, in item order. -/
def sectionChecks (c : Configuration) (m : Nat × MemberSection) : List RangeCheck :=
  let s := m.2
  let who := some m.1
  [outside 0 4 s.drives 25 who, outside 2 6 s.cylinders 26 who, outside 0 6 s.ports 27 who,
   outside 0 (min 3 s.ports) s.priority 28 who, outside 0 (min 6 s.ports) s.chainStart 29 who,
   (!s.nextPort.all (fun n => decide (n ≤ min 6 s.ports)), 30, who),
   (!s.factors.all (fun n => decide (1 ≤ n ∧ n ≤ 500)), 31, who), outside 0 1 s.muckOwner 32 who,
   outside 0 1 s.erectorOwner 33 who, (!s.zones.all (fun n => decide (1 ≤ n ∧ n ≤ c.positions)), 34, who)]

/-- The first check of RANGE that fails, with its item and member: the machine section, then member by member in the listed
order, each member's items in order (log 24). -/
def rangeFailure (c : Configuration) : Option (Nat × Option Nat) :=
  ((machineChecks c ++ c.bySection.flatMap (sectionChecks c)).find? (·.1)).map (·.2)

/-! ### The other checks (Table 2-4, R22) -/

/-- The next-port entry of a port of a section. -/
def MemberSection.next (m : MemberSection) (n : Nat) : Nat := if n = 0 then 0 else (m.nextPort[n - 1]?).getD 0

/-- A port of a section is a chain port. -/
def MemberSection.chainPort (m : MemberSection) (n : Nat) : Bool := decide (m.priority < n ∧ n ≤ m.ports)

/-- The ports met by following the next-port entries from a port, `k` of them. -/
def MemberSection.walk (m : MemberSection) : Nat → Nat → List Nat
  | 0, _ => []
  | k + 1, n => n :: m.walk k (m.next n)

/-- The CHAIN check of one member (R22). -/
def MemberSection.chainPasses (m : MemberSection) : Bool :=
  let k := m.ports - m.priority
  let chain := (List.range k).map (fun i => m.priority + i + 1)
  (List.range m.priority).all (fun i => m.next (i + 1) == 0)
  && (if k = 0 then m.chainStart == 0
      else if k = 1 then false
      else chain.all (fun n => m.chainPort (m.next n) && m.next n != n) && m.chainPort m.chainStart
        && decide (m.walk k m.chainStart).Nodup && (m.walk (k + 1) m.chainStart).getLast? == some m.chainStart)

/-- The member a CHAIN rejection names: of those whose port tables fail, the first in the listed order (log 6). -/
def chainFailure (c : Configuration) : Option Nat :=
  (c.bySection.find? (fun m => !m.2.chainPasses)).map (·.1)

/-- Every position has a cylinder of some member mapped to it. -/
def zonesCovered (c : Configuration) : Bool :=
  (List.range c.positions).all fun i => c.sections.any (fun m => m.zones.contains (i + 1))

/-- What validation finds: the rejection, or that every check passes. The free values are log 6's. -/
def rejection (own index : Nat) (c : Configuration) : Option Rejection :=
  match rangeFailure c with
  | some (item, member) => some ⟨.range, some item, member⟩
  | none =>
    if !c.members.contains own then some ⟨.notMember, none, some own⟩
    else match chainFailure c with
      | some member => some ⟨.chain, some (Config.freeRejectItem index), some member⟩
      | none =>
        if !zonesCovered c then some ⟨.zoneMap, some 34, Config.freeRejectMember index⟩
        else if c.sections.countP (fun m => m.muckOwner == 1) ≠ 1 then some ⟨.muckOwner, none, none⟩
        else if c.sections.countP (fun m => m.erectorOwner == 1) ≠ 1 then some ⟨.erectorOwner, none, none⟩
        else none

namespace State

/-! ### Validation (R20, R23) -/

/-- A collection is rejected (R20). -/
def rejectCollection (r : Rejection) (s : State) : State :=
  (s.setNode { s.node with collection := none, lastRejection := some r }).stepFree.notify .configRejected

/-- The store, the engine and the erector channel at validation (R100, Table 7-1, R120). -/
def buildEngine (s : State) : State :=
  if s.ownsErector then
    let s := s.setPlans { closed := [], opened := none }
    let s := s.setEngine { resetEngine with state := .idle, erector := .ready }
    if s.channels.erectorFault then s.takeFault .erector else s
  else s

/-- The grout unit at validation (R142). -/
def buildGrout (s : State) : State :=
  s.setGrout { s.grout with
    ports := (List.range s.ownSection.ports).map fun i => ⟨i + 1, .opened, 0, 0, 0⟩
    pointer := some s.ownSection.chainStart
    pump := .idle, dose := none, restrained := false }

/-- The muck unit at validation (R164). -/
def buildMuck (s : State) : State :=
  if s.ownsMuck then
    let s := s.setMuck resetMuck
    let s := if s.channels.screwFault then s.takeFault .screw else s
    s.testFace.testMuck
  else s

/-- The units take their values for a configured node (R56, R82, R89, R100, R120, R142, R164; log 16). -/
def buildUnits (s : State) : State :=
  let s := s.setCylinders s.builtCylinders
  let s := s.setDrives s.builtDrives
  let s := s.setGuard { s.drive.guard with level := some s.cfg.guardIndex }
  s.buildEngine.buildGrout.buildMuck

/-- The digest of the parts of a collection (R23). -/
def partsDigest (count : Nat) (parts : List (List Byte)) : Half :=
  crc ((parts.zipIdx.map fun p => byteOf (p.2 + 1) :: byteOf count :: p.1).flatten)

/-- The node enters JOINING: a listen window begins and a beacon is queued (R24, R31). -/
def enterJoining (s : State) : State :=
  let s := s.setNode { s.node with state := .joining, listen := some 0 }
  (s.setMachine { s.machine with beaconTimer := 0 }).queueBeacon

/-- A configuration is stored (R23). -/
def storeConfiguration (c : Configuration) (digest : Half) (s : State) : State :=
  let s := s.setNode { s.node with config := some c, digest := some digest, collection := none }
  let s := s.setRing c.startRing
  let s := s.setView s.freshView
  s.enterJoining.buildUnits

/-- Validation of a whole collection (R20). -/
def validate (count : Nat) (parts : List (List Byte)) (s : State) : State :=
  match readConfiguration parts.flatten with
  | none => s.rejectCollection ⟨.length, none, Config.freeRejectMember s.freeIndex⟩
  | some c =>
    match rejection s.own s.freeIndex c with
    | some r => s.rejectCollection r
    | none => s.storeConfiguration c (partsDigest count parts)

/-! ### Collection (R18, R19) -/

/-- The collection is discarded and CONFIG_ORDER set. -/
def partOutOfTurn (s : State) : State := (s.setNode { s.node with collection := none }).notify .configOrder

/-- A part is held; the last one starts validation. -/
def holdPart (sender : Station) (count : Nat) (parts : List (List Byte)) (s : State) : State :=
  if parts.length = count then s.validate count parts
  else s.setNode { s.node with collection := some ⟨sender, count, parts⟩ }

/-- A part that may begin a collection. -/
def beginsCollection (k n : Nat) : Bool := k == 1 && decide (1 ≤ n ∧ n ≤ 32)

/-- A part (k, n) with its content, of form (R18, R19). -/
def takePart (sender : Station) (k n : Nat) (content : List Byte) (s : State) : State :=
  match s.node.collection with
  | none => if beginsCollection k n then s.holdPart sender n [content] else s.partOutOfTurn
  | some c =>
    if k = c.parts.length + 1 ∧ n = c.count ∧ sender = c.sender then s.holdPart sender n (c.parts ++ [content])
    else if sender = c.sender ∧ k = c.parts.length ∧ n = c.count ∧ c.parts.getLast? = some content then s
    else if beginsCollection k n then s.partOutOfTurn.holdPart sender n [content]
    else s.partOutOfTurn

/-- An accepted CONFIGURE frame (R18). -/
def takeConfigure (sender : Station) (payload : List Byte) (s : State) : State :=
  if s.node.state = .unconfigured then
    match payload with
    | k :: n :: b :: content => s.takePart sender k.toNat n.toNat (b :: content)
    | _ => s.partOutOfTurn
  else s

/-! ### Warm restart (R27, R14, R54) -/

/-- The transmit queue is emptied and the transmitter runs (R14). A RING_CLOSED that waits to be queued again is given
up with it. -/
def restartLink (s : State) : State :=
  let s := s.setEngine { s.engine with requeue := none }
  let s := s.setWire (s.link.onWire.map fun w => { w with tx := { w.tx with discard := true } })
  let s := s.removePending
  s.setLink { s.link with transmitting := true }

/-- Warm restart at the plan store and the engine (R100, R112, Table 7-1). -/
def restartEngine (s : State) : State :=
  let s := if s.engine.seated.isSome then s.dropStep else s
  let s := s.setPlans { closed := [], opened := none }
  s.setEngine { s.engine with
    state := .disabled, seated := none, zoneMembers := [], answered := [], retry := 0, limit := none
    stopping := false, closePending := false }

/-- A FAILED pump becomes IDLE (R161, R162). -/
def clearPump (s : State) : State :=
  if s.grout.pump = .failed then s.setGrout { s.grout with pump := .idle } else s

/-- Warm restart at the units, the override table already emptied (R63, R89, R100, R161, R182, R196). -/
def restartUnits (s : State) : State :=
  let s := s.restartCylinders.restartGuard.restartEngine
  let s := s.stopDose.clearPump
  s.setConsole { s.console with watch := [] }

/-- A warm restart (R27; order: log 17). -/
def warmRestart (s : State) : State :=
  let s := s.restartLink.imposeHold .restart (always := true)
  let s := (s.setView s.freshView).setOverrides []
  let s := s.restartUnits.restartRestraints.updateMachineAdvance
  let s := s.setNode { s.node with cause := none, furtherFaults := 0 }
  let s := s.enterJoining
  s.testDrives.commandScrew.testDose

/-- An accepted RESTART (R27); a node without a configuration ignores it. -/
def takeRestart (s : State) : State := if s.configured then s.warmRestart else s

/-! ### CLEAR_FAULT (R28) -/

/-- The erector channel is released (R120). -/
def releaseErector (s : State) : State :=
  if s.ownsErector then
    let s := if s.engine.erector = .halted then s.setEngine { s.engine with erector := .ready } else s
    if s.channels.erectorFault then s.takeFault .erector else s
  else s

/-- The screw channel is released (R166). -/
def releaseScrew (s : State) : State := if s.ownsMuck && s.channels.screwFault then s.takeFault .screw else s

/-- The units clear their channel states (R28, R62, R87, R162, R120, R166), and test what a change of node state and
the dose condition ask for (R84, R165, R146). Order: log 18. -/
def clearUnits (leavesFaulted : Bool) (s : State) : State :=
  let s := (s.clearCylinders leavesFaulted).clearDrives.clearPump
  let s := s.releaseErector.releaseScrew
  s.testDrives.commandScrew.testDose

/-- The change of node state (R28); the answer is the first frame queued after it (R14). -/
def leaveFaulted (s : State) : State :=
  match s.node.state with
  | .faulted =>
    let s := s.setLink { s.link with transmitting := true }
    if s.configured then s.setNode { s.node with state := .member, cause := none, furtherFaults := 0 }
    else (s.setNode { s.node with state := .unconfigured, cause := none, collection := none }).setView []
  | .joining | .member | .unconfigured => s

/-- CLEAR_FAULT taken in HOLD at a node that is not UNCONFIGURED (R28). The origin is captured whenever the first-membership
flag is set (R62, R65); only a node that becomes MEMBER clears the flag (log 43). -/
def clearsFault (station : Station) (addressed : Bool) (s : State) : State :=
  let leaves := s.node.state = .faulted && s.configured
  let s := s.leaveFaulted.answer station addressed .clearFault .done
  let s := if leaves then s.firstMember else if s.node.firstMembership then s.captureOrigin else s
  s.clearUnits leaves

/-- CLEAR_FAULT (R28). -/
def serveClearFault : ServiceTake := fun station addressed args s =>
  if s.node.state = .unconfigured then s.answer station addressed .clearFault .state
  else if !args.isEmpty then s.answer station addressed .clearFault .format
  else if s.inHold then s.clearsFault station addressed
  else s.answer station addressed .clearFault .state

end State

/-! ### Meanings -/

/-- CONFIGURE (R18). -/
def execConfigure (sender target : Station) (payload : List Byte) (s : State) : Outcome :=
  .next (s.receive .console sender target (State.takeConfigure sender payload))

/-- RESTART (R27). -/
def execRestart (sender target : Station) (s : State) : Outcome :=
  .next (s.receive .console sender target State.takeRestart)

/-- CLEAR_FAULT (R28). -/
def execClearFault (sender target : Station) (args : List Byte) (s : State) : Outcome :=
  .next (s.receiveCommand State.serveClearFault sender target args)

end Sys2Proof.Machine
end

