-- ==== Sys2Proof/Machine/Link.lean ====
section
/-! DEFINITION. The shield link (Chapter 1): delivery of frames, ARBITRATION, LOOPBACK_CHECK, BAD_FRAME, REPLY, and
COLD_RESET. -/

namespace Sys2Proof.Machine

/-- What takes each service of Table 1-5; a code that is not in it is answered FORMAT (R12). -/
def serviceTake (service : Byte) : State.ServiceTake :=
  match service.toNat with
  | 0x01 => State.serveRead
  | 0x02 => State.serveWatchSet
  | 0x03 => State.serveWatchRead
  | 0x04 => State.serveNotices
  | 0x05 => State.serveEcho
  | 0x06 => State.serveClearFault
  | 0x10 => State.serveGuardOn
  | 0x11 => State.serveGuardOff
  | 0x12 => State.serveGuardLevel
  | 0x13 => State.serveGuardProbe
  | 0x14 => State.serveGuardReset
  | 0x20 => State.serveOverride
  | 0x21 => State.serveOverrideCancel
  | 0x30 => State.servePlanOpen
  | 0x31 => State.servePlanStep
  | 0x32 => State.servePlanClose
  | 0x33 => State.servePlanAbort
  | 0x34 => State.servePlanStop
  | 0x35 => State.servePlanFlush
  | 0x36 => State.servePlanEnable
  | 0x37 => State.servePlanResume
  | 0x40 => State.serveUnblock
  | 0x50 => State.serveTrainArrive
  | 0x51 => State.serveCarIndexed
  | 0x52 => State.serveOverdigExcuse
  | _ => State.serveUnknown service

namespace State

/-! ### Delivery (R12, Table 1-2) -/

/-- An accepted frame of another station reaches the block that owns its kind. -/
def deliver (f : Frame) (s : State) : State :=
  match f.body with
  | .hold cause grade => s.takeHoldFrame f.sender cause grade
  | .propose t => s.takePropose t
  | .vote t a => s.recordVote f.sender.toNat t a
  | .restrain p => s.takeRestrain f.sender p
  | .release p => s.takeRelease f.sender p
  | .zoneClear p => s.takeZoneClear f.sender.toNat p
  | .zoneCleared p => s.takeZoneAnswer .clearing f.sender.toNat p
  | .zoneRefused p => s.takeZoneRefused f.sender.toNat p
  | .zoneSeat p => s.takeZoneSeat f.sender.toNat p
  | .zoneHeld p => s.takeZoneAnswer .reseating f.sender.toNat p
  | .ringClosed p => s.takeRingClosed f.sender.toNat p
  | .beacon b => s.takeBeacon f.sender b
  | .configure p => s.takeConfigure f.sender p
  | .setpoint p => s.takeSetpoint p
  | .ringSet p => s.takeRingSet p
  | .restart => s.takeRestart
  | .command service args => serviceTake service f.sender (f.target != 0) args s
  | .reply _ => s

/-- A well-formed frame of another station is filtered and, when accepted, delivered (R11, R12). -/
def receiveFrame (f : Frame) (s : State) : State := s.receive (sentBy f.body) f.sender f.target (State.deliver f)

/-- Received bytes: a bad frame is counted (R2, R11 test 1), a well-formed one is filtered. -/
def receiveBytes (bytes : List Byte) (s : State) : State :=
  match parseFrame bytes with
  | some f => s.receiveFrame f
  | none => s.countBadCheck

/-- The node's own frame heard back matching passes the filter while the node holds a configuration that lists it, and
is taken by its blocks; HOLD, RESTRAIN and RELEASE change nothing, a REPLY is ignored (R11, R12). -/
def deliverOwn (body : Body) (s : State) : State :=
  if s.configured && s.isMember s.own then
    match body with
    | .vote t a => s.recordVote s.own t a
    | .zoneClear p => s.takeZoneClear s.own p
    | .zoneCleared p => s.takeZoneAnswer .clearing s.own p
    | .zoneRefused p => s.takeZoneRefused s.own p
    | .zoneSeat p => s.takeZoneSeat s.own p
    | .zoneHeld p => s.takeZoneAnswer .reseating s.own p
    | .ringClosed p => s.takeRingClosed s.own p
    | .beacon b => s.ownBeaconHeard b
    | .hold _ _ | .restrain _ | .release _ | .reply _ | .propose _ | .configure _ | .setpoint _ | .ringSet _ | .restart
    | .command _ _ => s
  else s

/-! ### Arbitration (R3) -/

/-- At bus idle the frame at the head of the queue is started (R3); a stopped transmitter starts none (R10). -/
def startFrame (s : State) : State :=
  match s.link.transmitting, s.link.onWire, s.link.queue with
  | true, none, f :: rest => (s.setWire (some ⟨f, false⟩)).setQueue rest
  | _, _, _ => s

/-- The pending beacon, when there is one. -/
def pendingBeacon (s : State) : Option TxFrame := s.link.queue.find? (fun f => isBeacon f.frame.body)

/-- A frame that lost arbitration returns to its old place (R3). A beacon met there by a newer pending one carries the
newer contents, and the newer one is withdrawn (R5). -/
def returnLost (f : TxFrame) (s : State) : State :=
  let s := s.setWire none
  match s.pendingBeacon with
  | some newer =>
    if isBeacon f.frame.body then
      let f := { f with frame := { f.frame with body := newer.frame.body } }
      ((s.setQueue (insertTx f (s.link.queue.erase newer))).frameEnded newer .removed).retryRingClosed
    else s.setQueue (insertTx f s.link.queue)
  | none => s.setQueue (insertTx f s.link.queue)

/-- The key is sent against the keys contending: a numerically lower one is met as a dominant bit (R3). -/
def settleFrame (contenders : List Key) (s : State) : State :=
  match s.link.onWire with
  | some w =>
    if w.won then s
    else if contenders.all (fun k => decide (frameKey w.tx.frame ≤ k)) then s.setWire (some { w with won := true })
    else s.returnLost w.tx
  | none => s

/-! ### Loopback (R9) -/

/-- The engine tests R121 when close pending has cleared (R127). -/
def closeCleared (before : Bool) (s : State) : State :=
  if before && !s.engine.closePending then s.takeHeadStep else s

/-- The ending SENT is reported to the block that queued the frame (R8): the next part of a data reply (R195), the
flags of a NOTICES reply (R197), close pending (R129). -/
def reportSent (f : TxFrame) (s : State) : State :=
  match f.tag with
  | .dataPart => s.nextPart
  | .notices reported => s.clearNotices reported
  | .plain => match f.frame.body with
    | .ringClosed _ => s.frameEnded f .sent
    | _ => s

/-- The frame was heard back matching (R9): it is delivered to the node's own blocks and ends SENT. -/
def heardBack (w : WireFrame) (s : State) : State :=
  let before := s.engine.closePending
  let s := (s.setWire none).deliverOwn w.tx.frame.body
  ((s.reportSent w.tx).closeCleared before).retryRingClosed

/-- A frame of the wire ends other than SENT. -/
def wireEnds (f : TxFrame) (e : Ending) (s : State) : State :=
  let before := s.engine.closePending
  ((s.setWire none).frameEnded f e).closeCleared before

/-- Hands a failure count on to the pending beacon (R5). -/
def inheritFailures (n : Nat) (s : State) : State :=
  s.setQueue (s.link.queue.map fun f => if isBeacon f.frame.body then { f with failures := n } else f)

/-- A newer beacon is pending when a beacon on the wire fails: the older one is discarded (R5). -/
def beaconSuperseded (f : TxFrame) (s : State) : Bool := isBeacon f.frame.body && s.pendingBeacon.isSome

/-- The failed frame leaves the wire REMOVED; a newer beacon takes over its failure count (R5), but for a third failure,
which only a frame marked for discard meets here (log 9). -/
def discardFailed (f : TxFrame) (n : Nat) (s : State) : State :=
  let superseded := s.beaconSuperseded f && decide (n < 3)
  let s := s.wireEnds f .removed
  (if superseded then s.inheritFailures n else s).retryRingClosed

/-- A transmission has failed (R9): the frame is discarded when it is so marked (R7, R14) or, before its third failure,
when a newer beacon stands for it (R5), sent again after a first or second failure, and otherwise ends FAILED with the
LINK fault (R10). -/
def transmissionFailed (w : WireFrame) (s : State) : State :=
  let n := w.tx.failures + 1
  if w.tx.discard then s.discardFailed w.tx n
  else if 3 ≤ n then (s.wireEnds w.tx .failed).linkFault
  else if s.beaconSuperseded w.tx then s.discardFailed w.tx n
  else (s.setWire none).setQueue (insertTx { w.tx with failures := n } s.link.queue)

/-- A failed transmission, whatever the reception of the bytes heard has left on the wire. -/
def failWire (s : State) : State :=
  match s.link.onWire with
  | some w => s.transmissionFailed w
  | none => s

/-- The loopback check of a frame that has won the bus (R9). -/
def checkLoopback (heard : Heard) (w : WireFrame) (s : State) : State :=
  match heard with
  | .same => s.heardBack w
  | .bytes received =>
    if received = encodeFrame w.tx.frame then s.heardBack w else (s.receiveBytes received).failWire
  | .nothing => s.failWire

end State

/-! ### Meanings -/

/-- COLD_RESET (R16): every block at its cold-reset value. The commands that wait are the world's and stay. -/
def execColdReset (straps : BitVec 3) (s : State) : Outcome :=
  .next (((State.coldReset straps).setPending s.pending).setFreeIndex s.freeIndex)

/-- BAD_FRAME (R11): received bytes. -/
def execBadFrame (received : List Byte) (s : State) : Outcome := .next (s.receiveBytes received)

/-- ARBITRATION (R3). -/
def execArbitration (event : ArbitrationEvent) (contenders : List Key) (s : State) : Outcome :=
  match event with
  | .start => .next s.startFrame
  | .settle => .next (s.settleFrame contenders)
  | .whole => if s.link.onWire.isNone then .next (s.startFrame.settleFrame contenders) else .next s

/-- LOOPBACK_CHECK (R9). -/
def execLoopbackCheck (heard : Heard) (s : State) : Outcome :=
  match s.link.onWire with
  | some w => if w.won then .next (s.checkLoopback heard w) else .next s
  | none => .next s

/-- REPLY (R11 test 5). -/
def execReply (sender target : Station) (_payload : List Byte) (s : State) : Outcome :=
  .next (s.receive .node sender target id)

end Sys2Proof.Machine
end

