-- ==== Sys2Proof/Machine/Time.lean ====
section
/-! DEFINITION. The clock (log 2): a tick of one millisecond, and the commands of the timers that run out at it. -/

namespace Sys2Proof.Machine

namespace State

/-- A command when its timer has run out. -/
def dueIf (due : Bool) (c : Instr) : List Instr := if due then [c] else []

/-- The beacon period has run out (R31). -/
def beaconDue (s : State) : Bool :=
  s.configured && s.node.state != .unconfigured && decide (Config.beaconPeriod ≤ s.machine.beaconTimer)

/-- The peers whose silence interval has run out (R34). -/
def silenceDue (s : State) : List Instr :=
  (s.machine.view.filter fun e => e.member != s.own && e.presence != .silent
    && (match e.since with
      | some t => decide (Config.silenceInterval ≤ t)
      | none => false)).map fun e => .silenceExpiry e.member

/-- The commands of every timer that has run out. -/
def dueCommands (s : State) : List Instr :=
  dueIf s.beaconDue .beaconPeriod ++ s.silenceDue
  ++ dueIf (s.node.state == .joining && (match s.node.listen with
      | some t => decide (Config.listenWindow ≤ t)
      | none => false)) .listenWindowEnd
  ++ dueIf (match s.machine.round with
      | some r => r.remaining == 0
      | none => false) .voteWindowExpiry
  ++ dueIf (match s.drive.guard.timer with
      | some t => decide (Config.samplePeriod ≤ t)
      | none => false) .sampleTimerExpiry
  ++ dueIf (match s.drive.guard.probe with
      | some p => decide (Config.probeLength ≤ p.elapsed)
      | none => false) .probeEnd
  ++ dueIf ((s.engine.state == .clearing || s.engine.state == .reseating) && s.engine.limit == some 0) .stageLimitExpiry
  ++ dueIf (s.engine.state == .placing && s.engine.limit == some 0) .placementLimitExpiry
  ++ dueIf (match s.grout.dose with
      | some d => d.ending.isNone && decide (Config.doseLimit ≤ d.elapsed)
      | none => false) .doseLimitExpiry

end State

/-- Orders commands that fall due together as free values say (log 4). -/
def orderDue : Nat → Nat → List Instr → List Instr
  | fuel + 1, index, c :: d :: rest =>
    let all := c :: d :: rest
    let k := Config.freeOrder index % all.length
    all[k]?.toList ++ orderDue fuel (index + 1) (all.eraseIdx k)
  | _, _, cs => cs

namespace State

/-- A tick of the clock: one millisecond passes, and the commands that fall due are queued. -/
def tick (s : State) : State :=
  let s := s.passTime 1
  match s.dueCommands with
  | [] => s
  | [c] => s.setPending [c]
  | cs => (s.setPending (orderDue cs.length s.freeIndex cs)).setFreeIndex (s.freeIndex + cs.length)

end State

end Sys2Proof.Machine
end

