-- ==== Sys2Proof/Machine/Dispatch.lean ====
section
/-! DEFINITION. One arm per command: its meaning. -/

namespace Sys2Proof.Machine

def exec (i : Instr) (s : State) : Host.Outcome State Fault Refusal :=
  match i with
  | .coldReset straps => Sys2Proof.Machine.execColdReset straps s
  | .badFrame received => Sys2Proof.Machine.execBadFrame received s
  | .arbitration event contenders => Sys2Proof.Machine.execArbitration event contenders s
  | .loopbackCheck heard => Sys2Proof.Machine.execLoopbackCheck heard s
  | .hold sender target cause grade => Sys2Proof.Machine.execHold sender target cause grade s
  | .propose sender target phase => Sys2Proof.Machine.execPropose sender target phase s
  | .vote sender target phase answer => Sys2Proof.Machine.execVote sender target phase answer s
  | .beacon sender target contents => Sys2Proof.Machine.execBeacon sender target contents s
  | .beaconPeriod => Sys2Proof.Machine.execBeaconPeriod s
  | .silenceExpiry peer => Sys2Proof.Machine.execSilenceExpiry peer s
  | .listenWindowEnd => Sys2Proof.Machine.execListenWindowEnd s
  | .voteWindowExpiry => Sys2Proof.Machine.execVoteWindowExpiry s
  | .restrain sender target payload => Sys2Proof.Machine.execRestrain sender target payload s
  | .release sender target payload => Sys2Proof.Machine.execRelease sender target payload s
  | .zoneClear sender target payload => Sys2Proof.Machine.execZoneClear sender target payload s
  | .zoneSeat sender target payload => Sys2Proof.Machine.execZoneSeat sender target payload s
  | .zoneCleared sender target payload => Sys2Proof.Machine.execZoneCleared sender target payload s
  | .zoneHeld sender target payload => Sys2Proof.Machine.execZoneHeld sender target payload s
  | .zoneRefused sender target payload => Sys2Proof.Machine.execZoneRefused sender target payload s
  | .ringClosed sender target payload => Sys2Proof.Machine.execRingClosed sender target payload s
  | .configure sender target payload => Sys2Proof.Machine.execConfigure sender target payload s
  | .setpoint sender target payload => Sys2Proof.Machine.execSetpoint sender target payload s
  | .ringSet sender target payload => Sys2Proof.Machine.execRingSet sender target payload s
  | .restart sender target => Sys2Proof.Machine.execRestart sender target s
  | .read sender target args => Sys2Proof.Machine.execRead sender target args s
  | .watchSet sender target args => Sys2Proof.Machine.execWatchSet sender target args s
  | .watchRead sender target args => Sys2Proof.Machine.execWatchRead sender target args s
  | .notices sender target args => Sys2Proof.Machine.execNotices sender target args s
  | .echo sender target args => Sys2Proof.Machine.execEcho sender target args s
  | .unknownServiceCode sender target service args => Sys2Proof.Machine.execUnknownServiceCode sender target service args s
  | .reply sender target payload => Sys2Proof.Machine.execReply sender target payload s
  | .clearFault sender target args => Sys2Proof.Machine.execClearFault sender target args s
  | .guardOn sender target args => Sys2Proof.Machine.execGuardOn sender target args s
  | .guardOff sender target args => Sys2Proof.Machine.execGuardOff sender target args s
  | .guardLevel sender target args => Sys2Proof.Machine.execGuardLevel sender target args s
  | .guardProbe sender target args => Sys2Proof.Machine.execGuardProbe sender target args s
  | .guardReset sender target args => Sys2Proof.Machine.execGuardReset sender target args s
  | .sampleTimerExpiry => Sys2Proof.Machine.execSampleTimerExpiry s
  | .probeEnd => Sys2Proof.Machine.execProbeEnd s
  | .override sender target args => Sys2Proof.Machine.execOverride sender target args s
  | .overrideCancel sender target args => Sys2Proof.Machine.execOverrideCancel sender target args s
  | .planOpen sender target args => Sys2Proof.Machine.execPlanOpen sender target args s
  | .planStep sender target args => Sys2Proof.Machine.execPlanStep sender target args s
  | .planClose sender target args => Sys2Proof.Machine.execPlanClose sender target args s
  | .planAbort sender target args => Sys2Proof.Machine.execPlanAbort sender target args s
  | .planStop sender target args => Sys2Proof.Machine.execPlanStop sender target args s
  | .planFlush sender target args => Sys2Proof.Machine.execPlanFlush sender target args s
  | .planEnable sender target args => Sys2Proof.Machine.execPlanEnable sender target args s
  | .planResume sender target args => Sys2Proof.Machine.execPlanResume sender target args s
  | .stageLimitExpiry => Sys2Proof.Machine.execStageLimitExpiry s
  | .placementLimitExpiry => Sys2Proof.Machine.execPlacementLimitExpiry s
  | .seated => Sys2Proof.Machine.execSeated s
  | .seatFail => Sys2Proof.Machine.execSeatFail s
  | .erectorFaultIndication present => Sys2Proof.Machine.execErectorFaultIndication present s
  | .cylinderReport cylinder stroke pressure fault retracted => Sys2Proof.Machine.execCylinderReport cylinder stroke pressure fault retracted s
  | .driveReport drive speed torque fault => Sys2Proof.Machine.execDriveReport drive speed torque fault s
  | .strokeReport => Sys2Proof.Machine.execStrokeReport s
  | .linePressure kPa => Sys2Proof.Machine.execLinePressure kPa s
  | .pumpAtRest atRest => Sys2Proof.Machine.execPumpAtRest atRest s
  | .doseLimitExpiry => Sys2Proof.Machine.execDoseLimitExpiry s
  | .unblock sender target args => Sys2Proof.Machine.execUnblock sender target args s
  | .screwReport fault => Sys2Proof.Machine.execScrewReport fault s
  | .facePressureReport kPa => Sys2Proof.Machine.execFacePressureReport kPa s
  | .beltScaleReport kg => Sys2Proof.Machine.execBeltScaleReport kg s
  | .trainArrive sender target args => Sys2Proof.Machine.execTrainArrive sender target args s
  | .carIndexed sender target args => Sys2Proof.Machine.execCarIndexed sender target args s
  | .overdigExcuse sender target args => Sys2Proof.Machine.execOverdigExcuse sender target args s

end Sys2Proof.Machine
end

