-- ==== Sys2Proof/Machine/Step.lean ====
section
/-! DEFINITION. One step of the node: the command at the front of the queue, or a tick of the clock. -/

namespace Sys2Proof.Machine

/-- Takes the command at the front of the queue. On an empty queue the clock ticks (log 2). -/
def step (s : State) : Host.Outcome State Fault Refusal :=
  match s.pending with
  | c :: rest => exec c (s.setPending rest)
  | [] => .next s.tick

/-- `s` with the command a word spells at the front of its queue (log 3: no word spells one). -/
def State.withFetchWord (s : State) (nbits w : Nat) : State :=
  match decodeTableWord nbits w with
  | some c => s.setPending (c :: s.pending)
  | none => s

end Sys2Proof.Machine
end

