-- ==== Sys2Proof/Safety.lean ====
section
/-! DEFINITION. What the statements about the node are said in: acceptance of a frame, and the properties every step
keeps. -/

namespace Sys2Proof.Machine

namespace State

/-! ### Acceptance (R11) -/

/-- The filter accepts a frame a console station may send. -/
abbrev HearsConsole (s : State) (sender target : Station) : Prop := s.filterVerdict .console sender target = .accepted

/-- The filter accepts a frame a peer may send. -/
abbrev HearsPeer (s : State) (sender target : Station) : Prop := s.filterVerdict .node sender target = .accepted

/-- The filter accepts a frame both a peer and a console station may send. -/
abbrev HearsAny (s : State) (sender target : Station) : Prop := s.filterVerdict .both sender target = .accepted

/-- A queued frame finds a place: the transmitter runs and the queue holds fewer than 16 frames (R4, R10). -/
abbrev HasPlace (s : State) : Prop := s.link.transmitting = true ∧ s.link.held < 16

/-- A REPLY frame as the node queues it (R192): an end code, part 1 of 1, no values. -/
def replyFrame (s : State) (station : Station) (service : Service) (e : EndCode) : TxFrame :=
  s.newFrame station (.reply [serviceCode service, endCode e, detailCode e, 1, 1]) .plain

/-- A frame of this body reaches the node's blocks. Either `i` is its row, sent by a peer and accepted, and the blocks take
it in `u`, the state as it stands; or `i` is the loopback check at which the node's own frame, the bus won, is heard back
matching while the node's configuration lists it, and `u` is the state with the wire free (R9, R11, R12). A RING_CLOSED
that waits to be queued again would be queued besides (R129), so none waits. -/
def Reaches (s : State) (row : Station → Station → Instr) (body : Body) (i : Instr) (sender : Nat) (u : State) : Prop :=
  (∃ station target, i = row station target ∧ s.HearsPeer station target ∧ sender = station.toNat ∧ u = s)
  ∨ (∃ w, i = .loopbackCheck .same ∧ s.link.onWire = some w ∧ w.won = true ∧ w.tx.frame.body = body ∧ w.tx.tag = .plain
    ∧ s.configured = true ∧ s.isMember s.own = true ∧ s.engine.requeue = none ∧ sender = s.own ∧ u = s.setWire none)

/-! ### Timers -/

/-- The ms left on the timer of an expiry command; `none` where that timer is not running (log 2). -/
def timerLeft (s : State) (i : Instr) : Option Nat :=
  match i with
  | .beaconPeriod =>
    if s.configured && s.node.state != .unconfigured then some (Config.beaconPeriod - s.machine.beaconTimer) else none
  | .silenceExpiry peer =>
    (((s.entry? peer).filter fun e => peer != s.own && e.presence != .silent).bind (·.since)).map
      (Config.silenceInterval - ·)
  | .listenWindowEnd => if s.node.state = .joining then s.node.listen.map (Config.listenWindow - ·) else none
  | .voteWindowExpiry => s.machine.round.map (·.remaining)
  | .sampleTimerExpiry => s.drive.guard.timer.map (Config.samplePeriod - ·)
  | .probeEnd => s.drive.guard.probe.map (Config.probeLength - ·.elapsed)
  | .stageLimitExpiry => if s.engine.state = .clearing ∨ s.engine.state = .reseating then s.engine.limit else none
  | .placementLimitExpiry => if s.engine.state = .placing then s.engine.limit else none
  | .doseLimitExpiry => (s.grout.dose.filter (·.ending.isNone)).map (Config.doseLimit - ·.elapsed)
  | _ => none

/-- The nine commands of timers that run out. -/
def isExpiry (i : Instr) : Prop :=
  (∃ peer, i = .silenceExpiry peer) ∨ i = .beaconPeriod ∨ i = .listenWindowEnd ∨ i = .voteWindowExpiry
  ∨ i = .sampleTimerExpiry ∨ i = .probeEnd ∨ i = .stageLimitExpiry ∨ i = .placementLimitExpiry ∨ i = .doseLimitExpiry

/-! ### Frames of the statements -/

/-- What no hold and no frame changes: node record, channels, override table, ring number, view, free index, queue. -/
def KeepsRecords (s t : State) : Prop :=
  t.node = s.node ∧ t.channels = s.channels ∧ t.overrides = s.overrides ∧ t.machine.ring = s.machine.ring
  ∧ t.machine.view = s.machine.view ∧ t.freeIndex = s.freeIndex ∧ t.pending = s.pending

/-- Only these may differ: link interface, console record, engine. -/
def OnlyEngine (s t : State) : Prop := t = ((s.setLink t.link).setConsole t.console).setEngine t.engine

/-- Every drive is commanded to stop (Table 5-2). -/
def DrivesStop (s : State) : Prop := ∀ d ∈ s.drive.drives, d.state ≠ .starting ∧ d.state ≠ .running

/-- A dose in flight has been stopped (R154, R149): its record ended, the pump at rest unless FAILED, the rotation pointer
at its port if that is a chain port. -/
def DoseStopped (s t : State) : Prop :=
  t.doseInFlight = false
  ∧ ∀ d, s.grout.dose = some d → d.ending = none → t.grout.dose = some { d with ending := some .stopped }
    ∧ t.grout.pump = (if s.grout.pump = .failed then .failed else .idle) ∧ t.grout.ports = s.grout.ports
    ∧ t.grout.pointer = (if s.isChainPort d.port then some d.port else s.grout.pointer)

/-- The restraint entries a source holds, in the order GROUT, MUCK, TORQUE, FACE. -/
def restrainedBy (s : State) (source : Nat) : Bool × Bool × Bool × Bool :=
  (s.thrust.restraints.contains (source, .grout), s.thrust.restraints.contains (source, .muck),
   s.thrust.restraints.contains (source, .torque), s.thrust.restraints.contains (source, .face))

/-- The pump is DOSING exactly while a dose is in flight (R145). -/
def DosingIffInFlight (s : State) : Prop := (s.grout.pump = .dosing ↔ s.doseInFlight = true)

/-- The state of the unit that decides an own restraint (Table 4-4). -/
def unitRestrains (s : State) : RestraintReason → Bool
  | .grout => s.grout.restrained
  | .muck => s.muck.muckRestrained
  | .torque => s.drive.guard.mode
  | .face => s.muck.faceRestrained

/-- The notice flag is set. -/
def noticed (s : State) (n : Notice) : Bool := s.console.notices.getLsbD (noticeBit n)

/-! ### What rules ask and do, spelled out -/

/-- The node has a zone cylinder for the position: item 34 maps one of its cylinders to it (Section 4.5). -/
def HasZone (s : State) (position : Nat) : Prop :=
  position ≠ 0 ∧ ∃ c ∈ s.thrust.cylinders, s.zonePosition s.own c.number = position

/-- The conditions of R73 on a zone request. -/
def TakesZone (s : State) (sender : Nat) (z : ZoneRequest) : Prop :=
  s.isErectorOwner sender = true ∧ s.node.state = .member ∧ s.machine.phase = .build ∧ z.ring = s.machine.ring
  ∧ s.HasZone z.position

/-- The request is the one in flight sent again (R73). -/
def RepeatsZone (s : State) (z : ZoneRequest) : Prop :=
  ∃ w, s.thrust.zone = some w ∧ w.kind = z.kind ∧ w.ring = z.ring ∧ w.position = z.position ∧ w.attempt = z.attempt

/-- The conditions of R123 on an answer with this ring, position and attempt, the stage apart. -/
def TakesAnswer (s : State) (sender : Nat) (fields : Nat × Nat × Nat) : Prop :=
  s.ownsErector = true ∧ fields.1 = s.machine.ring ∧ (∃ p st, s.currentStep = some (p, st) ∧ fields.2.1 = st.position)
  ∧ fields.2.2 = s.engine.attempt ∧ sender ∈ s.engine.zoneMembers ∧ sender ∉ s.engine.answered

/-- The engine becomes FAULTED over a step (R110). -/
def EngineFaulted (s : State) (reason : EngineFaultReason) (p : Plan) (st : PlanStep) (t : State) : Prop :=
  t.engine = { s.engine with
    state := .faulted, seated := none, zoneMembers := [], answered := [], limit := none
    fault := some ⟨reason, p.identifier, st.index, st.position⟩ }
  ∧ t.noticed .planFault = true

/-- The attempt number after `s.engine.attempt` (R118). -/
def nextAttempt (s : State) : Nat := if 255 ≤ s.engine.attempt then 1 else s.engine.attempt + 1

/-- What the test for the head step makes of `s`: nothing unless R121 holds; else the engine is FAULTED by the first check
of R109 that fails, or holds the step in a CLEARING stage (R122). -/
def HeadStepTaken (s t : State) : Prop :=
  (s.engine.state ≠ .idle ∨ s.node.state ≠ .member ∨ s.machine.phase ≠ .build ∨ s.engine.closePending = true
    ∨ s.headStep = none → t = s)
  ∧ (∀ p st, s.engine.state = .idle → s.node.state = .member → s.machine.phase = .build → s.engine.closePending = false →
    s.headStep = some (p, st) → s.OnlyEngine t
    ∧ (st.position ∈ s.engine.placed → s.EngineFaulted .placed p st t)
    ∧ (st.position ∉ s.engine.placed →
      (st.kind = .key → st.index < p.closedCount.getD 0 → s.EngineFaulted .keyEarly p st t)
      ∧ (st.kind = .standard → st.index = p.closedCount.getD 0 → s.EngineFaulted .keyMissing p st t)
      ∧ ((st.kind = .key → p.closedCount.getD 0 ≤ st.index) → (st.kind = .standard → st.index ≠ p.closedCount.getD 0) →
        t.engine = { s.engine with
          state := .clearing, seated := some false, retry := 0, attempt := s.nextAttempt
          zoneMembers := s.zoneMembersOf st.position, answered := [], limit := some 20000 }
        ∧ (s.HasPlace → ∃ q ∈ t.link.queue,
            q.frame.body = .zoneClear (zoneBytes s.machine.ring st.position s.nextAttempt)))))

/-- What the close of ring `n - 1` leaves (R138, R139, R160, R181, R200): `n` is the ring number after it. -/
def RingClosedInto (s : State) (n : Nat) (t : State) : Prop :=
  t.machine.ring = n
  ∧ t.console.records = (if 16 ≤ s.console.records.length then s.console.records.drop 1 else s.console.records)
      ++ [{ s.ringRecord n with
            statistics := if s.ownsErector then some ⟨s.engine.seatRetries, s.engine.zoneRefusals⟩ else none }]
  ∧ t.grout.ports = s.grout.ports.map (fun p => { p with owed := p.gap, delivered := 0 })
  ∧ t.drive.guard.probes = 0 ∧ t.thrust.sectorAdvance = 0 ∧ t.thrust.credited = 0 ∧ t.thrust.strokeReached = false
  ∧ (∀ c ∈ t.thrust.cylinders, c.origin = some c.stroke)
  ∧ (s.ownsMuck = true → t.muck.weighed = 0 ∧ t.muck.carried = 0 ∧ t.muck.uncarried = 0 ∧ t.muck.excused = 0
      ∧ t.muck.indexed = 0 ∧ t.muck.queue = s.muck.queue ∧ t.muck.spill = s.muck.spill)
  ∧ (s.ownsErector = true → t.engine.placed = [] ∧ t.engine.seatRetries = 0 ∧ t.engine.zoneRefusals = 0
      ∧ t.engine.closePending = false ∧ t.inHold = true
      ∧ (s.machine.phase = .build → t.machine.phase = .hold .soft
        ∧ t.machine.current = some ⟨.ringDone, s.own, n, .soft, 0⟩
        ∧ (s.HasPlace → ∃ q ∈ t.link.queue, q.frame.body = .hold .ringDone .soft)))
  ∧ t.node = s.node ∧ t.channels = s.channels ∧ t.overrides = s.overrides ∧ t.machine.view = s.machine.view

/-- The front command brings the READY of this member for this target: its VOTE accepted, bytes that spell it, or the
node's own VOTE heard back (R48). -/
def BringsReady (s : State) (member : Nat) (target : VoteTarget) : Prop :=
  ∃ i rest, s.pending = i :: rest
  ∧ ((∃ f : Frame, f.body = .vote target .ready ∧ f.sender.toNat = member
      ∧ (i.frame? = some f ∨ ∃ bytes, parseFrame bytes = some f
          ∧ (i = .badFrame bytes ∨ i = .loopbackCheck (.bytes bytes))))
    ∨ (∃ heard w, i = .loopbackCheck heard ∧ s.link.onWire = some w ∧ w.tx.frame.body = .vote target .ready
        ∧ member = s.own))

/-- The chain port met after `k` next-port entries from the rotation pointer `n` (R148 step 2). -/
def chainPort (s : State) (n : Nat) : Nat → Nat
  | 0 => n
  | k + 1 => s.nextPort (s.chainPort n k)

/-- Cylinders that count for the sector advance of a report: with the stroke reported, neither FAILED nor pinned (R66). -/
def countingCylinders (s : State) (n : Nat) (stroke : Half) : List Cylinder :=
  (s.thrust.cylinders.map fun c => if c.number = n then { c with stroke := stroke } else c).filter
    fun c => c.state != .failed && !s.cylPinned c

/-- The sector advance of `t` is the least gain of the cylinders that are neither FAILED nor pinned there, and that of `s`
where there is none (R66). -/
def AdvanceIsLeast (s t : State) : Prop :=
  (∀ c ∈ t.usableCylinders, t.thrust.sectorAdvance ≤ c.gain)
  ∧ (t.usableCylinders ≠ [] → ∃ c ∈ t.usableCylinders, t.thrust.sectorAdvance = c.gain)
  ∧ (t.usableCylinders = [] → t.thrust.sectorAdvance = s.thrust.sectorAdvance)

/-- What the recomputation of the sector advance in BORE leaves: the credit and the grout owed for it (R66, R67, R143), and
the steer pause and stroke reached while BORE still stands (R70, R71); a hold it brings clears the steer pause (R61). -/
def AdvanceSettled (s t : State) : Prop :=
  s.AdvanceIsLeast t
  ∧ t.thrust.credited = max s.thrust.credited t.thrust.sectorAdvance
  ∧ (t.thrust.sectorAdvance ≤ s.thrust.credited → t.grout.ports = s.grout.ports)
  ∧ (s.thrust.credited < t.thrust.sectorAdvance → t.grout.ports = s.grout.ports.map fun p => { p with
      owed := min 4294967295 (p.owed + (t.thrust.sectorAdvance - s.thrust.credited) * s.portFactor p.number) })
  ∧ (t.machine.phase = .bore →
      t.thrust.strokeReached = (s.thrust.strokeReached || decide (s.cfg.strokeTarget ≤ t.thrust.sectorAdvance))
      ∧ t.thrust.steerPause = (if s.cfg.steerLimit < t.thrust.sectorAdvance - t.slowestAdvance then true
        else if 2 * (t.thrust.sectorAdvance - t.slowestAdvance) ≤ s.cfg.steerLimit then false
        else s.thrust.steerPause))
  ∧ (t.machine.phase ≠ .bore →
      t.thrust.steerPause = false ∧ ∀ c ∈ t.thrust.cylinders, c.state ≠ .advancing)

/-- What entry to BORE makes of a node whose drives are none of them TRIPPED: each drive as its run condition says (R84),
each cylinder as R60 and R71 say, the sector advance settled, the screw commanded (R165). The phase is BORE still, or the
hold is one that the settled advance brings (R159, R72, R179). -/
def BoreEntered (s t : State) : Prop :=
  s.AdvanceSettled t
  ∧ (t.machine.phase = .bore →
      t.drive.drives = s.drive.drives.map (fun d =>
        if s.node.state = .member ∧ s.pinned .drive d.number = false then
          if d.state = .stopped ∨ d.state = .stopping then { d with state := .starting } else d
        else if d.state = .starting ∨ d.state = .running then { d with state := .stopping } else d)
      ∧ t.thrust.cylinders = s.thrust.cylinders.map fun c =>
        if c.state = .bearing ∧ s.cylPinned c = false ∧ t.thrust.strokeReached = false then { c with state := .advancing }
        else if c.state = .clear ∧ s.cylPinned c = false then
          { c with state := .reseating, reseatTarget := some s.cfg.reseatPressure }
        else if c.state = .advancing ∧ t.thrust.strokeReached = true ∧ s.thrust.strokeReached = false then
          { c with state := .bearing }
        else c)
  ∧ (t.machine.phase ≠ .bore → t.inHold = true ∧ t.DrivesStop ∧ ∃ r, t.machine.current = some r
      ∧ (r.cause = .shortfall ∨ r.cause = .strokeEnd ∨ r.cause = .overdig))
  ∧ (t.thrust.sectorAdvance = s.thrust.sectorAdvance → t.thrust.sectorAdvance ≤ s.thrust.credited →
      t.machine.phase = .bore ∧ t.machine.current = none)
  ∧ (s.ownsMuck = true →
      t.muck.screw = if t.machine.phase = .bore ∧ s.node.state = .member then .run else .stop)

/-- What entry to BORE makes of a node with a drive TRIPPED since its vote: the machine is held HARD with DRIVE_TRIP (R85),
the equipment stopped, and no cylinder advances. -/
def BoreTripped (s t : State) : Prop :=
  t.machine.phase = .hold .hard ∧ t.machine.current = some ⟨.driveTrip, s.own, s.machine.ring, .hard, 0⟩
  ∧ (s.HasPlace → ∃ q ∈ t.link.queue, q.frame.body = .hold .driveTrip .hard)
  ∧ (∀ d ∈ s.drive.drives, d.state = .tripped → d ∈ t.drive.drives) ∧ t.DrivesStop
  ∧ (∀ c ∈ t.thrust.cylinders, c.state ≠ .advancing) ∧ t.thrust.sectorAdvance = s.thrust.sectorAdvance
  ∧ t.doseInFlight = false

/-- What cylinder `n`, with record `c` and a pin in `s`, has become in `t` by the removal of its entry in BORE, BORE still
standing (R190, R60): the CLEAR one whatever its pin was (log 33). -/
def CylinderReturned (s t : State) (n : Nat) (c : Cylinder) : Prop :=
  (⟨.cylinder, n, .forceBear⟩ ∈ s.overrides → c.state = .bearing → s.node.state ≠ .faulted →
    t.cylinder? n = some { c with state := if t.thrust.strokeReached then .bearing else .advancing })
  ∧ (c.state = .clear →
    t.cylinder? n = some { c with state := .reseating, reseatTarget := some s.cfg.reseatPressure })
  ∧ ((⟨.cylinder, n, .forceBear⟩ : OverrideEntry) ∉ s.overrides ∨ c.state ≠ .bearing ∨ s.node.state = .faulted →
    c.state ≠ .clear → c.state ≠ .advancing → t.cylinder? n = some c)

/-- What a forced state accepted for cylinder `c` makes of it: the tables of R185 and R186, and what they say of a FAULTED
node (that a FORCE_CLEAR leaves a PARKED one PARKED there: log 33). -/
def CylinderForced (s : State) (forced : ForcedState) (c c' : Cylinder) : Prop :=
  (forced = .forceBear →
    (c.state = .bearing ∨ c.state = .reseating ∨ c.state = .failed → c' = c)
    ∧ (c.state = .advancing → c' = { c with state := .bearing })
    ∧ (c.state = .retracting ∨ c.state = .clear ∨ c.state = .parked →
      (s.node.state = .faulted → c' = c)
      ∧ (s.node.state ≠ .faulted →
        c' = { c with state := .reseating, reseatTarget := some s.cfg.reseatPressure })))
  ∧ (forced = .forceClear →
    (c.state = .retracting ∨ c.state = .clear ∨ c.state = .failed → c' = c)
    ∧ (c.state = .bearing ∨ c.state = .advancing ∨ c.state = .reseating ∨ c.state = .parked →
      (s.node.state = .faulted → c' = { c with state := .parked, reseatTarget := none })
      ∧ (s.node.state ≠ .faulted → c' = { c with state := .retracting, reseatTarget := none })))

/-- What CLEAR_FAULT makes of cylinder `c` (R62, R190): a FAILED one is rebuilt from its channel's latest report and, where
that shows no fault, is in the state its pin or its contact gives; a PARKED one pinned FORCE_CLEAR retracts when the node
leaves FAULTED; any other is as it was. The origin is captured if the first-membership flag is set (R65). -/
def CylinderCleared (s : State) (c c' : Cylinder) : Prop :=
  c'.number = c.number
  ∧ c'.origin = (if s.node.firstMembership = true then some c.stroke else c.origin)
  ∧ (c.state = .failed → ∀ r, s.cylReport c.number = r →
    c'.stroke = r.stroke ∧ c'.pressure = r.pressure ∧ c'.fault = r.fault
    ∧ (r.fault = true → c'.state = .failed ∧ c'.reseatTarget = none)
    ∧ (r.fault = false →
      (s.forced .cylinder c.number = some .forceClear → c'.state = .retracting ∧ c'.reseatTarget = none)
      ∧ (s.forced .cylinder c.number ≠ some .forceClear → s.cfg.contactPressure ≤ r.pressure.toNat →
        c'.state = .bearing ∧ c'.reseatTarget = none)
      ∧ (s.forced .cylinder c.number = some .forceBear → r.pressure.toNat < s.cfg.contactPressure →
        c'.state = .reseating ∧ c'.reseatTarget = some s.cfg.reseatPressure)
      ∧ (s.forced .cylinder c.number ≠ some .forceClear → s.forced .cylinder c.number ≠ some .forceBear →
        r.pressure.toNat < s.cfg.contactPressure → c'.state = .parked ∧ c'.reseatTarget = none)))
  ∧ (c.state ≠ .failed → c'.stroke = c.stroke ∧ c'.pressure = c.pressure ∧ c'.fault = c.fault
    ∧ c'.reseatTarget = c.reseatTarget
    ∧ c'.state = (if s.node.state = .faulted ∧ c.state = .parked ∧ s.forced .cylinder c.number = some .forceClear then
        .retracting else c.state))

/-- The state of a zone cylinder completes a request of this kind, FAILED ones dropping out (R76). -/
def ZoneDone (kind : ZoneKind) (c : Cylinder) : Prop :=
  c.state = .failed ∨ (kind = .clear ∧ c.state = .clear) ∨ (kind = .seat ∧ c.state = .bearing)

/-- The cylinder is pinned against a request of this kind (R188). -/
def AgainstZone (s : State) (kind : ZoneKind) (c : Cylinder) : Prop :=
  ¬ZoneDone kind c ∧ ((kind = .clear ∧ s.forced .cylinder c.number = some .forceBear)
    ∨ (kind = .seat ∧ s.forced .cylinder c.number = some .forceClear))

/-- What a report of cylinder `c` leaves of the request in flight in `s` (R58 step 6): it ends with a hold the report brings
(R61); a report of a zone cylinder has it tested against the cylinders as they then stand, so that it is refused PINNED
(R188), answered (R76) or in flight still; any other report leaves it in flight. A RESTRAIN or RELEASE may be queued before
the answer in BORE. -/
def ZoneAtReport (s : State) (c : Cylinder) (t : State) : Prop :=
  (s.thrust.zone = none → t.thrust.zone = none)
  ∧ (t.machine.phase ≠ s.machine.phase → t.thrust.zone = none)
  ∧ (∀ z, s.thrust.zone = some z → t.machine.phase = s.machine.phase →
    (z.position = 0 ∨ s.zonePosition s.own c.number ≠ z.position → t.thrust.zone = some z)
    ∧ (z.position ≠ 0 → s.zonePosition s.own c.number = z.position →
      ((∃ d ∈ t.zoneCylinders z.position, s.AgainstZone z.kind d) → t.thrust.zone = none
        ∧ (s.HasPlace → (s.machine.phase = .bore → s.link.held < 15) → ∃ q ∈ t.link.queue, q.frame.body
          = .zoneRefused (zoneBytes z.ring z.position z.attempt ++ [zoneRefusalCode .pinned])))
      ∧ ((∀ d ∈ t.zoneCylinders z.position, ¬s.AgainstZone z.kind d) →
        ((∀ d ∈ t.zoneCylinders z.position, ZoneDone z.kind d) → t.thrust.zone = none
          ∧ (s.HasPlace → (s.machine.phase = .bore → s.link.held < 15) → ∃ q ∈ t.link.queue, q.frame.body = (match z.kind with
            | .clear => .zoneCleared (zoneBytes z.ring z.position z.attempt)
            | .seat => .zoneHeld (zoneBytes z.ring z.position z.attempt))))
        ∧ ((∃ d ∈ t.zoneCylinders z.position, ¬ZoneDone z.kind d) → t.thrust.zone = some z))))

/-- What a warm restart makes of phase, records and round: HOLD RESTART from BORE or BUILD is SOFT with a record of its own,
in HOLD it is counted; an open round fails HELD (R54, R40, R41). A muck owner whose overdig the rebuilt view brings counts
that hold besides (R178, R179). -/
def RestartHeld (s t : State) : Prop :=
  (s.inHold = false → t.machine.phase = .hold .soft ∧ ∃ r, t.machine.current = some r
    ∧ r.cause = .restart ∧ r.source = s.own ∧ r.ring = s.machine.ring ∧ r.grade = .soft
    ∧ (s.ownsMuck = false → r.further = 0))
  ∧ (∀ now, s.machine.phase = .hold now → t.machine.phase = .hold now
    ∧ (∀ r, s.machine.current = some r → ∃ k, t.machine.current = some { r with further := k }
      ∧ (s.ownsMuck = false → k = min 255 (r.further + 1)))
    ∧ (s.machine.current = none → ∃ k, t.machine.current = some ⟨.restart, s.own, s.machine.ring, now, k⟩
      ∧ (s.ownsMuck = false → k = 0)))
  ∧ t.machine.previous = s.machine.previous
  ∧ (s.machine.round = none → t.machine.lastFailure = s.machine.lastFailure)
  ∧ (∀ r, s.machine.round = some r → t.machine.lastFailure = some ⟨r.target, s.own, .held⟩ ∧ t.noticed .voteFailed = true)

/-- What a warm restart makes of the restraint set: the own entries of the units that restrain and no other, each change of an
own entry told in a RELEASE or RESTRAIN frame (R81). -/
def RestraintsRebuilt (s t : State) : Prop :=
  (∀ source r, (source, r) ∈ t.thrust.restraints ↔ source = s.own ∧ t.unitRestrains r = true)
  ∧ t.grout.restrained = s.grout.restrained ∧ t.muck.muckRestrained = s.muck.muckRestrained
  ∧ t.muck.faceRestrained = s.muck.faceRestrained
  ∧ (∀ r, s.restrains r = true → t.unitRestrains r = false →
      ∃ q ∈ t.link.queue, q.frame.body = .release [restraintCode r])
  ∧ (∀ r, s.restrains r = false → t.unitRestrains r = true →
      ∃ q ∈ t.link.queue, q.frame.body = .restrain [restraintCode r])

/-- What a warm restart makes of pump and dose (R161): no dose of before runs on, no pump is FAILED; while no new dose can
start, the grade HARD or the channel not at rest, the pump is IDLE and the dose in flight has ended STOPPED with the rotation
pointer at its port, if that is a chain port. -/
def GroutRestarted (s t : State) : Prop :=
  t.grout.pump ≠ .failed
  ∧ (∀ d, t.grout.dose = some d → d.ending = none → d.credited = 0 ∧ d.elapsed = 0)
  ∧ (s.machine.phase = .hold .hard ∨ s.channels.pumpAtRest = some false → s.DosingIffInFlight → t.grout.pump = .idle
    ∧ (s.doseInFlight = false → t.grout.dose = s.grout.dose ∧ t.grout.pointer = s.grout.pointer)
    ∧ (∀ d, s.grout.dose = some d → d.ending = none → t.grout.dose = some { d with ending := some .stopped }
      ∧ t.grout.pointer = (if s.isChainPort d.port then some d.port else s.grout.pointer)))

/-- The part (k, n) from `sender` with this content is the last of a collection (R18): `u` is the state whose validation
begins, and `held` the contents before it. It is the part in turn of the parts held, or a part 1 of 1 of an empty
collection, or a part 1 of 1 out of turn that replaces the parts held, with CONFIG_ORDER set (log 38). -/
def LastPart (s : State) (sender : Station) (k n : Byte) (content : List Byte) (held : List (List Byte)) (u : State) : Prop :=
  (∃ c, s.node.collection = some c ∧ c.sender = sender ∧ c.count = n.toNat ∧ k.toNat = c.parts.length + 1 ∧ k = n
    ∧ held = c.parts ∧ u = s)
  ∨ (s.node.collection = none ∧ k = 1 ∧ n = 1 ∧ held = [] ∧ u = s)
  ∨ (∃ c, s.node.collection = some c ∧ k = 1 ∧ n = 1 ∧ held = []
    ∧ (c.sender ≠ sender ∨ c.count ≠ 1 ∨ (c.parts.length ≠ 0 ∧ (c.parts.length ≠ 1 ∨ c.parts.getLast? ≠ some content)))
    ∧ u = (s.setNode { s.node with collection := none }).notify .configOrder)

/-! ### Properties every step keeps -/

/-- An open round lists each configured member once, in number order, and a node without a configuration has none (R47);
an UNCONFIGURED node is one (Table 2-1). -/
def RoundListsMembers (s : State) : Prop :=
  (s.node.state = .unconfigured → s.configured = false)
  ∧ ∀ r, s.machine.round = some r → s.configured = true ∧ r.votes.map (·.1) = s.membersInOrder

/-- The transmit queue: at most 16 frames, one on the wire counted; at most one beacon pending; in the order of urgency
and age, no age twice; failure counts 0 to 2; empty while the transmitter is stopped (R4, R5, R9, R10). -/
def LinkOrdered (s : State) : Prop :=
  s.link.held ≤ 16 ∧ s.link.queue.countP (fun f => isBeacon f.frame.body) ≤ 1
  ∧ (s.link.queue.Pairwise fun a b => a.before b = true)
  ∧ (∀ f ∈ s.link.queue, f.age < s.link.nextAge ∧ f.failures ≤ 2)
  ∧ (∀ w, s.link.onWire = some w →
      w.tx.age < s.link.nextAge ∧ w.tx.failures ≤ 2 ∧ ∀ f ∈ s.link.queue, f.age ≠ w.tx.age)
  ∧ (s.link.transmitting = false → s.link.queue = [] ∧ s.link.onWire = none)

/-- The restraint set is in its order, and holds no pair twice (R77). -/
def RestraintsOrdered (s : State) : Prop := s.thrust.restraints.Pairwise (fun a b => restraintRank a < restraintRank b)

/-- The own restraint entries are those of the node's units (R78); a node without a configuration has none, and an
UNCONFIGURED node is one (Table 2-1). -/
def OwnRestraintsFollow (s : State) : Prop :=
  (∀ r, s.restrains r = s.unitRestrains r) ∧ (s.configured = false → ∀ r, s.unitRestrains r = false)
  ∧ (s.node.state = .unconfigured → s.configured = false)

/-- A drive runs only in BORE, at a MEMBER node, unpinned (R84). -/
def DrivesRunInBore (s : State) : Prop :=
  ∀ d ∈ s.drive.drives, (d.state = .starting ∨ d.state = .running) →
    s.machine.phase = .bore ∧ s.node.state = .member ∧ s.pinned .drive d.number = false

/-- No port has received more than it is owed, and the strokes still to be credited to the last dose are owed to its
port. Port numbers differ, and owed volumes stay in their range (R143, R151). -/
def DeliveredWithinOwed (s : State) : Prop :=
  (s.grout.ports.map (·.number)).Nodup
  ∧ (∀ p ∈ s.grout.ports, p.delivered ≤ p.owed ∧ p.owed ≤ owedCap)
  ∧ (∀ d, s.grout.dose = some d → ∀ p ∈ s.grout.ports, p.number = d.port →
      p.delivered + (s.cfg.doseStrokes - d.credited) * s.cfg.strokeVolume ≤ p.owed)

/-- The engine holds a step exactly in the states Table 6-4 gives one. -/
def StepHeldByState (s : State) : Prop :=
  (s.engine.seated.isSome = true ↔
    s.engine.state ∈ [.clearing, .placing, .reseating, .suspended, .stalled])

/-- The store's bounds (R99). -/
def StoreBounded (s : State) : Prop :=
  s.plans.closed.length ≤ 4 ∧ (s.plans.opened.isSome = true → s.plans.closed.length ≤ 3) ∧ s.stepsHeld ≤ 40

/-- The train queue: at most 16 cars, no number twice; every number 1..255, capacity 1,000..60,000 kg and fill within the
capacity; the head car FILLING, or DUE from 95 percent on; every car behind it QUEUED and empty (R169, R174, Table 9-2). -/
def TrainOrdered (s : State) : Prop :=
  s.muck.queue.length ≤ 16 ∧ (s.muck.queue.map (·.number)).Nodup
  ∧ (∀ c ∈ s.muck.queue, 1 ≤ c.number ∧ c.number ≤ 255 ∧ 1000 ≤ c.capacity ∧ c.capacity ≤ 60000 ∧ c.fill ≤ c.capacity)
  ∧ (∀ c, s.muck.queue.head? = some c → c.state = if c.capacity * 95 ≤ c.fill * 100 then .due else .filling)
  ∧ (∀ c ∈ s.muck.queue.drop 1, c.state = .queued ∧ c.fill = 0)

/-- A stored configuration has passed every check of validation at this node (R20, Table 2-4): LENGTH, which leaves 2 to 8
members with one section each and lists as long as their counts; RANGE, NOT_MEMBER, CHAIN, ZONE_MAP and the owners. -/
def ConfigurationPassed (s : State) : Prop :=
  ∀ c, s.node.config = some c →
    2 ≤ c.members.length ∧ c.members.length ≤ 8 ∧ c.sections.length = c.members.length
    ∧ (∀ m ∈ c.sections, m.nextPort.length = m.ports ∧ m.factors.length = m.ports ∧ m.zones.length = m.cylinders)
    ∧ rangeFailure c = none ∧ s.own ∈ c.members ∧ chainFailure c = none ∧ zonesCovered c = true
    ∧ c.sections.countP (fun m => m.muckOwner == 1) = 1 ∧ c.sections.countP (fun m => m.erectorOwner == 1) = 1

end State

end Sys2Proof.Machine
end

