-- ==== Sys2Proof/Certificates/Slice0/Obligations.lean ====
section
/-! DEFINITION. The statements about the node. Each is a proposition; none is proved here. -/

section
open Sys2Proof Sys2Proof.Machine

/-! ### Commands and time -/

/-- Each step takes the command at the front of the queue and runs it on the queue's rest (log 3). -/
def Obligations.StepRunsFrontCommand : Prop :=
  ∀ (c : Instr) (rest : List Instr) (s : State), s.pending = c :: rest → step s = exec c (s.setPending rest)

/-- The model's choices (log 2). On an empty queue one millisecond passes: the timers move, the commands of the timers
that run out are queued in some order, and nothing else changes. The command of a timer that runs first passes the time
left on it; the command of a timer that does not run changes nothing. -/
def Obligations.TimePasses : Prop :=
  (∀ s : State, s.pending = [] → ∃ t, step s = .next t
    ∧ t = ((s.passTime 1).setPending t.pending).setFreeIndex t.freeIndex
    ∧ t.pending.Perm (s.passTime 1).dueCommands
    ∧ t.link = s.link ∧ t.thrust = s.thrust ∧ t.plans = s.plans ∧ t.muck = s.muck ∧ t.channels = s.channels
    ∧ t.overrides = s.overrides ∧ t.console = s.console
    ∧ t.machine = { s.machine with beaconTimer := t.machine.beaconTimer, round := t.machine.round, view := t.machine.view }
    ∧ t.machine.round = s.machine.round.map (fun r => { r with remaining := r.remaining - 1 })
    ∧ t.engine = { s.engine with limit := s.engine.limit.map (· - 1) }
    ∧ t.node = { s.node with listen := s.node.listen.map (advanceUp 150 1) })
  ∧ (∀ (i : Instr) (s : State), State.isExpiry i →
    (s.timerLeft i = none → exec i s = .next s)
    ∧ (∀ left, s.timerLeft i = some left → exec i s = exec i (s.passTime left)))

/-- The queue of commands is the model's own (log 3): every command gives a next state and leaves that queue as it stands,
COLD_RESET too. The node number is fixed until the next cold reset. -/
def Obligations.ExecKeepsQueueAndNumber : Prop :=
  ∀ (i : Instr) (s : State), ∃ t : State, exec i s = .next t ∧ t.pending = s.pending
    ∧ ((∀ straps, i ≠ .coldReset straps) → t.node.number = s.node.number)

/-- COLD_RESET: the node number is the strap pins plus one, and each register named here takes the value the manual
gives; that no data reply is then in flight is the model's deduction (log 20). -/
def Obligations.ColdResetValues : Prop :=
  ∀ (straps : BitVec 3) (s : State), ∃ t : State, exec (.coldReset straps) s = .next t
    ∧ t.node = ⟨straps.toNat + 1, .unconfigured, none, 0, none, none, none, none, true, none⟩
    ∧ t.link.queue = [] ∧ t.link.onWire = none ∧ t.link.transmitting = true
    ∧ t.machine.phase = .hold .hard ∧ t.machine.current = none ∧ t.machine.previous = none ∧ t.machine.round = none
    ∧ t.machine.lastFailure = none ∧ t.machine.view = []
    ∧ t.thrust.cylinders = [] ∧ t.thrust.sectorAdvance = 0 ∧ t.thrust.credited = 0 ∧ t.thrust.setpoint = 0
    ∧ t.thrust.steerPause = false ∧ t.thrust.strokeReached = false ∧ t.thrust.restraints = []
    ∧ t.drive.drives = [] ∧ t.drive.setpoint = 0
    ∧ t.drive.guard = ⟨none, false, false, none, none, none, none, 0, false, 0⟩
    ∧ t.plans = ⟨[], none⟩ ∧ t.engine.state = .disabled ∧ t.engine.seated = none ∧ t.engine.attempt = 0
    ∧ t.engine.stopping = false ∧ t.engine.closePending = false ∧ t.engine.placed = [] ∧ t.engine.lastRefusal = none
    ∧ t.engine.fault = none ∧ t.engine.erector = .halted ∧ t.engine.erectorCommand = .halt
    ∧ t.grout = ⟨[], none, .idle, none, false⟩
    ∧ t.muck.screw = .stop ∧ t.muck.queue = [] ∧ t.muck.lastIndexed = none ∧ t.muck.spill = 0 ∧ t.muck.weighed = 0
    ∧ t.muck.overdig = false ∧ t.channels.face = none ∧ t.channels.screwFault = false
    ∧ t.overrides = [] ∧ t.console = ⟨[], 0, ⟨0, 0, 0, 0, 0, 0, 0, 0, 0⟩, none, []⟩

/-! ### The shield link -/

/-- Every frame row passes the filter's tests 2 to 5 in order. Received bytes that are no well-formed frame are counted. The
model's readings (log 7): bytes that spell a frame are received as that frame's row, and a sender of no station in the
configuration, 9 to 13 among them, is counted as foreign. -/
def Obligations.ReceivedFramesAreFiltered : Prop :=
  (∀ (i : Instr) (f : Frame) (s : State), i.frame? = some f → i.wf = true →
    (s.reaches f.target = false → exec i s = .next s)
    ∧ (s.reaches f.target = true → s.configured = false → isConsole f.sender = false → exec i s = .next s)
    ∧ (s.reaches f.target = true → (s.configured = true ∨ isConsole f.sender = true) →
        ((s.isMember f.sender.toNat = false ∧ isConsole f.sender = false)
            ∨ s.mayBeSentBy (sentBy f.body) f.sender = false ∨ f.sender.toNat = s.own) →
        exec i s = .next (s.setConsole { s.console with counters :=
          { s.console.counters with foreignSender := s.console.counters.foreignSender + 1 } }))
    ∧ (s.reaches f.target = true → (s.isMember f.sender.toNat = true ∨ isConsole f.sender = true) →
        s.mayBeSentBy (sentBy f.body) f.sender = true → f.sender.toNat ≠ s.own →
        (s.configured = true ∨ isConsole f.sender = true) → exec i s = .next (s.deliver f)))
  ∧ (∀ (bytes : List Byte) (s : State),
    (parseFrame bytes = none → exec (.badFrame bytes) s = .next (s.setConsole { s.console with counters :=
      { s.console.counters with badCheck := s.console.counters.badCheck + 1 } }))
    ∧ (∀ f, parseFrame bytes = some f → exec (.badFrame bytes) s = .next (s.receiveFrame f)))

/-- The bytes of a frame are read back as that frame, and bytes that are read as a frame are the bytes of that frame. The
model's readings: a sender of any station number is well formed (log 7), and the ring number and engine state of a beacon
are taken as the bytes say (log 29). -/
def Obligations.FrameBytesRoundTrip : Prop :=
  (∀ f : Frame, f.body.wf = true → parseFrame (encodeFrame f) = some f)
  ∧ (∀ (bytes : List Byte) (f : Frame), parseFrame bytes = some f → encodeFrame f = bytes ∧ f.body.wf = true)

/-- ARBITRATION: at bus idle the frame at the head of the queue wins when no key contending is lower than its own, and
otherwise returns to its old place with nothing changed; a beacon that a newer one stands for takes its contents and the
newer one is withdrawn. A stopped transmitter, an empty queue or a frame on the wire starts nothing. That the command may
come whole or in two halves, start and settle, is the model's choice (log 8). -/
def Obligations.ArbitrationByLowestKey : Prop :=
  ∀ (s : State) (contenders : List Key),
    (s.link.onWire = none →
      (∀ f rest, s.link.transmitting = true → s.link.queue = f :: rest →
        ((∀ k ∈ contenders, frameKey f.frame ≤ k) →
          exec (.arbitration .whole contenders) s = .next ((s.setWire (some ⟨f, true⟩)).setQueue rest))
        ∧ ((∃ k ∈ contenders, k < frameKey f.frame) → s.LinkOrdered →
          exec (.arbitration .whole contenders) s = .next s)
        ∧ exec (.arbitration .start contenders) s = .next ((s.setWire (some ⟨f, false⟩)).setQueue rest))
      ∧ (s.link.transmitting = false ∨ s.link.queue = [] →
        exec (.arbitration .whole contenders) s = .next s ∧ exec (.arbitration .start contenders) s = .next s)
      ∧ exec (.arbitration .settle contenders) s = .next s)
    ∧ (∀ w, s.link.onWire = some w →
      exec (.arbitration .whole contenders) s = .next s ∧ exec (.arbitration .start contenders) s = .next s
      ∧ (w.won = true → exec (.arbitration .settle contenders) s = .next s)
      ∧ (w.won = false →
        ((∀ k ∈ contenders, frameKey w.tx.frame ≤ k) →
          exec (.arbitration .settle contenders) s = .next (s.setWire (some { w with won := true })))
        ∧ ((∃ k ∈ contenders, k < frameKey w.tx.frame) →
          (isBeacon w.tx.frame.body = false ∨ s.pendingBeacon = none → exec (.arbitration .settle contenders) s
            = .next ((s.setWire none).setQueue (insertTx w.tx s.link.queue)))
          ∧ (∀ newer, isBeacon w.tx.frame.body = true → s.pendingBeacon = some newer → newer.tag = .plain →
            s.engine.requeue = none → exec (.arbitration .settle contenders) s = .next ((s.setWire none).setQueue
              (insertTx { w.tx with frame := { w.tx.frame with body := newer.frame.body } }
                (s.link.queue.erase newer)))))))

/-- LOOPBACK_CHECK: the node's own HOLD, RESTRAIN and RELEASE heard back only leave the wire; an own BEACON heard back
becomes the node's last beacon in its view; a NOTICES reply SENT clears the flags it reported; a part of a data reply SENT
has the next part queued, or completes the reply after the last, and one that ends otherwise ends the reply. A first or
second failure makes the frame pending again in its place, but a beacon is discarded for a newer pending one, which takes
over its failure count; bytes that are no frame are counted besides; a third failure stops the transmitter, empties the
queue and faults the node with cause LINK. An own VOTE, zone frame or RING_CLOSED heard back is taken as
VoteDecidesTheRound, the statements of zone frames and RingClosedAndRingSet state.
The model's: a check with no frame on the wire, or with one whose arbitration is open, changes nothing (log 8); a frame
marked for discard ends REMOVED at any failure, a third one too (log 9); a LINK fault at a node already FAULTED stops the
transmitter and keeps the first cause (log 40). -/
def Obligations.LoopbackSettlesTheFrame : Prop :=
  (∀ (s : State) (heard : Heard), (∀ w, s.link.onWire = some w → w.won = false) →
    exec (.loopbackCheck heard) s = .next s)
  ∧ (∀ (s : State) (w : WireFrame), s.link.onWire = some w → w.won = true →
    (∀ body, w.tx.frame.body = body → w.tx.tag = .plain → s.engine.requeue = none →
      ((∃ c g, body = .hold c g) ∨ (∃ p, body = .restrain p) ∨ ∃ p, body = .release p) →
      exec (.loopbackCheck .same) s = .next (s.setWire none))
    ∧ (∀ b, w.tx.frame.body = .beacon b → w.tx.tag = .plain → s.engine.requeue = none → s.configured = true →
      s.isMember s.own = true → exec (.loopbackCheck .same) s = .next ((s.setWire none).setView
        (s.machine.view.map fun e => if e.member = s.own then { e with last := some b } else e)))
    ∧ (∀ flags p, w.tx.tag = .notices flags → w.tx.frame.body = .reply p → s.engine.requeue = none →
      exec (.loopbackCheck .same) s
        = .next ((s.setWire none).setConsole { s.console with notices := s.console.notices &&& ~~~flags }))
    ∧ (∀ p r, w.tx.tag = .dataPart → w.tx.frame.body = .reply p → s.engine.requeue = none →
      s.console.dataReply = some r →
      (r.part < r.count → exec (.loopbackCheck .same) s = .next (((s.setWire none).setConsole { s.console with
        dataReply := some { r with part := r.part + 1, values := r.values.drop 4 } }).queueTagged r.station
          (.reply ([r.service, 0, 0, byteOf (r.part + 1), byteOf r.count] ++ (r.values.take 4).flatMap valueBytes))
          .dataPart))
      ∧ (r.count ≤ r.part →
        exec (.loopbackCheck .same) s = .next ((s.setWire none).setConsole { s.console with dataReply := none }))
      ∧ (w.tx.discard = true →
        exec (.loopbackCheck .nothing) s = .next ((s.setWire none).setConsole { s.console with dataReply := none })))
    ∧ exec (.loopbackCheck (.bytes (encodeFrame w.tx.frame))) s = exec (.loopbackCheck .same) s
    ∧ (∀ bytes, parseFrame bytes = none → bytes ≠ encodeFrame w.tx.frame →
      exec (.loopbackCheck (.bytes bytes)) s = exec (.loopbackCheck .nothing) s.countBadCheck)
    ∧ (w.tx.discard = false → w.tx.failures < 2 → (isBeacon w.tx.frame.body && s.pendingBeacon.isSome) = false →
      exec (.loopbackCheck .nothing) s
        = .next ((s.setWire none).setQueue (insertTx { w.tx with failures := w.tx.failures + 1 } s.link.queue)))
    ∧ (w.tx.failures < 2 → isBeacon w.tx.frame.body = true → s.pendingBeacon.isSome = true → w.tx.tag = .plain →
      s.engine.requeue = none → exec (.loopbackCheck .nothing) s = .next ((s.setWire none).setQueue
        (s.link.queue.map fun f => if isBeacon f.frame.body then { f with failures := w.tx.failures + 1 } else f)))
    ∧ (w.tx.discard = true → w.tx.tag = .plain → s.engine.requeue = none →
      (∀ p, w.tx.frame.body = .ringClosed p → s.engine.closePending = false) →
      (2 ≤ w.tx.failures ∨ isBeacon w.tx.frame.body = false ∨ s.pendingBeacon = none) →
      exec (.loopbackCheck .nothing) s = .next (s.setWire none))
    ∧ (w.tx.discard = false → w.tx.failures = 2 → ∃ t : State, exec (.loopbackCheck .nothing) s = .next t
      ∧ t.link.transmitting = false ∧ t.link.onWire = none ∧ t.link.queue = [] ∧ t.node.state = .faulted
      ∧ (s.node.state ≠ .faulted → t.node.cause = some .link)
      ∧ (s.node.state = .faulted → t.node = { s.node with furtherFaults := s.node.furtherFaults + 1 })
      ∧ t.channels = s.channels ∧ t.overrides = s.overrides ∧ t.node.config = s.node.config))

/-- What answering a service does: a broadcast one is not answered; an addressed one is answered by one REPLY queued to
the sending station, which is dropped and counted when the queue holds 16 frames and discarded while the transmitter is
stopped. Nothing else changes. -/
def Obligations.ServicesAreAnswered : Prop :=
  ∀ (s : State) (station : Station) (service : Service) (e : EndCode),
    s.answer station false service e = s
    ∧ (s.HasPlace → s.answer station true service e = s.setLink { s.link with
        queue := insertTx (s.replyFrame station service e) s.link.queue, nextAge := s.link.nextAge + 1 })
    ∧ (s.link.transmitting = true → 16 ≤ s.link.held → s.answer station true service e =
        (s.setLink { s.link with nextAge := s.link.nextAge + 1 }).setConsole { s.console with
          counters := { s.console.counters with txqDrops := s.console.counters.txqDrops + 1 }
          notices := s.console.notices ||| noticeMask .txqDrop })
    ∧ (s.link.transmitting = false →
        s.answer station true service e = s.setLink { s.link with nextAge := s.link.nextAge + 1 })

/-! ### Machine phase and membership -/

/-- HOLD: from BORE or BUILD the phase becomes HOLD with the cause's grade and a new record, the drives stop, and no
cylinder stays ADVANCING; in HOLD the cause is counted and may raise the grade, and no frame is queued. A HARD entry and a
raise from SOFT to HARD stop a dose in flight, the rotation pointer then at its port if that is a chain port; in HOLD
nothing else changes the grout unit. An open round fails HELD. A node without a configuration ignores the frame. -/
def Obligations.HoldFrameTaken : Prop :=
  ∀ (sender target : Station) (cause : HoldCause) (sent : Grade) (s : State), s.HearsAny sender target →
    (s.configured = false → exec (.hold sender target cause sent) s = .next s)
    ∧ (s.configured = true → ∃ t : State, exec (.hold sender target cause sent) s = .next t ∧ s.KeepsRecords t
      ∧ t.machine.round = none ∧ t.machine.previous = s.machine.previous
      ∧ (∀ r, s.machine.round = some r → t.machine.lastFailure = some ⟨r.target, sender.toNat, .held⟩
          ∧ t.noticed .voteFailed = true ∧ t.console.counters.failedVotes = s.console.counters.failedVotes + 1)
      ∧ (s.machine.round = none → t.machine.lastFailure = s.machine.lastFailure)
      ∧ (s.inHold = false → t.machine.phase = .hold (causeGrade cause sent)
          ∧ t.machine.current = some ⟨cause, sender.toNat, s.machine.ring, causeGrade cause sent, 0⟩
          ∧ t.DrivesStop ∧ (s.machine.phase = .bore → ∀ c ∈ t.thrust.cylinders, c.state ≠ .advancing)
          ∧ (causeGrade cause sent = .hard → s.DoseStopped t)
          ∧ t.thrust.zone = none)
      ∧ (∀ now, s.machine.phase = .hold now →
          t.machine.phase = .hold (if causeGrade cause sent = .hard then .hard else now)
          ∧ (s.machine.current = none → t.machine.current = some ⟨cause, sender.toNat, s.machine.ring,
              if causeGrade cause sent = .hard then .hard else now, 0⟩)
          ∧ (∀ r, s.machine.current = some r → t.machine.current = some { r with
              further := min 255 (r.further + 1)
              grade := if causeGrade cause sent = .hard ∧ now = .soft then .hard else r.grade })
          ∧ (causeGrade cause sent = .hard → now = .soft → s.DoseStopped t)
          ∧ (causeGrade cause sent = .soft ∨ now = .hard → t.grout = s.grout)
          ∧ t.link = s.link ∧ t.thrust = s.thrust ∧ t.drive = s.drive ∧ t.engine = s.engine ∧ t.muck = s.muck))

/-- PROPOSE: discarded and counted while a round is open; otherwise it opens a round with a 200 ms window and no vote
recorded, and queues the node's VOTE. READY is voted only when the tests of Table 3-5 pass. That STROKE_DONE fails by the
sector advance and by the stroke reached flag alike is the model's deduction (log 41). -/
def Obligations.ProposeOpensARound : Prop :=
  (∀ (sender target : Station) (p : VoteTarget) (s : State), s.HearsConsole sender target →
    (s.configured = false → exec (.propose sender target p) s = .next s)
    ∧ (∀ r, s.configured = true → s.machine.round = some r → exec (.propose sender target p) s =
        .next (s.setConsole { s.console with counters :=
          { s.console.counters with discardedProposals := s.console.counters.discardedProposals + 1 } }))
    ∧ (s.configured = true → s.machine.round = none → exec (.propose sender target p) s =
        .next ((s.setMachine { s.machine with round := some ⟨p, 200, s.membersInOrder.map (fun m => (m, none))⟩ }).queueFrame
          (.vote p (s.readiness p)))))
  ∧ (∀ (s : State) (p : VoteTarget),
    (s.inHold = false → s.readiness p = .refuse .phase)
    ∧ (s.inHold = true → s.node.state = .joining → s.readiness p = .refuse .joining)
    ∧ (s.inHold = true → s.node.state = .faulted → s.readiness p = .refuse .faulted)
    ∧ (s.readiness p = .ready → s.inHold = true ∧ s.node.state ≠ .joining ∧ s.node.state ≠ .faulted
        ∧ (∀ e ∈ s.machine.view, e.presence = .present ∧ ∀ b, e.last = some b → b.ring.toNat = s.machine.ring))
    ∧ (s.readiness .bore = .ready →
        (∀ c ∈ s.thrust.cylinders, s.cylPinned c = false → c.state = .bearing)
        ∧ (∀ d ∈ s.drive.drives, d.state ≠ .tripped) ∧ s.thrust.sectorAdvance < s.cfg.strokeTarget
        ∧ s.thrust.strokeReached = false ∧ s.shortfallL < s.cfg.shortfallHold ∧ (s.ownsErector = true → s.engine.placed = [])
        ∧ (s.ownsMuck = true → s.receivingCar = true ∧ s.muck.overdig = false ∧ s.muck.faceLow = false)
        ∧ s.drive.guard.jam = false)
    ∧ (s.readiness .build = .ready →
        (∀ d ∈ s.drive.drives, d.state = .stopped) ∧ s.cfg.strokeTarget ≤ s.thrust.sectorAdvance
        ∧ (s.ownsErector = true →
            s.engine.state = .suspended ∨ (s.engine.state = .idle ∧ s.headStep.isSome = true))))

/-- VOTE of a peer, or the node's own heard back: a REFUSE fails the round at once; a READY is recorded; the last READY
moves the phase to the target, the current hold record becoming the previous one. In BORE a fit drive is STARTING, an
unpinned BEARING cylinder ADVANCING before the stroke is reached and an unpinned CLEAR one RESEATING at the default
pressure, and the sector advance is settled; a drive TRIPPED since the vote holds the machine HARD with DRIVE_TRIP. A vote
for another target, from a member already recorded, or with no round open is ignored. The order in which entry to BORE is
handed to the units, and the run condition tested before the trip within the drive unit, are the model's choice (log 14); so
is that the last READY takes a FAULTED node out of HOLD as it does any other (log 44). -/
def Obligations.VoteDecidesTheRound : Prop :=
  ∀ (p : VoteTarget) (a : VoteAnswer) (i : Instr) (sender : Nat) (s u : State),
    s.Reaches (fun station target => .vote station target p a) (.vote p a) i sender u →
    (∀ r why, a = .refuse why → u.machine.round = some r → r.target = p → (sender, none) ∈ r.votes →
      exec i s = .next (((u.setMachine { u.machine with
          round := none, lastFailure := some ⟨p, sender, .refused why⟩ }).notify .voteFailed).count
        fun c => { c with failedVotes := c.failedVotes + 1 }))
    ∧ (∀ r, a = .ready → u.machine.round = some r → r.target = p → (sender, none) ∈ r.votes →
      (∃ v ∈ r.votes, v ≠ (sender, none) ∧ v.2 ≠ some .ready) →
      exec i s = .next (u.setMachine { u.machine with round := some { r with
        votes := r.votes.map fun v => if v = (sender, none) then (sender, some .ready) else v } }))
    ∧ (∀ r, a = .ready → u.machine.round = some r → r.target = p → (sender, none) ∈ r.votes →
      (∀ v ∈ r.votes, v = (sender, none) ∨ v.2 = some .ready) →
      (p = .build → ∃ t : State, exec i s = .next t ∧ t.machine.phase = .build
        ∧ t.machine.current = none ∧ t.machine.round = none ∧ t.machine.lastFailure = u.machine.lastFailure
        ∧ t.machine.previous = (if u.machine.current.isSome then u.machine.current else u.machine.previous)
        ∧ t.node = u.node ∧ t.overrides = u.overrides ∧ t.machine.ring = u.machine.ring
        ∧ t.machine.view = u.machine.view ∧ t.DrivesStop ∧ t.thrust = u.thrust ∧ t.plans = u.plans)
      ∧ (p = .bore → exec i s = .next (u.setMachine { u.machine with
          phase := .bore, current := none, round := none
          previous := if u.machine.current.isSome then u.machine.current else u.machine.previous }).handEntryToBore)
      ∧ (p = .bore → ∃ t : State, exec i s = .next t
        ∧ ((∀ d ∈ u.drive.drives, d.state ≠ .tripped) → u.BoreEntered t)
        ∧ ((∃ d ∈ u.drive.drives, d.state = .tripped) → u.BoreTripped t)
        ∧ t.machine.round = none
        ∧ t.machine.previous = (if u.machine.current.isSome then u.machine.current else u.machine.previous)
        ∧ t.node = u.node ∧ t.overrides = u.overrides ∧ t.machine.ring = u.machine.ring ∧ t.machine.view = u.machine.view
        ∧ (u.engine.stopping = false ∨ u.engine.state ∉ [.clearing, .placing, .reseating] → t.plans = u.plans)))
    ∧ ((∀ r, u.machine.round = some r → r.target = p → (sender, none) ∉ r.votes) → exec i s = .next u)

/-- An open round lists the configured members, each once, and every step keeps it so. A node leaves HOLD only on
completing a round in which READY stands recorded from every configured member but one, whose READY the step then takes,
and it enters the round's target. -/
def Obligations.HoldLeftOnlyByARound : Prop :=
  ∀ s t : State, s.RoundListsMembers → step s = .next t → t.RoundListsMembers
    ∧ (s.inHold = true → t.inHold = false →
      ∃ r m, s.machine.round = some r ∧ m ∈ s.membersInOrder ∧ (m, none) ∈ r.votes ∧ s.BringsReady m r.target
        ∧ (∀ n ∈ s.membersInOrder, n = m ∨ (n, some VoteAnswer.ready) ∈ r.votes)
        ∧ (∀ v ∈ r.votes, v = (m, none) ∨ v.2 = some .ready)
        ∧ t.machine.phase = (match r.target with
          | .bore => .bore
          | .build => .build))

/-- BEACON: a matching digest makes the entry PRESENT with the contents, and sets the peer's restraint entries as the
beacon's flags; the second disagreement in a row holds the machine HARD with DISCORD. Another digest makes the entry
ALIEN, and a peer that so leaves PRESENT loses its restraint entries and, at a MEMBER node, holds the machine. -/
def Obligations.BeaconTaken : Prop :=
  ∀ (sender target : Station) (b : Beacon) (s : State) (e : ViewEntry), s.HearsPeer sender target →
    s.entry? sender.toNat = some e →
    (some b.digest = s.node.digest → ∃ t e', exec (.beacon sender target b) s = .next t
      ∧ t.entry? sender.toNat = some e' ∧ e'.presence = .present ∧ e'.last = some b ∧ e'.since = some 0
      ∧ (∀ m, m ≠ sender.toNat → t.entry? m = s.entry? m)
      ∧ t.restrainedBy sender.toNat = (b.grout, b.muck, b.torqueHigh, b.face)
      ∧ t.node = s.node ∧ t.channels = s.channels ∧ t.overrides = s.overrides ∧ t.machine.ring = s.machine.ring
      ∧ (b.nodeState ≠ .member → e'.strikes = 0)
      ∧ (s.node.state = .member → b.nodeState = .member → b.phase = s.phaseCode → b.ring.toNat = s.machine.ring →
          e'.strikes = 0)
      ∧ (s.node.state = .member → b.nodeState = .member → (b.phase ≠ s.phaseCode ∨ b.ring.toNat ≠ s.machine.ring) →
          (e.presence = .present ∧ 1 ≤ e.strikes → e'.strikes = 0 ∧ t.machine.phase = .hold .hard
            ∧ t.noticed .discord = true)
          ∧ (e.presence ≠ .present ∨ e.strikes = 0 → e'.strikes = 1)))
    ∧ (some b.digest ≠ s.node.digest → ∃ t : State, exec (.beacon sender target b) s = .next t
      ∧ t.entry? sender.toNat = some ⟨e.member, .alien, none, some 0, 0⟩
      ∧ (∀ m, m ≠ sender.toNat → t.entry? m = s.entry? m)
      ∧ t.node = s.node ∧ t.channels = s.channels ∧ t.overrides = s.overrides ∧ t.machine.ring = s.machine.ring
      ∧ (e.presence = .present → t.restrainedBy sender.toNat = (false, false, false, false)
        ∧ (s.node.state = .member → t.machine.phase = .hold .hard ∧ t.noticed .peerSilent = true)))

/-- BEACON_PERIOD queues a beacon with the node's values and starts the period anew; VOTE_WINDOW_EXPIRY fails the round
with NO_VOTE, naming the lowest-numbered member whose vote is missing. That either does nothing while its timer does not
run is the model's choice (log 2). -/
def Obligations.BeaconPeriodAndVoteWindow : Prop :=
  ∀ s : State,
    (s.configured = false ∨ s.node.state = .unconfigured → exec .beaconPeriod s = .next s)
    ∧ (s.configured = true → s.node.state ≠ .unconfigured → s.machine.beaconTimer = 50 →
      exec .beaconPeriod s = .next (s.setMachine { s.machine with beaconTimer := 0 }).queueBeacon)
    ∧ (s.HasPlace → s.pendingBeacon = none → s.queueBeacon = s.setLink { s.link with
        queue := insertTx (s.newFrame 0 (.beacon s.beaconContents) .plain) s.link.queue
        nextAge := s.link.nextAge + 1 })
    ∧ (∀ f, s.link.transmitting = true → s.pendingBeacon = some f →
        s.queueBeacon = s.setLink { s.link with queue := State.replaceBeacon (.beacon s.beaconContents) s.link.queue })
    ∧ (s.machine.round = none → exec .voteWindowExpiry s = .next s)
    ∧ (∀ r, s.machine.round = some r → r.remaining = 0 → exec .voteWindowExpiry s = .next
        (((s.setMachine { s.machine with
            round := none, lastFailure := some ⟨r.target, State.missingVoter r, .noVote⟩ }).notify .voteFailed).count
          fun c => { c with failedVotes := c.failedVotes + 1 }))
    ∧ (∀ r m, s.RoundListsMembers → s.machine.round = some r → (m, none) ∈ r.votes →
        (∀ n, (n, none) ∈ r.votes → m ≤ n) → State.missingVoter r = m)

/-- SILENCE_EXPIRY: a peer's entry whose 150 ms have run becomes SILENT; one that so leaves PRESENT loses its restraint
entries and, at a MEMBER node, holds the machine HARD with PEER_SILENT.
LISTEN_WINDOW_END: with no MEMBER peer the node enters MEMBER with its own ring number, with agreeing MEMBER peers it
takes theirs, and with disagreeing ones it stays JOINING in a new window with RING_MISMATCH set. The first membership
captures the stroke origin. That either command does nothing while its timer does not run is the model's choice (log 2). -/
def Obligations.SilenceAndListenWindowEnd : Prop :=
  (∀ (peer : Nat) (s : State) (e : ViewEntry), s.entry? peer = some e →
    (peer = s.own ∨ e.presence = .silent ∨ e.since = none → exec (.silenceExpiry peer) s = .next s)
    ∧ (peer ≠ s.own → e.presence ≠ .silent → e.since = some 150 → ∃ t : State, exec (.silenceExpiry peer) s = .next t
      ∧ t.entry? peer = some ⟨e.member, .silent, none, none, 0⟩ ∧ (∀ m, m ≠ peer → t.entry? m = s.entry? m)
      ∧ t.node = s.node ∧ t.channels = s.channels ∧ t.overrides = s.overrides ∧ t.machine.ring = s.machine.ring
      ∧ (e.presence = .present → t.restrainedBy peer = (false, false, false, false)
        ∧ (s.node.state = .member → t.machine.phase = .hold .hard ∧ t.noticed .peerSilent = true))))
  ∧ (∀ s : State,
    (s.node.state ≠ .joining ∨ s.node.listen = none → exec .listenWindowEnd s = .next s)
    ∧ (s.node.state = .joining → s.node.listen = some 150 →
      (∀ n, (∀ m ∈ s.memberPeerRings, m = n) → (s.memberPeerRings = [] → n = s.machine.ring) →
        ∃ t : State, exec .listenWindowEnd s = .next t
          ∧ t.node = { s.node with state := .member, listen := none, firstMembership := false }
          ∧ t.machine.ring = n ∧ t.machine.view = s.machine.view ∧ t.overrides = s.overrides
          ∧ (s.node.firstMembership = true → t.thrust.sectorAdvance = 0 ∧ t.thrust.credited = 0
            ∧ ∀ c ∈ t.thrust.cylinders, c.origin = some c.stroke))
      ∧ ((∃ m ∈ s.memberPeerRings, ∃ n ∈ s.memberPeerRings, m ≠ n) → exec .listenWindowEnd s =
        .next ((s.setNode { s.node with listen := some 0 }).notify .ringMismatch))))

/-! ### Thrust -/

/-- RESTRAIN and RELEASE of a PRESENT peer add and remove its entry; those of another peer, or of wrong form, are ignored
and not counted. -/
def Obligations.RestraintFramesTaken : Prop :=
  ∀ (sender target : Station) (payload : List Byte) (s : State), s.HearsPeer sender target →
    (∀ r, s.peerPresent sender.toNat = true → payload = [restraintCode r] →
      ∃ t u, exec (.restrain sender target payload) s = .next t ∧ exec (.release sender target payload) s = .next u
        ∧ t = s.setThrust { s.thrust with restraints := t.thrust.restraints }
        ∧ (∀ x, x ∈ t.thrust.restraints ↔ x ∈ s.thrust.restraints ∨ x = (sender.toNat, r))
        ∧ u = s.setThrust { s.thrust with restraints := u.thrust.restraints }
        ∧ (∀ x, x ∈ u.thrust.restraints ↔ x ∈ s.thrust.restraints ∧ x ≠ (sender.toNat, r)))
    ∧ (s.peerPresent sender.toNat = false ∨ (∀ r, payload ≠ [restraintCode r]) →
      exec (.restrain sender target payload) s = .next s ∧ exec (.release sender target payload) s = .next s)

/-- ZONE_CLEAR of the erector owner, its own heard back included: ignored in wrong form, when a condition of R73 fails, or
as a repeat of the request in flight; refused PINNED or MINIMUM with no cylinder moved; otherwise every unpinned zone
cylinder that is neither FAILED nor CLEAR becomes RETRACTING and the request is tested. -/
def Obligations.ZoneClearSettled : Prop :=
  ∀ (payload : List Byte) (i : Instr) (sender : Nat) (s u : State),
    s.Reaches (fun station target => .zoneClear station target payload) (.zoneClear payload) i sender u →
    (payload.length ≠ 4 → exec i s = .next u)
    ∧ (∀ z, zoneClearOf payload = some z →
      (¬u.TakesZone sender z ∨ u.RepeatsZone z → exec i s = .next u)
      ∧ (u.TakesZone sender z → ¬u.RepeatsZone z →
        ((∃ c ∈ u.zoneCylinders z.position, u.cylPinned c = true ∧ c.state = .bearing) →
          exec i s = .next ((u.setZone none).queueRefusal z .pinned))
        ∧ ((∀ c ∈ u.zoneCylinders z.position, u.cylPinned c = true → c.state ≠ .bearing) →
          (u.retractionPermitted (u.zoneCylinders z.position) = false →
            exec i s = .next ((u.setZone none).queueRefusal z .minimum))
          ∧ (u.retractionPermitted (u.zoneCylinders z.position) = true →
            exec i s = .next (((u.setCylinders (u.thrust.cylinders.map fun c =>
              if u.inZone z.position c = true ∧ u.cylPinned c = false ∧ c.state ≠ .failed ∧ c.state ≠ .clear then
                { c with state := .retracting, reseatTarget := none }
              else c)).setZone (some z)).testZone)))))

/-- ZONE_SEAT of the erector owner, its own heard back included: ignored in wrong form, when a condition of R73 fails, or
as a repeat; refused PINNED where a zone cylinder is pinned and CLEAR; otherwise every unpinned CLEAR, PARKED, RETRACTING
or RESEATING zone cylinder becomes RESEATING at the request's pressure and the request is tested. A request tested with a
pin against it is refused, one that is complete is answered, and any other stays in flight. -/
def Obligations.ZoneSeatSettled : Prop :=
  (∀ (payload : List Byte) (i : Instr) (sender : Nat) (s u : State),
    s.Reaches (fun station target => .zoneSeat station target payload) (.zoneSeat payload) i sender u →
    (payload.length ≠ 6 → exec i s = .next u)
    ∧ (∀ r1 r0 q a k1 k0, payload = [r1, r0, q, a, k1, k0] → k1.toNat * 256 + k0.toNat < 1000
      ∨ 35000 < k1.toNat * 256 + k0.toNat → exec i s = .next u)
    ∧ (∀ z, zoneSeatOf payload = some z →
      (¬u.TakesZone sender z ∨ u.RepeatsZone z → exec i s = .next u)
      ∧ (u.TakesZone sender z → ¬u.RepeatsZone z →
        ((∃ c ∈ u.zoneCylinders z.position, u.cylPinned c = true ∧ c.state = .clear) →
          exec i s = .next ((u.setZone none).queueRefusal z .pinned))
        ∧ ((∀ c ∈ u.zoneCylinders z.position, u.cylPinned c = true → c.state ≠ .clear) →
          exec i s = .next (((u.setCylinders (u.thrust.cylinders.map fun c =>
            if u.inZone z.position c = true ∧ u.cylPinned c = false
                ∧ (c.state = .clear ∨ c.state = .parked ∨ c.state = .retracting ∨ c.state = .reseating) then
              { c with state := .reseating, reseatTarget := some z.pressure }
            else c)).setZone (some z)).testZone)))))
  ∧ (∀ (s : State) (z : ZoneRequest), s.thrust.zone = some z →
    ((∃ c ∈ s.zoneCylinders z.position, s.pinnedAgainst z.kind c = true) →
      s.testZone = (s.setZone none).queueRefusal z .pinned)
    ∧ ((∀ c ∈ s.zoneCylinders z.position, s.pinnedAgainst z.kind c = false) →
      ((∀ c ∈ s.zoneCylinders z.position, c.state = .failed ∨ c.state = (match z.kind with
          | .clear => .clear
          | .seat => .bearing)) → s.testZone = (s.setZone none).queueAnswer z)
      ∧ ((∃ c ∈ s.zoneCylinders z.position, c.state ≠ .failed ∧ c.state ≠ (match z.kind with
          | .clear => .clear
          | .seat => .bearing)) → s.testZone = s)))

/-- The node commands no cylinder out of bearing, by zone request or by override, when that would leave fewer than h_min
bearing: after each of these commands the bearing count is at least h_min or no lower than it was. -/
def Obligations.BearingMinimumKept : Prop :=
  ∀ (i : Instr) (s t : State),
    ((∃ a b p, i = .zoneClear a b p) ∨ (∃ a b p, i = .zoneSeat a b p) ∨ (∃ a b p, i = .override a b p)
      ∨ ∃ a b p, i = .overrideCancel a b p) →
    exec i s = .next t → s.cfg.hMin ≤ t.bearingCount ∨ s.bearingCount ≤ t.bearingCount

/-- SETPOINT: each field replaces its setpoint when it is in range, 0..120 and 0..600, and leaves it otherwise; a payload
that is not four bytes long, or a node without a configuration, ignores the frame. -/
def Obligations.SetpointTaken : Prop :=
  ∀ (sender target : Station) (payload : List Byte) (s : State), s.HearsConsole sender target →
    (s.configured = false ∨ payload.length ≠ 4 → exec (.setpoint sender target payload) s = .next s)
    ∧ (∀ a1 a0 c1 c0, s.configured = true → payload = [a1, a0, c1, c0] → exec (.setpoint sender target payload) s =
      .next ((s.setThrust { s.thrust with
          setpoint := if a1.toNat * 256 + a0.toNat ≤ 120 then a1.toNat * 256 + a0.toNat else s.thrust.setpoint }).setDrive
        { s.drive with
          setpoint := if c1.toNat * 256 + c0.toNat ≤ 600 then c1.toNat * 256 + c0.toNat else s.drive.setpoint }))

/-- In BORE at a node that is neither FAULTED nor UNCONFIGURED, an ADVANCING cylinder is commanded to extend at the first
speed of Table R69 that applies; no cylinder is commanded an advance faster than the creep speed while a restraint
stands; a RESEATING cylinder is commanded no advance speed. -/
def Obligations.AdvanceSpeedCommanded : Prop :=
  ∀ (s : State) (n : Nat),
    (∀ c, s.cylinder? n = some c → c.state = .advancing → s.standsStill = false →
      (s.thrust.steerPause = true → s.cylCommand n = .extend 0)
      ∧ (s.thrust.steerPause = false → s.thrust.strokeReached = true → s.cylCommand n = .extend 0)
      ∧ (s.thrust.steerPause = false → s.thrust.strokeReached = false → s.thrust.restraints ≠ [] →
          s.cylCommand n = .extend (min s.thrust.setpoint s.cfg.creepSpeed))
      ∧ (s.thrust.steerPause = false → s.thrust.strokeReached = false → s.thrust.restraints = [] →
          s.cylCommand n = .extend s.thrust.setpoint))
    ∧ (∀ v, s.thrust.restraints ≠ [] → s.cylCommand n = .extend v → v ≤ s.cfg.creepSpeed)
    ∧ (∀ c v, s.cylinder? n = some c → c.state = .reseating → s.cylCommand n ≠ .extend v)
    ∧ (s.standsStill = true → s.cylCommand n = .holdStill)

/-- CYLINDER_REPORT: stroke, pressure and fault indication are recorded, those of a channel not fitted in the channel's
record alone (the model's deduction, log 25). A fault makes the cylinder FAILED with CYL_FAULT set, and in BORE below
h_min holds the machine HARD. A report without one moves a RETRACTING cylinder at its stop to CLEAR and a RESEATING one at
its target to BEARING; in BORE an unpinned CLEAR one is RESEATING and one at its target ADVANCING, both by one report if
it meets both.
In BORE it then settles the advance: the sector advance is the least gain of the counting cylinders, the credited advance
rises with it, and each rise is owed to every port, tested for the GROUT restraint and the SHORTFALL hold; the steer pause
follows the lead, stroke reached stops the advance at the stroke target, and the stroke's end holds the machine. Last, a
zone request in flight for the cylinder's zone is refused PINNED, answered, or in flight still. The order
of these tests, so that a SHORTFALL hold comes before stroke reached, is the model's choice (log 12). -/
def Obligations.CylinderReportTaken : Prop :=
  ∀ (n : Nat) (stroke pressure : Half) (fault retracted : Bool) (s : State), 1 ≤ n → n ≤ 6 →
    (s.cylinder? n = none → exec (.cylinderReport n stroke pressure fault retracted) s = .next (s.setChannels
      { s.channels with cylinders := s.channels.cylinders.set (n - 1) ⟨stroke, pressure, fault, retracted⟩ }))
    ∧ (∀ c, s.cylinder? n = some c → ∃ t c', exec (.cylinderReport n stroke pressure fault retracted) s = .next t
      ∧ t.channels.cylinders = s.channels.cylinders.set (n - 1) ⟨stroke, pressure, fault, retracted⟩
      ∧ t.cylinder? n = some c' ∧ c'.number = n ∧ c'.stroke = stroke ∧ c'.pressure = pressure ∧ c'.fault = fault
      ∧ c'.origin = c.origin ∧ t.node = s.node ∧ t.overrides = s.overrides ∧ t.machine.ring = s.machine.ring
      ∧ t.machine.view = s.machine.view ∧ s.ZoneAtReport c t
      ∧ (fault = true → c'.state = .failed
        ∧ (c.state ≠ .failed → c'.reseatTarget = none ∧ t.noticed .cylFault = true
          ∧ (s.machine.phase = .bore →
              (s.thrust.cylinders.map fun d => if d.number = n then { d with state := .failed } else d).countP
                Cylinder.isBearing < s.cfg.hMin → t.machine.phase = .hold .hard)))
      ∧ (fault = false → s.machine.phase ≠ .bore →
        (c.state = .retracting → retracted = true → c'.state = .clear)
        ∧ (c.state = .reseating → c.reseatTarget.getD 0 ≤ pressure.toNat → c'.state = .bearing ∧ c'.reseatTarget = none)
        ∧ (¬(c.state = .retracting ∧ retracted = true) →
            ¬(c.state = .reseating ∧ c.reseatTarget.getD 0 ≤ pressure.toNat) → c'.state = c.state)
        ∧ t.thrust.sectorAdvance = s.thrust.sectorAdvance ∧ t.grout = s.grout ∧ t.machine = s.machine)
      ∧ (fault = false → s.machine.phase = .bore →
        ((∀ d ∈ s.countingCylinders n stroke, t.thrust.sectorAdvance ≤ d.gain)
          ∧ (s.countingCylinders n stroke ≠ [] → ∃ d ∈ s.countingCylinders n stroke, t.thrust.sectorAdvance = d.gain)
          ∧ (s.countingCylinders n stroke = [] → t.thrust.sectorAdvance = s.thrust.sectorAdvance))
        ∧ t.thrust.credited = max s.thrust.credited t.thrust.sectorAdvance
        ∧ (t.thrust.sectorAdvance ≤ s.thrust.credited → t.grout = s.grout)
        ∧ (s.thrust.credited < t.thrust.sectorAdvance →
          t.grout.ports = s.grout.ports.map (fun p => { p with
            owed := min 4294967295 (p.owed + (t.thrust.sectorAdvance - s.thrust.credited) * s.portFactor p.number) })
          ∧ (s.configured = true →
            t.grout.restrained = (if s.grout.restrained then decide (s.cfg.shortfallOff < t.shortfallL)
              else decide (s.cfg.shortfallOn ≤ t.shortfallL))
            ∧ (s.grout.restrained = false → s.cfg.shortfallOn ≤ t.shortfallL →
                (s.own, RestraintReason.grout) ∈ t.thrust.restraints)
            ∧ (s.grout.restrained = true → t.shortfallL ≤ s.cfg.shortfallOff →
                (s.own, RestraintReason.grout) ∉ t.thrust.restraints))
          ∧ (s.cfg.shortfallHold ≤ t.shortfallL → t.inHold = true ∧ t.thrust.strokeReached = s.thrust.strokeReached))
        ∧ ((s.thrust.credited < t.thrust.sectorAdvance → t.shortfallL < s.cfg.shortfallHold) →
          t.thrust.strokeReached = (s.thrust.strokeReached || decide (s.cfg.strokeTarget ≤ t.thrust.sectorAdvance))
          ∧ (s.thrust.strokeReached = false → s.cfg.strokeTarget ≤ t.thrust.sectorAdvance →
              ∀ d ∈ t.thrust.cylinders, d.state ≠ .advancing)
          ∧ (t.thrust.sectorAdvance ≠ s.thrust.sectorAdvance → s.cfg.strokeTarget ≤ t.thrust.sectorAdvance →
              (∀ b ∈ s.peerBeacons, s.cfg.strokeTarget ≤ b.advance.toNat) → t.inHold = true)
          ∧ ((t.thrust.sectorAdvance = s.thrust.sectorAdvance ∨ t.thrust.sectorAdvance < s.cfg.strokeTarget
              ∨ ∃ b ∈ s.peerBeacons, b.advance.toNat < s.cfg.strokeTarget) →
              s.ownsMuck = false → t.machine = s.machine))
        ∧ (t.machine.phase = .bore →
          t.thrust.steerPause = (if s.cfg.steerLimit < t.thrust.sectorAdvance - t.slowestAdvance then true
            else if 2 * (t.thrust.sectorAdvance - t.slowestAdvance) ≤ s.cfg.steerLimit then false
            else s.thrust.steerPause)
          ∧ (c.state = .retracting → retracted = true →
            (s.cylPinned c = true → c'.state = .clear)
            ∧ (s.cylPinned c = false → pressure.toNat < s.cfg.reseatPressure →
                c'.state = .reseating ∧ c'.reseatTarget = some s.cfg.reseatPressure)
            ∧ (s.cylPinned c = false → s.cfg.reseatPressure ≤ pressure.toNat →
                c'.state = (if t.thrust.strokeReached then .bearing else .advancing) ∧ c'.reseatTarget = none))
          ∧ (c.state = .reseating → c.reseatTarget.getD 0 ≤ pressure.toNat → c'.reseatTarget = none
            ∧ c'.state = (if s.cylPinned c || t.thrust.strokeReached then .bearing else .advancing))
          ∧ (c.state = .advancing → t.thrust.strokeReached = false → c'.state = .advancing)
          ∧ (c.state ≠ .advancing → ¬(c.state = .retracting ∧ retracted = true) →
              ¬(c.state = .reseating ∧ c.reseatTarget.getD 0 ≤ pressure.toNat) → c'.state = c.state))
        ∧ (t.inHold = true → t.thrust.steerPause = false ∧ ∀ d ∈ t.thrust.cylinders, d.state ≠ .advancing)))

/-! ### Ring building -/

/-- ZONE_CLEARED and ZONE_HELD, the erector owner's own heard back included: one that meets R123 in its stage adds its
sender to the answered members; the last of CLEARING starts the placement; the last of RESEATING is a step done, which
leaves the store. After a STANDARD step the engine tests for the head step, or is DISABLED with the stopping flag set; a
KEY step with every position placed queues RING_CLOSED, with positions missing faults the engine. Any other answer, and
one of another length, is ignored. That the zone and answered members are emptied when a stage is complete is the model's
deduction (log 22). -/
def Obligations.ZoneAnswersTaken : Prop :=
  ∀ (payload : List Byte) (i : Instr) (sender : Nat) (stage : EngineState) (s u : State),
    (stage = .clearing ∧ s.Reaches (fun station target => .zoneCleared station target payload) (.zoneCleared payload) i sender u
      ∨ stage = .reseating ∧ s.Reaches (fun station target => .zoneHeld station target payload) (.zoneHeld payload) i sender u) →
    (payload.length ≠ 4 → exec i s = .next u)
    ∧ (∀ f, zoneFields payload = some f →
      (¬u.TakesAnswer sender f ∨ u.engine.state ≠ stage → exec i s = .next u)
      ∧ (u.TakesAnswer sender f → u.engine.state = stage →
        ((∃ m ∈ u.engine.zoneMembers, m ≠ sender ∧ m ∉ u.engine.answered) → exec i s = .next
          (u.setEngine { u.engine with answered := insertNumber sender u.engine.answered }))
        ∧ (∀ p st, u.currentStep = some (p, st) → (∀ m ∈ u.engine.zoneMembers, m = sender ∨ m ∈ u.engine.answered) →
          (stage = .clearing → u.node.state = .member → exec i s = .next (u.setEngine { u.engine with
            state := .placing, zoneMembers := [], answered := [], limit := some 120000, erector := .placing
            erectorCommand := .place st.position st.kind st.rotation }))
          ∧ (stage = .reseating → ∃ t : State, exec i s = .next t
            ∧ t.plans = u.popHeadStep.plans ∧ t.engine.placed = u.engine.placed ∧ u.KeepsRecords t
            ∧ t.thrust = u.thrust ∧ t.drive = u.drive ∧ t.grout = u.grout ∧ t.muck = u.muck
            ∧ (st.kind = .standard → ((u.setPlans u.popHeadStep.plans).setEngine { u.engine with
                state := if u.engine.stopping then .disabled else .idle, seated := none, zoneMembers := []
                answered := [], limit := none, stopping := false }).HeadStepTaken t)
            ∧ (st.kind = .key → u.ringFull = true → u.HasPlace →
                t.engine.closePending = true ∧ t.engine.seated = none
                ∧ t.engine.state = (if u.engine.stopping then .disabled else .idle)
                ∧ ∃ q ∈ t.link.queue, q.frame.body = .ringClosed (bytes16 u.nextRing))
            ∧ (st.kind = .key → u.ringFull = false → t.engine.state = .faulted ∧ t.engine.seated = none
                ∧ t.engine.fault = some ⟨.incomplete, p.identifier, st.index, st.position⟩
                ∧ t.noticed .planFault = true)))))

/-- ZONE_REFUSED, the erector owner's own heard back included: one that meets R123 in CLEARING or RESEATING moves the
engine to STALLED with the last refusal recorded, ZONE_REFUSED set and the statistic raised; with the stopping flag set the
step is dropped and the engine is DISABLED. Any other is ignored. -/
def Obligations.ZoneRefusedTaken : Prop :=
  ∀ (payload : List Byte) (i : Instr) (sender : Nat) (s u : State),
    s.Reaches (fun station target => .zoneRefused station target payload) (.zoneRefused payload) i sender u →
    (zoneRefusedOf payload = none → exec i s = .next u)
    ∧ (∀ r p a why, zoneRefusedOf payload = some (r, p, a, why) →
      (¬u.TakesAnswer sender (r, p, a) ∨ (u.engine.state ≠ .clearing ∧ u.engine.state ≠ .reseating) →
        exec i s = .next u)
      ∧ (∀ kind, u.TakesAnswer sender (r, p, a) →
        (u.engine.state = .clearing ∧ kind = .clear ∨ u.engine.state = .reseating ∧ kind = .seat) →
        (u.engine.stopping = false → exec i s = .next ((u.setEngine { u.engine with
          state := .stalled, limit := none, lastRefusal := some ⟨sender, why, p, kind, u.engine.attempt⟩
          zoneRefusals := u.engine.zoneRefusals + 1 }).notify .zoneRefused))
        ∧ (u.engine.stopping = true → ∃ t : State, exec i s = .next t
          ∧ t.engine.state = .disabled ∧ t.engine.seated = none ∧ t.engine.stopping = false
          ∧ t.engine.lastRefusal = some ⟨sender, why, p, kind, u.engine.attempt⟩
          ∧ t.engine.placed = u.engine.placed ∧ t.noticed .zoneRefused = true ∧ t.link = u.link ∧ t.thrust = u.thrust
          ∧ t.plans = (if u.engine.seated = some true then u.popHeadStep.plans else u.plans))))

/-- SEATED: in PLACING the step's position joins the placed set, the seated field becomes yes, the channel is READY and the
RESEATING stage is issued with the next attempt number; with the channel READY or HALTED, or at a node that is not the
erector owner, it is ignored. -/
def Obligations.SeatedTaken : Prop :=
  ∀ s : State,
    (s.ownsErector = false ∨ s.engine.erector ≠ .placing → exec .seated s = .next s)
    ∧ (∀ p st, s.ownsErector = true → s.engine.erector = .placing → s.engine.state = .placing →
      s.currentStep = some (p, st) → ∃ t : State, exec .seated s = .next t ∧ s.OnlyEngine t
        ∧ t.engine = { s.engine with
            state := .reseating, placed := insertNumber st.position s.engine.placed, seated := some true
            attempt := if 255 ≤ s.engine.attempt then 1 else s.engine.attempt + 1
            zoneMembers := s.zoneMembersOf st.position, answered := [], limit := some 20000, erector := .ready }
        ∧ (s.HasPlace → ∃ q ∈ t.link.queue, q.frame.body = .zoneSeat (zoneBytes s.machine.ring st.position
            t.engine.attempt ++ bytes16 (st.reseat.getD s.cfg.reseatPressure))))

/-- SEAT_FAIL and PLACEMENT_LIMIT_EXPIRY fail the placement: the first two are retried with PLACE commanded afresh and the
statistic and the counter raised; the third holds the machine HARD, and the engine is SUSPENDED with the channel HALTED.
A SEAT_FAIL with no placement running is ignored.
STAGE_LIMIT_EXPIRY: in CLEARING or RESEATING it holds the machine HARD with ZONE_TIMEOUT, and the engine is SUSPENDED,
its step kept. That either expiry does nothing while its limit does not run is the model's choice (log 2). -/
def Obligations.PlacementFailureAndLimits : Prop :=
  (∀ (i : Instr) (s : State),
    ((s.ownsErector = false ∨ s.engine.erector ≠ .placing) → exec .seatFail s = .next s)
    ∧ ((s.engine.state ≠ .placing ∨ s.engine.limit = none) → exec .placementLimitExpiry s = .next s)
    ∧ ((i = .seatFail ∧ s.ownsErector = true ∧ s.engine.erector = .placing)
        ∨ (i = .placementLimitExpiry ∧ s.engine.limit = some 0) → s.engine.state = .placing →
      (∀ p st, s.engine.retry < 2 → s.node.state = .member → s.currentStep = some (p, st) → exec i s = .next
        ((s.setEngine { s.engine with
          retry := s.engine.retry + 1, seatRetries := s.engine.seatRetries + 1, limit := some 120000
          erector := .placing, erectorCommand := .place st.position st.kind st.rotation }).count
            fun c => { c with seatRetries := c.seatRetries + 1 }))
      ∧ (2 ≤ s.engine.retry → s.machine.phase = .build → ∃ t : State, exec i s = .next t
        ∧ t.machine.phase = .hold .hard ∧ t.machine.current = some ⟨.seatFail, s.own, s.machine.ring, .hard, 0⟩
        ∧ t.engine.erector = .halted ∧ t.engine.erectorCommand = .halt ∧ t.engine.limit = none ∧ t.engine.retry = 0
        ∧ t.engine.state = (if s.engine.stopping then .disabled else .suspended)
        ∧ (s.engine.stopping = false → t.engine.seated = s.engine.seated ∧ t.plans = s.plans) ∧ s.KeepsRecords t)))
  ∧ (∀ s : State,
    ((s.engine.state ≠ .clearing ∧ s.engine.state ≠ .reseating) ∨ s.engine.limit = none →
      exec .stageLimitExpiry s = .next s)
    ∧ ((s.engine.state = .clearing ∨ s.engine.state = .reseating) → s.engine.limit = some 0 →
      s.machine.phase = .build → ∃ t : State, exec .stageLimitExpiry s = .next t
        ∧ t.machine.phase = .hold .hard ∧ t.machine.current = some ⟨.zoneTimeout, s.own, s.machine.ring, .hard, 0⟩
        ∧ t.engine.limit = none ∧ t.engine.zoneMembers = [] ∧ t.engine.answered = []
        ∧ t.engine.lastRefusal = s.engine.lastRefusal
        ∧ t.engine.state = (if s.engine.stopping then .disabled else .suspended)
        ∧ (s.engine.stopping = false → t.engine.seated = s.engine.seated ∧ t.plans = s.plans) ∧ s.KeepsRecords t))

/-- RING_CLOSED with the next ring number from the erector owner closes the ring: the node keeps a record of it, the
erector owner's with the ring statistics, every port's owed becomes owed less delivered and its delivered 0, the tallies
and the probes become 0, the stroke origin is captured and the ring number moves; the erector owner besides empties the
placed set and the statistics, clears close pending and holds the machine RING_DONE. One from another member, or with
another number, is ignored.
The erector owner's own RING_CLOSED heard back does the same there, and with another number only ends: close pending
clears, and the engine tests for the head step.
RING_SET: in HOLD a number of 1 to 65,000 becomes the ring number and nothing is closed; the erector owner besides
empties the placed set and the statistics, clears close pending and drops the step of a SUSPENDED or STALLED engine.
Outside HOLD, with another number or another length, it is ignored. The model's deductions: a step so dropped empties the
zone sets (log 22) and keeps the retry count (log 36), and a RING_CLOSED that waits to be queued again survives RING_SET
(log 23). -/
def Obligations.RingClosedAndRingSet : Prop :=
  (∀ (sender target : Station) (payload : List Byte) (s : State), s.HearsPeer sender target →
    (s.isErectorOwner sender.toNat = false ∨ (∀ n, ringOf payload = some n → n ≠ s.nextRing) →
      exec (.ringClosed sender target payload) s = .next s)
    ∧ (s.isErectorOwner sender.toNat = true → ringOf payload = some s.nextRing → ∃ t : State,
      exec (.ringClosed sender target payload) s = .next t ∧ s.RingClosedInto s.nextRing t))
  ∧ (∀ (payload : List Byte) (w : WireFrame) (s u : State), s.link.onWire = some w → w.won = true →
    w.tx.frame.body = .ringClosed payload → w.tx.tag = .plain → s.configured = true → s.isMember s.own = true →
    s.engine.requeue = none → u = s.setWire none →
    (s.isErectorOwner s.own = false ∨ (∀ n, ringOf payload = some n → n ≠ s.nextRing) →
      (s.engine.closePending = false → exec (.loopbackCheck .same) s = .next u)
      ∧ (s.engine.closePending = true → ∃ t : State, exec (.loopbackCheck .same) s = .next t
        ∧ (u.setEngine { u.engine with closePending := false }).HeadStepTaken t))
    ∧ (s.isErectorOwner s.own = true → ringOf payload = some s.nextRing → ∃ t : State,
      exec (.loopbackCheck .same) s = .next t ∧ u.RingClosedInto s.nextRing t))
  ∧ (∀ (sender target : Station) (payload : List Byte) (s : State), s.HearsConsole sender target →
    (s.configured = false ∨ s.inHold = false ∨ (∀ n, ringOf payload = some n → n = 0 ∨ 65000 < n) →
      exec (.ringSet sender target payload) s = .next s)
    ∧ (∀ n, s.configured = true → s.inHold = true → ringOf payload = some n → 1 ≤ n → n ≤ 65000 →
      (s.ownsErector = false → exec (.ringSet sender target payload) s = .next (s.setRing n))
      ∧ (s.ownsErector = true → (s.engine.state = .suspended ∨ s.engine.state = .stalled →
          exec (.ringSet sender target payload) s = .next (((s.setRing n).setPlans
            (if s.engine.seated = some true then s.popHeadStep.plans else s.plans)).setEngine { s.engine with
              state := .disabled, seated := none, zoneMembers := [], answered := [], limit := none, stopping := false
              placed := [], seatRetries := 0, zoneRefusals := 0, closePending := false }))
        ∧ (s.engine.state ≠ .suspended → s.engine.state ≠ .stalled →
          exec (.ringSet sender target payload) s = .next ((s.setRing n).setEngine { s.engine with
            placed := [], seatRetries := 0, zoneRefusals := 0, closePending := false })))))

/-- ERECTOR_FAULT_INDICATION and SCREW_REPORT: an indication newly present at the owner is taken as a fault: a JOINING or
MEMBER node becomes FAULTED with that cause, NODE_FAULT set, in HOLD HARD with its equipment stopped; a FAULTED one
raises its further-fault count and nothing else. Any other report is only recorded; that it is recorded at a node that is
not the owner too is the model's deduction (log 25). -/
def Obligations.FaultIndicationsTaken : Prop :=
  ∀ (present : Bool) (i : Instr) (cause : FaultCause) (owner before : Bool) (c : Channels) (s : State),
    (i = .erectorFaultIndication present ∧ cause = .erector ∧ owner = s.ownsErector ∧ before = s.channels.erectorFault
        ∧ c = { s.channels with erectorFault := present }
      ∨ i = .screwReport present ∧ cause = .screw ∧ owner = s.ownsMuck ∧ before = s.channels.screwFault
        ∧ c = { s.channels with screwFault := present }) →
    (owner = false ∨ present = false ∨ before = true → exec i s = .next (s.setChannels c))
    ∧ (owner = true → present = true → before = false →
      (s.node.state = .faulted → exec i s = .next ((s.setChannels c).setNode
        { s.node with furtherFaults := s.node.furtherFaults + 1 }))
      ∧ (s.node.state = .joining ∨ s.node.state = .member → ∃ t : State, exec i s = .next t
        ∧ t.node = { s.node with state := .faulted, cause := some cause, listen := none } ∧ t.channels = c
        ∧ t.noticed .nodeFault = true ∧ t.machine.phase = .hold .hard ∧ t.machine.round = none
        ∧ t.DrivesStop ∧ t.doseInFlight = false
        ∧ (∀ d ∈ t.thrust.cylinders, d.state ≠ .retracting ∧ d.state ≠ .reseating)
        ∧ (s.ownsErector = true → t.engine.erector = .halted) ∧ (s.ownsMuck = true → t.muck.screw = .stop)
        ∧ t.overrides = s.overrides ∧ t.machine.ring = s.machine.ring ∧ t.machine.view = s.machine.view))

/-! ### Configuration and resets -/

/-- CONFIGURE outside UNCONFIGURED is ignored; a part 1 of an empty collection is held; the next part in turn from the same
station is held; a repeat of the last part held is ignored; any other part that cannot begin a collection discards the
collection and sets CONFIG_ORDER; a new part 1 over held parts sets CONFIG_ORDER and is held. A part that is the last of its
collection, a part 1 of 1 among them, is ValidationDecides' statement. -/
def Obligations.ConfigurePartsCollected : Prop :=
  ∀ (sender target : Station) (payload : List Byte) (s : State), s.HearsConsole sender target →
    (s.node.state ≠ .unconfigured → exec (.configure sender target payload) s = .next s)
    ∧ (s.node.state = .unconfigured → payload.length < 3 → exec (.configure sender target payload) s = .next
      ((s.setNode { s.node with collection := none }).notify .configOrder))
    ∧ (∀ k n b content, s.node.state = .unconfigured → payload = k :: n :: b :: content →
      (s.node.collection = none → k = 1 → 2 ≤ n.toNat → n.toNat ≤ 32 →
        exec (.configure sender target payload) s = .next (s.setNode { s.node with
          collection := some ⟨sender, n.toNat, [b :: content]⟩ }))
      ∧ (s.node.collection = none → k ≠ 1 ∨ n = 0 ∨ 32 < n.toNat → exec (.configure sender target payload) s = .next
          ((s.setNode { s.node with collection := none }).notify .configOrder))
      ∧ (∀ c, s.node.collection = some c → c.sender = sender → c.count = n.toNat →
        (k.toNat = c.parts.length + 1 → k.toNat < n.toNat → exec (.configure sender target payload) s = .next
          (s.setNode { s.node with collection := some ⟨sender, n.toNat, c.parts ++ [b :: content]⟩ }))
        ∧ (k.toNat = c.parts.length → c.parts.getLast? = some (b :: content) →
          exec (.configure sender target payload) s = .next s))
      ∧ (∀ c, s.node.collection = some c →
        (c.sender ≠ sender ∨ c.count ≠ n.toNat
          ∨ (k.toNat ≠ c.parts.length + 1 ∧ (k.toNat ≠ c.parts.length ∨ c.parts.getLast? ≠ some (b :: content)))) →
        (k ≠ 1 ∨ n = 0 ∨ 32 < n.toNat → exec (.configure sender target payload) s = .next
          ((s.setNode { s.node with collection := none }).notify .configOrder))
        ∧ (k = 1 → 2 ≤ n.toNat → n.toNat ≤ 32 → exec (.configure sender target payload) s = .next
          ((s.setNode { s.node with collection := some ⟨sender, n.toNat, [b :: content]⟩ }).notify .configOrder))))

/-- The last part of a collection starts validation: the part in turn, a part 1 of 1 of an empty collection, or a part 1 of
1 out of turn, which sets CONFIG_ORDER besides (the model's deduction, log 38). Content that cannot be read is rejected
LENGTH; content that fails a check is rejected with it; both leave the node UNCONFIGURED with CONFIG_REJECTED set. Content
that passes is stored with the digest of the parts, and a node whose channels show no fault is JOINING with the start ring
number. -/
def Obligations.ValidationDecides : Prop :=
  ∀ (sender target : Station) (k n b : Byte) (content : List Byte) (held : List (List Byte)) (s u : State),
    s.HearsConsole sender target → s.node.state = .unconfigured → s.LastPart sender k n (b :: content) held u →
    (readConfiguration (held ++ [b :: content]).flatten = none → ∃ t r,
      exec (.configure sender target (k :: n :: b :: content)) s = .next t
      ∧ t.node = { s.node with collection := none, lastRejection := some r } ∧ r.reason = .length ∧ r.item = none
      ∧ t.noticed .configRejected = true ∧ t.link = s.link ∧ t.machine = s.machine
      ∧ (u.noticed .configOrder = true → t.noticed .configOrder = true))
    ∧ (∀ g r, readConfiguration (held ++ [b :: content]).flatten = some g →
      rejection s.own s.freeIndex g = some r → ∃ t : State,
      exec (.configure sender target (k :: n :: b :: content)) s = .next t
      ∧ t.node = { s.node with collection := none, lastRejection := some r } ∧ t.noticed .configRejected = true
      ∧ t.link = s.link ∧ t.machine = s.machine
      ∧ (u.noticed .configOrder = true → t.noticed .configOrder = true))
    ∧ (∀ g, readConfiguration (held ++ [b :: content]).flatten = some g → rejection s.own s.freeIndex g = none →
      s.channels.screwFault = false → s.channels.erectorFault = false → ∃ t : State,
      exec (.configure sender target (k :: n :: b :: content)) s = .next t
      ∧ t.node = { s.node with
          state := .joining, config := some g, digest := some (State.partsDigest n.toNat (held ++ [b :: content]))
          collection := none, listen := some 0 }
      ∧ t.machine.ring = g.startRing ∧ t.machine.view.map (·.member) = t.membersInOrder
      ∧ (∀ e ∈ t.machine.view, e.presence = (if e.member = s.own then .present else .silent) ∧ e.last = none)
      ∧ t.drive.guard.level = some g.guardIndex
      ∧ t.thrust.cylinders.length = t.ownSection.cylinders ∧ t.drive.drives.length = t.ownSection.drives
      ∧ t.grout.ports.length = t.ownSection.ports ∧ (u.noticed .configOrder = true → t.noticed .configOrder = true))

/-- RESTART at a node that holds a configuration: JOINING in a new listen window with the fault cleared, the round closed,
the override table, the plan store and the watch list empty, the engine DISABLED, the view rebuilt, a HOLD frame with
cause RESTART queued first and a beacon after it; the configuration, digest, ring number and first-membership flag are kept.
From BORE or BUILD the hold is SOFT with a record of its own, in HOLD it is counted. Cylinders that are not FAILED are
rebuilt from their channels' reports; the restraint set is rebuilt from the units, its changes told; a dose in flight is
STOPPED and a FAILED pump IDLE. A node without a configuration ignores it. The order of these steps, with overdig tested on
the rebuilt view and a dose tested for at the end, is the model's (log 17). -/
def Obligations.WarmRestartTaken : Prop :=
  ∀ (sender target : Station) (s : State), s.HearsConsole sender target →
    (s.configured = false → exec (.restart sender target) s = .next s)
    ∧ (s.configured = true → ∃ t : State, exec (.restart sender target) s = .next t
      ∧ t.node = { s.node with state := .joining, cause := none, furtherFaults := 0, listen := some 0 }
      ∧ t.inHold = true ∧ s.RestartHeld t ∧ t.machine.round = none
      ∧ t.machine.ring = s.machine.ring ∧ t.machine.view = s.freshView
      ∧ t.link.transmitting = true ∧ (∃ q rest, t.link.queue = q :: rest ∧ q.frame.body = .hold .restart .soft)
      ∧ t.overrides = [] ∧ t.plans = ⟨[], none⟩ ∧ t.engine.state = .disabled ∧ t.engine.seated = none
      ∧ t.engine.closePending = false ∧ t.engine.placed = s.engine.placed ∧ t.engine.attempt = s.engine.attempt
      ∧ t.DrivesStop ∧ t.drive.guard.mode = false ∧ t.drive.guard.probe = none ∧ t.drive.guard.jam = s.drive.guard.jam
      ∧ t.thrust.zone = none ∧ t.thrust.steerPause = false ∧ t.thrust.sectorAdvance = s.thrust.sectorAdvance
      ∧ t.thrust.credited = s.thrust.credited ∧ t.thrust.setpoint = s.thrust.setpoint
      ∧ t.thrust.strokeReached = s.thrust.strokeReached
      ∧ t.thrust.cylinders = s.thrust.cylinders.map (fun c => if c.state = .failed then c else { c with
          stroke := (s.cylReport c.number).stroke, pressure := (s.cylReport c.number).pressure
          fault := (s.cylReport c.number).fault, reseatTarget := none
          state := if (s.cylReport c.number).fault = true then .failed
            else if s.cfg.contactPressure ≤ (s.cylReport c.number).pressure.toNat then .bearing else .parked })
      ∧ s.RestraintsRebuilt t ∧ s.GroutRestarted t ∧ (∃ q ∈ t.link.queue, isBeacon q.frame.body = true)
      ∧ t.grout.ports = s.grout.ports ∧ t.muck.queue = s.muck.queue ∧ t.muck.weighed = s.muck.weighed
      ∧ t.console.watch = [] ∧ t.console.records = s.console.records)

/-- CLEAR_FAULT in HOLD without arguments: a FAULTED node that holds a configuration, its erector and screw showing no
fault, is MEMBER with the fault cleared and the transmitter running; a node JOINING or MEMBER keeps its node record, the
first-membership flag with it (the model's deduction, log 43). Where that flag is set the stroke origin is captured, in any
of these states. The answer is DONE, and nothing else is queued. A FAILED pump is IDLE, a HALTED erector READY; a FAILED
cylinder and a TRIPPED drive are rebuilt from their channels' latest reports, the cylinder taking the state its pin or its
contact gives, the drive STOPPING or STOPPED. An erector or screw indication that still stands makes the node FAULTED anew.
An UNCONFIGURED node answers STATE, an argument FORMAT, and another phase STATE. That the erector is released before the
screw is the model's order (log 18). -/
def Obligations.ClearFaultTaken : Prop :=
  ∀ (sender target : Station) (args : List Byte) (s : State), s.HearsConsole sender target →
    (s.node.state = .unconfigured → exec (.clearFault sender target args) s
      = .next (s.answer sender (target != 0) .clearFault .state))
    ∧ (s.node.state ≠ .unconfigured → args ≠ [] → exec (.clearFault sender target args) s
      = .next (s.answer sender (target != 0) .clearFault .format))
    ∧ (s.node.state ≠ .unconfigured → args = [] → s.inHold = false → exec (.clearFault sender target args) s
      = .next (s.answer sender (target != 0) .clearFault .state))
    ∧ (s.node.state ≠ .unconfigured → args = [] → s.inHold = true → s.configured = true →
      (s.ownsMuck = true → s.channels.screwFault = false) → (s.ownsErector = true → s.channels.erectorFault = false) →
      ∃ t : State, exec (.clearFault sender target args) s = .next t
      ∧ (s.node.state = .faulted → t.node = { s.node with
          state := .member, cause := none, furtherFaults := 0, firstMembership := false } ∧ t.link.transmitting = true)
      ∧ (s.node.state ≠ .faulted → t.node = s.node)
      ∧ t.link = ((if s.node.state = .faulted then s.setLink { s.link with transmitting := true } else s).answer
          sender (target != 0) .clearFault .done).link
      ∧ t.inHold = true ∧ t.grout.pump ≠ .failed
      ∧ (∃ f : Cylinder → Cylinder, (∀ c, s.CylinderCleared c (f c)) ∧ t.thrust.cylinders = s.thrust.cylinders.map f)
      ∧ t.drive.drives = s.drive.drives.map (fun d =>
          if d.state = .tripped then { d with
            speed := (s.driveReport d.number).speed, torque := (s.driveReport d.number).torque
            fault := (s.driveReport d.number).fault
            state := if (s.driveReport d.number).fault = true then .tripped
              else if (s.driveReport d.number).speed = 0 then .stopped else .stopping }
          else if d.state = .starting ∨ d.state = .running then { d with state := .stopping } else d)
      ∧ (s.node.firstMembership = true → t.thrust.sectorAdvance = 0 ∧ t.thrust.credited = 0
          ∧ t.thrust.strokeReached = false ∧ t.thrust.steerPause = false)
      ∧ (s.node.firstMembership = false → t.thrust.sectorAdvance = s.thrust.sectorAdvance
          ∧ t.thrust.credited = s.thrust.credited ∧ t.thrust.strokeReached = s.thrust.strokeReached
          ∧ t.thrust.steerPause = s.thrust.steerPause)
      ∧ (s.ownsErector = true → t.engine.erector = if s.engine.erector = .halted then .ready else s.engine.erector)
      ∧ (∀ d ∈ t.drive.drives, d.state = .tripped → (s.driveReport d.number).fault = true)
      ∧ (∀ c ∈ t.thrust.cylinders, c.state = .failed → (s.cylReport c.number).fault = true)
      ∧ t.overrides = s.overrides ∧ t.machine.ring = s.machine.ring ∧ t.machine.view = s.machine.view
      ∧ t.plans = s.plans ∧ t.muck.queue = s.muck.queue)
    ∧ (s.node.state ≠ .unconfigured → args = [] → s.inHold = true →
      (s.ownsMuck = true ∧ s.channels.screwFault = true) ∨ (s.ownsErector = true ∧ s.channels.erectorFault = true) →
      ∃ t : State, exec (.clearFault sender target args) s = .next t ∧ t.node.state = .faulted
      ∧ t.node.cause = some (if s.ownsErector = true ∧ s.channels.erectorFault = true then .erector else .screw))
    ∧ (s.node.state = .faulted → args = [] → s.inHold = true → s.configured = false → ∃ t : State,
      exec (.clearFault sender target args) s = .next t
      ∧ t.node = { s.node with state := .unconfigured, cause := none, collection := none } ∧ t.machine.view = []
      ∧ t.link = ((s.setLink { s.link with transmitting := true }).answer sender (target != 0) .clearFault .done).link
      ∧ t.link.transmitting = true ∧ t.inHold = true)

/-! ### Console services -/

/-- READ: FORMAT for a wrong length or class, BUSY while a data reply is in flight, STATE where the class is shut, RANGE
where an item does not exist; otherwise its values are taken at once and part 1 of the data reply is queued. That a
broadcast READ is not taken is the model's deduction (log 34); the codings of the values are R194's, and log 21's where
R194 leaves one open. -/
def Obligations.ReadAnswered : Prop :=
  (∀ (sender target : Station) (args : List Byte) (s : State), s.HearsConsole sender target →
    (target = 0 → exec (.read sender target args) s = .next s)
    ∧ (target ≠ 0 → (args.length ≠ 3 ∨ (∃ c i n, args = [c, i, n] ∧ readClassOf c = none)) →
      exec (.read sender target args) s = .next (s.answer sender true .read .format))
    ∧ (∀ c i n k, target ≠ 0 → args = [c, i, n] → readClassOf c = some k →
      (s.console.dataReply.isSome = true →
        exec (.read sender target args) s = .next (s.answer sender true .read .busy))
      ∧ (s.console.dataReply = none →
        ((s.configured = false ∧ k ≠ .counters ∧ k ≠ .config) ∨ (k = .car ∧ s.ownsMuck = false) →
          exec (.read sender target args) s = .next (s.answer sender true .read .state))
        ∧ ((s.configured = true ∨ k = .counters ∨ k = .config) → (k = .car → s.ownsMuck = true) →
          (n = 0 ∨ (∃ j, j < n.toNat ∧ s.itemExists k (i.toNat + j) = false) →
            exec (.read sender target args) s = .next (s.answer sender true .read .range))
          ∧ (n ≠ 0 → (∀ j, j < n.toNat → s.itemExists k (i.toNat + j) = true) →
            exec (.read sender target args) s = .next (s.startDataReply sender .read
              ((List.range n.toNat).flatMap fun j => s.itemValues k (i.toNat + j))))))))
  ∧ (∀ (s : State) (station : Station) (service : Service) (values : List (Option Nat)) (parts : Nat),
    parts = max 1 ((values.length + 3) / 4) →
    s.startDataReply station service values
      = (s.setConsole { s.console with
          dataReply := some ⟨station, serviceCode service, 1, parts, values.drop 4⟩ }).queueTagged station
        (.reply ([serviceCode service, 0, 0, 1, byteOf parts] ++ (values.take 4).flatMap valueBytes)) .dataPart)

/-- WATCH_SET replaces or appends the items carried when every check passes, and WATCH_READ starts a data reply with one
value for each item; the checks that fail give FORMAT, BUSY, STATE and RANGE in that order, and the list is unchanged.
That a broadcast one is not taken is the model's deduction (log 34). -/
def Obligations.WatchServicesAnswered : Prop :=
  ∀ (sender target : Station) (args : List Byte) (s : State), s.HearsConsole sender target →
    (target = 0 → exec (.watchSet sender target args) s = .next s ∧ exec (.watchRead sender target args) s = .next s)
    ∧ (∀ mode rest items, target ≠ 0 → args = mode :: rest → State.watchItemsOf rest = some items → items.length ≤ 7 →
      (mode = 1 ∨ mode = 2) → (∀ w ∈ items, State.watchClass w ≠ none) →
      (s.console.dataReply.isSome = true →
        exec (.watchSet sender target args) s = .next (s.answer sender true .watchSet .busy))
      ∧ (s.console.dataReply = none →
        (s.configured = false ∨ ((∃ w ∈ items, State.watchClass w = some .car) ∧ s.ownsMuck = false) →
          exec (.watchSet sender target args) s = .next (s.answer sender true .watchSet .state))
        ∧ (s.configured = true → ((∀ w ∈ items, State.watchClass w ≠ some .car) ∨ s.ownsMuck = true) →
          ((∃ w ∈ items, s.watchExists w = false) ∨ (mode = 2 ∧ 16 < s.console.watch.length + items.length) →
            exec (.watchSet sender target args) s = .next (s.answer sender true .watchSet .range))
          ∧ ((∀ w ∈ items, s.watchExists w = true) → (mode = 2 → s.console.watch.length + items.length ≤ 16) →
            exec (.watchSet sender target args) s = .next ((s.setConsole { s.console with
              watch := if mode = 2 then s.console.watch ++ items else items }).answer sender true .watchSet .done)))))
    ∧ (target ≠ 0 → (args = [] ∨ (∃ m rest, args = m :: rest
          ∧ (State.watchItemsOf rest = none ∨ (m ≠ 1 ∧ m ≠ 2) ∨ ∃ items, State.watchItemsOf rest = some items
            ∧ (7 < items.length ∨ ∃ w ∈ items, State.watchClass w = none)))) →
      exec (.watchSet sender target args) s = .next (s.answer sender true .watchSet .format))
    ∧ (target ≠ 0 → args ≠ [] → exec (.watchRead sender target args) s = .next (s.answer sender true .watchRead .format))
    ∧ (target ≠ 0 → args = [] → s.console.dataReply.isSome = true →
      exec (.watchRead sender target args) s = .next (s.answer sender true .watchRead .busy))
    ∧ (target ≠ 0 → args = [] → s.console.dataReply = none → s.configured = false →
      exec (.watchRead sender target args) s = .next (s.answer sender true .watchRead .state))
    ∧ (target ≠ 0 → args = [] → s.console.dataReply = none → s.configured = true →
      exec (.watchRead sender target args) s = .next (s.startDataReply sender .watchRead (s.console.watch.map s.watchValue)))

/-- NOTICES: addressed without arguments it queues a reply with the flags as one value, tagged so that they are cleared
when it ends SENT; an argument is answered FORMAT; a broadcast one changes nothing.
A REPLY that reaches a node is ignored, and a service code outside Table 1-5 is answered FORMAT. -/
def Obligations.NoticesReplyAndUnknownCode : Prop :=
  (∀ (sender target : Station) (args : List Byte) (s : State), s.HearsConsole sender target →
    (target = 0 → exec (.notices sender target args) s = .next s)
    ∧ (target ≠ 0 → args ≠ [] → exec (.notices sender target args) s = .next (s.answer sender true .notices .format))
    ∧ (target ≠ 0 → args = [] → exec (.notices sender target args) s = .next
      (s.queueTagged sender (.reply ([4, 0, 0, 1, 1] ++ bytes32 s.console.notices.toNat)) (.notices s.console.notices))))
  ∧ (∀ (sender target : Station) (payload : List Byte) (s : State), s.HearsPeer sender target →
    exec (.reply sender target payload) s = .next s)
  ∧ (∀ (sender target : Station) (service : Byte) (args : List Byte) (s : State), s.HearsConsole sender target →
    knownServiceCodes.contains service = false →
    (target = 0 → exec (.unknownServiceCode sender target service args) s = .next s)
    ∧ (target ≠ 0 → exec (.unknownServiceCode sender target service args) s
        = .next (s.queueTagged sender (.reply [service, 3, 0, 1, 1]) .plain)))

/-- ECHO: 0 to 19 argument bytes are echoed in one frame with end code DONE, more are answered FORMAT with nothing echoed,
in every node state and phase and while a data reply is in flight; a broadcast one is not answered; no state of the node
but the queue that holds the reply changes. -/
def Obligations.EchoAnswered : Prop :=
  ∀ (sender target : Station) (args : List Byte) (s : State), s.HearsConsole sender target →
    (target = 0 → exec (.echo sender target args) s = .next s)
    ∧ (target ≠ 0 → args.length ≤ 19 →
      exec (.echo sender target args) s = .next (s.queueTagged sender (.reply ([5, 0, 0, 1, 1] ++ args)) .plain))
    ∧ (target ≠ 0 → 19 < args.length →
      exec (.echo sender target args) s = .next (s.queueTagged sender (.reply [5, 3, 0, 1, 1]) .plain))
    ∧ (∀ body, s.HasPlace → isHold body = false → s.queueTagged sender body .plain = s.setLink { s.link with
        queue := insertTx (s.newFrame sender body .plain) s.link.queue, nextAge := s.link.nextAge + 1 })

/-! ### Drives and torque guard -/

/-- DRIVE_REPORT: speed, torque and fault indication are recorded; a fault makes the drive TRIPPED, and in BORE holds the
machine HARD with DRIVE_TRIP; a STARTING drive with speed becomes RUNNING, a STOPPING one at rest STOPPED. The total
torque is recomputed after a report without a fault, and becomes the previous total; after one with a fault the guard
record stays as it is. The model's deductions: the report of a drive not fitted is kept in the channel's record (log 25),
the previous total follows in every phase (log 30), and the total torque is a value of the drive records, so that it shows
the torque of a fault report too (log 33). -/
def Obligations.DriveReportTaken : Prop :=
  ∀ (n : Nat) (speed torque : Half) (fault : Bool) (s : State), 1 ≤ n → n ≤ 4 →
    (s.drive? n = none → exec (.driveReport n speed torque fault) s = .next (s.setChannels
      { s.channels with drives := s.channels.drives.set (n - 1) ⟨speed, torque, fault⟩ }))
    ∧ (∀ d, s.drive? n = some d → ∃ t d', exec (.driveReport n speed torque fault) s = .next t
      ∧ t.channels = { s.channels with drives := s.channels.drives.set (n - 1) ⟨speed, torque, fault⟩ }
      ∧ t.drive? n = some d' ∧ d'.number = n ∧ d'.speed = speed ∧ d'.torque = torque ∧ d'.fault = fault
      ∧ t.node = s.node ∧ t.overrides = s.overrides ∧ t.drive.setpoint = s.drive.setpoint
      ∧ (fault = true → d'.state = .tripped ∧ t.drive.guard = s.drive.guard
        ∧ (s.machine.phase = .bore → d.state ≠ .tripped → t.machine.phase = .hold .hard ∧ t.DrivesStop))
      ∧ (fault = true → (s.machine.phase ≠ .bore ∨ d.state = .tripped) → t.machine = s.machine)
      ∧ (fault = false → t.machine = s.machine
        ∧ (s.configured = true → t.drive.guard.previous = some t.totalPercent
          ∧ t.drive.guard.manual = s.drive.guard.manual
          ∧ (s.machine.phase = .bore → 90 ≤ t.totalPercent → s.drive.guard.previous.getD 0 < 90 →
              t.drive.guard.latch = true)
          ∧ (s.machine.phase ≠ .bore ∨ t.totalPercent < 90 ∨ 90 ≤ s.drive.guard.previous.getD 0 →
              t.drive.guard = { s.drive.guard with previous := some t.totalPercent }))
        ∧ (d.state = .starting → speed ≠ 0 → d'.state = .running)
        ∧ (d.state = .stopping → speed = 0 → d'.state = .stopped)
        ∧ (¬(d.state = .starting ∧ speed ≠ 0) → ¬(d.state = .stopping ∧ speed = 0) → d'.state = d.state)))

/-- GUARD_ON and GUARD_OFF set and clear the manual flag, and are answered DONE, or FORMAT with an argument. Guard mode
begins with GUARD_ENTERED set, the TORQUE entry held, the sample timer at 0 and a probe in flight; it ends with the entry
removed and the timer stopped; otherwise only the flag changes. That the reply is queued after RESTRAIN or RELEASE is the
model's choice (log 32). -/
def Obligations.GuardOnAndOff : Prop :=
  ∀ (sender target : Station) (args : List Byte) (on : Bool) (i : Instr) (service : Service) (s : State),
    s.HearsConsole sender target →
    (on = true ∧ i = .guardOn sender target args ∧ service = .guardOn
      ∨ on = false ∧ i = .guardOff sender target args ∧ service = .guardOff) →
    (s.configured = false → exec i s = .next (s.answer sender (target != 0) service .state))
    ∧ (s.configured = true → args ≠ [] → exec i s = .next (s.answer sender (target != 0) service .format))
    ∧ (s.configured = true → args = [] →
      ((on || s.drive.guard.latch) = s.drive.guard.mode → exec i s = .next
        ((s.setGuard { s.drive.guard with manual := on }).answer sender (target != 0) service .done))
      ∧ (on = true → s.drive.guard.mode = false → ∃ u : State, exec i s = .next (u.answer sender (target != 0) service .done)
        ∧ u.noticed .guardEntered = true
        ∧ u.thrust = { s.thrust with restraints := insertRestraint (s.own, .torque) s.thrust.restraints }
        ∧ u.drive = { s.drive with guard := { s.drive.guard with
            manual := true, timer := some 0, probe := some (s.drive.guard.probe.getD ⟨0, 0⟩) } }
        ∧ (s.HasPlace → ∃ q ∈ u.link.queue, q.frame.body = .restrain [3])
        ∧ u.node = s.node ∧ u.machine = s.machine ∧ u.grout = s.grout ∧ u.muck = s.muck ∧ u.plans = s.plans)
      ∧ (on = false → s.drive.guard.manual = true → s.drive.guard.latch = false → ∃ u : State,
        exec i s = .next (u.answer sender (target != 0) service .done)
        ∧ u.thrust = { s.thrust with restraints := s.thrust.restraints.filter (fun e => e != (s.own, .torque)) }
        ∧ u.drive = { s.drive with guard := { s.drive.guard with manual := false, timer := none } }
        ∧ (s.HasPlace → ∃ q ∈ u.link.queue, q.frame.body = .release [3])
        ∧ u.node = s.node ∧ u.machine = s.machine ∧ u.grout = s.grout ∧ u.muck = s.muck ∧ u.plans = s.plans))

/-- GUARD_LEVEL replaces the level index by 0..7 and refuses others RANGE; GUARD_PROBE starts a probe, or is BUSY with one
in flight; GUARD_RESET in HOLD clears the jam latch and the stall count. Wrong arguments are answered FORMAT. -/
def Obligations.GuardServicesAnswered : Prop :=
  ∀ (sender target : Station) (args : List Byte) (s : State), s.HearsConsole sender target →
    (s.configured = false →
      exec (.guardLevel sender target args) s = .next (s.answer sender (target != 0) .guardLevel .state)
      ∧ exec (.guardProbe sender target args) s = .next (s.answer sender (target != 0) .guardProbe .state)
      ∧ exec (.guardReset sender target args) s = .next (s.answer sender (target != 0) .guardReset .state))
    ∧ (s.configured = true →
      (∀ b, args = [b] → b.toNat ≤ 7 → exec (.guardLevel sender target args) s = .next
        ((s.setGuard { s.drive.guard with level := some b.toNat }).answer sender (target != 0) .guardLevel .done))
      ∧ (∀ b, args = [b] → 7 < b.toNat →
        exec (.guardLevel sender target args) s = .next (s.answer sender (target != 0) .guardLevel .range))
      ∧ (args.length ≠ 1 →
        exec (.guardLevel sender target args) s = .next (s.answer sender (target != 0) .guardLevel .format))
      ∧ (args ≠ [] → exec (.guardProbe sender target args) s = .next (s.answer sender (target != 0) .guardProbe .format)
        ∧ exec (.guardReset sender target args) s = .next (s.answer sender (target != 0) .guardReset .format))
      ∧ (args = [] →
        (s.drive.guard.probe.isSome = true →
          exec (.guardProbe sender target args) s = .next (s.answer sender (target != 0) .guardProbe .busy))
        ∧ (s.drive.guard.probe = none → exec (.guardProbe sender target args) s = .next
          ((s.setGuard { s.drive.guard with probe := some ⟨0, 0⟩ }).answer sender (target != 0) .guardProbe .done))
        ∧ (s.inHold = true → exec (.guardReset sender target args) s = .next
          ((s.setGuard { s.drive.guard with jam := false, stalls := 0 }).answer sender (target != 0) .guardReset .done))
        ∧ (s.inHold = false →
          exec (.guardReset sender target args) s = .next (s.answer sender (target != 0) .guardReset .state))))

/-- SAMPLE_TIMER_EXPIRY restarts the timer and starts a probe if none is in flight. PROBE_END records result, mean and the
level in force, counts the probe, sets GUARD_PROBE, takes the stall count, and an UNDER result clears the latch, which
ends guard mode when the manual flag is clear; the third stall in a row latches the jam and holds the machine HARD. That
either command does nothing while its timer or probe does not run is the model's choice (log 2). -/
def Obligations.SampleTimerAndProbeEnd : Prop :=
  ∀ s : State,
    (s.drive.guard.timer = none → exec .sampleTimerExpiry s = .next s)
    ∧ (s.drive.guard.timer = some 500 → exec .sampleTimerExpiry s = .next (s.setGuard { s.drive.guard with
        timer := some 0, probe := some (s.drive.guard.probe.getD ⟨0, 0⟩) }))
    ∧ (s.drive.guard.probe = none → exec .probeEnd s = .next s)
    ∧ (∀ weighted mean level, s.drive.guard.probe = some ⟨100, weighted⟩ → mean = weighted / 100 →
      level = 70 + 5 * s.drive.guard.level.getD 0 →
      (mean < 115 → (level ≤ mean ∨ s.drive.guard.latch = false) → exec .probeEnd s = .next ((s.setGuard
        { s.drive.guard with
          probe := none, last := some ⟨decide (level ≤ mean), mean, level⟩, probes := s.drive.guard.probes + 1
          stalls := 0 }).notify .guardProbe))
      ∧ (mean < 115 → mean < level → s.drive.guard.latch = true → ∃ t : State, exec .probeEnd s = .next t
        ∧ t.drive = { s.drive with guard := { s.drive.guard with
            probe := none, last := some ⟨false, mean, level⟩, probes := s.drive.guard.probes + 1, stalls := 0
            latch := false, timer := if s.drive.guard.manual then s.drive.guard.timer else none } }
        ∧ t.thrust.restraints = (if s.drive.guard.manual then s.thrust.restraints
            else s.thrust.restraints.filter (fun e => e != (s.own, .torque)))
        ∧ t.noticed .guardProbe = true ∧ t.machine = s.machine ∧ t.node = s.node ∧ t.grout = s.grout)
      ∧ (115 ≤ mean → level ≤ mean → s.drive.guard.stalls < 2 → exec .probeEnd s = .next ((s.setGuard
        { s.drive.guard with
          probe := none, last := some ⟨true, mean, level⟩, probes := s.drive.guard.probes + 1
          stalls := s.drive.guard.stalls + 1 }).notify .guardProbe))
      ∧ (115 ≤ mean → level ≤ mean → 2 ≤ s.drive.guard.stalls → ∃ t : State, exec .probeEnd s = .next t
        ∧ t.drive.guard = { s.drive.guard with
            probe := none, last := some ⟨true, mean, level⟩, probes := s.drive.guard.probes + 1, stalls := 0, jam := true }
        ∧ t.machine.phase = .hold .hard ∧ t.noticed .guardProbe = true ∧ s.KeepsRecords t))

/-! ### Overrides -/

/-- OVERRIDE: the checks fail in order with FORMAT, RANGE, BUSY and REFUSED(MINIMUM) and then change nothing; otherwise
the item is pinned with the forced state, its entry replaced in its place or a new one added at the tail, the unit applies
it, and the reply is DONE. A FORCE_BEAR or FORCE_CLEAR leaves the cylinder in the state R185 and R186 give, and in BORE the
sector advance is settled; that FORCE_CLEAR leaves a PARKED one PARKED at a FAULTED node is the model's deduction (log 33),
and that the reply is queued last is its choice (log 32). -/
def Obligations.OverrideSettled : Prop :=
  ∀ (sender target : Station) (args : List Byte) (s : State), s.HearsConsole sender target →
    (s.configured = false ∨ target = 0 → exec (.override sender target args) s
      = .next (s.answer sender (target != 0) .override .state))
    ∧ (s.configured = true → target ≠ 0 →
      (args.length ≠ 3 → exec (.override sender target args) s = .next (s.answer sender true .override .format))
      ∧ (∀ k n f, args = [k, n, f] →
        (itemKindOf k = none ∨ (∃ kind, itemKindOf k = some kind ∧ forcedOf kind f = none) →
          exec (.override sender target args) s = .next (s.answer sender true .override .format))
        ∧ (∀ kind forced, itemKindOf k = some kind → forcedOf kind f = some forced →
          (n = 0 ∨ s.fitted kind < n.toNat →
            exec (.override sender target args) s = .next (s.answer sender true .override .range))
          ∧ (n ≠ 0 → n.toNat ≤ s.fitted kind → s.heldByZone kind n.toNat = true →
            exec (.override sender target args) s = .next (s.answer sender true .override .busy))
          ∧ (n ≠ 0 → n.toNat ≤ s.fitted kind → s.heldByZone kind n.toNat = false →
            (forced = .forceClear →
              s.retractionPermitted (s.thrust.cylinders.filter (fun c => c.number == n.toNat)) = false →
              exec (.override sender target args) s = .next (s.answer sender true .override .refusedMinimum))
            ∧ ((forced = .forceClear →
                s.retractionPermitted (s.thrust.cylinders.filter (fun c => c.number == n.toNat)) = true) →
              ∃ u : State, exec (.override sender target args) s = .next (u.answer sender true .override .done)
              ∧ u.overrides = (if s.pinned kind n.toNat then s.overrides.map fun e =>
                  if e.kind = kind ∧ e.number = n.toNat then ⟨kind, n.toNat, forced⟩ else e
                else s.overrides ++ [⟨kind, n.toNat, forced⟩])
              ∧ u.forced kind n.toNat = some forced
              ∧ (∀ kind' n', (kind' ≠ kind ∨ n' ≠ n.toNat) → u.override? kind' n' = s.override? kind' n')
              ∧ u.node = s.node ∧ u.machine.ring = s.machine.ring ∧ u.machine.view = s.machine.view
              ∧ (kind = .cylinder → s.machine.phase ≠ .bore → ∃ moved : Cylinder → Cylinder,
                (∀ c, s.CylinderForced forced c (moved c))
                ∧ u.thrust.cylinders = s.thrust.cylinders.map fun c => if c.number = n.toNat then moved c else c)
              ∧ (s.machine.phase = .bore → kind = .cylinder → s.AdvanceSettled u ∧ ∀ c, s.cylinder? n.toNat = some c →
                  ∃ c', u.cylinder? n.toNat = some c' ∧ s.CylinderForced forced c c')
              ∧ (forced = .off → ∀ d ∈ u.drive.drives, d.number = n.toNat → d.state ≠ .starting ∧ d.state ≠ .running)
              ∧ (forced = .shut → s.configured = true → ∀ d, u.grout.dose = some d → d.port = n.toNat →
                  d.ending.isSome = true))))))

/-- OVERRIDE_CANCEL: the checks fail in order with FORMAT, RANGE and BUSY; otherwise the item's entry, or every entry, is
gone and the reply is DONE. Each port so released is OPEN with no cuts; each drive is tested, and starts in BORE at a MEMBER
node; a cylinder stays as it is outside BORE, and in BORE returns as R190 gives and the sector advance is recomputed. The
model's: entries are removed one after another, and a CLEAR cylinder is reseated in BORE whatever its pin was (log 33); the
reply is queued after the unit's own frames (log 32). -/
def Obligations.OverrideCancelled : Prop :=
  ∀ (sender target : Station) (args : List Byte) (s : State), s.HearsConsole sender target →
    (s.configured = false → exec (.overrideCancel sender target args) s
      = .next (s.answer sender (target != 0) .overrideCancel .state))
    ∧ (s.configured = true →
      (args.length ≠ 0 → args.length ≠ 2 → exec (.overrideCancel sender target args) s
        = .next (s.answer sender (target != 0) .overrideCancel .format))
      ∧ (args = [] → (∃ e ∈ s.overrides, s.heldByZone e.kind e.number = true) →
        exec (.overrideCancel sender target args) s = .next (s.answer sender (target != 0) .overrideCancel .busy))
      ∧ (args = [] → (∀ e ∈ s.overrides, s.heldByZone e.kind e.number = false) → ∃ u : State,
        exec (.overrideCancel sender target args) s = .next (u.answer sender (target != 0) .overrideCancel .done)
        ∧ u.overrides = [] ∧ (s.overrides = [] → u = s) ∧ u.node = s.node ∧ u.machine.ring = s.machine.ring
        ∧ (s.machine.phase ≠ .bore → u.machine = s.machine ∧ u.thrust = s.thrust ∧ u.grout.ports = s.grout.ports.map fun p =>
            if s.pinned .port p.number then { p with state := .opened, cuts := 0 } else p)
        ∧ u.grout.ports.map (fun p => (p.number, p.delivered, p.state, p.cuts)) = s.grout.ports.map (fun p =>
            if s.pinned .port p.number then (p.number, p.delivered, .opened, 0)
            else (p.number, p.delivered, p.state, p.cuts))
        ∧ (u.machine.phase = .bore → s.node.state = .member → u.drive.drives = s.drive.drives.map fun d =>
            if s.pinned .drive d.number ∧ (d.state = .stopped ∨ d.state = .stopping) then { d with state := .starting } else d)
        ∧ (u.machine.phase ≠ .bore ∨ s.node.state ≠ .member → ∀ d ∈ u.drive.drives, s.pinned .drive d.number = true →
            d.state ≠ .starting ∧ d.state ≠ .running)
        ∧ (u.machine.phase = .bore → (∃ e ∈ s.overrides, e.kind = .cylinder) → s.AdvanceIsLeast u
          ∧ s.thrust.credited ≤ u.thrust.credited ∧ u.thrust.sectorAdvance ≤ u.thrust.credited
          ∧ ∀ n c, s.pinned .cylinder n = true → s.cylinder? n = some c → s.CylinderReturned u n c))
      ∧ (∀ k n, args = [k, n] →
        (itemKindOf k = none → exec (.overrideCancel sender target args) s
          = .next (s.answer sender (target != 0) .overrideCancel .format))
        ∧ (∀ kind, itemKindOf k = some kind →
          (n = 0 ∨ s.fitted kind < n.toNat → exec (.overrideCancel sender target args) s
            = .next (s.answer sender (target != 0) .overrideCancel .range))
          ∧ (n ≠ 0 → n.toNat ≤ s.fitted kind → s.heldByZone kind n.toNat = true →
            exec (.overrideCancel sender target args) s = .next (s.answer sender (target != 0) .overrideCancel .busy))
          ∧ (n ≠ 0 → n.toNat ≤ s.fitted kind → s.heldByZone kind n.toNat = false → ∃ u : State,
            exec (.overrideCancel sender target args) s = .next (u.answer sender (target != 0) .overrideCancel .done)
            ∧ u.override? kind n.toNat = none
            ∧ (∀ kind' n', (kind' ≠ kind ∨ n' ≠ n.toNat) → u.override? kind' n' = s.override? kind' n')
            ∧ (s.override? kind n.toNat = none → u = s) ∧ u.node = s.node ∧ u.machine.ring = s.machine.ring
            ∧ (kind = .port → s.override? kind n.toNat ≠ none →
                u.grout.ports = s.grout.ports.map fun p =>
                  if p.number = n.toNat then { p with state := .opened, cuts := 0 } else p)
            ∧ (kind = .drive → s.override? kind n.toNat ≠ none → s.machine.phase = .bore → s.node.state = .member →
                u.drive.drives = s.drive.drives.map fun d =>
                  if d.number = n.toNat ∧ (d.state = .stopped ∨ d.state = .stopping) then { d with state := .starting } else d)
            ∧ (kind = .drive → s.override? kind n.toNat ≠ none → s.machine.phase ≠ .bore ∨ s.node.state ≠ .member →
                ∀ d ∈ u.drive.drives, d.number = n.toNat → d.state ≠ .starting ∧ d.state ≠ .running)
            ∧ (kind = .cylinder → s.machine.phase ≠ .bore → u.thrust = s.thrust ∧ u.machine = s.machine)
            ∧ (kind = .cylinder → s.override? kind n.toNat ≠ none → s.machine.phase = .bore → s.AdvanceSettled u
              ∧ (u.machine.phase = .bore → ∀ c, s.cylinder? n.toNat = some c → s.CylinderReturned u n.toNat c))))))

/-! ### Plan store and engine services -/

/-- PLAN_OPEN, PLAN_STEP and PLAN_CLOSE at the erector owner: the replies of R102, R103 and R105 in the order of their
checks. A PLAN_OPEN adds an empty plan, or repeats the open one; a step of right form joins the open plan, a repeat of the
last one changes nothing, one of wrong form or one too many for the store discards the plan, and PLAN_CLOSE with the right
count puts it behind the closed plans, where an engine that finds its head step there tests for it. That the reply to
PLAN_CLOSE is queued after the request of a stage so issued is the model's choice (log 32). -/
def Obligations.PlanUploadTaken : Prop :=
  ∀ (sender target : Station) (args : List Byte) (s : State), s.HearsConsole sender target → s.ownsErector = true →
    target ≠ 0 →
    (args.length ≠ 1 → exec (.planOpen sender target args) s = .next (s.answer sender true .planOpen .format))
    ∧ (∀ b, args = [b] →
      (s.engine.state = .faulted →
        exec (.planOpen sender target args) s = .next (s.answer sender true .planOpen .state))
      ∧ (∀ p, s.engine.state ≠ .faulted → s.plans.opened = some p →
        (p.opener = sender → p.identifier = b.toNat → p.steps = [] →
          exec (.planOpen sender target args) s = .next (s.answer sender true .planOpen .done))
        ∧ (p.opener ≠ sender ∨ p.identifier ≠ b.toNat ∨ p.steps ≠ [] →
          exec (.planOpen sender target args) s = .next (s.answer sender true .planOpen .busy)))
      ∧ (s.engine.state ≠ .faulted → s.plans.opened = none →
        (b = 0 ∨ 4 ≤ s.plans.closed.length →
          exec (.planOpen sender target args) s = .next (s.answer sender true .planOpen .range))
        ∧ (b ≠ 0 → s.plans.closed.length < 4 →
          exec (.planOpen sender target args) s = .next ((s.setPlans { s.plans with
            opened := some ⟨b.toNat, sender, none, []⟩ }).answer sender true .planOpen .done))))
    ∧ ((s.engine.state = .faulted ∨ s.plans.opened = none) →
      exec (.planStep sender target args) s = .next (s.answer sender true .planStep .state)
      ∧ exec (.planClose sender target args) s = .next (s.answer sender true .planClose .state))
    ∧ (∀ p, s.engine.state ≠ .faulted → s.plans.opened = some p →
      (p.opener ≠ sender → exec (.planStep sender target args) s = .next (s.answer sender true .planStep .busy)
        ∧ exec (.planClose sender target args) s = .next (s.answer sender true .planClose .busy))
      ∧ (p.opener = sender →
        (∀ st, planStepOf args = some st → p.steps.getLast? = some st → st.index = p.steps.length →
          exec (.planStep sender target args) s = .next (s.answer sender true .planStep .done))
        ∧ ((args.length ≠ 5 ∧ args.length ≠ 7) ∨ (∃ i q k rest, args = i :: q :: k :: rest ∧ k ≠ 1 ∧ k ≠ 2) →
          exec (.planStep sender target args) s = .next
            ((s.setPlans { s.plans with opened := none }).answer sender true .planStep .format))
        ∧ (∀ st, planStepOf args = some st → (p.steps.getLast? ≠ some st ∨ st.index ≠ p.steps.length) →
          (st.index ≠ p.steps.length + 1 ∨ 9 < st.index ∨ st.position = 0 ∨ s.cfg.positions < st.position
            ∨ 359 < st.rotation ∨ (∃ k, st.reseat = some k ∧ (k < 1000 ∨ 35000 < k)) →
            exec (.planStep sender target args) s = .next
              ((s.setPlans { s.plans with opened := none }).answer sender true .planStep .format))
          ∧ (st.index = p.steps.length + 1 → st.index ≤ 9 → 1 ≤ st.position → st.position ≤ s.cfg.positions →
            st.rotation ≤ 359 → (∀ k, st.reseat = some k → 1000 ≤ k ∧ k ≤ 35000) →
            (s.stepsHeld < 40 → exec (.planStep sender target args) s = .next ((s.setPlans { s.plans with
              opened := some { p with steps := p.steps ++ [st] } }).answer sender true .planStep .done))
            ∧ (40 ≤ s.stepsHeld → exec (.planStep sender target args) s = .next
              (((s.setPlans { s.plans with opened := none }).count fun c =>
                { c with uploadOverflows := c.uploadOverflows + 1 }).answer sender true .planStep .range))))
        ∧ (∀ n, args = [n] → 1 ≤ n.toNat → n.toNat ≤ 9 → n.toNat = p.steps.length →
          (s.headStep.isSome = true →
            exec (.planClose sender target args) s = .next ((s.setPlans
              ⟨s.plans.closed ++ [{ p with closedCount := some n.toNat }], none⟩).answer sender true .planClose .done))
          ∧ (s.headStep = none → ∃ u : State,
            exec (.planClose sender target args) s = .next (u.answer sender true .planClose .done)
            ∧ (s.setPlans ⟨s.plans.closed ++ [{ p with closedCount := some n.toNat }], none⟩).HeadStepTaken u))
        ∧ ((∀ n, args = [n] → n = 0 ∨ 9 < n.toNat ∨ n.toNat ≠ p.steps.length) →
          exec (.planClose sender target args) s = .next
            ((s.setPlans { s.plans with opened := none }).answer sender true .planClose .format))))
    ∧ (∀ i q r1 r0 k1 k0 : Byte,
      planStepOf [i, q, 1, r1, r0] = some ⟨i.toNat, q.toNat, .standard, r1.toNat * 256 + r0.toNat, none⟩
      ∧ planStepOf [i, q, 2, r1, r0] = some ⟨i.toNat, q.toNat, .key, r1.toNat * 256 + r0.toNat, none⟩
      ∧ planStepOf [i, q, 1, r1, r0, k1, k0]
        = some ⟨i.toNat, q.toNat, .standard, r1.toNat * 256 + r0.toNat, some (k1.toNat * 256 + k0.toNat)⟩
      ∧ planStepOf [i, q, 2, r1, r0, k1, k0]
        = some ⟨i.toNat, q.toNat, .key, r1.toNat * 256 + r0.toNat, some (k1.toNat * 256 + k0.toNat)⟩)

/-- PLAN_ABORT at the erector owner discards the open plan with its steps and is answered DONE, from either console station
and in every engine state; with no plan open it changes nothing; the closed plans and the engine stay as they are.
PLAN_FLUSH at the erector owner is taken only while the engine is DISABLED: it empties the store and is answered DONE;
in any other engine state it is answered STATE and the store is unchanged. It leaves the placed set, the attempt number,
the ring number and the fault record; a PLAN_STEP that follows is answered STATE. -/
def Obligations.PlanAbortAndFlush : Prop :=
  (∀ (sender target : Station) (s : State), s.HearsConsole sender target → s.ownsErector = true → target ≠ 0 →
    exec (.planAbort sender target []) s
        = .next ((s.setPlans ⟨s.plans.closed, none⟩).answer sender true .planAbort .done)
    ∧ (s.plans.opened = none → exec (.planAbort sender target []) s = .next (s.answer sender true .planAbort .done))
    ∧ (∀ t, exec (.planAbort sender target []) s = .next t → t.plans.closed = s.plans.closed ∧ t.engine = s.engine))
  ∧ (∀ (sender target : Station) (s : State), s.HearsConsole sender target → s.ownsErector = true → target ≠ 0 →
    (s.engine.state = .disabled → exec (.planFlush sender target []) s
        = .next ((s.setPlans ⟨[], none⟩).answer sender true .planFlush .done))
    ∧ (s.engine.state ≠ .disabled →
        exec (.planFlush sender target []) s = .next (s.answer sender true .planFlush .state))
    ∧ (∀ t, exec (.planFlush sender target []) s = .next t → t.engine = s.engine ∧ t.machine = s.machine
        ∧ (s.engine.state = .disabled → t.plans = ⟨[], none⟩ ∧ t.stepsHeld = 0
          ∧ ∀ args, exec (.planStep sender target args) t = .next (t.answer sender true .planStep .state))))

/-- PLAN_STOP, PLAN_ENABLE and PLAN_RESUME at the erector owner act by the engine's state as R111, R115, R116 and R132
give; PLAN_ENABLE at a DISABLED engine makes it IDLE and tests for the head step. A plan service addressed to another node
is answered STATE, a broadcast one is ignored, and an argument is answered FORMAT. The model's: the reply is queued after
a stage's request (log 32); a step dropped empties the zone sets and keeps the retry count (logs 22, 36), and PLAN_RESUME
that only suspends keeps the zone sets of the refused stage (log 22). -/
def Obligations.PlanEngineServices : Prop :=
  (∀ (sender target : Station) (s : State), s.HearsConsole sender target → s.ownsErector = true → target ≠ 0 →
    (s.engine.state = .disabled →
      exec (.planStop sender target []) s = .next (s.answer sender true .planStop .done))
    ∧ (s.engine.state = .idle ∨ s.engine.state = .faulted → exec (.planStop sender target []) s = .next
        ((s.setEngine { s.engine with state := .disabled }).answer sender true .planStop .done))
    ∧ (s.engine.state = .suspended ∨ s.engine.state = .stalled → exec (.planStop sender target []) s = .next
        (((s.setPlans (if s.engine.seated = some true then s.popHeadStep.plans else s.plans)).setEngine { s.engine with
          state := .disabled, seated := none, zoneMembers := [], answered := [], limit := none
          stopping := false }).answer sender true .planStop .done))
    ∧ (s.engine.state = .clearing ∨ s.engine.state = .placing ∨ s.engine.state = .reseating →
        exec (.planStop sender target []) s = .next
          ((s.setEngine { s.engine with stopping := true }).answer sender true .planStop .done)
        ∧ (s.engine.stopping = true → exec (.planEnable sender target []) s = .next
          ((s.setEngine { s.engine with stopping := false }).answer sender true .planEnable .done))
        ∧ (s.engine.stopping = false →
          exec (.planEnable sender target []) s = .next (s.answer sender true .planEnable .state)))
    ∧ (s.engine.state = .disabled → (s.machine.phase ≠ .build → exec (.planEnable sender target []) s = .next
          ((s.setEngine { s.engine with state := .idle }).answer sender true .planEnable .done))
        ∧ ∃ u : State, exec (.planEnable sender target []) s = .next (u.answer sender true .planEnable .done)
          ∧ (s.setEngine { s.engine with state := .idle }).HeadStepTaken u)
    ∧ (s.engine.state = .idle → exec (.planEnable sender target []) s = .next (s.answer sender true .planEnable .done))
    ∧ (s.engine.state = .suspended ∨ s.engine.state = .stalled ∨ s.engine.state = .faulted →
        exec (.planEnable sender target []) s = .next (s.answer sender true .planEnable .state))
    ∧ (s.engine.state ≠ .stalled →
        exec (.planResume sender target []) s = .next (s.answer sender true .planResume .state))
    ∧ (s.engine.state = .stalled → (s.machine.phase ≠ .build ∨ s.node.state ≠ .member) →
        exec (.planResume sender target []) s = .next
          ((s.setEngine { s.engine with state := .suspended }).answer sender true .planResume .done))
    ∧ (∀ p st, s.engine.state = .stalled → s.machine.phase = .build → s.node.state = .member →
        s.currentStep = some (p, st) → ∃ u : State, exec (.planResume sender target []) s
          = .next (u.answer sender true .planResume .done) ∧ s.OnlyEngine u
        ∧ u.engine = { s.engine with
            state := if s.engine.seated = some true then .reseating else .clearing
            attempt := if 255 ≤ s.engine.attempt then 1 else s.engine.attempt + 1
            zoneMembers := s.zoneMembersOf st.position, answered := [], retry := 0, limit := some 20000 }))
  ∧ (∀ (sender target : Station) (args : List Byte) (i : Instr) (service : Service) (s : State),
    s.HearsConsole sender target →
    (i = .planOpen sender target args ∧ service = .planOpen ∨ i = .planStep sender target args ∧ service = .planStep
      ∨ i = .planClose sender target args ∧ service = .planClose ∨ i = .planAbort sender target args ∧ service = .planAbort
      ∨ i = .planStop sender target args ∧ service = .planStop ∨ i = .planFlush sender target args ∧ service = .planFlush
      ∨ i = .planEnable sender target args ∧ service = .planEnable
      ∨ i = .planResume sender target args ∧ service = .planResume) →
    (target = 0 → exec i s = .next s)
    ∧ (target ≠ 0 → s.ownsErector = false → exec i s = .next (s.answer sender true service .state))
    ∧ (target ≠ 0 → s.ownsErector = true → args ≠ [] →
      service = .planAbort ∨ service = .planStop ∨ service = .planFlush ∨ service = .planEnable ∨ service = .planResume →
      exec i s = .next (s.answer sender true service .format)))

/-! ### Grout -/

/-- STROKE_REPORT: a stroke is credited to the port of the last dose record while that is below the dose strokes; the one
that fills a dose in flight completes it, with the pump IDLE, the port's cuts 0 and the counter raised; a dose that has
ended keeps its ending, and the stroke is credited all the same, a FAILED pump's too. With the record full, or none, nothing
changes. That no dose is tested for at the end of one, where the channel counts as at rest, is the model's choice (log 45). -/
def Obligations.StrokeCredited : Prop :=
  ∀ s : State,
    (s.grout.dose = none → exec .strokeReport s = .next s)
    ∧ (∀ d, s.grout.dose = some d →
      (s.cfg.doseStrokes ≤ d.credited → exec .strokeReport s = .next s)
      ∧ (d.credited < s.cfg.doseStrokes → ∃ t : State, exec .strokeReport s = .next t
        ∧ (d.ending.isSome = true ∨ d.credited + 1 < s.cfg.doseStrokes →
          t.grout.dose = some { d with credited := d.credited + 1 } ∧ t.grout.pump = s.grout.pump
          ∧ t.grout.pointer = s.grout.pointer
          ∧ t.grout.ports = s.grout.ports.map (fun p =>
              if p.number = d.port then { p with delivered := p.delivered + s.cfg.strokeVolume } else p)
          ∧ t.console.counters.dosesCompleted = s.console.counters.dosesCompleted)
        ∧ (d.ending = none → d.credited + 1 = s.cfg.doseStrokes → s.DosingIffInFlight →
          t.grout.dose = some { d with credited := d.credited + 1, ending := some .complete } ∧ t.grout.pump = .idle
          ∧ t.grout.pointer = (if s.isChainPort d.port then some (s.nextPort d.port) else s.grout.pointer)
          ∧ t.grout.ports = s.grout.ports.map (fun p =>
              if p.number = d.port then { p with delivered := p.delivered + s.cfg.strokeVolume, cuts := 0 } else p)
          ∧ t.console.counters.dosesCompleted = s.console.counters.dosesCompleted + 1)
        ∧ t.node = s.node ∧ t.machine = s.machine ∧ t.channels = s.channels ∧ t.drive = s.drive ∧ t.muck = s.muck))

/-- LINE_PRESSURE is recorded; above the cut pressure with a dose in flight it cuts the dose: the pump is IDLE, the port's
cuts and the counter rise, a chain port loses its turn, and the second cut in a row blocks the port with PORT_BLOCKED set.
DOSE_LIMIT_EXPIRY ends the dose LIMIT, the rotation pointer then at its port if that is a chain port, the pump is FAILED
and the node takes the PUMP fault. The model's: a line pressure is recorded at any node (log 25), no dose is tested for at the
end of a cut one (log 45), and the expiry changes nothing with no dose in flight (log 2). -/
def Obligations.DoseCutAndLimit : Prop :=
  (∀ (kPa : Half) (s : State),
    ((s.doseInFlight = false ∨ kPa.toNat ≤ s.cfg.cutPressure) →
      exec (.linePressure kPa) s = .next (s.setChannels { s.channels with linePressure := some kPa }))
    ∧ (∀ d, s.grout.dose = some d → d.ending = none → s.cfg.cutPressure < kPa.toNat → s.grout.pump ≠ .failed → ∃ t : State,
      exec (.linePressure kPa) s = .next t ∧ t.channels = { s.channels with linePressure := some kPa }
      ∧ t.grout.dose = some { d with ending := some .cut } ∧ t.grout.pump = .idle
      ∧ t.grout.pointer = (if s.isChainPort d.port then some (s.nextPort d.port) else s.grout.pointer)
      ∧ t.console.counters.cuts = s.console.counters.cuts + 1
      ∧ (∀ p, s.port? d.port = some p → ∃ p', t.port? d.port = some p' ∧ p'.cuts = p.cuts + 1
          ∧ p'.state = (if 2 ≤ p.cuts + 1 then .blocked else p.state) ∧ p'.owed = p.owed ∧ p'.delivered = p.delivered
          ∧ (2 ≤ p.cuts + 1 → t.noticed .portBlocked = true))
      ∧ (∀ n, n ≠ d.port → t.port? n = s.port? n)
      ∧ t.link = s.link ∧ t.node = s.node ∧ t.machine = s.machine ∧ t.thrust = s.thrust))
  ∧ (∀ s : State,
    (s.doseInFlight = false → exec .doseLimitExpiry s = .next s)
    ∧ (∀ d, s.grout.dose = some d → d.ending = none → d.elapsed = 30000 → ∃ t : State, exec .doseLimitExpiry s = .next t
      ∧ t.grout.dose = some { d with ending := some .limit } ∧ t.grout.pump = .failed
      ∧ t.grout.pointer = (if s.isChainPort d.port then some d.port else s.grout.pointer)
      ∧ t.grout.ports = s.grout.ports ∧ t.channels = s.channels
      ∧ (s.node.state = .joining ∨ s.node.state = .member →
        t.node = { s.node with state := .faulted, cause := some .pump, listen := none } ∧ t.machine.phase = .hold .hard
        ∧ t.noticed .nodeFault = true)
      ∧ (s.node.state = .faulted → t.node = { s.node with furtherFaults := s.node.furtherFaults + 1 })))

/-- PUMP_AT_REST and UNBLOCK test for a dose. The port selected is eligible: OPEN, not pinned and owed at least the dose
volume; an eligible priority port goes before every chain port, the lowest number first; without one, the first eligible
port met from the rotation pointer along the next-port entries, each chain port once, is selected. UNBLOCK is answered
STATE outside HOLD, FORMAT and RANGE for wrong arguments, and otherwise opens the port with no cuts. That a report of at
rest lapses when a dose starts, while a channel that never reported is taken as at rest still, is the model's deduction
(log 11). -/
def Obligations.DoseSelectionAndUnblock : Prop :=
  (∀ s : State,
    exec (.pumpAtRest false) s = .next (s.setChannels { s.channels with pumpAtRest := some false })
    ∧ exec (.pumpAtRest true) s = .next (s.setChannels { s.channels with pumpAtRest := some true }).testDose
    ∧ (s.doseCondition = true ↔ s.configured = true ∧ (s.node.state = .joining ∨ s.node.state = .member)
        ∧ s.machine.phase ≠ .hold .hard ∧ s.grout.pump = .idle ∧ s.channels.pumpAtRest ≠ some false)
    ∧ (∀ p, s.eligible p = true ↔ p.state = .opened ∧ s.pinned .port p.number = false
        ∧ p.delivered + s.cfg.doseStrokes * s.cfg.strokeVolume ≤ p.owed)
    ∧ (s.doseCondition = false ∨ s.selectPort = none → s.testDose = s)
    ∧ (∀ n, s.doseCondition = true → s.selectPort = some n → s.testDose =
        (s.setGrout { s.grout with dose := some ⟨n, 0, 0, none⟩, pump := .dosing }).setChannels
          { s.channels with pumpAtRest := if s.channels.pumpAtRest = none then none else some false })
    ∧ (∀ n, s.selectPort = some n → ∃ p ∈ s.grout.ports, p.number = n ∧ p.state = .opened ∧ s.pinned .port n = false
        ∧ p.delivered + s.cfg.doseStrokes * s.cfg.strokeVolume ≤ p.owed)
    ∧ (∀ p ∈ s.grout.ports, p.number ≤ s.ownSection.priority → s.eligible p = true → ∃ n, s.selectPort = some n
        ∧ n ≤ s.ownSection.priority
        ∧ ((s.grout.ports.map (·.number)).Pairwise (· < ·) → n ≤ p.number))
    ∧ ((∀ p ∈ s.grout.ports, p.number ≤ s.ownSection.priority → s.eligible p = false) →
      (s.grout.pointer = none ∨ s.grout.pointer = some 0 → s.selectPort = none)
      ∧ (∀ n, s.grout.pointer = some n → n ≠ 0 →
        (∀ k, k < s.ownSection.ports - s.ownSection.priority → s.eligibleNumber (s.chainPort n k) = true →
          (∀ j, j < k → s.eligibleNumber (s.chainPort n j) = false) → s.selectPort = some (s.chainPort n k))
        ∧ ((∀ k, k < s.ownSection.ports - s.ownSection.priority → s.eligibleNumber (s.chainPort n k) = false) →
          s.selectPort = none))))
  ∧ (∀ (sender target : Station) (args : List Byte) (s : State), s.HearsConsole sender target →
    (s.configured = false ∨ s.inHold = false →
      exec (.unblock sender target args) s = .next (s.answer sender (target != 0) .unblock .state))
    ∧ (s.configured = true → s.inHold = true →
      (args.length ≠ 1 → exec (.unblock sender target args) s = .next (s.answer sender (target != 0) .unblock .format))
      ∧ (∀ n, args = [n] →
        (n = 0 ∨ s.ownSection.ports < n.toNat →
          exec (.unblock sender target args) s = .next (s.answer sender (target != 0) .unblock .range))
        ∧ (n ≠ 0 → n.toNat ≤ s.ownSection.ports → exec (.unblock sender target args) s = .next
          ((s.setPorts (s.grout.ports.map fun p =>
            if p.number = n.toNat then { p with state := .opened, cuts := 0 } else p)).testDose.answer sender
              (target != 0) .unblock .done)))))

/-! ### Muck and face pressure -/

/-- FACE_PRESSURE_REPORT: recorded, at a node that is not the muck owner too (the model's deduction, log 25); at the muck
owner a reading above p_high restrains FACE, one at or below p_release releases it, one below p_min holds the machine HARD
with FACE_LOW, and others change no flag. -/
def Obligations.FacePressureTaken : Prop :=
  ∀ (kPa : Half) (s : State), ∃ t : State, exec (.facePressureReport kPa) s = .next t
    ∧ t.channels = { s.channels with face := some kPa } ∧ t.node = s.node ∧ t.overrides = s.overrides
    ∧ t.machine.ring = s.machine.ring ∧ t.machine.view = s.machine.view
    ∧ (s.ownsMuck = false → t = s.setChannels { s.channels with face := some kPa })
    ∧ (s.ownsMuck = true →
      t.muck.faceRestrained = (if s.muck.faceRestrained then decide (s.cfg.pRelease < kPa.toNat)
        else decide (s.cfg.pHigh < kPa.toNat))
      ∧ t.muck.faceLow = decide (kPa.toNat < s.cfg.pMin)
      ∧ (s.muck.faceRestrained = false → s.cfg.pHigh < kPa.toNat →
          (s.own, RestraintReason.face) ∈ t.thrust.restraints)
      ∧ (s.muck.faceRestrained = true → kPa.toNat ≤ s.cfg.pRelease →
          (s.own, RestraintReason.face) ∉ t.thrust.restraints)
      ∧ (s.muck.faceLow = false → kPa.toNat < s.cfg.pMin → t.machine.phase = .hold .hard)
      ∧ (s.muck.faceLow = true ∨ s.cfg.pMin ≤ kPa.toNat → t.machine = s.machine)
      ∧ t.muck.queue = s.muck.queue ∧ t.muck.weighed = s.muck.weighed)

/-- BELT_SCALE_REPORT: with sums that fit 32 bits, the weighed mass rises by the increment, the head car and the carried
mass by what the car can take, the uncarried mass and the spill run by the rest, so that weighed stays carried plus
uncarried; a head car that reaches 95 percent is DUE; a spill run that passes the limit holds the machine. Overdig is then
evaluated: it stands exactly while the excess is above 0, and when it comes to stand the machine is held OVERDIG. An
increment of 0, or one at a node that is not the muck owner, changes nothing. -/
def Obligations.BeltIncrementTaken : Prop :=
  ∀ (kg : Half) (s : State),
    (kg = 0 ∨ s.ownsMuck = false → exec (.beltScaleReport kg) s = .next s)
    ∧ (kg ≠ 0 → s.ownsMuck = true → ∃ t : State, exec (.beltScaleReport kg) s = .next t
      ∧ (s.muck.weighed + kg.toNat < 4294967296 → t.muck.weighed = s.muck.weighed + kg.toNat)
      ∧ (s.muck.carried + s.credit kg.toNat < 4294967296 → t.muck.carried = s.muck.carried + s.credit kg.toNat)
      ∧ (s.muck.uncarried + (kg.toNat - s.credit kg.toNat) < 4294967296 →
          t.muck.uncarried = s.muck.uncarried + (kg.toNat - s.credit kg.toNat))
      ∧ (s.muck.spill + (kg.toNat - s.credit kg.toNat) < 4294967296 →
          t.muck.spill = s.muck.spill + (kg.toNat - s.credit kg.toNat)
          ∧ (s.muck.spill < s.cfg.spillLimit → s.cfg.spillLimit ≤ t.muck.spill → t.inHold = true))
      ∧ (s.muck.weighed = s.muck.carried + s.muck.uncarried → s.muck.weighed + kg.toNat < 4294967296 →
          t.muck.weighed = t.muck.carried + t.muck.uncarried)
      ∧ (s.muck.queue = [] → t.muck.queue = [] ∧ s.credit kg.toNat = 0)
      ∧ (∀ c rest, s.muck.queue = c :: rest → s.credit kg.toNat = min kg.toNat (c.capacity - c.fill)
        ∧ ∃ c', t.muck.queue = c' :: rest ∧ c'.number = c.number ∧ c'.capacity = c.capacity
          ∧ c'.fill = c.fill + s.credit kg.toNat
          ∧ c'.state = (if c.state = .filling ∧ c.capacity * 95 ≤ c'.fill * 100 then .due else c.state)
          ∧ (c.state = .filling → c.capacity * 95 ≤ c'.fill * 100 → t.noticed .indexDue = true))
      ∧ t.muck.muckRestrained = !t.receivingCar
      ∧ t.muck.overdig = decide (0 < (t.muck.weighed : Int) - t.muck.excused
          - t.muck.machineAdvance * s.cfg.massPerMm - s.cfg.overdigAllowance)
      ∧ t.muck.machineAdvance = s.muck.machineAdvance
      ∧ (s.muck.overdig = false → t.muck.overdig = true → t.inHold = true
        ∧ (s.inHold = false → (t.muck.spill < s.cfg.spillLimit ∨ s.cfg.spillLimit ≤ s.muck.spill) →
            t.machine.phase = .hold .soft ∧ t.machine.current = some ⟨.overdig, s.own, s.machine.ring, .soft, 0⟩))
      ∧ (t.muck.overdig = s.muck.overdig → (t.muck.spill < s.cfg.spillLimit ∨ s.cfg.spillLimit ≤ s.muck.spill) →
          t.machine = s.machine)
      ∧ t.muck.excused = s.muck.excused ∧ t.muck.indexed = s.muck.indexed
      ∧ t.node = s.node ∧ t.channels = s.channels ∧ t.overrides = s.overrides ∧ t.machine.ring = s.machine.ring)

/-- TRAIN_ARRIVE, CAR_INDEXED and OVERDIG_EXCUSE at the muck owner, by the checks of R171, R172 and R180 in order; one
addressed to another node is answered STATE, and a broadcast one is ignored. The model's choices: the reply is queued after
the RESTRAIN or RELEASE of the MUCK test (log 32), and the count of cars indexed wraps at 16 bits (log 19). -/
def Obligations.MuckServicesAnswered : Prop :=
  (∀ (sender target : Station) (args : List Byte) (i : Instr) (service : Service) (s : State),
    s.HearsConsole sender target →
    (i = .trainArrive sender target args ∧ service = .trainArrive
      ∨ i = .carIndexed sender target args ∧ service = .carIndexed
      ∨ i = .overdigExcuse sender target args ∧ service = .overdigExcuse) →
    (target = 0 → exec i s = .next s)
    ∧ (target ≠ 0 → s.ownsMuck = false → exec i s = .next (s.answer sender true service .state)))
  ∧ (∀ (sender target : Station) (args : List Byte) (s : State), s.HearsConsole sender target → s.ownsMuck = true →
    target ≠ 0 →
    ((∀ n, args ≠ [n]) → exec (.carIndexed sender target args) s = .next (s.answer sender true .carIndexed .format))
    ∧ (∀ n, args = [n] →
      (∀ c rest, s.muck.queue = c :: rest → c.number = n.toNat →
        exec (.carIndexed sender target args) s = .next ((s.setMuck { s.muck with
          queue := State.headFilling rest, lastIndexed := some n.toNat, indexed := s.muck.indexed + 1
          spill := if rest.isEmpty then s.muck.spill else 0 }).testMuck.answer sender true .carIndexed .done))
      ∧ ((∀ c rest, s.muck.queue = c :: rest → c.number ≠ n.toNat) →
        (s.muck.lastIndexed = some n.toNat →
          exec (.carIndexed sender target args) s = .next (s.answer sender true .carIndexed .done))
        ∧ (s.muck.lastIndexed ≠ some n.toNat → s.muck.queue = [] →
          exec (.carIndexed sender target args) s = .next (s.answer sender true .carIndexed .state))
        ∧ (s.muck.lastIndexed ≠ some n.toNat → s.muck.queue ≠ [] →
          exec (.carIndexed sender target args) s = .next (s.answer sender true .carIndexed .format))))
    ∧ (args.length < 3 ∨ 14 < args.length →
      exec (.trainArrive sender target args) s = .next (s.answer sender true .trainArrive .format))
    ∧ (∀ hi lo cars capacity, args = hi :: lo :: cars → 1 ≤ cars.length → cars.length ≤ 12 →
      capacity = hi.toNat * 256 + lo.toNat →
      (capacity < 1000 ∨ 60000 < capacity →
        exec (.trainArrive sender target args) s = .next (s.answer sender true .trainArrive .range))
      ∧ (1000 ≤ capacity → capacity ≤ 60000 →
        ((0 ∈ cars ∨ ¬cars.Nodup ∨ ∃ c ∈ s.muck.queue, ∃ n ∈ cars, c.number = n.toNat) →
          exec (.trainArrive sender target args) s = .next (s.answer sender true .trainArrive .format))
        ∧ (0 ∉ cars → cars.Nodup → (∀ c ∈ s.muck.queue, ∀ n ∈ cars, c.number ≠ n.toNat) →
          (16 < s.muck.queue.length + cars.length →
            exec (.trainArrive sender target args) s = .next (s.answer sender true .trainArrive .range))
          ∧ (s.muck.queue.length + cars.length ≤ 16 → exec (.trainArrive sender target args) s = .next
            ((s.setMuck { s.muck with
              queue := if s.muck.queue = [] then State.headFilling (cars.map fun n => ⟨n.toNat, capacity, 0, .queued⟩)
                else s.muck.queue ++ cars.map fun n => ⟨n.toNat, capacity, 0, .queued⟩
              spill := if s.muck.queue = [] then 0 else s.muck.spill }).testMuck.answer sender true .trainArrive .done)))))
    ∧ (args ≠ [] → exec (.overdigExcuse sender target args) s = .next (s.answer sender true .overdigExcuse .format))
    ∧ (args = [] → s.inHold = false →
      exec (.overdigExcuse sender target args) s = .next (s.answer sender true .overdigExcuse .state))
    ∧ (args = [] → s.inHold = true →
      (0 < s.excess → exec (.overdigExcuse sender target args) s = .next ((s.setMuck { s.muck with
        excused := s.muck.excused + s.excess.toNat, overdig := false }).answer sender true .overdigExcuse .done))
      ∧ (s.excess ≤ 0 → exec (.overdigExcuse sender target args) s = .next
        ((s.setMuck { s.muck with overdig := false }).answer sender true .overdigExcuse .done))))
  ∧ (∀ s : State,
    (s.muck.muckRestrained = !s.receivingCar → s.testMuck = s)
    ∧ (s.muck.muckRestrained = false → s.receivingCar = false →
      s.testMuck = (s.setMuck { s.muck with muckRestrained := true }).restrain .muck)
    ∧ (s.muck.muckRestrained = true → s.receivingCar = true →
      s.testMuck = (s.setMuck { s.muck with muckRestrained := false }).release .muck))

/-! ### Properties every step keeps -/

/-- The transmit queue keeps its bounds and its order. -/
def Obligations.TransmitQueueKept : Prop := ∀ s t : State, s.LinkOrdered → step s = .next t → t.LinkOrdered

/-- The restraint set keeps its order, and the own entries go on following the node's units. -/
def Obligations.OwnRestraintsKept : Prop :=
  ∀ s t : State, s.RestraintsOrdered ∧ s.OwnRestraintsFollow ∧ 1 ≤ s.own ∧ s.own ≤ 8 → step s = .next t →
    t.RestraintsOrdered ∧ t.OwnRestraintsFollow ∧ 1 ≤ t.own ∧ t.own ≤ 8

/-- The node's drive channels are commanded to run only while its phase is BORE, its state is MEMBER and the drive is not
pinned. -/
def Obligations.DrivesRunOnlyInBore : Prop := ∀ s t : State, s.DrivesRunInBore → step s = .next t → t.DrivesRunInBore

/-- The engine goes on holding a step exactly in the states Table 6-4 gives one, and the store keeps its bounds. -/
def Obligations.PlanStoreKept : Prop :=
  ∀ s t : State, s.StepHeldByState ∧ s.StoreBounded → step s = .next t → t.StepHeldByState ∧ t.StoreBounded

/-- The pump is DOSING exactly while a dose is in flight, and no port's delivered volume ever exceeds its owed volume. -/
def Obligations.DeliveredNeverExceedsOwed : Prop :=
  ∀ s t : State, s.DosingIffInFlight ∧ s.DeliveredWithinOwed → step s = .next t →
    t.DosingIffInFlight ∧ t.DeliveredWithinOwed

/-- The train queue keeps its bound, its distinct numbers, its ranges of number, capacity and fill, its head car FILLING or,
from 95 percent on, DUE, and its empty QUEUED cars behind the head. -/
def Obligations.TrainQueueKept : Prop := ∀ s t : State, s.TrainOrdered → step s = .next t → t.TrainOrdered

/-- A stored configuration has passed every check of validation at this node: LENGTH, RANGE, NOT_MEMBER, CHAIN, ZONE_MAP,
MUCK_OWNER and ERECTOR_OWNER. -/
def Obligations.ConfigurationPassedKept : Prop :=
  ∀ s t : State, s.ConfigurationPassed → step s = .next t → t.ConfigurationPassed

/-- Every property kept holds of the node right after reset, whatever the strap pins read. -/
def Obligations.KeptPropertiesHoldAtReset : Prop :=
  ∀ straps : BitVec 3, (State.coldReset straps).LinkOrdered ∧ (State.coldReset straps).RestraintsOrdered
    ∧ (State.coldReset straps).OwnRestraintsFollow ∧ (State.coldReset straps).DrivesRunInBore
    ∧ (State.coldReset straps).StepHeldByState ∧ (State.coldReset straps).StoreBounded
    ∧ (State.coldReset straps).DosingIffInFlight ∧ (State.coldReset straps).DeliveredWithinOwed
    ∧ (State.coldReset straps).TrainOrdered ∧ (State.coldReset straps).ConfigurationPassed
    ∧ (State.coldReset straps).RoundListsMembers
    ∧ State.reset = State.coldReset 0

end
end

