-- ==== Sys2Proof/Laws/State.lean ====
section
/-! SUPPORT. One lemma per field per update of State, so that no proof unfolds a record update. -/

namespace Sys2Proof.Machine.State

section
variable (s : State) (x : LinkUnit)
@[simp] theorem setLink_link : (s.setLink x).link = x := rfl
@[simp] theorem setLink_node : (s.setLink x).node = s.node := rfl
@[simp] theorem setLink_machine : (s.setLink x).machine = s.machine := rfl
@[simp] theorem setLink_thrust : (s.setLink x).thrust = s.thrust := rfl
@[simp] theorem setLink_drive : (s.setLink x).drive = s.drive := rfl
@[simp] theorem setLink_plans : (s.setLink x).plans = s.plans := rfl
@[simp] theorem setLink_engine : (s.setLink x).engine = s.engine := rfl
@[simp] theorem setLink_grout : (s.setLink x).grout = s.grout := rfl
@[simp] theorem setLink_muck : (s.setLink x).muck = s.muck := rfl
@[simp] theorem setLink_channels : (s.setLink x).channels = s.channels := rfl
@[simp] theorem setLink_overrides : (s.setLink x).overrides = s.overrides := rfl
@[simp] theorem setLink_console : (s.setLink x).console = s.console := rfl
@[simp] theorem setLink_freeIndex : (s.setLink x).freeIndex = s.freeIndex := rfl
@[simp] theorem setLink_pending : (s.setLink x).pending = s.pending := rfl
end

section
variable (s : State) (x : NodeRecord)
@[simp] theorem setNode_link : (s.setNode x).link = s.link := rfl
@[simp] theorem setNode_node : (s.setNode x).node = x := rfl
@[simp] theorem setNode_machine : (s.setNode x).machine = s.machine := rfl
@[simp] theorem setNode_thrust : (s.setNode x).thrust = s.thrust := rfl
@[simp] theorem setNode_drive : (s.setNode x).drive = s.drive := rfl
@[simp] theorem setNode_plans : (s.setNode x).plans = s.plans := rfl
@[simp] theorem setNode_engine : (s.setNode x).engine = s.engine := rfl
@[simp] theorem setNode_grout : (s.setNode x).grout = s.grout := rfl
@[simp] theorem setNode_muck : (s.setNode x).muck = s.muck := rfl
@[simp] theorem setNode_channels : (s.setNode x).channels = s.channels := rfl
@[simp] theorem setNode_overrides : (s.setNode x).overrides = s.overrides := rfl
@[simp] theorem setNode_console : (s.setNode x).console = s.console := rfl
@[simp] theorem setNode_freeIndex : (s.setNode x).freeIndex = s.freeIndex := rfl
@[simp] theorem setNode_pending : (s.setNode x).pending = s.pending := rfl
end

section
variable (s : State) (x : PhaseUnit)
@[simp] theorem setMachine_link : (s.setMachine x).link = s.link := rfl
@[simp] theorem setMachine_node : (s.setMachine x).node = s.node := rfl
@[simp] theorem setMachine_machine : (s.setMachine x).machine = x := rfl
@[simp] theorem setMachine_thrust : (s.setMachine x).thrust = s.thrust := rfl
@[simp] theorem setMachine_drive : (s.setMachine x).drive = s.drive := rfl
@[simp] theorem setMachine_plans : (s.setMachine x).plans = s.plans := rfl
@[simp] theorem setMachine_engine : (s.setMachine x).engine = s.engine := rfl
@[simp] theorem setMachine_grout : (s.setMachine x).grout = s.grout := rfl
@[simp] theorem setMachine_muck : (s.setMachine x).muck = s.muck := rfl
@[simp] theorem setMachine_channels : (s.setMachine x).channels = s.channels := rfl
@[simp] theorem setMachine_overrides : (s.setMachine x).overrides = s.overrides := rfl
@[simp] theorem setMachine_console : (s.setMachine x).console = s.console := rfl
@[simp] theorem setMachine_freeIndex : (s.setMachine x).freeIndex = s.freeIndex := rfl
@[simp] theorem setMachine_pending : (s.setMachine x).pending = s.pending := rfl
end

section
variable (s : State) (x : ThrustUnit)
@[simp] theorem setThrust_link : (s.setThrust x).link = s.link := rfl
@[simp] theorem setThrust_node : (s.setThrust x).node = s.node := rfl
@[simp] theorem setThrust_machine : (s.setThrust x).machine = s.machine := rfl
@[simp] theorem setThrust_thrust : (s.setThrust x).thrust = x := rfl
@[simp] theorem setThrust_drive : (s.setThrust x).drive = s.drive := rfl
@[simp] theorem setThrust_plans : (s.setThrust x).plans = s.plans := rfl
@[simp] theorem setThrust_engine : (s.setThrust x).engine = s.engine := rfl
@[simp] theorem setThrust_grout : (s.setThrust x).grout = s.grout := rfl
@[simp] theorem setThrust_muck : (s.setThrust x).muck = s.muck := rfl
@[simp] theorem setThrust_channels : (s.setThrust x).channels = s.channels := rfl
@[simp] theorem setThrust_overrides : (s.setThrust x).overrides = s.overrides := rfl
@[simp] theorem setThrust_console : (s.setThrust x).console = s.console := rfl
@[simp] theorem setThrust_freeIndex : (s.setThrust x).freeIndex = s.freeIndex := rfl
@[simp] theorem setThrust_pending : (s.setThrust x).pending = s.pending := rfl
end

section
variable (s : State) (x : DriveUnit)
@[simp] theorem setDrive_link : (s.setDrive x).link = s.link := rfl
@[simp] theorem setDrive_node : (s.setDrive x).node = s.node := rfl
@[simp] theorem setDrive_machine : (s.setDrive x).machine = s.machine := rfl
@[simp] theorem setDrive_thrust : (s.setDrive x).thrust = s.thrust := rfl
@[simp] theorem setDrive_drive : (s.setDrive x).drive = x := rfl
@[simp] theorem setDrive_plans : (s.setDrive x).plans = s.plans := rfl
@[simp] theorem setDrive_engine : (s.setDrive x).engine = s.engine := rfl
@[simp] theorem setDrive_grout : (s.setDrive x).grout = s.grout := rfl
@[simp] theorem setDrive_muck : (s.setDrive x).muck = s.muck := rfl
@[simp] theorem setDrive_channels : (s.setDrive x).channels = s.channels := rfl
@[simp] theorem setDrive_overrides : (s.setDrive x).overrides = s.overrides := rfl
@[simp] theorem setDrive_console : (s.setDrive x).console = s.console := rfl
@[simp] theorem setDrive_freeIndex : (s.setDrive x).freeIndex = s.freeIndex := rfl
@[simp] theorem setDrive_pending : (s.setDrive x).pending = s.pending := rfl
end

section
variable (s : State) (x : PlanStore)
@[simp] theorem setPlans_link : (s.setPlans x).link = s.link := rfl
@[simp] theorem setPlans_node : (s.setPlans x).node = s.node := rfl
@[simp] theorem setPlans_machine : (s.setPlans x).machine = s.machine := rfl
@[simp] theorem setPlans_thrust : (s.setPlans x).thrust = s.thrust := rfl
@[simp] theorem setPlans_drive : (s.setPlans x).drive = s.drive := rfl
@[simp] theorem setPlans_plans : (s.setPlans x).plans = x := rfl
@[simp] theorem setPlans_engine : (s.setPlans x).engine = s.engine := rfl
@[simp] theorem setPlans_grout : (s.setPlans x).grout = s.grout := rfl
@[simp] theorem setPlans_muck : (s.setPlans x).muck = s.muck := rfl
@[simp] theorem setPlans_channels : (s.setPlans x).channels = s.channels := rfl
@[simp] theorem setPlans_overrides : (s.setPlans x).overrides = s.overrides := rfl
@[simp] theorem setPlans_console : (s.setPlans x).console = s.console := rfl
@[simp] theorem setPlans_freeIndex : (s.setPlans x).freeIndex = s.freeIndex := rfl
@[simp] theorem setPlans_pending : (s.setPlans x).pending = s.pending := rfl
end

section
variable (s : State) (x : Engine)
@[simp] theorem setEngine_link : (s.setEngine x).link = s.link := rfl
@[simp] theorem setEngine_node : (s.setEngine x).node = s.node := rfl
@[simp] theorem setEngine_machine : (s.setEngine x).machine = s.machine := rfl
@[simp] theorem setEngine_thrust : (s.setEngine x).thrust = s.thrust := rfl
@[simp] theorem setEngine_drive : (s.setEngine x).drive = s.drive := rfl
@[simp] theorem setEngine_plans : (s.setEngine x).plans = s.plans := rfl
@[simp] theorem setEngine_engine : (s.setEngine x).engine = x := rfl
@[simp] theorem setEngine_grout : (s.setEngine x).grout = s.grout := rfl
@[simp] theorem setEngine_muck : (s.setEngine x).muck = s.muck := rfl
@[simp] theorem setEngine_channels : (s.setEngine x).channels = s.channels := rfl
@[simp] theorem setEngine_overrides : (s.setEngine x).overrides = s.overrides := rfl
@[simp] theorem setEngine_console : (s.setEngine x).console = s.console := rfl
@[simp] theorem setEngine_freeIndex : (s.setEngine x).freeIndex = s.freeIndex := rfl
@[simp] theorem setEngine_pending : (s.setEngine x).pending = s.pending := rfl
end

section
variable (s : State) (x : GroutUnit)
@[simp] theorem setGrout_link : (s.setGrout x).link = s.link := rfl
@[simp] theorem setGrout_node : (s.setGrout x).node = s.node := rfl
@[simp] theorem setGrout_machine : (s.setGrout x).machine = s.machine := rfl
@[simp] theorem setGrout_thrust : (s.setGrout x).thrust = s.thrust := rfl
@[simp] theorem setGrout_drive : (s.setGrout x).drive = s.drive := rfl
@[simp] theorem setGrout_plans : (s.setGrout x).plans = s.plans := rfl
@[simp] theorem setGrout_engine : (s.setGrout x).engine = s.engine := rfl
@[simp] theorem setGrout_grout : (s.setGrout x).grout = x := rfl
@[simp] theorem setGrout_muck : (s.setGrout x).muck = s.muck := rfl
@[simp] theorem setGrout_channels : (s.setGrout x).channels = s.channels := rfl
@[simp] theorem setGrout_overrides : (s.setGrout x).overrides = s.overrides := rfl
@[simp] theorem setGrout_console : (s.setGrout x).console = s.console := rfl
@[simp] theorem setGrout_freeIndex : (s.setGrout x).freeIndex = s.freeIndex := rfl
@[simp] theorem setGrout_pending : (s.setGrout x).pending = s.pending := rfl
end

section
variable (s : State) (x : MuckUnit)
@[simp] theorem setMuck_link : (s.setMuck x).link = s.link := rfl
@[simp] theorem setMuck_node : (s.setMuck x).node = s.node := rfl
@[simp] theorem setMuck_machine : (s.setMuck x).machine = s.machine := rfl
@[simp] theorem setMuck_thrust : (s.setMuck x).thrust = s.thrust := rfl
@[simp] theorem setMuck_drive : (s.setMuck x).drive = s.drive := rfl
@[simp] theorem setMuck_plans : (s.setMuck x).plans = s.plans := rfl
@[simp] theorem setMuck_engine : (s.setMuck x).engine = s.engine := rfl
@[simp] theorem setMuck_grout : (s.setMuck x).grout = s.grout := rfl
@[simp] theorem setMuck_muck : (s.setMuck x).muck = x := rfl
@[simp] theorem setMuck_channels : (s.setMuck x).channels = s.channels := rfl
@[simp] theorem setMuck_overrides : (s.setMuck x).overrides = s.overrides := rfl
@[simp] theorem setMuck_console : (s.setMuck x).console = s.console := rfl
@[simp] theorem setMuck_freeIndex : (s.setMuck x).freeIndex = s.freeIndex := rfl
@[simp] theorem setMuck_pending : (s.setMuck x).pending = s.pending := rfl
end

section
variable (s : State) (x : Channels)
@[simp] theorem setChannels_link : (s.setChannels x).link = s.link := rfl
@[simp] theorem setChannels_node : (s.setChannels x).node = s.node := rfl
@[simp] theorem setChannels_machine : (s.setChannels x).machine = s.machine := rfl
@[simp] theorem setChannels_thrust : (s.setChannels x).thrust = s.thrust := rfl
@[simp] theorem setChannels_drive : (s.setChannels x).drive = s.drive := rfl
@[simp] theorem setChannels_plans : (s.setChannels x).plans = s.plans := rfl
@[simp] theorem setChannels_engine : (s.setChannels x).engine = s.engine := rfl
@[simp] theorem setChannels_grout : (s.setChannels x).grout = s.grout := rfl
@[simp] theorem setChannels_muck : (s.setChannels x).muck = s.muck := rfl
@[simp] theorem setChannels_channels : (s.setChannels x).channels = x := rfl
@[simp] theorem setChannels_overrides : (s.setChannels x).overrides = s.overrides := rfl
@[simp] theorem setChannels_console : (s.setChannels x).console = s.console := rfl
@[simp] theorem setChannels_freeIndex : (s.setChannels x).freeIndex = s.freeIndex := rfl
@[simp] theorem setChannels_pending : (s.setChannels x).pending = s.pending := rfl
end

section
variable (s : State) (x : List OverrideEntry)
@[simp] theorem setOverrides_link : (s.setOverrides x).link = s.link := rfl
@[simp] theorem setOverrides_node : (s.setOverrides x).node = s.node := rfl
@[simp] theorem setOverrides_machine : (s.setOverrides x).machine = s.machine := rfl
@[simp] theorem setOverrides_thrust : (s.setOverrides x).thrust = s.thrust := rfl
@[simp] theorem setOverrides_drive : (s.setOverrides x).drive = s.drive := rfl
@[simp] theorem setOverrides_plans : (s.setOverrides x).plans = s.plans := rfl
@[simp] theorem setOverrides_engine : (s.setOverrides x).engine = s.engine := rfl
@[simp] theorem setOverrides_grout : (s.setOverrides x).grout = s.grout := rfl
@[simp] theorem setOverrides_muck : (s.setOverrides x).muck = s.muck := rfl
@[simp] theorem setOverrides_channels : (s.setOverrides x).channels = s.channels := rfl
@[simp] theorem setOverrides_overrides : (s.setOverrides x).overrides = x := rfl
@[simp] theorem setOverrides_console : (s.setOverrides x).console = s.console := rfl
@[simp] theorem setOverrides_freeIndex : (s.setOverrides x).freeIndex = s.freeIndex := rfl
@[simp] theorem setOverrides_pending : (s.setOverrides x).pending = s.pending := rfl
end

section
variable (s : State) (x : ConsoleUnit)
@[simp] theorem setConsole_link : (s.setConsole x).link = s.link := rfl
@[simp] theorem setConsole_node : (s.setConsole x).node = s.node := rfl
@[simp] theorem setConsole_machine : (s.setConsole x).machine = s.machine := rfl
@[simp] theorem setConsole_thrust : (s.setConsole x).thrust = s.thrust := rfl
@[simp] theorem setConsole_drive : (s.setConsole x).drive = s.drive := rfl
@[simp] theorem setConsole_plans : (s.setConsole x).plans = s.plans := rfl
@[simp] theorem setConsole_engine : (s.setConsole x).engine = s.engine := rfl
@[simp] theorem setConsole_grout : (s.setConsole x).grout = s.grout := rfl
@[simp] theorem setConsole_muck : (s.setConsole x).muck = s.muck := rfl
@[simp] theorem setConsole_channels : (s.setConsole x).channels = s.channels := rfl
@[simp] theorem setConsole_overrides : (s.setConsole x).overrides = s.overrides := rfl
@[simp] theorem setConsole_console : (s.setConsole x).console = x := rfl
@[simp] theorem setConsole_freeIndex : (s.setConsole x).freeIndex = s.freeIndex := rfl
@[simp] theorem setConsole_pending : (s.setConsole x).pending = s.pending := rfl
end

section
variable (s : State) (x : Nat)
@[simp] theorem setFreeIndex_link : (s.setFreeIndex x).link = s.link := rfl
@[simp] theorem setFreeIndex_node : (s.setFreeIndex x).node = s.node := rfl
@[simp] theorem setFreeIndex_machine : (s.setFreeIndex x).machine = s.machine := rfl
@[simp] theorem setFreeIndex_thrust : (s.setFreeIndex x).thrust = s.thrust := rfl
@[simp] theorem setFreeIndex_drive : (s.setFreeIndex x).drive = s.drive := rfl
@[simp] theorem setFreeIndex_plans : (s.setFreeIndex x).plans = s.plans := rfl
@[simp] theorem setFreeIndex_engine : (s.setFreeIndex x).engine = s.engine := rfl
@[simp] theorem setFreeIndex_grout : (s.setFreeIndex x).grout = s.grout := rfl
@[simp] theorem setFreeIndex_muck : (s.setFreeIndex x).muck = s.muck := rfl
@[simp] theorem setFreeIndex_channels : (s.setFreeIndex x).channels = s.channels := rfl
@[simp] theorem setFreeIndex_overrides : (s.setFreeIndex x).overrides = s.overrides := rfl
@[simp] theorem setFreeIndex_console : (s.setFreeIndex x).console = s.console := rfl
@[simp] theorem setFreeIndex_freeIndex : (s.setFreeIndex x).freeIndex = x := rfl
@[simp] theorem setFreeIndex_pending : (s.setFreeIndex x).pending = s.pending := rfl
end

section
variable (s : State) (x : List Instr)
@[simp] theorem setPending_link : (s.setPending x).link = s.link := rfl
@[simp] theorem setPending_node : (s.setPending x).node = s.node := rfl
@[simp] theorem setPending_machine : (s.setPending x).machine = s.machine := rfl
@[simp] theorem setPending_thrust : (s.setPending x).thrust = s.thrust := rfl
@[simp] theorem setPending_drive : (s.setPending x).drive = s.drive := rfl
@[simp] theorem setPending_plans : (s.setPending x).plans = s.plans := rfl
@[simp] theorem setPending_engine : (s.setPending x).engine = s.engine := rfl
@[simp] theorem setPending_grout : (s.setPending x).grout = s.grout := rfl
@[simp] theorem setPending_muck : (s.setPending x).muck = s.muck := rfl
@[simp] theorem setPending_channels : (s.setPending x).channels = s.channels := rfl
@[simp] theorem setPending_overrides : (s.setPending x).overrides = s.overrides := rfl
@[simp] theorem setPending_console : (s.setPending x).console = s.console := rfl
@[simp] theorem setPending_freeIndex : (s.setPending x).freeIndex = s.freeIndex := rfl
@[simp] theorem setPending_pending : (s.setPending x).pending = x := rfl
end

/-! Two updates of one unit, and an update that changes nothing. -/

section
variable (s : State)
@[simp] theorem setLink_setLink (x y) : (s.setLink x).setLink y = s.setLink y := rfl
@[simp] theorem setLink_self : s.setLink s.link = s := rfl
@[simp] theorem setNode_setNode (x y) : (s.setNode x).setNode y = s.setNode y := rfl
@[simp] theorem setNode_self : s.setNode s.node = s := rfl
@[simp] theorem setMachine_setMachine (x y) : (s.setMachine x).setMachine y = s.setMachine y := rfl
@[simp] theorem setMachine_self : s.setMachine s.machine = s := rfl
@[simp] theorem setThrust_setThrust (x y) : (s.setThrust x).setThrust y = s.setThrust y := rfl
@[simp] theorem setThrust_self : s.setThrust s.thrust = s := rfl
@[simp] theorem setDrive_setDrive (x y) : (s.setDrive x).setDrive y = s.setDrive y := rfl
@[simp] theorem setDrive_self : s.setDrive s.drive = s := rfl
@[simp] theorem setPlans_setPlans (x y) : (s.setPlans x).setPlans y = s.setPlans y := rfl
@[simp] theorem setPlans_self : s.setPlans s.plans = s := rfl
@[simp] theorem setEngine_setEngine (x y) : (s.setEngine x).setEngine y = s.setEngine y := rfl
@[simp] theorem setEngine_self : s.setEngine s.engine = s := rfl
@[simp] theorem setGrout_setGrout (x y) : (s.setGrout x).setGrout y = s.setGrout y := rfl
@[simp] theorem setGrout_self : s.setGrout s.grout = s := rfl
@[simp] theorem setMuck_setMuck (x y) : (s.setMuck x).setMuck y = s.setMuck y := rfl
@[simp] theorem setMuck_self : s.setMuck s.muck = s := rfl
@[simp] theorem setChannels_setChannels (x y) : (s.setChannels x).setChannels y = s.setChannels y := rfl
@[simp] theorem setChannels_self : s.setChannels s.channels = s := rfl
@[simp] theorem setOverrides_setOverrides (x y) : (s.setOverrides x).setOverrides y = s.setOverrides y := rfl
@[simp] theorem setOverrides_self : s.setOverrides s.overrides = s := rfl
@[simp] theorem setConsole_setConsole (x y) : (s.setConsole x).setConsole y = s.setConsole y := rfl
@[simp] theorem setConsole_self : s.setConsole s.console = s := rfl
@[simp] theorem setFreeIndex_setFreeIndex (x y) : (s.setFreeIndex x).setFreeIndex y = s.setFreeIndex y := rfl
@[simp] theorem setFreeIndex_self : s.setFreeIndex s.freeIndex = s := rfl
@[simp] theorem setPending_setPending (x y) : (s.setPending x).setPending y = s.setPending y := rfl
@[simp] theorem setPending_self : s.setPending s.pending = s := rfl
end

end Sys2Proof.Machine.State
end

