-- ==== Sys2Proof/Laws/OpsFrames.lean ====
section
/-! SUPPORT. For each operation of Machine/Ops.lean, the parts of State it leaves as they are; the plain updates of a
record are rewritten to the update of its unit. -/

namespace Sys2Proof.Machine.State

@[simp] theorem notify_eq (n : Notice) (s : State) :
    s.notify n = s.setConsole { s.console with notices := s.console.notices ||| noticeMask n } := rfl

@[simp] theorem clearNotices_eq (reported : BitVec 15) (s : State) :
    s.clearNotices reported = s.setConsole { s.console with notices := s.console.notices &&& ~~~reported } := rfl

@[simp] theorem count_eq (f : Counters → Counters) (s : State) :
    s.count f = s.setConsole { s.console with counters := f s.console.counters } := rfl

@[simp] theorem countBadCheck_eq (s : State) :
    s.countBadCheck = s.count fun c => { c with badCheck := c.badCheck + 1 } := rfl

@[simp] theorem countForeign_eq (s : State) :
    s.countForeign = s.count fun c => { c with foreignSender := c.foreignSender + 1 } := rfl

@[simp] theorem countDrop_eq (s : State) :
    s.countDrop = (s.count fun c => { c with txqDrops := c.txqDrops + 1 }).notify .txqDrop := rfl

@[simp] theorem setQueue_eq (s : State) (q : List TxFrame) :
    s.setQueue q = s.setLink { s.link with queue := q } := rfl

@[simp] theorem setWire_eq (s : State) (w : Option WireFrame) :
    s.setWire w = s.setLink { s.link with onWire := w } := rfl

@[simp] theorem endDataReply_eq (s : State) :
    s.endDataReply = s.setConsole { s.console with dataReply := none } := rfl

@[simp] theorem frameEnded_frame (f : TxFrame) (e : Ending) (s : State) :
    (s.frameEnded f e).link = s.link ∧ (s.frameEnded f e).node = s.node ∧ (s.frameEnded f e).machine = s.machine ∧
    (s.frameEnded f e).thrust = s.thrust ∧ (s.frameEnded f e).drive = s.drive ∧ (s.frameEnded f e).plans = s.plans ∧
    (s.frameEnded f e).grout = s.grout ∧ (s.frameEnded f e).muck = s.muck ∧ (s.frameEnded f e).channels = s.channels ∧
    (s.frameEnded f e).overrides = s.overrides ∧ (s.frameEnded f e).freeIndex = s.freeIndex ∧ (s.frameEnded f
    e).pending = s.pending := by
  unfold frameEnded
  (repeat' split) <;> simp

@[simp] theorem admitFrame_frame (f : TxFrame) (s : State) :
    (s.admitFrame f).node = s.node ∧ (s.admitFrame f).machine = s.machine ∧ (s.admitFrame f).thrust = s.thrust ∧
    (s.admitFrame f).drive = s.drive ∧ (s.admitFrame f).plans = s.plans ∧ (s.admitFrame f).grout = s.grout ∧
    (s.admitFrame f).muck = s.muck ∧ (s.admitFrame f).channels = s.channels ∧ (s.admitFrame f).overrides = s.overrides
    ∧ (s.admitFrame f).freeIndex = s.freeIndex ∧ (s.admitFrame f).pending = s.pending := by
  unfold admitFrame
  (repeat' split) <;> simp

@[simp] theorem stepAge_eq (s : State) :
    s.stepAge = s.setLink { s.link with nextAge := s.link.nextAge + 1 } := rfl

@[simp] theorem retryRingClosed_frame (s : State) :
    s.retryRingClosed.node = s.node ∧ s.retryRingClosed.machine = s.machine ∧ s.retryRingClosed.thrust = s.thrust ∧
    s.retryRingClosed.drive = s.drive ∧ s.retryRingClosed.plans = s.plans ∧ s.retryRingClosed.grout = s.grout ∧
    s.retryRingClosed.muck = s.muck ∧ s.retryRingClosed.channels = s.channels ∧ s.retryRingClosed.overrides =
    s.overrides ∧ s.retryRingClosed.freeIndex = s.freeIndex ∧ s.retryRingClosed.pending = s.pending := by
  unfold retryRingClosed
  split <;> simp

@[simp] theorem admitHold_frame (f : TxFrame) (s : State) :
    (s.admitHold f).node = s.node ∧ (s.admitHold f).machine = s.machine ∧ (s.admitHold f).thrust = s.thrust ∧
    (s.admitHold f).drive = s.drive ∧ (s.admitHold f).plans = s.plans ∧ (s.admitHold f).grout = s.grout ∧ (s.admitHold
    f).muck = s.muck ∧ (s.admitHold f).channels = s.channels ∧ (s.admitHold f).overrides = s.overrides ∧ (s.admitHold
    f).freeIndex = s.freeIndex ∧ (s.admitHold f).pending = s.pending := by
  unfold admitHold
  (repeat' split) <;> simp

@[simp] theorem queueTagged_frame (target : Station) (body : Body) (tag : TxTag) (s : State) :
    (s.queueTagged target body tag).node = s.node ∧ (s.queueTagged target body tag).machine = s.machine ∧
    (s.queueTagged target body tag).thrust = s.thrust ∧ (s.queueTagged target body tag).drive = s.drive ∧
    (s.queueTagged target body tag).plans = s.plans ∧ (s.queueTagged target body tag).grout = s.grout ∧ (s.queueTagged
    target body tag).muck = s.muck ∧ (s.queueTagged target body tag).channels = s.channels ∧ (s.queueTagged target
    body tag).overrides = s.overrides ∧ (s.queueTagged target body tag).freeIndex = s.freeIndex ∧ (s.queueTagged
    target body tag).pending = s.pending := by
  unfold queueTagged
  split <;> simp

@[simp] theorem queueFrame_frame (body : Body) (s : State) :
    (s.queueFrame body).node = s.node ∧ (s.queueFrame body).machine = s.machine ∧ (s.queueFrame body).thrust =
    s.thrust ∧ (s.queueFrame body).drive = s.drive ∧ (s.queueFrame body).plans = s.plans ∧ (s.queueFrame body).grout =
    s.grout ∧ (s.queueFrame body).muck = s.muck ∧ (s.queueFrame body).channels = s.channels ∧ (s.queueFrame
    body).overrides = s.overrides ∧ (s.queueFrame body).freeIndex = s.freeIndex ∧ (s.queueFrame body).pending =
    s.pending := by
  simp [queueFrame]

@[simp] theorem queueFrames_frame (bs : List Body) (s : State) :
    (s.queueFrames bs).node = s.node ∧ (s.queueFrames bs).machine = s.machine ∧ (s.queueFrames bs).thrust = s.thrust ∧
    (s.queueFrames bs).drive = s.drive ∧ (s.queueFrames bs).plans = s.plans ∧ (s.queueFrames bs).grout = s.grout ∧
    (s.queueFrames bs).muck = s.muck ∧ (s.queueFrames bs).channels = s.channels ∧ (s.queueFrames bs).overrides =
    s.overrides ∧ (s.queueFrames bs).freeIndex = s.freeIndex ∧ (s.queueFrames bs).pending = s.pending := by
  unfold queueFrames
  induction bs generalizing s with
  | nil => simp
  | cons x xs ih => simp [ih]

@[simp] theorem queueBeacon_frame (s : State) :
    s.queueBeacon.node = s.node ∧ s.queueBeacon.machine = s.machine ∧ s.queueBeacon.thrust = s.thrust ∧
    s.queueBeacon.drive = s.drive ∧ s.queueBeacon.plans = s.plans ∧ s.queueBeacon.grout = s.grout ∧ s.queueBeacon.muck
    = s.muck ∧ s.queueBeacon.channels = s.channels ∧ s.queueBeacon.overrides = s.overrides ∧ s.queueBeacon.freeIndex =
    s.freeIndex ∧ s.queueBeacon.pending = s.pending := by
  unfold queueBeacon
  split <;> simp

@[simp] theorem framesEnded_frame (fs : List TxFrame) (e : Ending) (s : State) :
    (s.framesEnded fs e).link = s.link ∧ (s.framesEnded fs e).node = s.node ∧ (s.framesEnded fs e).machine = s.machine
    ∧ (s.framesEnded fs e).thrust = s.thrust ∧ (s.framesEnded fs e).drive = s.drive ∧ (s.framesEnded fs e).plans =
    s.plans ∧ (s.framesEnded fs e).grout = s.grout ∧ (s.framesEnded fs e).muck = s.muck ∧ (s.framesEnded fs
    e).channels = s.channels ∧ (s.framesEnded fs e).overrides = s.overrides ∧ (s.framesEnded fs e).freeIndex =
    s.freeIndex ∧ (s.framesEnded fs e).pending = s.pending := by
  unfold framesEnded
  induction fs generalizing s with
  | nil => simp
  | cons x xs ih => simp [ih]

@[simp] theorem removeZoneFrames_frame (s : State) :
    s.removeZoneFrames.node = s.node ∧ s.removeZoneFrames.machine = s.machine ∧ s.removeZoneFrames.thrust = s.thrust ∧
    s.removeZoneFrames.drive = s.drive ∧ s.removeZoneFrames.plans = s.plans ∧ s.removeZoneFrames.grout = s.grout ∧
    s.removeZoneFrames.muck = s.muck ∧ s.removeZoneFrames.channels = s.channels ∧ s.removeZoneFrames.overrides =
    s.overrides ∧ s.removeZoneFrames.freeIndex = s.freeIndex ∧ s.removeZoneFrames.pending = s.pending := by
  unfold removeZoneFrames
  dsimp only
  (repeat' split) <;> simp

@[simp] theorem answerWith_frame (station : Station) (addressed : Bool) (service : Byte) (e : EndCode) (tail : List
Byte) (tag : TxTag) (s : State) :
    (s.answerWith station addressed service e tail tag).node = s.node ∧ (s.answerWith station addressed service e tail
    tag).machine = s.machine ∧ (s.answerWith station addressed service e tail tag).thrust = s.thrust ∧ (s.answerWith
    station addressed service e tail tag).drive = s.drive ∧ (s.answerWith station addressed service e tail tag).plans
    = s.plans ∧ (s.answerWith station addressed service e tail tag).grout = s.grout ∧ (s.answerWith station addressed
    service e tail tag).muck = s.muck ∧ (s.answerWith station addressed service e tail tag).channels = s.channels ∧
    (s.answerWith station addressed service e tail tag).overrides = s.overrides ∧ (s.answerWith station addressed
    service e tail tag).freeIndex = s.freeIndex ∧ (s.answerWith station addressed service e tail tag).pending =
    s.pending := by
  unfold answerWith
  split <;> simp

@[simp] theorem answer_frame (station : Station) (addressed : Bool) (service : Service) (e : EndCode) (s : State) :
    (s.answer station addressed service e).node = s.node ∧ (s.answer station addressed service e).machine = s.machine
    ∧ (s.answer station addressed service e).thrust = s.thrust ∧ (s.answer station addressed service e).drive =
    s.drive ∧ (s.answer station addressed service e).plans = s.plans ∧ (s.answer station addressed service e).grout =
    s.grout ∧ (s.answer station addressed service e).muck = s.muck ∧ (s.answer station addressed service e).channels =
    s.channels ∧ (s.answer station addressed service e).overrides = s.overrides ∧ (s.answer station addressed service
    e).freeIndex = s.freeIndex ∧ (s.answer station addressed service e).pending = s.pending := by
  simp [answer]

@[simp] theorem addRestraint_eq (source : Nat) (r : RestraintReason) (s : State) :
    s.addRestraint source r = s.setThrust { s.thrust with restraints := insertRestraint (source, r) s.thrust.restraints } := rfl

@[simp] theorem removeRestraint_eq (source : Nat) (r : RestraintReason) (s : State) :
    s.removeRestraint source r = s.setThrust { s.thrust with restraints := s.thrust.restraints.filter (fun e => e != (source, r)) } := rfl

@[simp] theorem restrain_frame (r : RestraintReason) (s : State) :
    (s.restrain r).node = s.node ∧ (s.restrain r).machine = s.machine ∧ (s.restrain r).drive = s.drive ∧ (s.restrain
    r).plans = s.plans ∧ (s.restrain r).grout = s.grout ∧ (s.restrain r).muck = s.muck ∧ (s.restrain r).channels =
    s.channels ∧ (s.restrain r).overrides = s.overrides ∧ (s.restrain r).freeIndex = s.freeIndex ∧ (s.restrain
    r).pending = s.pending := by
  simp [restrain]

@[simp] theorem release_frame (r : RestraintReason) (s : State) :
    (s.release r).node = s.node ∧ (s.release r).machine = s.machine ∧ (s.release r).drive = s.drive ∧ (s.release
    r).plans = s.plans ∧ (s.release r).grout = s.grout ∧ (s.release r).muck = s.muck ∧ (s.release r).channels =
    s.channels ∧ (s.release r).overrides = s.overrides ∧ (s.release r).freeIndex = s.freeIndex ∧ (s.release r).pending
    = s.pending := by
  simp [release]

@[simp] theorem removeSource_eq (source : Nat) (s : State) :
    s.removeSource source = s.setThrust { s.thrust with restraints := s.thrust.restraints.filter (fun e => e.1 != source) } := rfl

@[simp] theorem setPhase_eq (s : State) (p : Phase) :
    s.setPhase p = s.setMachine { s.machine with phase := p } := rfl

@[simp] theorem setRound_eq (s : State) (r : Option Round) :
    s.setRound r = s.setMachine { s.machine with round := r } := rfl

@[simp] theorem setRing_eq (s : State) (n : Nat) :
    s.setRing n = s.setMachine { s.machine with ring := n } := rfl

@[simp] theorem setView_eq (s : State) (v : List ViewEntry) :
    s.setView v = s.setMachine { s.machine with view := v } := rfl

@[simp] theorem setCylinders_eq (s : State) (cs : List Cylinder) :
    s.setCylinders cs = s.setThrust { s.thrust with cylinders := cs } := rfl

@[simp] theorem setZone_eq (s : State) (z : Option ZoneRequest) :
    s.setZone z = s.setThrust { s.thrust with zone := z } := rfl

@[simp] theorem setDrives_eq (s : State) (ds : List Drive) :
    s.setDrives ds = s.setDrive { s.drive with drives := ds } := rfl

@[simp] theorem setGuard_eq (s : State) (g : Guard) :
    s.setGuard g = s.setDrive { s.drive with guard := g } := rfl

@[simp] theorem setPorts_eq (s : State) (ps : List Port) :
    s.setPorts ps = s.setGrout { s.grout with ports := ps } := rfl

@[simp] theorem setDose_eq (s : State) (d : Option Dose) :
    s.setDose d = s.setGrout { s.grout with dose := d } := rfl

@[simp] theorem mapCylinders_eq (f : Cylinder → Cylinder) (s : State) :
    s.mapCylinders f = s.setCylinders (s.thrust.cylinders.map f) := rfl

@[simp] theorem updateCylinder_eq (n : Nat) (f : Cylinder → Cylinder) (s : State) :
    s.updateCylinder n f = s.mapCylinders fun c => if c.number = n then f c else c := rfl

@[simp] theorem updateDrive_eq (n : Nat) (f : Drive → Drive) (s : State) :
    s.updateDrive n f = s.setDrives (s.drive.drives.map fun d => if d.number = n then f d else d) := rfl

@[simp] theorem updatePort_eq (n : Nat) (f : Port → Port) (s : State) :
    s.updatePort n f = s.setPorts (s.grout.ports.map fun p => if p.number = n then f p else p) := rfl

@[simp] theorem updateEntry_eq (member : Nat) (f : ViewEntry → ViewEntry) (s : State) :
    s.updateEntry member f = s.setView (s.machine.view.map fun e => if e.member = member then f e else e) := rfl

@[simp] theorem stepFree_eq (s : State) :
    s.stepFree = s.setFreeIndex (s.freeIndex + 1) := rfl

@[simp] theorem passTime_frame (ms : Nat) (s : State) :
    (s.passTime ms).link = s.link ∧ (s.passTime ms).thrust = s.thrust ∧ (s.passTime ms).plans = s.plans ∧ (s.passTime
    ms).muck = s.muck ∧ (s.passTime ms).channels = s.channels ∧ (s.passTime ms).overrides = s.overrides ∧ (s.passTime
    ms).console = s.console ∧ (s.passTime ms).freeIndex = s.freeIndex ∧ (s.passTime ms).pending = s.pending := by
  unfold passTime
  dsimp only
  (repeat' split) <;> simp

end Sys2Proof.Machine.State
end

