-- ==== Sys2Proof/Laws/UnitsFrames.lean ====
section
/-! SUPPORT. For each operation of Machine/Units.lean, the parts of State it leaves as they are. -/

namespace Sys2Proof.Machine.State

@[simp] theorem thrustEntersHold_frame (fromBore : Bool) (s : State) :
    (s.thrustEntersHold fromBore).link = s.link ∧ (s.thrustEntersHold fromBore).node = s.node ∧ (s.thrustEntersHold
    fromBore).machine = s.machine ∧ (s.thrustEntersHold fromBore).drive = s.drive ∧ (s.thrustEntersHold
    fromBore).plans = s.plans ∧ (s.thrustEntersHold fromBore).engine = s.engine ∧ (s.thrustEntersHold fromBore).grout
    = s.grout ∧ (s.thrustEntersHold fromBore).muck = s.muck ∧ (s.thrustEntersHold fromBore).channels = s.channels ∧
    (s.thrustEntersHold fromBore).overrides = s.overrides ∧ (s.thrustEntersHold fromBore).console = s.console ∧
    (s.thrustEntersHold fromBore).freeIndex = s.freeIndex ∧ (s.thrustEntersHold fromBore).pending = s.pending := by
  simp [thrustEntersHold]

@[simp] theorem thrustEntersFaulted_frame (s : State) :
    s.thrustEntersFaulted.link = s.link ∧ s.thrustEntersFaulted.node = s.node ∧ s.thrustEntersFaulted.machine =
    s.machine ∧ s.thrustEntersFaulted.drive = s.drive ∧ s.thrustEntersFaulted.plans = s.plans ∧
    s.thrustEntersFaulted.engine = s.engine ∧ s.thrustEntersFaulted.grout = s.grout ∧ s.thrustEntersFaulted.muck =
    s.muck ∧ s.thrustEntersFaulted.channels = s.channels ∧ s.thrustEntersFaulted.overrides = s.overrides ∧
    s.thrustEntersFaulted.console = s.console ∧ s.thrustEntersFaulted.freeIndex = s.freeIndex ∧
    s.thrustEntersFaulted.pending = s.pending := by
  simp [thrustEntersFaulted]

@[simp] theorem testDrives_frame (s : State) :
    s.testDrives.link = s.link ∧ s.testDrives.node = s.node ∧ s.testDrives.machine = s.machine ∧ s.testDrives.thrust =
    s.thrust ∧ s.testDrives.plans = s.plans ∧ s.testDrives.engine = s.engine ∧ s.testDrives.grout = s.grout ∧
    s.testDrives.muck = s.muck ∧ s.testDrives.channels = s.channels ∧ s.testDrives.overrides = s.overrides ∧
    s.testDrives.console = s.console ∧ s.testDrives.freeIndex = s.freeIndex ∧ s.testDrives.pending = s.pending := by
  simp [testDrives]

@[simp] theorem endDose_frame (e : DoseEnding) (s : State) :
    (s.endDose e).link = s.link ∧ (s.endDose e).node = s.node ∧ (s.endDose e).machine = s.machine ∧ (s.endDose
    e).thrust = s.thrust ∧ (s.endDose e).drive = s.drive ∧ (s.endDose e).plans = s.plans ∧ (s.endDose e).engine =
    s.engine ∧ (s.endDose e).muck = s.muck ∧ (s.endDose e).channels = s.channels ∧ (s.endDose e).overrides =
    s.overrides ∧ (s.endDose e).console = s.console ∧ (s.endDose e).freeIndex = s.freeIndex ∧ (s.endDose e).pending =
    s.pending := by
  unfold endDose
  (repeat' split) <;> simp

@[simp] theorem stopDose_frame (s : State) :
    s.stopDose.link = s.link ∧ s.stopDose.node = s.node ∧ s.stopDose.machine = s.machine ∧ s.stopDose.thrust =
    s.thrust ∧ s.stopDose.drive = s.drive ∧ s.stopDose.plans = s.plans ∧ s.stopDose.engine = s.engine ∧
    s.stopDose.muck = s.muck ∧ s.stopDose.channels = s.channels ∧ s.stopDose.overrides = s.overrides ∧
    s.stopDose.console = s.console ∧ s.stopDose.freeIndex = s.freeIndex ∧ s.stopDose.pending = s.pending := by
  simp [stopDose]

@[simp] theorem startDose_frame (n : Nat) (s : State) :
    (s.startDose n).link = s.link ∧ (s.startDose n).node = s.node ∧ (s.startDose n).machine = s.machine ∧ (s.startDose
    n).thrust = s.thrust ∧ (s.startDose n).drive = s.drive ∧ (s.startDose n).plans = s.plans ∧ (s.startDose n).engine
    = s.engine ∧ (s.startDose n).muck = s.muck ∧ (s.startDose n).overrides = s.overrides ∧ (s.startDose n).console =
    s.console ∧ (s.startDose n).freeIndex = s.freeIndex ∧ (s.startDose n).pending = s.pending := by
  simp [startDose]

@[simp] theorem testDose_frame (s : State) :
    s.testDose.link = s.link ∧ s.testDose.node = s.node ∧ s.testDose.machine = s.machine ∧ s.testDose.thrust =
    s.thrust ∧ s.testDose.drive = s.drive ∧ s.testDose.plans = s.plans ∧ s.testDose.engine = s.engine ∧
    s.testDose.muck = s.muck ∧ s.testDose.overrides = s.overrides ∧ s.testDose.console = s.console ∧
    s.testDose.freeIndex = s.freeIndex ∧ s.testDose.pending = s.pending := by
  unfold testDose
  (repeat' split) <;> simp

@[simp] theorem testGrout_frame (s : State) :
    s.testGrout.node = s.node ∧ s.testGrout.machine = s.machine ∧ s.testGrout.drive = s.drive ∧ s.testGrout.plans =
    s.plans ∧ s.testGrout.muck = s.muck ∧ s.testGrout.channels = s.channels ∧ s.testGrout.overrides = s.overrides ∧
    s.testGrout.freeIndex = s.freeIndex ∧ s.testGrout.pending = s.pending := by
  unfold testGrout
  (repeat' split) <;> simp

@[simp] theorem popHeadStep_frame (s : State) :
    s.popHeadStep.link = s.link ∧ s.popHeadStep.node = s.node ∧ s.popHeadStep.machine = s.machine ∧
    s.popHeadStep.thrust = s.thrust ∧ s.popHeadStep.drive = s.drive ∧ s.popHeadStep.engine = s.engine ∧
    s.popHeadStep.grout = s.grout ∧ s.popHeadStep.muck = s.muck ∧ s.popHeadStep.channels = s.channels ∧
    s.popHeadStep.overrides = s.overrides ∧ s.popHeadStep.console = s.console ∧ s.popHeadStep.freeIndex = s.freeIndex
    ∧ s.popHeadStep.pending = s.pending := by
  unfold popHeadStep
  (repeat' split) <;> simp

@[simp] theorem haltErector_frame (s : State) :
    s.haltErector.link = s.link ∧ s.haltErector.node = s.node ∧ s.haltErector.machine = s.machine ∧
    s.haltErector.thrust = s.thrust ∧ s.haltErector.drive = s.drive ∧ s.haltErector.plans = s.plans ∧
    s.haltErector.grout = s.grout ∧ s.haltErector.muck = s.muck ∧ s.haltErector.channels = s.channels ∧
    s.haltErector.overrides = s.overrides ∧ s.haltErector.console = s.console ∧ s.haltErector.freeIndex = s.freeIndex
    ∧ s.haltErector.pending = s.pending := by
  simp [haltErector]

@[simp] theorem commandPlace_frame (s : State) :
    s.commandPlace.link = s.link ∧ s.commandPlace.node = s.node ∧ s.commandPlace.machine = s.machine ∧
    s.commandPlace.thrust = s.thrust ∧ s.commandPlace.drive = s.drive ∧ s.commandPlace.plans = s.plans ∧
    s.commandPlace.grout = s.grout ∧ s.commandPlace.muck = s.muck ∧ s.commandPlace.channels = s.channels ∧
    s.commandPlace.overrides = s.overrides ∧ s.commandPlace.console = s.console ∧ s.commandPlace.freeIndex =
    s.freeIndex ∧ s.commandPlace.pending = s.pending := by
  unfold commandPlace
  (repeat' split) <;> simp

@[simp] theorem dropStep_frame (s : State) :
    s.dropStep.link = s.link ∧ s.dropStep.node = s.node ∧ s.dropStep.machine = s.machine ∧ s.dropStep.thrust =
    s.thrust ∧ s.dropStep.drive = s.drive ∧ s.dropStep.grout = s.grout ∧ s.dropStep.muck = s.muck ∧
    s.dropStep.channels = s.channels ∧ s.dropStep.overrides = s.overrides ∧ s.dropStep.console = s.console ∧
    s.dropStep.freeIndex = s.freeIndex ∧ s.dropStep.pending = s.pending := by
  unfold dropStep
  split <;> simp

@[simp] theorem engineEntersHold_frame (s : State) :
    s.engineEntersHold.link = s.link ∧ s.engineEntersHold.node = s.node ∧ s.engineEntersHold.machine = s.machine ∧
    s.engineEntersHold.thrust = s.thrust ∧ s.engineEntersHold.drive = s.drive ∧ s.engineEntersHold.grout = s.grout ∧
    s.engineEntersHold.muck = s.muck ∧ s.engineEntersHold.channels = s.channels ∧ s.engineEntersHold.overrides =
    s.overrides ∧ s.engineEntersHold.console = s.console ∧ s.engineEntersHold.freeIndex = s.freeIndex ∧
    s.engineEntersHold.pending = s.pending := by
  unfold engineEntersHold
  dsimp only
  (repeat' split) <;> simp

@[simp] theorem engineFaults_frame (reason : EngineFaultReason) (p : Plan) (st : PlanStep) (s : State) :
    (s.engineFaults reason p st).link = s.link ∧ (s.engineFaults reason p st).node = s.node ∧ (s.engineFaults reason p
    st).machine = s.machine ∧ (s.engineFaults reason p st).thrust = s.thrust ∧ (s.engineFaults reason p st).drive =
    s.drive ∧ (s.engineFaults reason p st).plans = s.plans ∧ (s.engineFaults reason p st).grout = s.grout ∧
    (s.engineFaults reason p st).muck = s.muck ∧ (s.engineFaults reason p st).channels = s.channels ∧ (s.engineFaults
    reason p st).overrides = s.overrides ∧ (s.engineFaults reason p st).freeIndex = s.freeIndex ∧ (s.engineFaults
    reason p st).pending = s.pending := by
  simp [engineFaults]

@[simp] theorem issueStage_frame (kind : ZoneKind) (s : State) :
    (s.issueStage kind).node = s.node ∧ (s.issueStage kind).machine = s.machine ∧ (s.issueStage kind).thrust =
    s.thrust ∧ (s.issueStage kind).drive = s.drive ∧ (s.issueStage kind).plans = s.plans ∧ (s.issueStage kind).grout =
    s.grout ∧ (s.issueStage kind).muck = s.muck ∧ (s.issueStage kind).channels = s.channels ∧ (s.issueStage
    kind).overrides = s.overrides ∧ (s.issueStage kind).freeIndex = s.freeIndex ∧ (s.issueStage kind).pending =
    s.pending := by
  unfold issueStage
  split <;> simp

@[simp] theorem resumeStage_frame (s : State) :
    s.resumeStage.node = s.node ∧ s.resumeStage.machine = s.machine ∧ s.resumeStage.thrust = s.thrust ∧
    s.resumeStage.drive = s.drive ∧ s.resumeStage.plans = s.plans ∧ s.resumeStage.grout = s.grout ∧ s.resumeStage.muck
    = s.muck ∧ s.resumeStage.channels = s.channels ∧ s.resumeStage.overrides = s.overrides ∧ s.resumeStage.freeIndex =
    s.freeIndex ∧ s.resumeStage.pending = s.pending := by
  simp [resumeStage]

@[simp] theorem takeHeadStep_frame (s : State) :
    s.takeHeadStep.node = s.node ∧ s.takeHeadStep.machine = s.machine ∧ s.takeHeadStep.thrust = s.thrust ∧
    s.takeHeadStep.drive = s.drive ∧ s.takeHeadStep.plans = s.plans ∧ s.takeHeadStep.grout = s.grout ∧
    s.takeHeadStep.muck = s.muck ∧ s.takeHeadStep.channels = s.channels ∧ s.takeHeadStep.overrides = s.overrides ∧
    s.takeHeadStep.freeIndex = s.freeIndex ∧ s.takeHeadStep.pending = s.pending := by
  unfold takeHeadStep
  (repeat' split) <;> simp

@[simp] theorem engineEntersBuild_frame (s : State) :
    s.engineEntersBuild.node = s.node ∧ s.engineEntersBuild.machine = s.machine ∧ s.engineEntersBuild.thrust =
    s.thrust ∧ s.engineEntersBuild.drive = s.drive ∧ s.engineEntersBuild.plans = s.plans ∧ s.engineEntersBuild.grout =
    s.grout ∧ s.engineEntersBuild.muck = s.muck ∧ s.engineEntersBuild.channels = s.channels ∧
    s.engineEntersBuild.overrides = s.overrides ∧ s.engineEntersBuild.freeIndex = s.freeIndex ∧
    s.engineEntersBuild.pending = s.pending := by
  unfold engineEntersBuild
  split <;> simp

@[simp] theorem commandScrew_frame (s : State) :
    s.commandScrew.link = s.link ∧ s.commandScrew.node = s.node ∧ s.commandScrew.machine = s.machine ∧
    s.commandScrew.thrust = s.thrust ∧ s.commandScrew.drive = s.drive ∧ s.commandScrew.plans = s.plans ∧
    s.commandScrew.engine = s.engine ∧ s.commandScrew.grout = s.grout ∧ s.commandScrew.channels = s.channels ∧
    s.commandScrew.overrides = s.overrides ∧ s.commandScrew.console = s.console ∧ s.commandScrew.freeIndex =
    s.freeIndex ∧ s.commandScrew.pending = s.pending := by
  unfold commandScrew
  split <;> simp

@[simp] theorem testMuck_frame (s : State) :
    s.testMuck.node = s.node ∧ s.testMuck.machine = s.machine ∧ s.testMuck.drive = s.drive ∧ s.testMuck.plans =
    s.plans ∧ s.testMuck.grout = s.grout ∧ s.testMuck.channels = s.channels ∧ s.testMuck.overrides = s.overrides ∧
    s.testMuck.freeIndex = s.freeIndex ∧ s.testMuck.pending = s.pending := by
  unfold testMuck
  (repeat' split) <;> simp

end Sys2Proof.Machine.State
end

