-- ==== Sys2Proof/Laws/HoldFrames.lean ====
section
/-! SUPPORT. For each operation of Machine/Hold.lean, the parts of State it leaves as they are. -/

namespace Sys2Proof.Machine.State

@[simp] theorem failRound_frame (station : Nat) (reason : FailReason) (s : State) :
    (s.failRound station reason).link = s.link ∧ (s.failRound station reason).node = s.node ∧ (s.failRound station
    reason).thrust = s.thrust ∧ (s.failRound station reason).drive = s.drive ∧ (s.failRound station reason).plans =
    s.plans ∧ (s.failRound station reason).engine = s.engine ∧ (s.failRound station reason).grout = s.grout ∧
    (s.failRound station reason).muck = s.muck ∧ (s.failRound station reason).channels = s.channels ∧ (s.failRound
    station reason).overrides = s.overrides ∧ (s.failRound station reason).freeIndex = s.freeIndex ∧ (s.failRound
    station reason).pending = s.pending := by
  unfold failRound
  split <;> simp

@[simp] theorem handEntryToHold_frame (fromBore : Bool) (g : Grade) (s : State) :
    (s.handEntryToHold fromBore g).node = s.node ∧ (s.handEntryToHold fromBore g).machine = s.machine ∧
    (s.handEntryToHold fromBore g).channels = s.channels ∧ (s.handEntryToHold fromBore g).overrides = s.overrides ∧
    (s.handEntryToHold fromBore g).freeIndex = s.freeIndex ∧ (s.handEntryToHold fromBore g).pending = s.pending := by
  unfold handEntryToHold
  split <;> simp

@[simp] theorem openHold_frame (cause : HoldCause) (source : Nat) (g : Grade) (s : State) :
    (s.openHold cause source g).link = s.link ∧ (s.openHold cause source g).node = s.node ∧ (s.openHold cause source
    g).thrust = s.thrust ∧ (s.openHold cause source g).drive = s.drive ∧ (s.openHold cause source g).plans = s.plans ∧
    (s.openHold cause source g).engine = s.engine ∧ (s.openHold cause source g).grout = s.grout ∧ (s.openHold cause
    source g).muck = s.muck ∧ (s.openHold cause source g).channels = s.channels ∧ (s.openHold cause source
    g).overrides = s.overrides ∧ (s.openHold cause source g).console = s.console ∧ (s.openHold cause source
    g).freeIndex = s.freeIndex ∧ (s.openHold cause source g).pending = s.pending := by
  simp [openHold]

@[simp] theorem countHold_frame (cause : HoldCause) (source : Nat) (now g : Grade) (s : State) :
    (s.countHold cause source now g).link = s.link ∧ (s.countHold cause source now g).node = s.node ∧ (s.countHold
    cause source now g).thrust = s.thrust ∧ (s.countHold cause source now g).drive = s.drive ∧ (s.countHold cause
    source now g).plans = s.plans ∧ (s.countHold cause source now g).engine = s.engine ∧ (s.countHold cause source now
    g).grout = s.grout ∧ (s.countHold cause source now g).muck = s.muck ∧ (s.countHold cause source now g).channels =
    s.channels ∧ (s.countHold cause source now g).overrides = s.overrides ∧ (s.countHold cause source now g).console =
    s.console ∧ (s.countHold cause source now g).freeIndex = s.freeIndex ∧ (s.countHold cause source now g).pending =
    s.pending := by
  simp [countHold]

@[simp] theorem imposeHold_frame (cause : HoldCause) (s : State) (always : Bool) :
    (s.imposeHold cause always).node = s.node ∧ (s.imposeHold cause always).channels = s.channels ∧ (s.imposeHold
    cause always).overrides = s.overrides ∧ (s.imposeHold cause always).freeIndex = s.freeIndex ∧ (s.imposeHold cause
    always).pending = s.pending := by
  unfold imposeHold
  dsimp only
  (repeat' split) <;> simp

@[simp] theorem takeHold_frame (sender : Nat) (cause : HoldCause) (sent : Grade) (s : State) :
    (s.takeHold sender cause sent).node = s.node ∧ (s.takeHold sender cause sent).channels = s.channels ∧ (s.takeHold
    sender cause sent).overrides = s.overrides ∧ (s.takeHold sender cause sent).freeIndex = s.freeIndex ∧ (s.takeHold
    sender cause sent).pending = s.pending := by
  unfold takeHold
  dsimp only
  (repeat' split) <;> simp

@[simp] theorem blocksEnterFaulted_frame (s : State) :
    s.blocksEnterFaulted.link = s.link ∧ s.blocksEnterFaulted.node = s.node ∧ s.blocksEnterFaulted.machine = s.machine
    ∧ s.blocksEnterFaulted.plans = s.plans ∧ s.blocksEnterFaulted.channels = s.channels ∧
    s.blocksEnterFaulted.overrides = s.overrides ∧ s.blocksEnterFaulted.console = s.console ∧
    s.blocksEnterFaulted.freeIndex = s.freeIndex ∧ s.blocksEnterFaulted.pending = s.pending := by
  unfold blocksEnterFaulted
  dsimp only
  (repeat' split) <;> simp

@[simp] theorem takeFault_frame (cause : FaultCause) (s : State) :
    (s.takeFault cause).channels = s.channels ∧ (s.takeFault cause).overrides = s.overrides ∧ (s.takeFault
    cause).freeIndex = s.freeIndex ∧ (s.takeFault cause).pending = s.pending := by
  unfold takeFault
  split <;> simp

@[simp] theorem removePending_frame (s : State) :
    s.removePending.node = s.node ∧ s.removePending.machine = s.machine ∧ s.removePending.thrust = s.thrust ∧
    s.removePending.drive = s.drive ∧ s.removePending.plans = s.plans ∧ s.removePending.grout = s.grout ∧
    s.removePending.muck = s.muck ∧ s.removePending.channels = s.channels ∧ s.removePending.overrides = s.overrides ∧
    s.removePending.freeIndex = s.freeIndex ∧ s.removePending.pending = s.pending := by
  simp [removePending]

@[simp] theorem linkFault_frame (s : State) :
    s.linkFault.channels = s.channels ∧ s.linkFault.overrides = s.overrides ∧ s.linkFault.freeIndex = s.freeIndex ∧
    s.linkFault.pending = s.pending := by
  simp [linkFault]

end Sys2Proof.Machine.State
end

