-- ==== Sys2Proof/Laws/AdvanceFrames.lean ====
section
/-! SUPPORT. For each operation of Machine/Advance.lean, the parts of State it leaves as they are. -/

namespace Sys2Proof.Machine.State

@[simp] theorem groutIncrement_frame (d : Nat) (s : State) :
    (s.groutIncrement d).node = s.node ∧ (s.groutIncrement d).overrides = s.overrides ∧ (s.groutIncrement d).freeIndex
    = s.freeIndex ∧ (s.groutIncrement d).pending = s.pending := by
  unfold groutIncrement
  dsimp only
  (repeat' split) <;> simp

@[simp] theorem evaluateOverdig_frame (s : State) :
    s.evaluateOverdig.node = s.node ∧ s.evaluateOverdig.channels = s.channels ∧ s.evaluateOverdig.overrides =
    s.overrides ∧ s.evaluateOverdig.freeIndex = s.freeIndex ∧ s.evaluateOverdig.pending = s.pending := by
  unfold evaluateOverdig
  (repeat' split) <;> simp

@[simp] theorem updateMachineAdvance_frame (s : State) :
    s.updateMachineAdvance.node = s.node ∧ s.updateMachineAdvance.channels = s.channels ∧
    s.updateMachineAdvance.overrides = s.overrides ∧ s.updateMachineAdvance.freeIndex = s.freeIndex ∧
    s.updateMachineAdvance.pending = s.pending := by
  unfold updateMachineAdvance
  split <;> simp

@[simp] theorem testSteer_frame (s : State) :
    s.testSteer.link = s.link ∧ s.testSteer.node = s.node ∧ s.testSteer.machine = s.machine ∧ s.testSteer.drive =
    s.drive ∧ s.testSteer.plans = s.plans ∧ s.testSteer.engine = s.engine ∧ s.testSteer.grout = s.grout ∧
    s.testSteer.muck = s.muck ∧ s.testSteer.channels = s.channels ∧ s.testSteer.overrides = s.overrides ∧
    s.testSteer.console = s.console ∧ s.testSteer.freeIndex = s.freeIndex ∧ s.testSteer.pending = s.pending := by
  unfold testSteer
  dsimp only
  (repeat' split) <;> simp

@[simp] theorem testStrokeReached_frame (s : State) :
    s.testStrokeReached.link = s.link ∧ s.testStrokeReached.node = s.node ∧ s.testStrokeReached.machine = s.machine ∧
    s.testStrokeReached.drive = s.drive ∧ s.testStrokeReached.plans = s.plans ∧ s.testStrokeReached.engine = s.engine
    ∧ s.testStrokeReached.grout = s.grout ∧ s.testStrokeReached.muck = s.muck ∧ s.testStrokeReached.channels =
    s.channels ∧ s.testStrokeReached.overrides = s.overrides ∧ s.testStrokeReached.console = s.console ∧
    s.testStrokeReached.freeIndex = s.freeIndex ∧ s.testStrokeReached.pending = s.pending := by
  unfold testStrokeReached
  split <;> simp

@[simp] theorem testStrokeEnd_frame (s : State) :
    s.testStrokeEnd.node = s.node ∧ s.testStrokeEnd.channels = s.channels ∧ s.testStrokeEnd.overrides = s.overrides ∧
    s.testStrokeEnd.freeIndex = s.freeIndex ∧ s.testStrokeEnd.pending = s.pending := by
  unfold testStrokeEnd
  split <;> simp

@[simp] theorem creditAdvance_frame (s : State) :
    s.creditAdvance.node = s.node ∧ s.creditAdvance.overrides = s.overrides ∧ s.creditAdvance.freeIndex = s.freeIndex
    ∧ s.creditAdvance.pending = s.pending := by
  unfold creditAdvance
  split <;> simp

@[simp] theorem recomputeAdvance_frame (s : State) :
    s.recomputeAdvance.node = s.node ∧ s.recomputeAdvance.overrides = s.overrides ∧ s.recomputeAdvance.freeIndex =
    s.freeIndex ∧ s.recomputeAdvance.pending = s.pending := by
  unfold recomputeAdvance
  dsimp only
  (repeat' split) <;> simp

@[simp] theorem captureOrigin_frame (s : State) :
    s.captureOrigin.node = s.node ∧ s.captureOrigin.channels = s.channels ∧ s.captureOrigin.overrides = s.overrides ∧
    s.captureOrigin.freeIndex = s.freeIndex ∧ s.captureOrigin.pending = s.pending := by
  simp [captureOrigin]

@[simp] theorem startProbe_frame (s : State) :
    s.startProbe.link = s.link ∧ s.startProbe.node = s.node ∧ s.startProbe.machine = s.machine ∧ s.startProbe.thrust =
    s.thrust ∧ s.startProbe.plans = s.plans ∧ s.startProbe.engine = s.engine ∧ s.startProbe.grout = s.grout ∧
    s.startProbe.muck = s.muck ∧ s.startProbe.channels = s.channels ∧ s.startProbe.overrides = s.overrides ∧
    s.startProbe.console = s.console ∧ s.startProbe.freeIndex = s.freeIndex ∧ s.startProbe.pending = s.pending := by
  unfold startProbe
  split <;> simp

@[simp] theorem guardBegins_frame (s : State) :
    s.guardBegins.node = s.node ∧ s.guardBegins.machine = s.machine ∧ s.guardBegins.plans = s.plans ∧
    s.guardBegins.grout = s.grout ∧ s.guardBegins.muck = s.muck ∧ s.guardBegins.channels = s.channels ∧
    s.guardBegins.overrides = s.overrides ∧ s.guardBegins.freeIndex = s.freeIndex ∧ s.guardBegins.pending = s.pending := by
  simp [guardBegins]

@[simp] theorem guardEnds_frame (s : State) :
    s.guardEnds.node = s.node ∧ s.guardEnds.machine = s.machine ∧ s.guardEnds.plans = s.plans ∧ s.guardEnds.grout =
    s.grout ∧ s.guardEnds.muck = s.muck ∧ s.guardEnds.channels = s.channels ∧ s.guardEnds.overrides = s.overrides ∧
    s.guardEnds.freeIndex = s.freeIndex ∧ s.guardEnds.pending = s.pending := by
  simp [guardEnds]

@[simp] theorem setGuardFlags_frame (manual latch : Bool) (s : State) :
    (s.setGuardFlags manual latch).node = s.node ∧ (s.setGuardFlags manual latch).machine = s.machine ∧
    (s.setGuardFlags manual latch).plans = s.plans ∧ (s.setGuardFlags manual latch).grout = s.grout ∧ (s.setGuardFlags
    manual latch).muck = s.muck ∧ (s.setGuardFlags manual latch).channels = s.channels ∧ (s.setGuardFlags manual
    latch).overrides = s.overrides ∧ (s.setGuardFlags manual latch).freeIndex = s.freeIndex ∧ (s.setGuardFlags manual
    latch).pending = s.pending := by
  unfold setGuardFlags
  dsimp only
  (repeat' split) <;> simp

@[simp] theorem recomputeTotal_frame (s : State) :
    s.recomputeTotal.node = s.node ∧ s.recomputeTotal.machine = s.machine ∧ s.recomputeTotal.plans = s.plans ∧
    s.recomputeTotal.grout = s.grout ∧ s.recomputeTotal.muck = s.muck ∧ s.recomputeTotal.channels = s.channels ∧
    s.recomputeTotal.overrides = s.overrides ∧ s.recomputeTotal.freeIndex = s.freeIndex ∧ s.recomputeTotal.pending =
    s.pending := by
  unfold recomputeTotal
  dsimp only
  (repeat' split) <;> simp

@[simp] theorem viewChanged_frame (s : State) :
    s.viewChanged.node = s.node ∧ s.viewChanged.channels = s.channels ∧ s.viewChanged.overrides = s.overrides ∧
    s.viewChanged.freeIndex = s.freeIndex ∧ s.viewChanged.pending = s.pending := by
  simp [viewChanged]

@[simp] theorem peerDeparts_frame (member : Nat) (s : State) :
    (s.peerDeparts member).node = s.node ∧ (s.peerDeparts member).channels = s.channels ∧ (s.peerDeparts
    member).overrides = s.overrides ∧ (s.peerDeparts member).freeIndex = s.freeIndex ∧ (s.peerDeparts member).pending
    = s.pending := by
  unfold peerDeparts
  dsimp only
  (repeat' split) <;> simp

@[simp] theorem driveEntersBore_frame (s : State) :
    s.driveEntersBore.node = s.node ∧ s.driveEntersBore.channels = s.channels ∧ s.driveEntersBore.overrides =
    s.overrides ∧ s.driveEntersBore.freeIndex = s.freeIndex ∧ s.driveEntersBore.pending = s.pending := by
  unfold driveEntersBore
  dsimp only
  (repeat' split) <;> simp

@[simp] theorem thrustEntersBore_frame (s : State) :
    s.thrustEntersBore.node = s.node ∧ s.thrustEntersBore.overrides = s.overrides ∧ s.thrustEntersBore.freeIndex =
    s.freeIndex ∧ s.thrustEntersBore.pending = s.pending := by
  simp [thrustEntersBore]

@[simp] theorem handEntryToBore_frame (s : State) :
    s.handEntryToBore.node = s.node ∧ s.handEntryToBore.overrides = s.overrides ∧ s.handEntryToBore.freeIndex =
    s.freeIndex ∧ s.handEntryToBore.pending = s.pending := by
  simp only [handEntryToBore, whilePhase]
  (repeat' split) <;> simp

@[simp] theorem handEntryToBuild_frame (s : State) :
    s.handEntryToBuild.node = s.node ∧ s.handEntryToBuild.machine = s.machine ∧ s.handEntryToBuild.thrust = s.thrust ∧
    s.handEntryToBuild.plans = s.plans ∧ s.handEntryToBuild.overrides = s.overrides ∧ s.handEntryToBuild.freeIndex =
    s.freeIndex ∧ s.handEntryToBuild.pending = s.pending := by
  simp [handEntryToBuild]

end Sys2Proof.Machine.State
end

