-- ==== Sys2Proof/Laws/PhaseFrames.lean ====
section
/-! SUPPORT. For each operation of Machine/Phase.lean, the parts of State it leaves as they are. -/

namespace Sys2Proof.Machine.State

@[simp] theorem takeHoldFrame_frame (sender : Station) (cause : HoldCause) (sent : Grade) (s : State) :
    (s.takeHoldFrame sender cause sent).node = s.node ∧ (s.takeHoldFrame sender cause sent).channels = s.channels ∧
    (s.takeHoldFrame sender cause sent).overrides = s.overrides ∧ (s.takeHoldFrame sender cause sent).freeIndex =
    s.freeIndex ∧ (s.takeHoldFrame sender cause sent).pending = s.pending := by
  unfold takeHoldFrame
  split <;> simp

@[simp] theorem takePropose_frame (t : VoteTarget) (s : State) :
    (s.takePropose t).node = s.node ∧ (s.takePropose t).thrust = s.thrust ∧ (s.takePropose t).drive = s.drive ∧
    (s.takePropose t).plans = s.plans ∧ (s.takePropose t).grout = s.grout ∧ (s.takePropose t).muck = s.muck ∧
    (s.takePropose t).channels = s.channels ∧ (s.takePropose t).overrides = s.overrides ∧ (s.takePropose t).freeIndex
    = s.freeIndex ∧ (s.takePropose t).pending = s.pending := by
  unfold takePropose
  (repeat' split) <;> simp

@[simp] theorem succeedRound_frame (t : VoteTarget) (s : State) :
    (s.succeedRound t).node = s.node ∧ (s.succeedRound t).overrides = s.overrides ∧ (s.succeedRound t).freeIndex =
    s.freeIndex ∧ (s.succeedRound t).pending = s.pending := by
  unfold succeedRound
  (repeat' split) <;> simp

@[simp] theorem recordVote_frame (member : Nat) (t : VoteTarget) (a : VoteAnswer) (s : State) :
    (s.recordVote member t a).node = s.node ∧ (s.recordVote member t a).overrides = s.overrides ∧ (s.recordVote member
    t a).freeIndex = s.freeIndex ∧ (s.recordVote member t a).pending = s.pending := by
  unfold recordVote
  dsimp only
  (repeat' split) <;> simp

@[simp] theorem discordCheck_frame (peer : Nat) (b : Beacon) (s : State) :
    (s.discordCheck peer b).node = s.node ∧ (s.discordCheck peer b).channels = s.channels ∧ (s.discordCheck peer
    b).overrides = s.overrides ∧ (s.discordCheck peer b).freeIndex = s.freeIndex ∧ (s.discordCheck peer b).pending =
    s.pending := by
  unfold discordCheck
  (repeat' split) <;> simp

@[simp] theorem reconcileOne_frame (peer : Nat) (r : RestraintReason) (held : Bool) (s : State) :
    (s.reconcileOne peer r held).link = s.link ∧ (s.reconcileOne peer r held).node = s.node ∧ (s.reconcileOne peer r
    held).machine = s.machine ∧ (s.reconcileOne peer r held).drive = s.drive ∧ (s.reconcileOne peer r held).plans =
    s.plans ∧ (s.reconcileOne peer r held).engine = s.engine ∧ (s.reconcileOne peer r held).grout = s.grout ∧
    (s.reconcileOne peer r held).muck = s.muck ∧ (s.reconcileOne peer r held).channels = s.channels ∧ (s.reconcileOne
    peer r held).overrides = s.overrides ∧ (s.reconcileOne peer r held).console = s.console ∧ (s.reconcileOne peer r
    held).freeIndex = s.freeIndex ∧ (s.reconcileOne peer r held).pending = s.pending := by
  unfold reconcileOne
  split <;> simp

@[simp] theorem reconcile_frame (peer : Nat) (b : Beacon) (s : State) :
    (s.reconcile peer b).link = s.link ∧ (s.reconcile peer b).node = s.node ∧ (s.reconcile peer b).machine = s.machine
    ∧ (s.reconcile peer b).drive = s.drive ∧ (s.reconcile peer b).plans = s.plans ∧ (s.reconcile peer b).engine =
    s.engine ∧ (s.reconcile peer b).grout = s.grout ∧ (s.reconcile peer b).muck = s.muck ∧ (s.reconcile peer
    b).channels = s.channels ∧ (s.reconcile peer b).overrides = s.overrides ∧ (s.reconcile peer b).console = s.console
    ∧ (s.reconcile peer b).freeIndex = s.freeIndex ∧ (s.reconcile peer b).pending = s.pending := by
  simp [reconcile]

@[simp] theorem takeMatchingBeacon_frame (peer : Nat) (b : Beacon) (s : State) :
    (s.takeMatchingBeacon peer b).node = s.node ∧ (s.takeMatchingBeacon peer b).channels = s.channels ∧
    (s.takeMatchingBeacon peer b).overrides = s.overrides ∧ (s.takeMatchingBeacon peer b).freeIndex = s.freeIndex ∧
    (s.takeMatchingBeacon peer b).pending = s.pending := by
  simp [takeMatchingBeacon]

@[simp] theorem takeAlienBeacon_frame (peer : Nat) (s : State) :
    (s.takeAlienBeacon peer).node = s.node ∧ (s.takeAlienBeacon peer).channels = s.channels ∧ (s.takeAlienBeacon
    peer).overrides = s.overrides ∧ (s.takeAlienBeacon peer).freeIndex = s.freeIndex ∧ (s.takeAlienBeacon
    peer).pending = s.pending := by
  unfold takeAlienBeacon
  (repeat' split) <;> simp

@[simp] theorem takeBeacon_frame (sender : Station) (b : Beacon) (s : State) :
    (s.takeBeacon sender b).node = s.node ∧ (s.takeBeacon sender b).channels = s.channels ∧ (s.takeBeacon sender
    b).overrides = s.overrides ∧ (s.takeBeacon sender b).freeIndex = s.freeIndex ∧ (s.takeBeacon sender b).pending =
    s.pending := by
  unfold takeBeacon
  split <;> simp

@[simp] theorem ownBeaconHeard_frame (b : Beacon) (s : State) :
    (s.ownBeaconHeard b).link = s.link ∧ (s.ownBeaconHeard b).node = s.node ∧ (s.ownBeaconHeard b).thrust = s.thrust ∧
    (s.ownBeaconHeard b).drive = s.drive ∧ (s.ownBeaconHeard b).plans = s.plans ∧ (s.ownBeaconHeard b).engine =
    s.engine ∧ (s.ownBeaconHeard b).grout = s.grout ∧ (s.ownBeaconHeard b).muck = s.muck ∧ (s.ownBeaconHeard
    b).channels = s.channels ∧ (s.ownBeaconHeard b).overrides = s.overrides ∧ (s.ownBeaconHeard b).console = s.console
    ∧ (s.ownBeaconHeard b).freeIndex = s.freeIndex ∧ (s.ownBeaconHeard b).pending = s.pending := by
  simp [ownBeaconHeard]

@[simp] theorem firstMember_frame (s : State) :
    s.firstMember.channels = s.channels ∧ s.firstMember.overrides = s.overrides ∧ s.firstMember.freeIndex =
    s.freeIndex ∧ s.firstMember.pending = s.pending := by
  unfold firstMember
  split <;> simp

@[simp] theorem enterMember_frame (s : State) :
    s.enterMember.overrides = s.overrides ∧ s.enterMember.freeIndex = s.freeIndex ∧ s.enterMember.pending = s.pending := by
  simp [enterMember]

@[simp] theorem endListen_frame (s : State) :
    s.endListen.overrides = s.overrides ∧ s.endListen.freeIndex = s.freeIndex ∧ s.endListen.pending = s.pending := by
  unfold endListen
  (repeat' split) <;> simp

end Sys2Proof.Machine.State
end

