-- ==== Sys2Proof/Laws/ThrustFrames.lean ====
section
/-! SUPPORT. For each operation of Machine/Thrust.lean, the parts of State it leaves as they are. -/

namespace Sys2Proof.Machine.State

@[simp] theorem takeRestrain_frame (sender : Station) (payload : List Byte) (s : State) :
    (s.takeRestrain sender payload).link = s.link ∧ (s.takeRestrain sender payload).node = s.node ∧ (s.takeRestrain
    sender payload).machine = s.machine ∧ (s.takeRestrain sender payload).drive = s.drive ∧ (s.takeRestrain sender
    payload).plans = s.plans ∧ (s.takeRestrain sender payload).engine = s.engine ∧ (s.takeRestrain sender
    payload).grout = s.grout ∧ (s.takeRestrain sender payload).muck = s.muck ∧ (s.takeRestrain sender
    payload).channels = s.channels ∧ (s.takeRestrain sender payload).overrides = s.overrides ∧ (s.takeRestrain sender
    payload).console = s.console ∧ (s.takeRestrain sender payload).freeIndex = s.freeIndex ∧ (s.takeRestrain sender
    payload).pending = s.pending := by
  unfold takeRestrain
  (repeat' split) <;> simp

@[simp] theorem takeRelease_frame (sender : Station) (payload : List Byte) (s : State) :
    (s.takeRelease sender payload).link = s.link ∧ (s.takeRelease sender payload).node = s.node ∧ (s.takeRelease
    sender payload).machine = s.machine ∧ (s.takeRelease sender payload).drive = s.drive ∧ (s.takeRelease sender
    payload).plans = s.plans ∧ (s.takeRelease sender payload).engine = s.engine ∧ (s.takeRelease sender payload).grout
    = s.grout ∧ (s.takeRelease sender payload).muck = s.muck ∧ (s.takeRelease sender payload).channels = s.channels ∧
    (s.takeRelease sender payload).overrides = s.overrides ∧ (s.takeRelease sender payload).console = s.console ∧
    (s.takeRelease sender payload).freeIndex = s.freeIndex ∧ (s.takeRelease sender payload).pending = s.pending := by
  unfold takeRelease
  (repeat' split) <;> simp

@[simp] theorem queueAnswer_frame (z : ZoneRequest) (s : State) :
    (s.queueAnswer z).node = s.node ∧ (s.queueAnswer z).machine = s.machine ∧ (s.queueAnswer z).thrust = s.thrust ∧
    (s.queueAnswer z).drive = s.drive ∧ (s.queueAnswer z).plans = s.plans ∧ (s.queueAnswer z).grout = s.grout ∧
    (s.queueAnswer z).muck = s.muck ∧ (s.queueAnswer z).channels = s.channels ∧ (s.queueAnswer z).overrides =
    s.overrides ∧ (s.queueAnswer z).freeIndex = s.freeIndex ∧ (s.queueAnswer z).pending = s.pending := by
  unfold queueAnswer
  split <;> simp

@[simp] theorem queueRefusal_frame (z : ZoneRequest) (r : ZoneRefusal) (s : State) :
    (s.queueRefusal z r).node = s.node ∧ (s.queueRefusal z r).machine = s.machine ∧ (s.queueRefusal z r).thrust =
    s.thrust ∧ (s.queueRefusal z r).drive = s.drive ∧ (s.queueRefusal z r).plans = s.plans ∧ (s.queueRefusal z
    r).grout = s.grout ∧ (s.queueRefusal z r).muck = s.muck ∧ (s.queueRefusal z r).channels = s.channels ∧
    (s.queueRefusal z r).overrides = s.overrides ∧ (s.queueRefusal z r).freeIndex = s.freeIndex ∧ (s.queueRefusal z
    r).pending = s.pending := by
  simp [queueRefusal]

@[simp] theorem testZone_frame (s : State) :
    s.testZone.node = s.node ∧ s.testZone.machine = s.machine ∧ s.testZone.drive = s.drive ∧ s.testZone.plans =
    s.plans ∧ s.testZone.grout = s.grout ∧ s.testZone.muck = s.muck ∧ s.testZone.channels = s.channels ∧
    s.testZone.overrides = s.overrides ∧ s.testZone.freeIndex = s.freeIndex ∧ s.testZone.pending = s.pending := by
  unfold testZone
  dsimp only
  (repeat' split) <;> simp

@[simp] theorem clearZone_frame (z : ZoneRequest) (s : State) :
    (s.clearZone z).node = s.node ∧ (s.clearZone z).machine = s.machine ∧ (s.clearZone z).drive = s.drive ∧
    (s.clearZone z).plans = s.plans ∧ (s.clearZone z).grout = s.grout ∧ (s.clearZone z).muck = s.muck ∧ (s.clearZone
    z).channels = s.channels ∧ (s.clearZone z).overrides = s.overrides ∧ (s.clearZone z).freeIndex = s.freeIndex ∧
    (s.clearZone z).pending = s.pending := by
  unfold clearZone
  dsimp only
  (repeat' split) <;> simp

@[simp] theorem seatZone_frame (z : ZoneRequest) (s : State) :
    (s.seatZone z).node = s.node ∧ (s.seatZone z).machine = s.machine ∧ (s.seatZone z).drive = s.drive ∧ (s.seatZone
    z).plans = s.plans ∧ (s.seatZone z).grout = s.grout ∧ (s.seatZone z).muck = s.muck ∧ (s.seatZone z).channels =
    s.channels ∧ (s.seatZone z).overrides = s.overrides ∧ (s.seatZone z).freeIndex = s.freeIndex ∧ (s.seatZone
    z).pending = s.pending := by
  unfold seatZone
  dsimp only
  (repeat' split) <;> simp

@[simp] theorem takeZoneClear_frame (sender : Nat) (payload : List Byte) (s : State) :
    (s.takeZoneClear sender payload).node = s.node ∧ (s.takeZoneClear sender payload).machine = s.machine ∧
    (s.takeZoneClear sender payload).drive = s.drive ∧ (s.takeZoneClear sender payload).plans = s.plans ∧
    (s.takeZoneClear sender payload).grout = s.grout ∧ (s.takeZoneClear sender payload).muck = s.muck ∧
    (s.takeZoneClear sender payload).channels = s.channels ∧ (s.takeZoneClear sender payload).overrides = s.overrides
    ∧ (s.takeZoneClear sender payload).freeIndex = s.freeIndex ∧ (s.takeZoneClear sender payload).pending = s.pending := by
  unfold takeZoneClear
  (repeat' split) <;> simp

@[simp] theorem takeZoneSeat_frame (sender : Nat) (payload : List Byte) (s : State) :
    (s.takeZoneSeat sender payload).node = s.node ∧ (s.takeZoneSeat sender payload).machine = s.machine ∧
    (s.takeZoneSeat sender payload).drive = s.drive ∧ (s.takeZoneSeat sender payload).plans = s.plans ∧
    (s.takeZoneSeat sender payload).grout = s.grout ∧ (s.takeZoneSeat sender payload).muck = s.muck ∧ (s.takeZoneSeat
    sender payload).channels = s.channels ∧ (s.takeZoneSeat sender payload).overrides = s.overrides ∧ (s.takeZoneSeat
    sender payload).freeIndex = s.freeIndex ∧ (s.takeZoneSeat sender payload).pending = s.pending := by
  unfold takeZoneSeat
  (repeat' split) <;> simp

@[simp] theorem takeAdvanceSetpoint_frame (v : Nat) (s : State) :
    (s.takeAdvanceSetpoint v).link = s.link ∧ (s.takeAdvanceSetpoint v).node = s.node ∧ (s.takeAdvanceSetpoint
    v).machine = s.machine ∧ (s.takeAdvanceSetpoint v).drive = s.drive ∧ (s.takeAdvanceSetpoint v).plans = s.plans ∧
    (s.takeAdvanceSetpoint v).engine = s.engine ∧ (s.takeAdvanceSetpoint v).grout = s.grout ∧ (s.takeAdvanceSetpoint
    v).muck = s.muck ∧ (s.takeAdvanceSetpoint v).channels = s.channels ∧ (s.takeAdvanceSetpoint v).overrides =
    s.overrides ∧ (s.takeAdvanceSetpoint v).console = s.console ∧ (s.takeAdvanceSetpoint v).freeIndex = s.freeIndex ∧
    (s.takeAdvanceSetpoint v).pending = s.pending := by
  unfold takeAdvanceSetpoint
  split <;> simp

@[simp] theorem takeCutterSetpoint_frame (v : Nat) (s : State) :
    (s.takeCutterSetpoint v).link = s.link ∧ (s.takeCutterSetpoint v).node = s.node ∧ (s.takeCutterSetpoint v).machine
    = s.machine ∧ (s.takeCutterSetpoint v).thrust = s.thrust ∧ (s.takeCutterSetpoint v).plans = s.plans ∧
    (s.takeCutterSetpoint v).engine = s.engine ∧ (s.takeCutterSetpoint v).grout = s.grout ∧ (s.takeCutterSetpoint
    v).muck = s.muck ∧ (s.takeCutterSetpoint v).channels = s.channels ∧ (s.takeCutterSetpoint v).overrides =
    s.overrides ∧ (s.takeCutterSetpoint v).console = s.console ∧ (s.takeCutterSetpoint v).freeIndex = s.freeIndex ∧
    (s.takeCutterSetpoint v).pending = s.pending := by
  unfold takeCutterSetpoint
  split <;> simp

@[simp] theorem takeSetpoint_frame (payload : List Byte) (s : State) :
    (s.takeSetpoint payload).link = s.link ∧ (s.takeSetpoint payload).node = s.node ∧ (s.takeSetpoint payload).machine
    = s.machine ∧ (s.takeSetpoint payload).plans = s.plans ∧ (s.takeSetpoint payload).engine = s.engine ∧
    (s.takeSetpoint payload).grout = s.grout ∧ (s.takeSetpoint payload).muck = s.muck ∧ (s.takeSetpoint
    payload).channels = s.channels ∧ (s.takeSetpoint payload).overrides = s.overrides ∧ (s.takeSetpoint
    payload).console = s.console ∧ (s.takeSetpoint payload).freeIndex = s.freeIndex ∧ (s.takeSetpoint payload).pending
    = s.pending := by
  unfold takeSetpoint
  (repeat' split) <;> simp

@[simp] theorem keepCylReport_frame (n : Nat) (r : CylReport) (s : State) :
    (s.keepCylReport n r).link = s.link ∧ (s.keepCylReport n r).node = s.node ∧ (s.keepCylReport n r).machine =
    s.machine ∧ (s.keepCylReport n r).thrust = s.thrust ∧ (s.keepCylReport n r).drive = s.drive ∧ (s.keepCylReport n
    r).plans = s.plans ∧ (s.keepCylReport n r).engine = s.engine ∧ (s.keepCylReport n r).grout = s.grout ∧
    (s.keepCylReport n r).muck = s.muck ∧ (s.keepCylReport n r).overrides = s.overrides ∧ (s.keepCylReport n
    r).console = s.console ∧ (s.keepCylReport n r).freeIndex = s.freeIndex ∧ (s.keepCylReport n r).pending = s.pending := by
  unfold keepCylReport
  split <;> simp

@[simp] theorem cylinderFault_frame (n : Nat) (old : CylState) (s : State) :
    (s.cylinderFault n old).node = s.node ∧ (s.cylinderFault n old).overrides = s.overrides ∧ (s.cylinderFault n
    old).freeIndex = s.freeIndex ∧ (s.cylinderFault n old).pending = s.pending := by
  unfold cylinderFault
  dsimp only
  (repeat' split) <;> simp

@[simp] theorem takeCylReport_frame (n : Nat) (r : CylReport) (s : State) :
    (s.takeCylReport n r).node = s.node ∧ (s.takeCylReport n r).overrides = s.overrides ∧ (s.takeCylReport n
    r).freeIndex = s.freeIndex ∧ (s.takeCylReport n r).pending = s.pending := by
  unfold takeCylReport
  dsimp only
  (repeat' split) <;> simp

@[simp] theorem clearCylinders_frame (leavesFaulted : Bool) (s : State) :
    (s.clearCylinders leavesFaulted).link = s.link ∧ (s.clearCylinders leavesFaulted).node = s.node ∧
    (s.clearCylinders leavesFaulted).machine = s.machine ∧ (s.clearCylinders leavesFaulted).drive = s.drive ∧
    (s.clearCylinders leavesFaulted).plans = s.plans ∧ (s.clearCylinders leavesFaulted).engine = s.engine ∧
    (s.clearCylinders leavesFaulted).grout = s.grout ∧ (s.clearCylinders leavesFaulted).muck = s.muck ∧
    (s.clearCylinders leavesFaulted).channels = s.channels ∧ (s.clearCylinders leavesFaulted).overrides = s.overrides
    ∧ (s.clearCylinders leavesFaulted).console = s.console ∧ (s.clearCylinders leavesFaulted).freeIndex = s.freeIndex
    ∧ (s.clearCylinders leavesFaulted).pending = s.pending := by
  simp [clearCylinders]

@[simp] theorem restartCylinders_frame (s : State) :
    s.restartCylinders.link = s.link ∧ s.restartCylinders.node = s.node ∧ s.restartCylinders.machine = s.machine ∧
    s.restartCylinders.drive = s.drive ∧ s.restartCylinders.plans = s.plans ∧ s.restartCylinders.engine = s.engine ∧
    s.restartCylinders.grout = s.grout ∧ s.restartCylinders.muck = s.muck ∧ s.restartCylinders.channels = s.channels ∧
    s.restartCylinders.overrides = s.overrides ∧ s.restartCylinders.console = s.console ∧ s.restartCylinders.freeIndex
    = s.freeIndex ∧ s.restartCylinders.pending = s.pending := by
  simp [restartCylinders]

@[simp] theorem addOwn_frame (rs : List RestraintReason) (s : State) :
    (s.addOwn rs).link = s.link ∧ (s.addOwn rs).node = s.node ∧ (s.addOwn rs).machine = s.machine ∧ (s.addOwn
    rs).drive = s.drive ∧ (s.addOwn rs).plans = s.plans ∧ (s.addOwn rs).engine = s.engine ∧ (s.addOwn rs).grout =
    s.grout ∧ (s.addOwn rs).muck = s.muck ∧ (s.addOwn rs).channels = s.channels ∧ (s.addOwn rs).overrides =
    s.overrides ∧ (s.addOwn rs).console = s.console ∧ (s.addOwn rs).freeIndex = s.freeIndex ∧ (s.addOwn rs).pending =
    s.pending := by
  unfold addOwn
  induction rs generalizing s with
  | nil => simp
  | cons x xs ih => exact ih _

@[simp] theorem restartRestraints_frame (s : State) :
    s.restartRestraints.node = s.node ∧ s.restartRestraints.machine = s.machine ∧ s.restartRestraints.drive = s.drive
    ∧ s.restartRestraints.plans = s.plans ∧ s.restartRestraints.grout = s.grout ∧ s.restartRestraints.muck = s.muck ∧
    s.restartRestraints.channels = s.channels ∧ s.restartRestraints.overrides = s.overrides ∧
    s.restartRestraints.freeIndex = s.freeIndex ∧ s.restartRestraints.pending = s.pending := by
  simp [restartRestraints]

end Sys2Proof.Machine.State
end

