-- ==== Sys2Proof/Laws/DriveFrames.lean ====
section
/-! SUPPORT. For each operation of Machine/Drive.lean, the parts of State it leaves as they are. -/

namespace Sys2Proof.Machine.State

@[simp] theorem keepDriveReport_frame (n : Nat) (r : DriveReport) (s : State) :
    (s.keepDriveReport n r).link = s.link ∧ (s.keepDriveReport n r).node = s.node ∧ (s.keepDriveReport n r).machine =
    s.machine ∧ (s.keepDriveReport n r).thrust = s.thrust ∧ (s.keepDriveReport n r).drive = s.drive ∧
    (s.keepDriveReport n r).plans = s.plans ∧ (s.keepDriveReport n r).engine = s.engine ∧ (s.keepDriveReport n
    r).grout = s.grout ∧ (s.keepDriveReport n r).muck = s.muck ∧ (s.keepDriveReport n r).overrides = s.overrides ∧
    (s.keepDriveReport n r).console = s.console ∧ (s.keepDriveReport n r).freeIndex = s.freeIndex ∧ (s.keepDriveReport
    n r).pending = s.pending := by
  unfold keepDriveReport
  split <;> simp

@[simp] theorem driveFault_frame (n : Nat) (old : DriveState) (s : State) :
    (s.driveFault n old).node = s.node ∧ (s.driveFault n old).channels = s.channels ∧ (s.driveFault n old).overrides =
    s.overrides ∧ (s.driveFault n old).freeIndex = s.freeIndex ∧ (s.driveFault n old).pending = s.pending := by
  unfold driveFault
  dsimp only
  (repeat' split) <;> simp

@[simp] theorem takeDriveReport_frame (n : Nat) (r : DriveReport) (s : State) :
    (s.takeDriveReport n r).node = s.node ∧ (s.takeDriveReport n r).overrides = s.overrides ∧ (s.takeDriveReport n
    r).freeIndex = s.freeIndex ∧ (s.takeDriveReport n r).pending = s.pending := by
  unfold takeDriveReport
  dsimp only
  (repeat' split) <;> simp

@[simp] theorem clearDrives_frame (s : State) :
    s.clearDrives.link = s.link ∧ s.clearDrives.node = s.node ∧ s.clearDrives.machine = s.machine ∧
    s.clearDrives.thrust = s.thrust ∧ s.clearDrives.plans = s.plans ∧ s.clearDrives.engine = s.engine ∧
    s.clearDrives.grout = s.grout ∧ s.clearDrives.muck = s.muck ∧ s.clearDrives.channels = s.channels ∧
    s.clearDrives.overrides = s.overrides ∧ s.clearDrives.console = s.console ∧ s.clearDrives.freeIndex = s.freeIndex
    ∧ s.clearDrives.pending = s.pending := by
  simp [clearDrives]

@[simp] theorem restartGuard_frame (s : State) :
    s.restartGuard.link = s.link ∧ s.restartGuard.node = s.node ∧ s.restartGuard.machine = s.machine ∧
    s.restartGuard.thrust = s.thrust ∧ s.restartGuard.plans = s.plans ∧ s.restartGuard.engine = s.engine ∧
    s.restartGuard.grout = s.grout ∧ s.restartGuard.muck = s.muck ∧ s.restartGuard.channels = s.channels ∧
    s.restartGuard.overrides = s.overrides ∧ s.restartGuard.console = s.console ∧ s.restartGuard.freeIndex =
    s.freeIndex ∧ s.restartGuard.pending = s.pending := by
  simp [restartGuard]

@[simp] theorem serveGuardOn_frame  (station : Station) (addressed : Bool) (args : List Byte) (s : State) :
    (s.serveGuardOn station addressed args).node = s.node ∧ (s.serveGuardOn station addressed args).machine =
    s.machine ∧ (s.serveGuardOn station addressed args).plans = s.plans ∧ (s.serveGuardOn station addressed
    args).grout = s.grout ∧ (s.serveGuardOn station addressed args).muck = s.muck ∧ (s.serveGuardOn station addressed
    args).channels = s.channels ∧ (s.serveGuardOn station addressed args).overrides = s.overrides ∧ (s.serveGuardOn
    station addressed args).freeIndex = s.freeIndex ∧ (s.serveGuardOn station addressed args).pending = s.pending := by
  simp only [serveGuardOn, configuredOnly]
  (repeat' split) <;> simp

@[simp] theorem serveGuardOff_frame  (station : Station) (addressed : Bool) (args : List Byte) (s : State) :
    (s.serveGuardOff station addressed args).node = s.node ∧ (s.serveGuardOff station addressed args).machine =
    s.machine ∧ (s.serveGuardOff station addressed args).plans = s.plans ∧ (s.serveGuardOff station addressed
    args).grout = s.grout ∧ (s.serveGuardOff station addressed args).muck = s.muck ∧ (s.serveGuardOff station
    addressed args).channels = s.channels ∧ (s.serveGuardOff station addressed args).overrides = s.overrides ∧
    (s.serveGuardOff station addressed args).freeIndex = s.freeIndex ∧ (s.serveGuardOff station addressed
    args).pending = s.pending := by
  simp only [serveGuardOff, configuredOnly]
  (repeat' split) <;> simp

@[simp] theorem serveGuardLevel_frame  (station : Station) (addressed : Bool) (args : List Byte) (s : State) :
    (s.serveGuardLevel station addressed args).node = s.node ∧ (s.serveGuardLevel station addressed args).machine =
    s.machine ∧ (s.serveGuardLevel station addressed args).thrust = s.thrust ∧ (s.serveGuardLevel station addressed
    args).plans = s.plans ∧ (s.serveGuardLevel station addressed args).grout = s.grout ∧ (s.serveGuardLevel station
    addressed args).muck = s.muck ∧ (s.serveGuardLevel station addressed args).channels = s.channels ∧
    (s.serveGuardLevel station addressed args).overrides = s.overrides ∧ (s.serveGuardLevel station addressed
    args).freeIndex = s.freeIndex ∧ (s.serveGuardLevel station addressed args).pending = s.pending := by
  simp only [serveGuardLevel, configuredOnly]
  (repeat' split) <;> simp

@[simp] theorem serveGuardProbe_frame  (station : Station) (addressed : Bool) (args : List Byte) (s : State) :
    (s.serveGuardProbe station addressed args).node = s.node ∧ (s.serveGuardProbe station addressed args).machine =
    s.machine ∧ (s.serveGuardProbe station addressed args).thrust = s.thrust ∧ (s.serveGuardProbe station addressed
    args).plans = s.plans ∧ (s.serveGuardProbe station addressed args).grout = s.grout ∧ (s.serveGuardProbe station
    addressed args).muck = s.muck ∧ (s.serveGuardProbe station addressed args).channels = s.channels ∧
    (s.serveGuardProbe station addressed args).overrides = s.overrides ∧ (s.serveGuardProbe station addressed
    args).freeIndex = s.freeIndex ∧ (s.serveGuardProbe station addressed args).pending = s.pending := by
  simp only [serveGuardProbe, configuredOnly]
  (repeat' split) <;> simp

@[simp] theorem serveGuardReset_frame  (station : Station) (addressed : Bool) (args : List Byte) (s : State) :
    (s.serveGuardReset station addressed args).node = s.node ∧ (s.serveGuardReset station addressed args).machine =
    s.machine ∧ (s.serveGuardReset station addressed args).thrust = s.thrust ∧ (s.serveGuardReset station addressed
    args).plans = s.plans ∧ (s.serveGuardReset station addressed args).grout = s.grout ∧ (s.serveGuardReset station
    addressed args).muck = s.muck ∧ (s.serveGuardReset station addressed args).channels = s.channels ∧
    (s.serveGuardReset station addressed args).overrides = s.overrides ∧ (s.serveGuardReset station addressed
    args).freeIndex = s.freeIndex ∧ (s.serveGuardReset station addressed args).pending = s.pending := by
  simp only [serveGuardReset, configuredOnly]
  (repeat' split) <;> simp

@[simp] theorem takeStall_frame (mean : Nat) (s : State) :
    (s.takeStall mean).node = s.node ∧ (s.takeStall mean).channels = s.channels ∧ (s.takeStall mean).overrides =
    s.overrides ∧ (s.takeStall mean).freeIndex = s.freeIndex ∧ (s.takeStall mean).pending = s.pending := by
  unfold takeStall
  (repeat' split) <;> simp

@[simp] theorem endProbe_frame (p : Probe) (s : State) :
    (s.endProbe p).node = s.node ∧ (s.endProbe p).channels = s.channels ∧ (s.endProbe p).overrides = s.overrides ∧
    (s.endProbe p).freeIndex = s.freeIndex ∧ (s.endProbe p).pending = s.pending := by
  unfold endProbe
  dsimp only
  (repeat' split) <;> simp

end Sys2Proof.Machine.State
end

