-- ==== Sys2Proof/Laws/PlanFrames.lean ====
section
/-! SUPPORT. For each operation of Machine/Plan.lean, the parts of State it leaves as they are. -/

namespace Sys2Proof.Machine.State

@[simp] theorem discardOpenPlan_frame (s : State) :
    s.discardOpenPlan.link = s.link ∧ s.discardOpenPlan.node = s.node ∧ s.discardOpenPlan.machine = s.machine ∧
    s.discardOpenPlan.thrust = s.thrust ∧ s.discardOpenPlan.drive = s.drive ∧ s.discardOpenPlan.engine = s.engine ∧
    s.discardOpenPlan.grout = s.grout ∧ s.discardOpenPlan.muck = s.muck ∧ s.discardOpenPlan.channels = s.channels ∧
    s.discardOpenPlan.overrides = s.overrides ∧ s.discardOpenPlan.console = s.console ∧ s.discardOpenPlan.freeIndex =
    s.freeIndex ∧ s.discardOpenPlan.pending = s.pending := by
  simp [discardOpenPlan]

@[simp] theorem servePlanOpen_frame  (station : Station) (addressed : Bool) (args : List Byte) (s : State) :
    (s.servePlanOpen station addressed args).node = s.node ∧ (s.servePlanOpen station addressed args).machine =
    s.machine ∧ (s.servePlanOpen station addressed args).thrust = s.thrust ∧ (s.servePlanOpen station addressed
    args).drive = s.drive ∧ (s.servePlanOpen station addressed args).grout = s.grout ∧ (s.servePlanOpen station
    addressed args).muck = s.muck ∧ (s.servePlanOpen station addressed args).channels = s.channels ∧ (s.servePlanOpen
    station addressed args).overrides = s.overrides ∧ (s.servePlanOpen station addressed args).freeIndex = s.freeIndex
    ∧ (s.servePlanOpen station addressed args).pending = s.pending := by
  simp only [servePlanOpen, planService]
  (repeat' split) <;> simp

@[simp] theorem servePlanStep_frame  (station : Station) (addressed : Bool) (args : List Byte) (s : State) :
    (s.servePlanStep station addressed args).node = s.node ∧ (s.servePlanStep station addressed args).machine =
    s.machine ∧ (s.servePlanStep station addressed args).thrust = s.thrust ∧ (s.servePlanStep station addressed
    args).drive = s.drive ∧ (s.servePlanStep station addressed args).grout = s.grout ∧ (s.servePlanStep station
    addressed args).muck = s.muck ∧ (s.servePlanStep station addressed args).channels = s.channels ∧ (s.servePlanStep
    station addressed args).overrides = s.overrides ∧ (s.servePlanStep station addressed args).freeIndex = s.freeIndex
    ∧ (s.servePlanStep station addressed args).pending = s.pending := by
  simp only [servePlanStep, planService]
  (repeat' split) <;> simp

@[simp] theorem closePlan_frame (p : Plan) (n : Nat) (s : State) :
    (s.closePlan p n).node = s.node ∧ (s.closePlan p n).machine = s.machine ∧ (s.closePlan p n).thrust = s.thrust ∧
    (s.closePlan p n).drive = s.drive ∧ (s.closePlan p n).grout = s.grout ∧ (s.closePlan p n).muck = s.muck ∧
    (s.closePlan p n).channels = s.channels ∧ (s.closePlan p n).overrides = s.overrides ∧ (s.closePlan p n).freeIndex
    = s.freeIndex ∧ (s.closePlan p n).pending = s.pending := by
  unfold closePlan
  dsimp only
  (repeat' split) <;> simp

@[simp] theorem servePlanClose_frame  (station : Station) (addressed : Bool) (args : List Byte) (s : State) :
    (s.servePlanClose station addressed args).node = s.node ∧ (s.servePlanClose station addressed args).machine =
    s.machine ∧ (s.servePlanClose station addressed args).thrust = s.thrust ∧ (s.servePlanClose station addressed
    args).drive = s.drive ∧ (s.servePlanClose station addressed args).grout = s.grout ∧ (s.servePlanClose station
    addressed args).muck = s.muck ∧ (s.servePlanClose station addressed args).channels = s.channels ∧
    (s.servePlanClose station addressed args).overrides = s.overrides ∧ (s.servePlanClose station addressed
    args).freeIndex = s.freeIndex ∧ (s.servePlanClose station addressed args).pending = s.pending := by
  simp only [servePlanClose, planService]
  (repeat' split) <;> simp

@[simp] theorem servePlanAbort_frame  (station : Station) (addressed : Bool) (args : List Byte) (s : State) :
    (s.servePlanAbort station addressed args).node = s.node ∧ (s.servePlanAbort station addressed args).machine =
    s.machine ∧ (s.servePlanAbort station addressed args).thrust = s.thrust ∧ (s.servePlanAbort station addressed
    args).drive = s.drive ∧ (s.servePlanAbort station addressed args).grout = s.grout ∧ (s.servePlanAbort station
    addressed args).muck = s.muck ∧ (s.servePlanAbort station addressed args).channels = s.channels ∧
    (s.servePlanAbort station addressed args).overrides = s.overrides ∧ (s.servePlanAbort station addressed
    args).freeIndex = s.freeIndex ∧ (s.servePlanAbort station addressed args).pending = s.pending := by
  simp only [servePlanAbort, planServiceBare, planService]
  (repeat' split) <;> simp

@[simp] theorem stopEngine_frame (s : State) :
    s.stopEngine.link = s.link ∧ s.stopEngine.node = s.node ∧ s.stopEngine.machine = s.machine ∧ s.stopEngine.thrust =
    s.thrust ∧ s.stopEngine.drive = s.drive ∧ s.stopEngine.grout = s.grout ∧ s.stopEngine.muck = s.muck ∧
    s.stopEngine.channels = s.channels ∧ s.stopEngine.overrides = s.overrides ∧ s.stopEngine.console = s.console ∧
    s.stopEngine.freeIndex = s.freeIndex ∧ s.stopEngine.pending = s.pending := by
  unfold stopEngine
  split <;> simp

@[simp] theorem servePlanStop_frame  (station : Station) (addressed : Bool) (args : List Byte) (s : State) :
    (s.servePlanStop station addressed args).node = s.node ∧ (s.servePlanStop station addressed args).machine =
    s.machine ∧ (s.servePlanStop station addressed args).thrust = s.thrust ∧ (s.servePlanStop station addressed
    args).drive = s.drive ∧ (s.servePlanStop station addressed args).grout = s.grout ∧ (s.servePlanStop station
    addressed args).muck = s.muck ∧ (s.servePlanStop station addressed args).channels = s.channels ∧ (s.servePlanStop
    station addressed args).overrides = s.overrides ∧ (s.servePlanStop station addressed args).freeIndex = s.freeIndex
    ∧ (s.servePlanStop station addressed args).pending = s.pending := by
  simp only [servePlanStop, planServiceBare, planService]
  (repeat' split) <;> simp

@[simp] theorem servePlanFlush_frame  (station : Station) (addressed : Bool) (args : List Byte) (s : State) :
    (s.servePlanFlush station addressed args).node = s.node ∧ (s.servePlanFlush station addressed args).machine =
    s.machine ∧ (s.servePlanFlush station addressed args).thrust = s.thrust ∧ (s.servePlanFlush station addressed
    args).drive = s.drive ∧ (s.servePlanFlush station addressed args).grout = s.grout ∧ (s.servePlanFlush station
    addressed args).muck = s.muck ∧ (s.servePlanFlush station addressed args).channels = s.channels ∧
    (s.servePlanFlush station addressed args).overrides = s.overrides ∧ (s.servePlanFlush station addressed
    args).freeIndex = s.freeIndex ∧ (s.servePlanFlush station addressed args).pending = s.pending := by
  simp only [servePlanFlush, planServiceBare, planService]
  (repeat' split) <;> simp

@[simp] theorem servePlanEnable_frame  (station : Station) (addressed : Bool) (args : List Byte) (s : State) :
    (s.servePlanEnable station addressed args).node = s.node ∧ (s.servePlanEnable station addressed args).machine =
    s.machine ∧ (s.servePlanEnable station addressed args).thrust = s.thrust ∧ (s.servePlanEnable station addressed
    args).drive = s.drive ∧ (s.servePlanEnable station addressed args).plans = s.plans ∧ (s.servePlanEnable station
    addressed args).grout = s.grout ∧ (s.servePlanEnable station addressed args).muck = s.muck ∧ (s.servePlanEnable
    station addressed args).channels = s.channels ∧ (s.servePlanEnable station addressed args).overrides = s.overrides
    ∧ (s.servePlanEnable station addressed args).freeIndex = s.freeIndex ∧ (s.servePlanEnable station addressed
    args).pending = s.pending := by
  simp only [servePlanEnable, planServiceBare, planService]
  (repeat' split) <;> simp

@[simp] theorem resumeEngine_frame (s : State) :
    s.resumeEngine.node = s.node ∧ s.resumeEngine.machine = s.machine ∧ s.resumeEngine.thrust = s.thrust ∧
    s.resumeEngine.drive = s.drive ∧ s.resumeEngine.plans = s.plans ∧ s.resumeEngine.grout = s.grout ∧
    s.resumeEngine.muck = s.muck ∧ s.resumeEngine.channels = s.channels ∧ s.resumeEngine.overrides = s.overrides ∧
    s.resumeEngine.freeIndex = s.freeIndex ∧ s.resumeEngine.pending = s.pending := by
  unfold resumeEngine
  split <;> simp

@[simp] theorem servePlanResume_frame  (station : Station) (addressed : Bool) (args : List Byte) (s : State) :
    (s.servePlanResume station addressed args).node = s.node ∧ (s.servePlanResume station addressed args).machine =
    s.machine ∧ (s.servePlanResume station addressed args).thrust = s.thrust ∧ (s.servePlanResume station addressed
    args).drive = s.drive ∧ (s.servePlanResume station addressed args).plans = s.plans ∧ (s.servePlanResume station
    addressed args).grout = s.grout ∧ (s.servePlanResume station addressed args).muck = s.muck ∧ (s.servePlanResume
    station addressed args).channels = s.channels ∧ (s.servePlanResume station addressed args).overrides = s.overrides
    ∧ (s.servePlanResume station addressed args).freeIndex = s.freeIndex ∧ (s.servePlanResume station addressed
    args).pending = s.pending := by
  simp only [servePlanResume, planServiceBare, planService]
  (repeat' split) <;> simp

end Sys2Proof.Machine.State
end

