-- ==== Sys2Proof/Laws/RingFrames.lean ====
section
/-! SUPPORT. For each operation of Machine/Ring.lean, the parts of State it leaves as they are. -/

namespace Sys2Proof.Machine.State

@[simp] theorem enterPlacing_frame (s : State) :
    s.enterPlacing.link = s.link ∧ s.enterPlacing.node = s.node ∧ s.enterPlacing.machine = s.machine ∧
    s.enterPlacing.thrust = s.thrust ∧ s.enterPlacing.drive = s.drive ∧ s.enterPlacing.plans = s.plans ∧
    s.enterPlacing.grout = s.grout ∧ s.enterPlacing.muck = s.muck ∧ s.enterPlacing.channels = s.channels ∧
    s.enterPlacing.overrides = s.overrides ∧ s.enterPlacing.console = s.console ∧ s.enterPlacing.freeIndex =
    s.freeIndex ∧ s.enterPlacing.pending = s.pending := by
  simp [enterPlacing]

@[simp] theorem afterStep_frame (s : State) :
    s.afterStep.link = s.link ∧ s.afterStep.node = s.node ∧ s.afterStep.machine = s.machine ∧ s.afterStep.thrust =
    s.thrust ∧ s.afterStep.drive = s.drive ∧ s.afterStep.plans = s.plans ∧ s.afterStep.grout = s.grout ∧
    s.afterStep.muck = s.muck ∧ s.afterStep.channels = s.channels ∧ s.afterStep.overrides = s.overrides ∧
    s.afterStep.console = s.console ∧ s.afterStep.freeIndex = s.freeIndex ∧ s.afterStep.pending = s.pending := by
  simp [afterStep]

@[simp] theorem closeRing_frame (s : State) :
    s.closeRing.node = s.node ∧ s.closeRing.machine = s.machine ∧ s.closeRing.thrust = s.thrust ∧ s.closeRing.drive =
    s.drive ∧ s.closeRing.plans = s.plans ∧ s.closeRing.grout = s.grout ∧ s.closeRing.muck = s.muck ∧
    s.closeRing.channels = s.channels ∧ s.closeRing.overrides = s.overrides ∧ s.closeRing.freeIndex = s.freeIndex ∧
    s.closeRing.pending = s.pending := by
  simp [closeRing]

@[simp] theorem stepDone_frame (p : Plan) (st : PlanStep) (s : State) :
    (s.stepDone p st).node = s.node ∧ (s.stepDone p st).machine = s.machine ∧ (s.stepDone p st).thrust = s.thrust ∧
    (s.stepDone p st).drive = s.drive ∧ (s.stepDone p st).grout = s.grout ∧ (s.stepDone p st).muck = s.muck ∧
    (s.stepDone p st).channels = s.channels ∧ (s.stepDone p st).overrides = s.overrides ∧ (s.stepDone p st).freeIndex
    = s.freeIndex ∧ (s.stepDone p st).pending = s.pending := by
  unfold stepDone
  dsimp only
  (repeat' split) <;> simp

@[simp] theorem countAnswer_frame (sender : Nat) (s : State) :
    (s.countAnswer sender).node = s.node ∧ (s.countAnswer sender).machine = s.machine ∧ (s.countAnswer sender).thrust
    = s.thrust ∧ (s.countAnswer sender).drive = s.drive ∧ (s.countAnswer sender).grout = s.grout ∧ (s.countAnswer
    sender).muck = s.muck ∧ (s.countAnswer sender).channels = s.channels ∧ (s.countAnswer sender).overrides =
    s.overrides ∧ (s.countAnswer sender).freeIndex = s.freeIndex ∧ (s.countAnswer sender).pending = s.pending := by
  unfold countAnswer
  dsimp only
  (repeat' split) <;> simp

@[simp] theorem takeZoneAnswer_frame (stage : EngineState) (sender : Nat) (payload : List Byte) (s : State) :
    (s.takeZoneAnswer stage sender payload).node = s.node ∧ (s.takeZoneAnswer stage sender payload).machine =
    s.machine ∧ (s.takeZoneAnswer stage sender payload).thrust = s.thrust ∧ (s.takeZoneAnswer stage sender
    payload).drive = s.drive ∧ (s.takeZoneAnswer stage sender payload).grout = s.grout ∧ (s.takeZoneAnswer stage
    sender payload).muck = s.muck ∧ (s.takeZoneAnswer stage sender payload).channels = s.channels ∧ (s.takeZoneAnswer
    stage sender payload).overrides = s.overrides ∧ (s.takeZoneAnswer stage sender payload).freeIndex = s.freeIndex ∧
    (s.takeZoneAnswer stage sender payload).pending = s.pending := by
  unfold takeZoneAnswer
  (repeat' split) <;> simp

@[simp] theorem stallEngine_frame (sender : Nat) (reason : ZoneRefusal) (position : Nat) (kind : ZoneKind) (s : State)
:
    (s.stallEngine sender reason position kind).link = s.link ∧ (s.stallEngine sender reason position kind).node =
    s.node ∧ (s.stallEngine sender reason position kind).machine = s.machine ∧ (s.stallEngine sender reason position
    kind).thrust = s.thrust ∧ (s.stallEngine sender reason position kind).drive = s.drive ∧ (s.stallEngine sender
    reason position kind).grout = s.grout ∧ (s.stallEngine sender reason position kind).muck = s.muck ∧ (s.stallEngine
    sender reason position kind).channels = s.channels ∧ (s.stallEngine sender reason position kind).overrides =
    s.overrides ∧ (s.stallEngine sender reason position kind).freeIndex = s.freeIndex ∧ (s.stallEngine sender reason
    position kind).pending = s.pending := by
  unfold stallEngine
  dsimp only
  (repeat' split) <;> simp

@[simp] theorem takeZoneRefused_frame (sender : Nat) (payload : List Byte) (s : State) :
    (s.takeZoneRefused sender payload).link = s.link ∧ (s.takeZoneRefused sender payload).node = s.node ∧
    (s.takeZoneRefused sender payload).machine = s.machine ∧ (s.takeZoneRefused sender payload).thrust = s.thrust ∧
    (s.takeZoneRefused sender payload).drive = s.drive ∧ (s.takeZoneRefused sender payload).grout = s.grout ∧
    (s.takeZoneRefused sender payload).muck = s.muck ∧ (s.takeZoneRefused sender payload).channels = s.channels ∧
    (s.takeZoneRefused sender payload).overrides = s.overrides ∧ (s.takeZoneRefused sender payload).freeIndex =
    s.freeIndex ∧ (s.takeZoneRefused sender payload).pending = s.pending := by
  unfold takeZoneRefused
  (repeat' split) <;> simp

@[simp] theorem erectorReady_frame (s : State) :
    s.erectorReady.link = s.link ∧ s.erectorReady.node = s.node ∧ s.erectorReady.machine = s.machine ∧
    s.erectorReady.thrust = s.thrust ∧ s.erectorReady.drive = s.drive ∧ s.erectorReady.plans = s.plans ∧
    s.erectorReady.grout = s.grout ∧ s.erectorReady.muck = s.muck ∧ s.erectorReady.channels = s.channels ∧
    s.erectorReady.overrides = s.overrides ∧ s.erectorReady.console = s.console ∧ s.erectorReady.freeIndex =
    s.freeIndex ∧ s.erectorReady.pending = s.pending := by
  simp [erectorReady]

@[simp] theorem takeSeated_frame (s : State) :
    s.takeSeated.node = s.node ∧ s.takeSeated.machine = s.machine ∧ s.takeSeated.thrust = s.thrust ∧
    s.takeSeated.drive = s.drive ∧ s.takeSeated.plans = s.plans ∧ s.takeSeated.grout = s.grout ∧ s.takeSeated.muck =
    s.muck ∧ s.takeSeated.channels = s.channels ∧ s.takeSeated.overrides = s.overrides ∧ s.takeSeated.freeIndex =
    s.freeIndex ∧ s.takeSeated.pending = s.pending := by
  unfold takeSeated
  dsimp only
  (repeat' split) <;> simp

@[simp] theorem failPlacement_frame (s : State) :
    s.failPlacement.node = s.node ∧ s.failPlacement.channels = s.channels ∧ s.failPlacement.overrides = s.overrides ∧
    s.failPlacement.freeIndex = s.freeIndex ∧ s.failPlacement.pending = s.pending := by
  unfold failPlacement
  split <;> simp

@[simp] theorem takeSeatFail_frame (s : State) :
    s.takeSeatFail.node = s.node ∧ s.takeSeatFail.channels = s.channels ∧ s.takeSeatFail.overrides = s.overrides ∧
    s.takeSeatFail.freeIndex = s.freeIndex ∧ s.takeSeatFail.pending = s.pending := by
  unfold takeSeatFail
  dsimp only
  (repeat' split) <;> simp

@[simp] theorem takeErectorIndication_frame (present : Bool) (s : State) :
    (s.takeErectorIndication present).overrides = s.overrides ∧ (s.takeErectorIndication present).freeIndex =
    s.freeIndex ∧ (s.takeErectorIndication present).pending = s.pending := by
  unfold takeErectorIndication
  dsimp only
  (repeat' split) <;> simp

@[simp] theorem keepRecord_frame (r : RingRecord) (s : State) :
    (s.keepRecord r).link = s.link ∧ (s.keepRecord r).node = s.node ∧ (s.keepRecord r).machine = s.machine ∧
    (s.keepRecord r).thrust = s.thrust ∧ (s.keepRecord r).drive = s.drive ∧ (s.keepRecord r).plans = s.plans ∧
    (s.keepRecord r).engine = s.engine ∧ (s.keepRecord r).grout = s.grout ∧ (s.keepRecord r).muck = s.muck ∧
    (s.keepRecord r).channels = s.channels ∧ (s.keepRecord r).overrides = s.overrides ∧ (s.keepRecord r).freeIndex =
    s.freeIndex ∧ (s.keepRecord r).pending = s.pending := by
  simp [keepRecord]

@[simp] theorem carryOver_frame (s : State) :
    s.carryOver.link = s.link ∧ s.carryOver.node = s.node ∧ s.carryOver.machine = s.machine ∧ s.carryOver.thrust =
    s.thrust ∧ s.carryOver.drive = s.drive ∧ s.carryOver.plans = s.plans ∧ s.carryOver.engine = s.engine ∧
    s.carryOver.muck = s.muck ∧ s.carryOver.channels = s.channels ∧ s.carryOver.overrides = s.overrides ∧
    s.carryOver.console = s.console ∧ s.carryOver.freeIndex = s.freeIndex ∧ s.carryOver.pending = s.pending := by
  simp [carryOver]

@[simp] theorem closeTallies_frame (s : State) :
    s.closeTallies.link = s.link ∧ s.closeTallies.node = s.node ∧ s.closeTallies.machine = s.machine ∧
    s.closeTallies.thrust = s.thrust ∧ s.closeTallies.drive = s.drive ∧ s.closeTallies.plans = s.plans ∧
    s.closeTallies.engine = s.engine ∧ s.closeTallies.grout = s.grout ∧ s.closeTallies.channels = s.channels ∧
    s.closeTallies.overrides = s.overrides ∧ s.closeTallies.console = s.console ∧ s.closeTallies.freeIndex =
    s.freeIndex ∧ s.closeTallies.pending = s.pending := by
  unfold closeTallies
  split <;> simp

@[simp] theorem closeAccounts_frame (n : Nat) (s : State) :
    (s.closeAccounts n).node = s.node ∧ (s.closeAccounts n).channels = s.channels ∧ (s.closeAccounts n).overrides =
    s.overrides ∧ (s.closeAccounts n).freeIndex = s.freeIndex ∧ (s.closeAccounts n).pending = s.pending := by
  simp [closeAccounts]

@[simp] theorem writeStatistics_frame (s : State) :
    s.writeStatistics.link = s.link ∧ s.writeStatistics.node = s.node ∧ s.writeStatistics.machine = s.machine ∧
    s.writeStatistics.thrust = s.thrust ∧ s.writeStatistics.drive = s.drive ∧ s.writeStatistics.plans = s.plans ∧
    s.writeStatistics.engine = s.engine ∧ s.writeStatistics.grout = s.grout ∧ s.writeStatistics.muck = s.muck ∧
    s.writeStatistics.channels = s.channels ∧ s.writeStatistics.overrides = s.overrides ∧ s.writeStatistics.freeIndex
    = s.freeIndex ∧ s.writeStatistics.pending = s.pending := by
  simp [writeStatistics]

@[simp] theorem ownerCloses_frame (s : State) :
    s.ownerCloses.node = s.node ∧ s.ownerCloses.channels = s.channels ∧ s.ownerCloses.overrides = s.overrides ∧
    s.ownerCloses.freeIndex = s.freeIndex ∧ s.ownerCloses.pending = s.pending := by
  simp [ownerCloses]

@[simp] theorem takeRingClosed_frame (sender : Nat) (payload : List Byte) (s : State) :
    (s.takeRingClosed sender payload).node = s.node ∧ (s.takeRingClosed sender payload).channels = s.channels ∧
    (s.takeRingClosed sender payload).overrides = s.overrides ∧ (s.takeRingClosed sender payload).freeIndex =
    s.freeIndex ∧ (s.takeRingClosed sender payload).pending = s.pending := by
  unfold takeRingClosed
  dsimp only
  (repeat' split) <;> simp

@[simp] theorem ownerRingSet_frame (s : State) :
    s.ownerRingSet.node = s.node ∧ s.ownerRingSet.machine = s.machine ∧ s.ownerRingSet.thrust = s.thrust ∧
    s.ownerRingSet.drive = s.drive ∧ s.ownerRingSet.grout = s.grout ∧ s.ownerRingSet.muck = s.muck ∧
    s.ownerRingSet.channels = s.channels ∧ s.ownerRingSet.overrides = s.overrides ∧ s.ownerRingSet.freeIndex =
    s.freeIndex ∧ s.ownerRingSet.pending = s.pending := by
  unfold ownerRingSet
  split <;> simp

@[simp] theorem takeRingSet_frame (payload : List Byte) (s : State) :
    (s.takeRingSet payload).node = s.node ∧ (s.takeRingSet payload).thrust = s.thrust ∧ (s.takeRingSet payload).drive
    = s.drive ∧ (s.takeRingSet payload).grout = s.grout ∧ (s.takeRingSet payload).muck = s.muck ∧ (s.takeRingSet
    payload).channels = s.channels ∧ (s.takeRingSet payload).overrides = s.overrides ∧ (s.takeRingSet
    payload).freeIndex = s.freeIndex ∧ (s.takeRingSet payload).pending = s.pending := by
  unfold takeRingSet
  dsimp only
  (repeat' split) <;> simp

end Sys2Proof.Machine.State
end

