-- ==== Sys2Proof/Laws/GroutFrames.lean ====
section
/-! SUPPORT. For each operation of Machine/Grout.lean, the parts of State it leaves as they are. -/

namespace Sys2Proof.Machine.State

@[simp] theorem completeDose_frame (n : Nat) (s : State) :
    (s.completeDose n).link = s.link ∧ (s.completeDose n).node = s.node ∧ (s.completeDose n).machine = s.machine ∧
    (s.completeDose n).thrust = s.thrust ∧ (s.completeDose n).drive = s.drive ∧ (s.completeDose n).plans = s.plans ∧
    (s.completeDose n).engine = s.engine ∧ (s.completeDose n).muck = s.muck ∧ (s.completeDose n).channels = s.channels
    ∧ (s.completeDose n).overrides = s.overrides ∧ (s.completeDose n).freeIndex = s.freeIndex ∧ (s.completeDose
    n).pending = s.pending := by
  simp [completeDose]

@[simp] theorem creditStroke_frame (d : Dose) (s : State) :
    (s.creditStroke d).node = s.node ∧ (s.creditStroke d).machine = s.machine ∧ (s.creditStroke d).drive = s.drive ∧
    (s.creditStroke d).plans = s.plans ∧ (s.creditStroke d).muck = s.muck ∧ (s.creditStroke d).channels = s.channels ∧
    (s.creditStroke d).overrides = s.overrides ∧ (s.creditStroke d).freeIndex = s.freeIndex ∧ (s.creditStroke
    d).pending = s.pending := by
  simp [creditStroke]

@[simp] theorem takeStroke_frame (s : State) :
    s.takeStroke.node = s.node ∧ s.takeStroke.machine = s.machine ∧ s.takeStroke.drive = s.drive ∧ s.takeStroke.plans
    = s.plans ∧ s.takeStroke.muck = s.muck ∧ s.takeStroke.channels = s.channels ∧ s.takeStroke.overrides = s.overrides
    ∧ s.takeStroke.freeIndex = s.freeIndex ∧ s.takeStroke.pending = s.pending := by
  unfold takeStroke
  dsimp only
  (repeat' split) <;> simp

@[simp] theorem cutDose_frame (n : Nat) (s : State) :
    (s.cutDose n).link = s.link ∧ (s.cutDose n).node = s.node ∧ (s.cutDose n).machine = s.machine ∧ (s.cutDose
    n).thrust = s.thrust ∧ (s.cutDose n).drive = s.drive ∧ (s.cutDose n).plans = s.plans ∧ (s.cutDose n).engine =
    s.engine ∧ (s.cutDose n).muck = s.muck ∧ (s.cutDose n).channels = s.channels ∧ (s.cutDose n).overrides =
    s.overrides ∧ (s.cutDose n).freeIndex = s.freeIndex ∧ (s.cutDose n).pending = s.pending := by
  unfold cutDose
  dsimp only
  (repeat' split) <;> simp

@[simp] theorem takeLinePressure_frame (kPa : Half) (s : State) :
    (s.takeLinePressure kPa).link = s.link ∧ (s.takeLinePressure kPa).node = s.node ∧ (s.takeLinePressure kPa).machine
    = s.machine ∧ (s.takeLinePressure kPa).thrust = s.thrust ∧ (s.takeLinePressure kPa).drive = s.drive ∧
    (s.takeLinePressure kPa).plans = s.plans ∧ (s.takeLinePressure kPa).engine = s.engine ∧ (s.takeLinePressure
    kPa).muck = s.muck ∧ (s.takeLinePressure kPa).overrides = s.overrides ∧ (s.takeLinePressure kPa).freeIndex =
    s.freeIndex ∧ (s.takeLinePressure kPa).pending = s.pending := by
  unfold takeLinePressure
  dsimp only
  (repeat' split) <;> simp

@[simp] theorem takeAtRest_frame (atRest : Bool) (s : State) :
    (s.takeAtRest atRest).link = s.link ∧ (s.takeAtRest atRest).node = s.node ∧ (s.takeAtRest atRest).machine =
    s.machine ∧ (s.takeAtRest atRest).thrust = s.thrust ∧ (s.takeAtRest atRest).drive = s.drive ∧ (s.takeAtRest
    atRest).plans = s.plans ∧ (s.takeAtRest atRest).engine = s.engine ∧ (s.takeAtRest atRest).muck = s.muck ∧
    (s.takeAtRest atRest).overrides = s.overrides ∧ (s.takeAtRest atRest).console = s.console ∧ (s.takeAtRest
    atRest).freeIndex = s.freeIndex ∧ (s.takeAtRest atRest).pending = s.pending := by
  unfold takeAtRest
  split <;> simp

@[simp] theorem doseLimitReached_frame (s : State) :
    s.doseLimitReached.channels = s.channels ∧ s.doseLimitReached.overrides = s.overrides ∧
    s.doseLimitReached.freeIndex = s.freeIndex ∧ s.doseLimitReached.pending = s.pending := by
  simp [doseLimitReached]

@[simp] theorem serveUnblock_frame  (station : Station) (addressed : Bool) (args : List Byte) (s : State) :
    (s.serveUnblock station addressed args).node = s.node ∧ (s.serveUnblock station addressed args).machine =
    s.machine ∧ (s.serveUnblock station addressed args).thrust = s.thrust ∧ (s.serveUnblock station addressed
    args).drive = s.drive ∧ (s.serveUnblock station addressed args).plans = s.plans ∧ (s.serveUnblock station
    addressed args).muck = s.muck ∧ (s.serveUnblock station addressed args).overrides = s.overrides ∧ (s.serveUnblock
    station addressed args).freeIndex = s.freeIndex ∧ (s.serveUnblock station addressed args).pending = s.pending := by
  simp only [serveUnblock, configuredOnly]
  (repeat' split) <;> simp

end Sys2Proof.Machine.State
end

