-- ==== Sys2Proof/Laws/MuckFrames.lean ====
section
/-! SUPPORT. For each operation of Machine/Muck.lean, the parts of State it leaves as they are. -/

namespace Sys2Proof.Machine.State

@[simp] theorem takeScrewReport_frame (fault : Bool) (s : State) :
    (s.takeScrewReport fault).overrides = s.overrides ∧ (s.takeScrewReport fault).freeIndex = s.freeIndex ∧
    (s.takeScrewReport fault).pending = s.pending := by
  unfold takeScrewReport
  dsimp only
  (repeat' split) <;> simp

@[simp] theorem testFaceHigh_frame (kPa : Half) (s : State) :
    (s.testFaceHigh kPa).node = s.node ∧ (s.testFaceHigh kPa).machine = s.machine ∧ (s.testFaceHigh kPa).drive =
    s.drive ∧ (s.testFaceHigh kPa).plans = s.plans ∧ (s.testFaceHigh kPa).grout = s.grout ∧ (s.testFaceHigh
    kPa).channels = s.channels ∧ (s.testFaceHigh kPa).overrides = s.overrides ∧ (s.testFaceHigh kPa).freeIndex =
    s.freeIndex ∧ (s.testFaceHigh kPa).pending = s.pending := by
  unfold testFaceHigh
  (repeat' split) <;> simp

@[simp] theorem testFaceLow_frame (kPa : Half) (s : State) :
    (s.testFaceLow kPa).node = s.node ∧ (s.testFaceLow kPa).channels = s.channels ∧ (s.testFaceLow kPa).overrides =
    s.overrides ∧ (s.testFaceLow kPa).freeIndex = s.freeIndex ∧ (s.testFaceLow kPa).pending = s.pending := by
  unfold testFaceLow
  (repeat' split) <;> simp

@[simp] theorem testFace_frame (s : State) :
    s.testFace.node = s.node ∧ s.testFace.channels = s.channels ∧ s.testFace.overrides = s.overrides ∧
    s.testFace.freeIndex = s.freeIndex ∧ s.testFace.pending = s.pending := by
  unfold testFace
  split <;> simp

@[simp] theorem takeFacePressure_frame (kPa : Half) (s : State) :
    (s.takeFacePressure kPa).node = s.node ∧ (s.takeFacePressure kPa).overrides = s.overrides ∧ (s.takeFacePressure
    kPa).freeIndex = s.freeIndex ∧ (s.takeFacePressure kPa).pending = s.pending := by
  unfold takeFacePressure
  dsimp only
  (repeat' split) <;> simp

@[simp] theorem weigh_frame (m : Nat) (s : State) :
    (s.weigh m).link = s.link ∧ (s.weigh m).node = s.node ∧ (s.weigh m).machine = s.machine ∧ (s.weigh m).thrust =
    s.thrust ∧ (s.weigh m).drive = s.drive ∧ (s.weigh m).plans = s.plans ∧ (s.weigh m).engine = s.engine ∧ (s.weigh
    m).grout = s.grout ∧ (s.weigh m).channels = s.channels ∧ (s.weigh m).overrides = s.overrides ∧ (s.weigh m).console
    = s.console ∧ (s.weigh m).pending = s.pending := by
  simp [weigh]

@[simp] theorem testDue_frame (s : State) :
    s.testDue.link = s.link ∧ s.testDue.node = s.node ∧ s.testDue.machine = s.machine ∧ s.testDue.thrust = s.thrust ∧
    s.testDue.drive = s.drive ∧ s.testDue.plans = s.plans ∧ s.testDue.engine = s.engine ∧ s.testDue.grout = s.grout ∧
    s.testDue.channels = s.channels ∧ s.testDue.overrides = s.overrides ∧ s.testDue.freeIndex = s.freeIndex ∧
    s.testDue.pending = s.pending := by
  unfold testDue
  (repeat' split) <;> simp

@[simp] theorem testSpill_frame (before : Nat) (s : State) :
    (s.testSpill before).node = s.node ∧ (s.testSpill before).channels = s.channels ∧ (s.testSpill before).overrides =
    s.overrides ∧ (s.testSpill before).freeIndex = s.freeIndex ∧ (s.testSpill before).pending = s.pending := by
  unfold testSpill
  split <;> simp

@[simp] theorem takeIncrement_frame (m : Nat) (s : State) :
    (s.takeIncrement m).node = s.node ∧ (s.takeIncrement m).channels = s.channels ∧ (s.takeIncrement m).overrides =
    s.overrides ∧ (s.takeIncrement m).pending = s.pending := by
  unfold takeIncrement
  split <;> simp

@[simp] theorem appendCars_frame (cars : List Car) (s : State) :
    (s.appendCars cars).link = s.link ∧ (s.appendCars cars).node = s.node ∧ (s.appendCars cars).machine = s.machine ∧
    (s.appendCars cars).thrust = s.thrust ∧ (s.appendCars cars).drive = s.drive ∧ (s.appendCars cars).plans = s.plans
    ∧ (s.appendCars cars).engine = s.engine ∧ (s.appendCars cars).grout = s.grout ∧ (s.appendCars cars).channels =
    s.channels ∧ (s.appendCars cars).overrides = s.overrides ∧ (s.appendCars cars).console = s.console ∧ (s.appendCars
    cars).freeIndex = s.freeIndex ∧ (s.appendCars cars).pending = s.pending := by
  unfold appendCars
  split <;> simp

@[simp] theorem trainArrives_frame (station : Station) (capacity : Nat) (numbers : List Nat) (s : State) :
    (s.trainArrives station capacity numbers).node = s.node ∧ (s.trainArrives station capacity numbers).machine =
    s.machine ∧ (s.trainArrives station capacity numbers).drive = s.drive ∧ (s.trainArrives station capacity
    numbers).plans = s.plans ∧ (s.trainArrives station capacity numbers).grout = s.grout ∧ (s.trainArrives station
    capacity numbers).channels = s.channels ∧ (s.trainArrives station capacity numbers).overrides = s.overrides ∧
    (s.trainArrives station capacity numbers).freeIndex = s.freeIndex ∧ (s.trainArrives station capacity
    numbers).pending = s.pending := by
  unfold trainArrives
  (repeat' split) <;> simp

@[simp] theorem serveTrainArrive_frame  (station : Station) (addressed : Bool) (args : List Byte) (s : State) :
    (s.serveTrainArrive station addressed args).node = s.node ∧ (s.serveTrainArrive station addressed args).machine =
    s.machine ∧ (s.serveTrainArrive station addressed args).drive = s.drive ∧ (s.serveTrainArrive station addressed
    args).plans = s.plans ∧ (s.serveTrainArrive station addressed args).grout = s.grout ∧ (s.serveTrainArrive station
    addressed args).channels = s.channels ∧ (s.serveTrainArrive station addressed args).overrides = s.overrides ∧
    (s.serveTrainArrive station addressed args).freeIndex = s.freeIndex ∧ (s.serveTrainArrive station addressed
    args).pending = s.pending := by
  simp only [serveTrainArrive, muckService]
  (repeat' split) <;> simp

@[simp] theorem indexHead_frame (n : Nat) (rest : List Car) (s : State) :
    (s.indexHead n rest).link = s.link ∧ (s.indexHead n rest).node = s.node ∧ (s.indexHead n rest).machine = s.machine
    ∧ (s.indexHead n rest).thrust = s.thrust ∧ (s.indexHead n rest).drive = s.drive ∧ (s.indexHead n rest).plans =
    s.plans ∧ (s.indexHead n rest).engine = s.engine ∧ (s.indexHead n rest).grout = s.grout ∧ (s.indexHead n
    rest).channels = s.channels ∧ (s.indexHead n rest).overrides = s.overrides ∧ (s.indexHead n rest).console =
    s.console ∧ (s.indexHead n rest).freeIndex = s.freeIndex ∧ (s.indexHead n rest).pending = s.pending := by
  simp [indexHead]

@[simp] theorem carIndexed_frame (station : Station) (n : Nat) (s : State) :
    (s.carIndexed station n).node = s.node ∧ (s.carIndexed station n).machine = s.machine ∧ (s.carIndexed station
    n).drive = s.drive ∧ (s.carIndexed station n).plans = s.plans ∧ (s.carIndexed station n).grout = s.grout ∧
    (s.carIndexed station n).channels = s.channels ∧ (s.carIndexed station n).overrides = s.overrides ∧ (s.carIndexed
    station n).freeIndex = s.freeIndex ∧ (s.carIndexed station n).pending = s.pending := by
  unfold carIndexed
  (repeat' split) <;> simp

@[simp] theorem serveCarIndexed_frame  (station : Station) (addressed : Bool) (args : List Byte) (s : State) :
    (s.serveCarIndexed station addressed args).node = s.node ∧ (s.serveCarIndexed station addressed args).machine =
    s.machine ∧ (s.serveCarIndexed station addressed args).drive = s.drive ∧ (s.serveCarIndexed station addressed
    args).plans = s.plans ∧ (s.serveCarIndexed station addressed args).grout = s.grout ∧ (s.serveCarIndexed station
    addressed args).channels = s.channels ∧ (s.serveCarIndexed station addressed args).overrides = s.overrides ∧
    (s.serveCarIndexed station addressed args).freeIndex = s.freeIndex ∧ (s.serveCarIndexed station addressed
    args).pending = s.pending := by
  simp only [serveCarIndexed, muckService]
  (repeat' split) <;> simp

@[simp] theorem excuse_frame (s : State) :
    s.excuse.node = s.node ∧ s.excuse.channels = s.channels ∧ s.excuse.overrides = s.overrides ∧ s.excuse.freeIndex =
    s.freeIndex ∧ s.excuse.pending = s.pending := by
  simp [excuse]

@[simp] theorem serveOverdigExcuse_frame  (station : Station) (addressed : Bool) (args : List Byte) (s : State) :
    (s.serveOverdigExcuse station addressed args).node = s.node ∧ (s.serveOverdigExcuse station addressed
    args).channels = s.channels ∧ (s.serveOverdigExcuse station addressed args).overrides = s.overrides ∧
    (s.serveOverdigExcuse station addressed args).freeIndex = s.freeIndex ∧ (s.serveOverdigExcuse station addressed
    args).pending = s.pending := by
  simp only [serveOverdigExcuse, muckService]
  (repeat' split) <;> simp

end Sys2Proof.Machine.State
end

