-- ==== Sys2Proof/Laws/OverridesFrames.lean ====
section
/-! SUPPORT. For each operation of Machine/Overrides.lean, the parts of State it leaves as they are. -/

namespace Sys2Proof.Machine.State

@[simp] theorem enterOverride_frame (e : OverrideEntry) (s : State) :
    (s.enterOverride e).link = s.link ∧ (s.enterOverride e).node = s.node ∧ (s.enterOverride e).machine = s.machine ∧
    (s.enterOverride e).thrust = s.thrust ∧ (s.enterOverride e).drive = s.drive ∧ (s.enterOverride e).plans = s.plans
    ∧ (s.enterOverride e).engine = s.engine ∧ (s.enterOverride e).grout = s.grout ∧ (s.enterOverride e).muck = s.muck
    ∧ (s.enterOverride e).channels = s.channels ∧ (s.enterOverride e).console = s.console ∧ (s.enterOverride
    e).freeIndex = s.freeIndex ∧ (s.enterOverride e).pending = s.pending := by
  unfold enterOverride
  split <;> simp

@[simp] theorem cylinderPinChanged_frame (n : Nat) (s : State) :
    (s.cylinderPinChanged n).node = s.node ∧ (s.cylinderPinChanged n).overrides = s.overrides ∧ (s.cylinderPinChanged
    n).freeIndex = s.freeIndex ∧ (s.cylinderPinChanged n).pending = s.pending := by
  unfold cylinderPinChanged
  dsimp only
  (repeat' split) <;> simp

@[simp] theorem shutPort_frame (n : Nat) (s : State) :
    (s.shutPort n).link = s.link ∧ (s.shutPort n).node = s.node ∧ (s.shutPort n).machine = s.machine ∧ (s.shutPort
    n).thrust = s.thrust ∧ (s.shutPort n).drive = s.drive ∧ (s.shutPort n).plans = s.plans ∧ (s.shutPort n).engine =
    s.engine ∧ (s.shutPort n).muck = s.muck ∧ (s.shutPort n).overrides = s.overrides ∧ (s.shutPort n).console =
    s.console ∧ (s.shutPort n).freeIndex = s.freeIndex ∧ (s.shutPort n).pending = s.pending := by
  unfold shutPort
  (repeat' split) <;> simp

@[simp] theorem applyForced_frame (forced : ForcedState) (n : Nat) (s : State) :
    (s.applyForced forced n).node = s.node ∧ (s.applyForced forced n).overrides = s.overrides ∧ (s.applyForced forced
    n).freeIndex = s.freeIndex ∧ (s.applyForced forced n).pending = s.pending := by
  unfold applyForced
  split <;> simp

@[simp] theorem serveOverride_frame  (station : Station) (addressed : Bool) (args : List Byte) (s : State) :
    (s.serveOverride station addressed args).node = s.node ∧ (s.serveOverride station addressed args).freeIndex =
    s.freeIndex ∧ (s.serveOverride station addressed args).pending = s.pending := by
  simp only [serveOverride, configuredOnly]
  (repeat' split) <;> simp

@[simp] theorem cancelEntry_frame (e : OverrideEntry) (s : State) :
    (s.cancelEntry e).node = s.node ∧ (s.cancelEntry e).freeIndex = s.freeIndex ∧ (s.cancelEntry e).pending =
    s.pending := by
  unfold cancelEntry
  split <;> simp

@[simp] theorem cancelEntries_frame (es : List OverrideEntry) (s : State) :
    (s.cancelEntries es).node = s.node ∧ (s.cancelEntries es).freeIndex = s.freeIndex ∧ (s.cancelEntries es).pending =
    s.pending := by
  unfold cancelEntries
  induction es generalizing s with
  | nil => simp
  | cons x xs ih => simp [ih]

@[simp] theorem serveOverrideCancel_frame  (station : Station) (addressed : Bool) (args : List Byte) (s : State) :
    (s.serveOverrideCancel station addressed args).node = s.node ∧ (s.serveOverrideCancel station addressed
    args).freeIndex = s.freeIndex ∧ (s.serveOverrideCancel station addressed args).pending = s.pending := by
  simp only [serveOverrideCancel, configuredOnly]
  (repeat' split) <;> simp

end Sys2Proof.Machine.State
end

