-- ==== Sys2Proof/Laws/ConsoleFrames.lean ====
section
/-! SUPPORT. For each operation of Machine/Console.lean, the parts of State it leaves as they are. -/

namespace Sys2Proof.Machine.State

@[simp] theorem queuePart_frame (station : Station) (service : Byte) (k n : Nat) (values : List Value) (s : State) :
    (s.queuePart station service k n values).node = s.node ∧ (s.queuePart station service k n values).machine =
    s.machine ∧ (s.queuePart station service k n values).thrust = s.thrust ∧ (s.queuePart station service k n
    values).drive = s.drive ∧ (s.queuePart station service k n values).plans = s.plans ∧ (s.queuePart station service
    k n values).grout = s.grout ∧ (s.queuePart station service k n values).muck = s.muck ∧ (s.queuePart station
    service k n values).channels = s.channels ∧ (s.queuePart station service k n values).overrides = s.overrides ∧
    (s.queuePart station service k n values).freeIndex = s.freeIndex ∧ (s.queuePart station service k n
    values).pending = s.pending := by
  simp [queuePart]

@[simp] theorem startDataReply_frame (station : Station) (service : Service) (values : List Value) (s : State) :
    (s.startDataReply station service values).node = s.node ∧ (s.startDataReply station service values).machine =
    s.machine ∧ (s.startDataReply station service values).thrust = s.thrust ∧ (s.startDataReply station service
    values).drive = s.drive ∧ (s.startDataReply station service values).plans = s.plans ∧ (s.startDataReply station
    service values).grout = s.grout ∧ (s.startDataReply station service values).muck = s.muck ∧ (s.startDataReply
    station service values).channels = s.channels ∧ (s.startDataReply station service values).overrides = s.overrides
    ∧ (s.startDataReply station service values).freeIndex = s.freeIndex ∧ (s.startDataReply station service
    values).pending = s.pending := by
  simp [startDataReply]

@[simp] theorem nextPart_frame (s : State) :
    s.nextPart.node = s.node ∧ s.nextPart.machine = s.machine ∧ s.nextPart.thrust = s.thrust ∧ s.nextPart.drive =
    s.drive ∧ s.nextPart.plans = s.plans ∧ s.nextPart.grout = s.grout ∧ s.nextPart.muck = s.muck ∧ s.nextPart.channels
    = s.channels ∧ s.nextPart.overrides = s.overrides ∧ s.nextPart.freeIndex = s.freeIndex ∧ s.nextPart.pending =
    s.pending := by
  unfold nextPart
  (repeat' split) <;> simp

@[simp] theorem readItems_frame (station : Station) (c : ReadClass) (first count : Nat) (s : State) :
    (s.readItems station c first count).node = s.node ∧ (s.readItems station c first count).machine = s.machine ∧
    (s.readItems station c first count).thrust = s.thrust ∧ (s.readItems station c first count).drive = s.drive ∧
    (s.readItems station c first count).plans = s.plans ∧ (s.readItems station c first count).grout = s.grout ∧
    (s.readItems station c first count).muck = s.muck ∧ (s.readItems station c first count).channels = s.channels ∧
    (s.readItems station c first count).overrides = s.overrides ∧ (s.readItems station c first count).freeIndex =
    s.freeIndex ∧ (s.readItems station c first count).pending = s.pending := by
  unfold readItems
  (repeat' split) <;> simp

@[simp] theorem serveRead_frame  (station : Station) (addressed : Bool) (args : List Byte) (s : State) :
    (s.serveRead station addressed args).node = s.node ∧ (s.serveRead station addressed args).machine = s.machine ∧
    (s.serveRead station addressed args).thrust = s.thrust ∧ (s.serveRead station addressed args).drive = s.drive ∧
    (s.serveRead station addressed args).plans = s.plans ∧ (s.serveRead station addressed args).grout = s.grout ∧
    (s.serveRead station addressed args).muck = s.muck ∧ (s.serveRead station addressed args).channels = s.channels ∧
    (s.serveRead station addressed args).overrides = s.overrides ∧ (s.serveRead station addressed args).freeIndex =
    s.freeIndex ∧ (s.serveRead station addressed args).pending = s.pending := by
  simp only [serveRead]
  (repeat' split) <;> simp

@[simp] theorem serveWatchSet_frame  (station : Station) (addressed : Bool) (args : List Byte) (s : State) :
    (s.serveWatchSet station addressed args).node = s.node ∧ (s.serveWatchSet station addressed args).machine =
    s.machine ∧ (s.serveWatchSet station addressed args).thrust = s.thrust ∧ (s.serveWatchSet station addressed
    args).drive = s.drive ∧ (s.serveWatchSet station addressed args).plans = s.plans ∧ (s.serveWatchSet station
    addressed args).grout = s.grout ∧ (s.serveWatchSet station addressed args).muck = s.muck ∧ (s.serveWatchSet
    station addressed args).channels = s.channels ∧ (s.serveWatchSet station addressed args).overrides = s.overrides ∧
    (s.serveWatchSet station addressed args).freeIndex = s.freeIndex ∧ (s.serveWatchSet station addressed
    args).pending = s.pending := by
  simp only [serveWatchSet]
  (repeat' split) <;> simp

@[simp] theorem serveWatchRead_frame  (station : Station) (addressed : Bool) (args : List Byte) (s : State) :
    (s.serveWatchRead station addressed args).node = s.node ∧ (s.serveWatchRead station addressed args).machine =
    s.machine ∧ (s.serveWatchRead station addressed args).thrust = s.thrust ∧ (s.serveWatchRead station addressed
    args).drive = s.drive ∧ (s.serveWatchRead station addressed args).plans = s.plans ∧ (s.serveWatchRead station
    addressed args).grout = s.grout ∧ (s.serveWatchRead station addressed args).muck = s.muck ∧ (s.serveWatchRead
    station addressed args).channels = s.channels ∧ (s.serveWatchRead station addressed args).overrides = s.overrides
    ∧ (s.serveWatchRead station addressed args).freeIndex = s.freeIndex ∧ (s.serveWatchRead station addressed
    args).pending = s.pending := by
  simp only [serveWatchRead]
  (repeat' split) <;> simp

@[simp] theorem serveNotices_frame  (station : Station) (addressed : Bool) (args : List Byte) (s : State) :
    (s.serveNotices station addressed args).node = s.node ∧ (s.serveNotices station addressed args).machine =
    s.machine ∧ (s.serveNotices station addressed args).thrust = s.thrust ∧ (s.serveNotices station addressed
    args).drive = s.drive ∧ (s.serveNotices station addressed args).plans = s.plans ∧ (s.serveNotices station
    addressed args).grout = s.grout ∧ (s.serveNotices station addressed args).muck = s.muck ∧ (s.serveNotices station
    addressed args).channels = s.channels ∧ (s.serveNotices station addressed args).overrides = s.overrides ∧
    (s.serveNotices station addressed args).freeIndex = s.freeIndex ∧ (s.serveNotices station addressed args).pending
    = s.pending := by
  simp only [serveNotices]
  (repeat' split) <;> simp

@[simp] theorem serveEcho_frame  (station : Station) (addressed : Bool) (args : List Byte) (s : State) :
    (s.serveEcho station addressed args).node = s.node ∧ (s.serveEcho station addressed args).machine = s.machine ∧
    (s.serveEcho station addressed args).thrust = s.thrust ∧ (s.serveEcho station addressed args).drive = s.drive ∧
    (s.serveEcho station addressed args).plans = s.plans ∧ (s.serveEcho station addressed args).grout = s.grout ∧
    (s.serveEcho station addressed args).muck = s.muck ∧ (s.serveEcho station addressed args).channels = s.channels ∧
    (s.serveEcho station addressed args).overrides = s.overrides ∧ (s.serveEcho station addressed args).freeIndex =
    s.freeIndex ∧ (s.serveEcho station addressed args).pending = s.pending := by
  simp only [serveEcho]
  (repeat' split) <;> simp

@[simp] theorem serveUnknown_frame (service : Byte) (station : Station) (addressed : Bool) (args : List Byte) (s :
State) :
    (s.serveUnknown service station addressed args).node = s.node ∧ (s.serveUnknown service station addressed
    args).machine = s.machine ∧ (s.serveUnknown service station addressed args).thrust = s.thrust ∧ (s.serveUnknown
    service station addressed args).drive = s.drive ∧ (s.serveUnknown service station addressed args).plans = s.plans
    ∧ (s.serveUnknown service station addressed args).grout = s.grout ∧ (s.serveUnknown service station addressed
    args).muck = s.muck ∧ (s.serveUnknown service station addressed args).channels = s.channels ∧ (s.serveUnknown
    service station addressed args).overrides = s.overrides ∧ (s.serveUnknown service station addressed
    args).freeIndex = s.freeIndex ∧ (s.serveUnknown service station addressed args).pending = s.pending := by
  simp only [serveUnknown]
  simp

end Sys2Proof.Machine.State
end

