-- ==== Sys2Proof/Laws/ConfigurationFrames.lean ====
section
/-! SUPPORT. For each operation of Machine/Configuration.lean, the parts of State it leaves as they are. -/

namespace Sys2Proof.Machine.State

@[simp] theorem rejectCollection_frame (r : Rejection) (s : State) :
    (s.rejectCollection r).link = s.link ∧ (s.rejectCollection r).machine = s.machine ∧ (s.rejectCollection r).thrust
    = s.thrust ∧ (s.rejectCollection r).drive = s.drive ∧ (s.rejectCollection r).plans = s.plans ∧ (s.rejectCollection
    r).engine = s.engine ∧ (s.rejectCollection r).grout = s.grout ∧ (s.rejectCollection r).muck = s.muck ∧
    (s.rejectCollection r).channels = s.channels ∧ (s.rejectCollection r).overrides = s.overrides ∧
    (s.rejectCollection r).pending = s.pending := by
  simp [rejectCollection]

@[simp] theorem buildEngine_frame (s : State) :
    s.buildEngine.channels = s.channels ∧ s.buildEngine.overrides = s.overrides ∧ s.buildEngine.freeIndex =
    s.freeIndex ∧ s.buildEngine.pending = s.pending := by
  unfold buildEngine
  dsimp only
  (repeat' split) <;> simp

@[simp] theorem buildGrout_frame (s : State) :
    s.buildGrout.link = s.link ∧ s.buildGrout.node = s.node ∧ s.buildGrout.machine = s.machine ∧ s.buildGrout.thrust =
    s.thrust ∧ s.buildGrout.drive = s.drive ∧ s.buildGrout.plans = s.plans ∧ s.buildGrout.engine = s.engine ∧
    s.buildGrout.muck = s.muck ∧ s.buildGrout.channels = s.channels ∧ s.buildGrout.overrides = s.overrides ∧
    s.buildGrout.console = s.console ∧ s.buildGrout.freeIndex = s.freeIndex ∧ s.buildGrout.pending = s.pending := by
  simp [buildGrout]

@[simp] theorem buildMuck_frame (s : State) :
    s.buildMuck.channels = s.channels ∧ s.buildMuck.overrides = s.overrides ∧ s.buildMuck.freeIndex = s.freeIndex ∧
    s.buildMuck.pending = s.pending := by
  unfold buildMuck
  dsimp only
  (repeat' split) <;> simp

@[simp] theorem buildUnits_frame (s : State) :
    s.buildUnits.channels = s.channels ∧ s.buildUnits.overrides = s.overrides ∧ s.buildUnits.freeIndex = s.freeIndex ∧
    s.buildUnits.pending = s.pending := by
  simp [buildUnits]

@[simp] theorem enterJoining_frame (s : State) :
    s.enterJoining.thrust = s.thrust ∧ s.enterJoining.drive = s.drive ∧ s.enterJoining.plans = s.plans ∧
    s.enterJoining.grout = s.grout ∧ s.enterJoining.muck = s.muck ∧ s.enterJoining.channels = s.channels ∧
    s.enterJoining.overrides = s.overrides ∧ s.enterJoining.freeIndex = s.freeIndex ∧ s.enterJoining.pending =
    s.pending := by
  simp [enterJoining]

@[simp] theorem storeConfiguration_frame (c : Configuration) (digest : Half) (s : State) :
    (s.storeConfiguration c digest).channels = s.channels ∧ (s.storeConfiguration c digest).overrides = s.overrides ∧
    (s.storeConfiguration c digest).freeIndex = s.freeIndex ∧ (s.storeConfiguration c digest).pending = s.pending := by
  simp [storeConfiguration]

@[simp] theorem validate_frame (count : Nat) (parts : List (List Byte)) (s : State) :
    (s.validate count parts).channels = s.channels ∧ (s.validate count parts).overrides = s.overrides ∧ (s.validate
    count parts).pending = s.pending := by
  unfold validate
  (repeat' split) <;> simp

@[simp] theorem partOutOfTurn_frame (s : State) :
    s.partOutOfTurn.link = s.link ∧ s.partOutOfTurn.machine = s.machine ∧ s.partOutOfTurn.thrust = s.thrust ∧
    s.partOutOfTurn.drive = s.drive ∧ s.partOutOfTurn.plans = s.plans ∧ s.partOutOfTurn.engine = s.engine ∧
    s.partOutOfTurn.grout = s.grout ∧ s.partOutOfTurn.muck = s.muck ∧ s.partOutOfTurn.channels = s.channels ∧
    s.partOutOfTurn.overrides = s.overrides ∧ s.partOutOfTurn.freeIndex = s.freeIndex ∧ s.partOutOfTurn.pending =
    s.pending := by
  simp [partOutOfTurn]

@[simp] theorem holdPart_frame (sender : Station) (count : Nat) (parts : List (List Byte)) (s : State) :
    (s.holdPart sender count parts).channels = s.channels ∧ (s.holdPart sender count parts).overrides = s.overrides ∧
    (s.holdPart sender count parts).pending = s.pending := by
  unfold holdPart
  split <;> simp

@[simp] theorem takePart_frame (sender : Station) (k n : Nat) (content : List Byte) (s : State) :
    (s.takePart sender k n content).channels = s.channels ∧ (s.takePart sender k n content).overrides = s.overrides ∧
    (s.takePart sender k n content).pending = s.pending := by
  unfold takePart
  (repeat' split) <;> simp

@[simp] theorem takeConfigure_frame (sender : Station) (payload : List Byte) (s : State) :
    (s.takeConfigure sender payload).channels = s.channels ∧ (s.takeConfigure sender payload).overrides = s.overrides
    ∧ (s.takeConfigure sender payload).pending = s.pending := by
  unfold takeConfigure
  (repeat' split) <;> simp

@[simp] theorem restartLink_frame (s : State) :
    s.restartLink.node = s.node ∧ s.restartLink.machine = s.machine ∧ s.restartLink.thrust = s.thrust ∧
    s.restartLink.drive = s.drive ∧ s.restartLink.plans = s.plans ∧ s.restartLink.grout = s.grout ∧ s.restartLink.muck
    = s.muck ∧ s.restartLink.channels = s.channels ∧ s.restartLink.overrides = s.overrides ∧ s.restartLink.freeIndex =
    s.freeIndex ∧ s.restartLink.pending = s.pending := by
  simp [restartLink]

@[simp] theorem restartEngine_frame (s : State) :
    s.restartEngine.link = s.link ∧ s.restartEngine.node = s.node ∧ s.restartEngine.machine = s.machine ∧
    s.restartEngine.thrust = s.thrust ∧ s.restartEngine.drive = s.drive ∧ s.restartEngine.grout = s.grout ∧
    s.restartEngine.muck = s.muck ∧ s.restartEngine.channels = s.channels ∧ s.restartEngine.overrides = s.overrides ∧
    s.restartEngine.console = s.console ∧ s.restartEngine.freeIndex = s.freeIndex ∧ s.restartEngine.pending =
    s.pending := by
  unfold restartEngine
  split <;> simp

@[simp] theorem clearPump_frame (s : State) :
    s.clearPump.link = s.link ∧ s.clearPump.node = s.node ∧ s.clearPump.machine = s.machine ∧ s.clearPump.thrust =
    s.thrust ∧ s.clearPump.drive = s.drive ∧ s.clearPump.plans = s.plans ∧ s.clearPump.engine = s.engine ∧
    s.clearPump.muck = s.muck ∧ s.clearPump.channels = s.channels ∧ s.clearPump.overrides = s.overrides ∧
    s.clearPump.console = s.console ∧ s.clearPump.freeIndex = s.freeIndex ∧ s.clearPump.pending = s.pending := by
  unfold clearPump
  split <;> simp

@[simp] theorem restartUnits_frame (s : State) :
    s.restartUnits.link = s.link ∧ s.restartUnits.node = s.node ∧ s.restartUnits.machine = s.machine ∧
    s.restartUnits.muck = s.muck ∧ s.restartUnits.channels = s.channels ∧ s.restartUnits.overrides = s.overrides ∧
    s.restartUnits.freeIndex = s.freeIndex ∧ s.restartUnits.pending = s.pending := by
  simp [restartUnits]

@[simp] theorem warmRestart_frame (s : State) :
    s.warmRestart.freeIndex = s.freeIndex ∧ s.warmRestart.pending = s.pending := by
  simp [warmRestart]

@[simp] theorem takeRestart_frame (s : State) :
    s.takeRestart.freeIndex = s.freeIndex ∧ s.takeRestart.pending = s.pending := by
  unfold takeRestart
  split <;> simp

@[simp] theorem releaseErector_frame (s : State) :
    s.releaseErector.channels = s.channels ∧ s.releaseErector.overrides = s.overrides ∧ s.releaseErector.freeIndex =
    s.freeIndex ∧ s.releaseErector.pending = s.pending := by
  unfold releaseErector
  dsimp only
  (repeat' split) <;> simp

@[simp] theorem releaseScrew_frame (s : State) :
    s.releaseScrew.channels = s.channels ∧ s.releaseScrew.overrides = s.overrides ∧ s.releaseScrew.freeIndex =
    s.freeIndex ∧ s.releaseScrew.pending = s.pending := by
  unfold releaseScrew
  split <;> simp

@[simp] theorem clearUnits_frame (leavesFaulted : Bool) (s : State) :
    (s.clearUnits leavesFaulted).overrides = s.overrides ∧ (s.clearUnits leavesFaulted).freeIndex = s.freeIndex ∧
    (s.clearUnits leavesFaulted).pending = s.pending := by
  simp [clearUnits]

@[simp] theorem leaveFaulted_frame (s : State) :
    s.leaveFaulted.thrust = s.thrust ∧ s.leaveFaulted.drive = s.drive ∧ s.leaveFaulted.plans = s.plans ∧
    s.leaveFaulted.engine = s.engine ∧ s.leaveFaulted.grout = s.grout ∧ s.leaveFaulted.muck = s.muck ∧
    s.leaveFaulted.channels = s.channels ∧ s.leaveFaulted.overrides = s.overrides ∧ s.leaveFaulted.console = s.console
    ∧ s.leaveFaulted.freeIndex = s.freeIndex ∧ s.leaveFaulted.pending = s.pending := by
  unfold leaveFaulted
  dsimp only
  (repeat' split) <;> simp

@[simp] theorem clearsFault_frame (station : Station) (addressed : Bool) (s : State) :
    (s.clearsFault station addressed).overrides = s.overrides ∧ (s.clearsFault station addressed).freeIndex =
    s.freeIndex ∧ (s.clearsFault station addressed).pending = s.pending := by
  unfold clearsFault
  dsimp only
  (repeat' split) <;> simp

@[simp] theorem serveClearFault_frame  (station : Station) (addressed : Bool) (args : List Byte) (s : State) :
    (s.serveClearFault station addressed args).overrides = s.overrides ∧ (s.serveClearFault station addressed
    args).freeIndex = s.freeIndex ∧ (s.serveClearFault station addressed args).pending = s.pending := by
  simp only [serveClearFault]
  (repeat' split) <;> simp

end Sys2Proof.Machine.State
end

