-- ==== Sys2Proof/Laws/LinkFrames.lean ====
section
/-! SUPPORT. For each operation of Machine/Link.lean, the parts of State it leaves as they are. -/

namespace Sys2Proof.Machine.State

@[simp] theorem deliverOwn_frame (body : Body) (s : State) :
    (s.deliverOwn body).node = s.node ∧ (s.deliverOwn body).overrides = s.overrides ∧ (s.deliverOwn body).freeIndex =
    s.freeIndex ∧ (s.deliverOwn body).pending = s.pending := by
  unfold deliverOwn
  (repeat' split) <;> simp

@[simp] theorem startFrame_frame (s : State) :
    s.startFrame.node = s.node ∧ s.startFrame.machine = s.machine ∧ s.startFrame.thrust = s.thrust ∧
    s.startFrame.drive = s.drive ∧ s.startFrame.plans = s.plans ∧ s.startFrame.engine = s.engine ∧ s.startFrame.grout
    = s.grout ∧ s.startFrame.muck = s.muck ∧ s.startFrame.channels = s.channels ∧ s.startFrame.overrides = s.overrides
    ∧ s.startFrame.console = s.console ∧ s.startFrame.freeIndex = s.freeIndex ∧ s.startFrame.pending = s.pending := by
  unfold startFrame
  split <;> simp

@[simp] theorem returnLost_frame (f : TxFrame) (s : State) :
    (s.returnLost f).node = s.node ∧ (s.returnLost f).machine = s.machine ∧ (s.returnLost f).thrust = s.thrust ∧
    (s.returnLost f).drive = s.drive ∧ (s.returnLost f).plans = s.plans ∧ (s.returnLost f).grout = s.grout ∧
    (s.returnLost f).muck = s.muck ∧ (s.returnLost f).channels = s.channels ∧ (s.returnLost f).overrides = s.overrides
    ∧ (s.returnLost f).freeIndex = s.freeIndex ∧ (s.returnLost f).pending = s.pending := by
  unfold returnLost
  dsimp only
  (repeat' split) <;> simp

@[simp] theorem settleFrame_frame (contenders : List Key) (s : State) :
    (s.settleFrame contenders).node = s.node ∧ (s.settleFrame contenders).machine = s.machine ∧ (s.settleFrame
    contenders).thrust = s.thrust ∧ (s.settleFrame contenders).drive = s.drive ∧ (s.settleFrame contenders).plans =
    s.plans ∧ (s.settleFrame contenders).grout = s.grout ∧ (s.settleFrame contenders).muck = s.muck ∧ (s.settleFrame
    contenders).channels = s.channels ∧ (s.settleFrame contenders).overrides = s.overrides ∧ (s.settleFrame
    contenders).freeIndex = s.freeIndex ∧ (s.settleFrame contenders).pending = s.pending := by
  unfold settleFrame
  (repeat' split) <;> simp

@[simp] theorem closeCleared_frame (before : Bool) (s : State) :
    (s.closeCleared before).node = s.node ∧ (s.closeCleared before).machine = s.machine ∧ (s.closeCleared
    before).thrust = s.thrust ∧ (s.closeCleared before).drive = s.drive ∧ (s.closeCleared before).plans = s.plans ∧
    (s.closeCleared before).grout = s.grout ∧ (s.closeCleared before).muck = s.muck ∧ (s.closeCleared before).channels
    = s.channels ∧ (s.closeCleared before).overrides = s.overrides ∧ (s.closeCleared before).freeIndex = s.freeIndex ∧
    (s.closeCleared before).pending = s.pending := by
  unfold closeCleared
  split <;> simp

@[simp] theorem reportSent_frame (f : TxFrame) (s : State) :
    (s.reportSent f).node = s.node ∧ (s.reportSent f).machine = s.machine ∧ (s.reportSent f).thrust = s.thrust ∧
    (s.reportSent f).drive = s.drive ∧ (s.reportSent f).plans = s.plans ∧ (s.reportSent f).grout = s.grout ∧
    (s.reportSent f).muck = s.muck ∧ (s.reportSent f).channels = s.channels ∧ (s.reportSent f).overrides = s.overrides
    ∧ (s.reportSent f).freeIndex = s.freeIndex ∧ (s.reportSent f).pending = s.pending := by
  unfold reportSent
  (repeat' split) <;> simp

@[simp] theorem heardBack_frame (w : WireFrame) (s : State) :
    (s.heardBack w).node = s.node ∧ (s.heardBack w).overrides = s.overrides ∧ (s.heardBack w).freeIndex = s.freeIndex
    ∧ (s.heardBack w).pending = s.pending := by
  simp [heardBack]

@[simp] theorem wireEnds_frame (f : TxFrame) (e : Ending) (s : State) :
    (s.wireEnds f e).node = s.node ∧ (s.wireEnds f e).machine = s.machine ∧ (s.wireEnds f e).thrust = s.thrust ∧
    (s.wireEnds f e).drive = s.drive ∧ (s.wireEnds f e).plans = s.plans ∧ (s.wireEnds f e).grout = s.grout ∧
    (s.wireEnds f e).muck = s.muck ∧ (s.wireEnds f e).channels = s.channels ∧ (s.wireEnds f e).overrides = s.overrides
    ∧ (s.wireEnds f e).freeIndex = s.freeIndex ∧ (s.wireEnds f e).pending = s.pending := by
  simp [wireEnds]

@[simp] theorem inheritFailures_frame (n : Nat) (s : State) :
    (s.inheritFailures n).node = s.node ∧ (s.inheritFailures n).machine = s.machine ∧ (s.inheritFailures n).thrust =
    s.thrust ∧ (s.inheritFailures n).drive = s.drive ∧ (s.inheritFailures n).plans = s.plans ∧ (s.inheritFailures
    n).engine = s.engine ∧ (s.inheritFailures n).grout = s.grout ∧ (s.inheritFailures n).muck = s.muck ∧
    (s.inheritFailures n).channels = s.channels ∧ (s.inheritFailures n).overrides = s.overrides ∧ (s.inheritFailures
    n).console = s.console ∧ (s.inheritFailures n).freeIndex = s.freeIndex ∧ (s.inheritFailures n).pending = s.pending := by
  simp [inheritFailures]

@[simp] theorem discardFailed_frame (f : TxFrame) (n : Nat) (s : State) :
    (s.discardFailed f n).node = s.node ∧ (s.discardFailed f n).machine = s.machine ∧ (s.discardFailed f n).thrust =
    s.thrust ∧ (s.discardFailed f n).drive = s.drive ∧ (s.discardFailed f n).plans = s.plans ∧ (s.discardFailed f
    n).grout = s.grout ∧ (s.discardFailed f n).muck = s.muck ∧ (s.discardFailed f n).channels = s.channels ∧
    (s.discardFailed f n).overrides = s.overrides ∧ (s.discardFailed f n).freeIndex = s.freeIndex ∧ (s.discardFailed f
    n).pending = s.pending := by
  unfold discardFailed
  dsimp only
  split <;> simp

@[simp] theorem transmissionFailed_frame (w : WireFrame) (s : State) :
    (s.transmissionFailed w).channels = s.channels ∧ (s.transmissionFailed w).overrides = s.overrides ∧
    (s.transmissionFailed w).freeIndex = s.freeIndex ∧ (s.transmissionFailed w).pending = s.pending := by
  unfold transmissionFailed
  dsimp only
  (repeat' split) <;> simp

@[simp] theorem failWire_frame (s : State) :
    s.failWire.channels = s.channels ∧ s.failWire.overrides = s.overrides ∧ s.failWire.freeIndex = s.freeIndex ∧
    s.failWire.pending = s.pending := by
  unfold failWire
  split <;> simp

end Sys2Proof.Machine.State
end

