-- ==== Sys2Proof/Laws/TimeFrames.lean ====
section
/-! SUPPORT. For each operation of Machine/Time.lean, the parts of State it leaves as they are. -/

namespace Sys2Proof.Machine.State

@[simp] theorem tick_frame (s : State) :
    s.tick.link = s.link ∧ s.tick.thrust = s.thrust ∧ s.tick.plans = s.plans ∧ s.tick.muck = s.muck ∧ s.tick.channels
    = s.channels ∧ s.tick.overrides = s.overrides ∧ s.tick.console = s.console := by
  unfold tick
  dsimp only
  (repeat' split) <;> simp

end Sys2Proof.Machine.State
end

