-- ==== Sys2Proof/Laws/OpsFields.lean ====
section
/-! SUPPORT. For each operation of Machine/Ops.lean, the fields it leaves as they are in the parts of State it may change. -/

namespace Sys2Proof.Machine.State

@[simp] theorem frameEnded_fields (f : TxFrame) (e : Ending) (s : State) :
    (s.frameEnded f e).engine.state = s.engine.state ∧ (s.frameEnded f e).engine.seated = s.engine.seated ∧
    (s.frameEnded f e).engine.attempt = s.engine.attempt ∧ (s.frameEnded f e).engine.zoneMembers =
    s.engine.zoneMembers ∧ (s.frameEnded f e).engine.answered = s.engine.answered ∧ (s.frameEnded f e).engine.retry =
    s.engine.retry ∧ (s.frameEnded f e).engine.limit = s.engine.limit ∧ (s.frameEnded f e).engine.stopping =
    s.engine.stopping ∧ (s.frameEnded f e).engine.placed = s.engine.placed ∧ (s.frameEnded f e).engine.lastRefusal =
    s.engine.lastRefusal ∧ (s.frameEnded f e).engine.seatRetries = s.engine.seatRetries ∧ (s.frameEnded f
    e).engine.zoneRefusals = s.engine.zoneRefusals ∧ (s.frameEnded f e).engine.fault = s.engine.fault ∧ (s.frameEnded
    f e).engine.erector = s.engine.erector ∧ (s.frameEnded f e).engine.erectorCommand = s.engine.erectorCommand ∧
    (s.frameEnded f e).console.watch = s.console.watch ∧ (s.frameEnded f e).console.notices = s.console.notices ∧
    (s.frameEnded f e).console.counters = s.console.counters ∧ (s.frameEnded f e).console.records = s.console.records := by
  unfold frameEnded
  (repeat' split) <;> simp

@[simp] theorem admitFrame_fields (f : TxFrame) (s : State) :
    (s.admitFrame f).link.onWire = s.link.onWire ∧ (s.admitFrame f).link.transmitting = s.link.transmitting ∧
    (s.admitFrame f).link.nextAge = s.link.nextAge ∧ (s.admitFrame f).engine.state = s.engine.state ∧ (s.admitFrame
    f).engine.seated = s.engine.seated ∧ (s.admitFrame f).engine.attempt = s.engine.attempt ∧ (s.admitFrame
    f).engine.zoneMembers = s.engine.zoneMembers ∧ (s.admitFrame f).engine.answered = s.engine.answered ∧
    (s.admitFrame f).engine.retry = s.engine.retry ∧ (s.admitFrame f).engine.limit = s.engine.limit ∧ (s.admitFrame
    f).engine.stopping = s.engine.stopping ∧ (s.admitFrame f).engine.placed = s.engine.placed ∧ (s.admitFrame
    f).engine.lastRefusal = s.engine.lastRefusal ∧ (s.admitFrame f).engine.seatRetries = s.engine.seatRetries ∧
    (s.admitFrame f).engine.zoneRefusals = s.engine.zoneRefusals ∧ (s.admitFrame f).engine.fault = s.engine.fault ∧
    (s.admitFrame f).engine.erector = s.engine.erector ∧ (s.admitFrame f).engine.erectorCommand =
    s.engine.erectorCommand ∧ (s.admitFrame f).console.watch = s.console.watch ∧ (s.admitFrame f).console.records =
    s.console.records := by
  unfold admitFrame
  (repeat' split) <;> simp

@[simp] theorem retryRingClosed_fields (s : State) :
    s.retryRingClosed.link.onWire = s.link.onWire ∧ s.retryRingClosed.link.transmitting = s.link.transmitting ∧
    s.retryRingClosed.engine.state = s.engine.state ∧ s.retryRingClosed.engine.seated = s.engine.seated ∧
    s.retryRingClosed.engine.attempt = s.engine.attempt ∧ s.retryRingClosed.engine.zoneMembers = s.engine.zoneMembers
    ∧ s.retryRingClosed.engine.answered = s.engine.answered ∧ s.retryRingClosed.engine.retry = s.engine.retry ∧
    s.retryRingClosed.engine.limit = s.engine.limit ∧ s.retryRingClosed.engine.stopping = s.engine.stopping ∧
    s.retryRingClosed.engine.placed = s.engine.placed ∧ s.retryRingClosed.engine.lastRefusal = s.engine.lastRefusal ∧
    s.retryRingClosed.engine.seatRetries = s.engine.seatRetries ∧ s.retryRingClosed.engine.zoneRefusals =
    s.engine.zoneRefusals ∧ s.retryRingClosed.engine.fault = s.engine.fault ∧ s.retryRingClosed.engine.erector =
    s.engine.erector ∧ s.retryRingClosed.engine.erectorCommand = s.engine.erectorCommand ∧
    s.retryRingClosed.console.watch = s.console.watch ∧ s.retryRingClosed.console.records = s.console.records := by
  unfold retryRingClosed
  split <;> simp

@[simp] theorem admitHold_fields (f : TxFrame) (s : State) :
    (s.admitHold f).link.onWire = s.link.onWire ∧ (s.admitHold f).link.transmitting = s.link.transmitting ∧
    (s.admitHold f).engine.state = s.engine.state ∧ (s.admitHold f).engine.seated = s.engine.seated ∧ (s.admitHold
    f).engine.attempt = s.engine.attempt ∧ (s.admitHold f).engine.zoneMembers = s.engine.zoneMembers ∧ (s.admitHold
    f).engine.answered = s.engine.answered ∧ (s.admitHold f).engine.retry = s.engine.retry ∧ (s.admitHold
    f).engine.limit = s.engine.limit ∧ (s.admitHold f).engine.stopping = s.engine.stopping ∧ (s.admitHold
    f).engine.placed = s.engine.placed ∧ (s.admitHold f).engine.lastRefusal = s.engine.lastRefusal ∧ (s.admitHold
    f).engine.seatRetries = s.engine.seatRetries ∧ (s.admitHold f).engine.zoneRefusals = s.engine.zoneRefusals ∧
    (s.admitHold f).engine.fault = s.engine.fault ∧ (s.admitHold f).engine.erector = s.engine.erector ∧ (s.admitHold
    f).engine.erectorCommand = s.engine.erectorCommand ∧ (s.admitHold f).console.watch = s.console.watch ∧
    (s.admitHold f).console.records = s.console.records := by
  unfold admitHold
  (repeat' split) <;> simp

@[simp] theorem queueTagged_fields (target : Station) (body : Body) (tag : TxTag) (s : State) :
    (s.queueTagged target body tag).link.onWire = s.link.onWire ∧ (s.queueTagged target body tag).link.transmitting =
    s.link.transmitting ∧ (s.queueTagged target body tag).engine.state = s.engine.state ∧ (s.queueTagged target body
    tag).engine.seated = s.engine.seated ∧ (s.queueTagged target body tag).engine.attempt = s.engine.attempt ∧
    (s.queueTagged target body tag).engine.zoneMembers = s.engine.zoneMembers ∧ (s.queueTagged target body
    tag).engine.answered = s.engine.answered ∧ (s.queueTagged target body tag).engine.retry = s.engine.retry ∧
    (s.queueTagged target body tag).engine.limit = s.engine.limit ∧ (s.queueTagged target body tag).engine.stopping =
    s.engine.stopping ∧ (s.queueTagged target body tag).engine.placed = s.engine.placed ∧ (s.queueTagged target body
    tag).engine.lastRefusal = s.engine.lastRefusal ∧ (s.queueTagged target body tag).engine.seatRetries =
    s.engine.seatRetries ∧ (s.queueTagged target body tag).engine.zoneRefusals = s.engine.zoneRefusals ∧
    (s.queueTagged target body tag).engine.fault = s.engine.fault ∧ (s.queueTagged target body tag).engine.erector =
    s.engine.erector ∧ (s.queueTagged target body tag).engine.erectorCommand = s.engine.erectorCommand ∧
    (s.queueTagged target body tag).console.watch = s.console.watch ∧ (s.queueTagged target body tag).console.records
    = s.console.records := by
  unfold queueTagged
  split <;> simp

@[simp] theorem queueFrame_fields (body : Body) (s : State) :
    (s.queueFrame body).link.onWire = s.link.onWire ∧ (s.queueFrame body).link.transmitting = s.link.transmitting ∧
    (s.queueFrame body).engine.state = s.engine.state ∧ (s.queueFrame body).engine.seated = s.engine.seated ∧
    (s.queueFrame body).engine.attempt = s.engine.attempt ∧ (s.queueFrame body).engine.zoneMembers =
    s.engine.zoneMembers ∧ (s.queueFrame body).engine.answered = s.engine.answered ∧ (s.queueFrame body).engine.retry
    = s.engine.retry ∧ (s.queueFrame body).engine.limit = s.engine.limit ∧ (s.queueFrame body).engine.stopping =
    s.engine.stopping ∧ (s.queueFrame body).engine.placed = s.engine.placed ∧ (s.queueFrame body).engine.lastRefusal =
    s.engine.lastRefusal ∧ (s.queueFrame body).engine.seatRetries = s.engine.seatRetries ∧ (s.queueFrame
    body).engine.zoneRefusals = s.engine.zoneRefusals ∧ (s.queueFrame body).engine.fault = s.engine.fault ∧
    (s.queueFrame body).engine.erector = s.engine.erector ∧ (s.queueFrame body).engine.erectorCommand =
    s.engine.erectorCommand ∧ (s.queueFrame body).console.watch = s.console.watch ∧ (s.queueFrame
    body).console.records = s.console.records := by
  simp [queueFrame]

@[simp] theorem queueFrames_fields (bs : List Body) (s : State) :
    (s.queueFrames bs).link.onWire = s.link.onWire ∧ (s.queueFrames bs).link.transmitting = s.link.transmitting ∧
    (s.queueFrames bs).engine.state = s.engine.state ∧ (s.queueFrames bs).engine.seated = s.engine.seated ∧
    (s.queueFrames bs).engine.attempt = s.engine.attempt ∧ (s.queueFrames bs).engine.zoneMembers =
    s.engine.zoneMembers ∧ (s.queueFrames bs).engine.answered = s.engine.answered ∧ (s.queueFrames bs).engine.retry =
    s.engine.retry ∧ (s.queueFrames bs).engine.limit = s.engine.limit ∧ (s.queueFrames bs).engine.stopping =
    s.engine.stopping ∧ (s.queueFrames bs).engine.placed = s.engine.placed ∧ (s.queueFrames bs).engine.lastRefusal =
    s.engine.lastRefusal ∧ (s.queueFrames bs).engine.seatRetries = s.engine.seatRetries ∧ (s.queueFrames
    bs).engine.zoneRefusals = s.engine.zoneRefusals ∧ (s.queueFrames bs).engine.fault = s.engine.fault ∧
    (s.queueFrames bs).engine.erector = s.engine.erector ∧ (s.queueFrames bs).engine.erectorCommand =
    s.engine.erectorCommand ∧ (s.queueFrames bs).console.watch = s.console.watch ∧ (s.queueFrames bs).console.records
    = s.console.records := by
  unfold queueFrames
  induction bs generalizing s with
  | nil => simp
  | cons x xs ih => simp [ih]

@[simp] theorem queueBeacon_fields (s : State) :
    s.queueBeacon.link.onWire = s.link.onWire ∧ s.queueBeacon.link.transmitting = s.link.transmitting ∧
    s.queueBeacon.engine.state = s.engine.state ∧ s.queueBeacon.engine.seated = s.engine.seated ∧
    s.queueBeacon.engine.attempt = s.engine.attempt ∧ s.queueBeacon.engine.zoneMembers = s.engine.zoneMembers ∧
    s.queueBeacon.engine.answered = s.engine.answered ∧ s.queueBeacon.engine.retry = s.engine.retry ∧
    s.queueBeacon.engine.limit = s.engine.limit ∧ s.queueBeacon.engine.stopping = s.engine.stopping ∧
    s.queueBeacon.engine.placed = s.engine.placed ∧ s.queueBeacon.engine.lastRefusal = s.engine.lastRefusal ∧
    s.queueBeacon.engine.seatRetries = s.engine.seatRetries ∧ s.queueBeacon.engine.zoneRefusals =
    s.engine.zoneRefusals ∧ s.queueBeacon.engine.fault = s.engine.fault ∧ s.queueBeacon.engine.erector =
    s.engine.erector ∧ s.queueBeacon.engine.erectorCommand = s.engine.erectorCommand ∧ s.queueBeacon.console.watch =
    s.console.watch ∧ s.queueBeacon.console.records = s.console.records := by
  unfold queueBeacon
  split <;> simp

@[simp] theorem framesEnded_fields (fs : List TxFrame) (e : Ending) (s : State) :
    (s.framesEnded fs e).engine.state = s.engine.state ∧ (s.framesEnded fs e).engine.seated = s.engine.seated ∧
    (s.framesEnded fs e).engine.attempt = s.engine.attempt ∧ (s.framesEnded fs e).engine.zoneMembers =
    s.engine.zoneMembers ∧ (s.framesEnded fs e).engine.answered = s.engine.answered ∧ (s.framesEnded fs
    e).engine.retry = s.engine.retry ∧ (s.framesEnded fs e).engine.limit = s.engine.limit ∧ (s.framesEnded fs
    e).engine.stopping = s.engine.stopping ∧ (s.framesEnded fs e).engine.placed = s.engine.placed ∧ (s.framesEnded fs
    e).engine.lastRefusal = s.engine.lastRefusal ∧ (s.framesEnded fs e).engine.seatRetries = s.engine.seatRetries ∧
    (s.framesEnded fs e).engine.zoneRefusals = s.engine.zoneRefusals ∧ (s.framesEnded fs e).engine.fault =
    s.engine.fault ∧ (s.framesEnded fs e).engine.erector = s.engine.erector ∧ (s.framesEnded fs
    e).engine.erectorCommand = s.engine.erectorCommand ∧ (s.framesEnded fs e).console.watch = s.console.watch ∧
    (s.framesEnded fs e).console.notices = s.console.notices ∧ (s.framesEnded fs e).console.counters =
    s.console.counters ∧ (s.framesEnded fs e).console.records = s.console.records := by
  unfold framesEnded
  induction fs generalizing s with
  | nil => simp
  | cons x xs ih => simp [ih]

@[simp] theorem removeZoneFrames_fields (s : State) :
    s.removeZoneFrames.link.transmitting = s.link.transmitting ∧ s.removeZoneFrames.engine.state = s.engine.state ∧
    s.removeZoneFrames.engine.seated = s.engine.seated ∧ s.removeZoneFrames.engine.attempt = s.engine.attempt ∧
    s.removeZoneFrames.engine.zoneMembers = s.engine.zoneMembers ∧ s.removeZoneFrames.engine.answered =
    s.engine.answered ∧ s.removeZoneFrames.engine.retry = s.engine.retry ∧ s.removeZoneFrames.engine.limit =
    s.engine.limit ∧ s.removeZoneFrames.engine.stopping = s.engine.stopping ∧ s.removeZoneFrames.engine.placed =
    s.engine.placed ∧ s.removeZoneFrames.engine.lastRefusal = s.engine.lastRefusal ∧
    s.removeZoneFrames.engine.seatRetries = s.engine.seatRetries ∧ s.removeZoneFrames.engine.zoneRefusals =
    s.engine.zoneRefusals ∧ s.removeZoneFrames.engine.fault = s.engine.fault ∧ s.removeZoneFrames.engine.erector =
    s.engine.erector ∧ s.removeZoneFrames.engine.erectorCommand = s.engine.erectorCommand ∧
    s.removeZoneFrames.console.watch = s.console.watch ∧ s.removeZoneFrames.console.records = s.console.records := by
  unfold removeZoneFrames
  dsimp only
  (repeat' split) <;> simp

@[simp] theorem answerWith_fields (station : Station) (addressed : Bool) (service : Byte) (e : EndCode) (tail : List
Byte) (tag : TxTag) (s : State) :
    (s.answerWith station addressed service e tail tag).link.onWire = s.link.onWire ∧ (s.answerWith station addressed
    service e tail tag).link.transmitting = s.link.transmitting ∧ (s.answerWith station addressed service e tail
    tag).engine.state = s.engine.state ∧ (s.answerWith station addressed service e tail tag).engine.seated =
    s.engine.seated ∧ (s.answerWith station addressed service e tail tag).engine.attempt = s.engine.attempt ∧
    (s.answerWith station addressed service e tail tag).engine.zoneMembers = s.engine.zoneMembers ∧ (s.answerWith
    station addressed service e tail tag).engine.answered = s.engine.answered ∧ (s.answerWith station addressed
    service e tail tag).engine.retry = s.engine.retry ∧ (s.answerWith station addressed service e tail
    tag).engine.limit = s.engine.limit ∧ (s.answerWith station addressed service e tail tag).engine.stopping =
    s.engine.stopping ∧ (s.answerWith station addressed service e tail tag).engine.placed = s.engine.placed ∧
    (s.answerWith station addressed service e tail tag).engine.lastRefusal = s.engine.lastRefusal ∧ (s.answerWith
    station addressed service e tail tag).engine.seatRetries = s.engine.seatRetries ∧ (s.answerWith station addressed
    service e tail tag).engine.zoneRefusals = s.engine.zoneRefusals ∧ (s.answerWith station addressed service e tail
    tag).engine.fault = s.engine.fault ∧ (s.answerWith station addressed service e tail tag).engine.erector =
    s.engine.erector ∧ (s.answerWith station addressed service e tail tag).engine.erectorCommand =
    s.engine.erectorCommand ∧ (s.answerWith station addressed service e tail tag).console.watch = s.console.watch ∧
    (s.answerWith station addressed service e tail tag).console.records = s.console.records := by
  unfold answerWith
  split <;> simp

@[simp] theorem answer_fields (station : Station) (addressed : Bool) (service : Service) (e : EndCode) (s : State) :
    (s.answer station addressed service e).link.onWire = s.link.onWire ∧ (s.answer station addressed service
    e).link.transmitting = s.link.transmitting ∧ (s.answer station addressed service e).engine.state = s.engine.state
    ∧ (s.answer station addressed service e).engine.seated = s.engine.seated ∧ (s.answer station addressed service
    e).engine.attempt = s.engine.attempt ∧ (s.answer station addressed service e).engine.zoneMembers =
    s.engine.zoneMembers ∧ (s.answer station addressed service e).engine.answered = s.engine.answered ∧ (s.answer
    station addressed service e).engine.retry = s.engine.retry ∧ (s.answer station addressed service e).engine.limit =
    s.engine.limit ∧ (s.answer station addressed service e).engine.stopping = s.engine.stopping ∧ (s.answer station
    addressed service e).engine.placed = s.engine.placed ∧ (s.answer station addressed service e).engine.lastRefusal =
    s.engine.lastRefusal ∧ (s.answer station addressed service e).engine.seatRetries = s.engine.seatRetries ∧
    (s.answer station addressed service e).engine.zoneRefusals = s.engine.zoneRefusals ∧ (s.answer station addressed
    service e).engine.fault = s.engine.fault ∧ (s.answer station addressed service e).engine.erector =
    s.engine.erector ∧ (s.answer station addressed service e).engine.erectorCommand = s.engine.erectorCommand ∧
    (s.answer station addressed service e).console.watch = s.console.watch ∧ (s.answer station addressed service
    e).console.records = s.console.records := by
  simp [answer]

@[simp] theorem restrain_fields (r : RestraintReason) (s : State) :
    (s.restrain r).link.onWire = s.link.onWire ∧ (s.restrain r).link.transmitting = s.link.transmitting ∧ (s.restrain
    r).thrust.cylinders = s.thrust.cylinders ∧ (s.restrain r).thrust.sectorAdvance = s.thrust.sectorAdvance ∧
    (s.restrain r).thrust.credited = s.thrust.credited ∧ (s.restrain r).thrust.setpoint = s.thrust.setpoint ∧
    (s.restrain r).thrust.steerPause = s.thrust.steerPause ∧ (s.restrain r).thrust.strokeReached =
    s.thrust.strokeReached ∧ (s.restrain r).thrust.zone = s.thrust.zone ∧ (s.restrain r).engine.state = s.engine.state
    ∧ (s.restrain r).engine.seated = s.engine.seated ∧ (s.restrain r).engine.attempt = s.engine.attempt ∧ (s.restrain
    r).engine.zoneMembers = s.engine.zoneMembers ∧ (s.restrain r).engine.answered = s.engine.answered ∧ (s.restrain
    r).engine.retry = s.engine.retry ∧ (s.restrain r).engine.limit = s.engine.limit ∧ (s.restrain r).engine.stopping =
    s.engine.stopping ∧ (s.restrain r).engine.placed = s.engine.placed ∧ (s.restrain r).engine.lastRefusal =
    s.engine.lastRefusal ∧ (s.restrain r).engine.seatRetries = s.engine.seatRetries ∧ (s.restrain
    r).engine.zoneRefusals = s.engine.zoneRefusals ∧ (s.restrain r).engine.fault = s.engine.fault ∧ (s.restrain
    r).engine.erector = s.engine.erector ∧ (s.restrain r).engine.erectorCommand = s.engine.erectorCommand ∧
    (s.restrain r).console.watch = s.console.watch ∧ (s.restrain r).console.records = s.console.records := by
  simp [restrain]

@[simp] theorem release_fields (r : RestraintReason) (s : State) :
    (s.release r).link.onWire = s.link.onWire ∧ (s.release r).link.transmitting = s.link.transmitting ∧ (s.release
    r).thrust.cylinders = s.thrust.cylinders ∧ (s.release r).thrust.sectorAdvance = s.thrust.sectorAdvance ∧
    (s.release r).thrust.credited = s.thrust.credited ∧ (s.release r).thrust.setpoint = s.thrust.setpoint ∧ (s.release
    r).thrust.steerPause = s.thrust.steerPause ∧ (s.release r).thrust.strokeReached = s.thrust.strokeReached ∧
    (s.release r).thrust.zone = s.thrust.zone ∧ (s.release r).engine.state = s.engine.state ∧ (s.release
    r).engine.seated = s.engine.seated ∧ (s.release r).engine.attempt = s.engine.attempt ∧ (s.release
    r).engine.zoneMembers = s.engine.zoneMembers ∧ (s.release r).engine.answered = s.engine.answered ∧ (s.release
    r).engine.retry = s.engine.retry ∧ (s.release r).engine.limit = s.engine.limit ∧ (s.release r).engine.stopping =
    s.engine.stopping ∧ (s.release r).engine.placed = s.engine.placed ∧ (s.release r).engine.lastRefusal =
    s.engine.lastRefusal ∧ (s.release r).engine.seatRetries = s.engine.seatRetries ∧ (s.release r).engine.zoneRefusals
    = s.engine.zoneRefusals ∧ (s.release r).engine.fault = s.engine.fault ∧ (s.release r).engine.erector =
    s.engine.erector ∧ (s.release r).engine.erectorCommand = s.engine.erectorCommand ∧ (s.release r).console.watch =
    s.console.watch ∧ (s.release r).console.records = s.console.records := by
  simp [release]

@[simp] theorem passTime_fields (ms : Nat) (s : State) :
    (s.passTime ms).node.number = s.node.number ∧ (s.passTime ms).node.state = s.node.state ∧ (s.passTime
    ms).node.cause = s.node.cause ∧ (s.passTime ms).node.furtherFaults = s.node.furtherFaults ∧ (s.passTime
    ms).node.config = s.node.config ∧ (s.passTime ms).node.digest = s.node.digest ∧ (s.passTime ms).node.collection =
    s.node.collection ∧ (s.passTime ms).node.lastRejection = s.node.lastRejection ∧ (s.passTime
    ms).node.firstMembership = s.node.firstMembership ∧ (s.passTime ms).machine.phase = s.machine.phase ∧ (s.passTime
    ms).machine.current = s.machine.current ∧ (s.passTime ms).machine.previous = s.machine.previous ∧ (s.passTime
    ms).machine.lastFailure = s.machine.lastFailure ∧ (s.passTime ms).machine.ring = s.machine.ring ∧ (s.passTime
    ms).drive.drives = s.drive.drives ∧ (s.passTime ms).drive.setpoint = s.drive.setpoint ∧ (s.passTime
    ms).engine.state = s.engine.state ∧ (s.passTime ms).engine.seated = s.engine.seated ∧ (s.passTime
    ms).engine.attempt = s.engine.attempt ∧ (s.passTime ms).engine.zoneMembers = s.engine.zoneMembers ∧ (s.passTime
    ms).engine.answered = s.engine.answered ∧ (s.passTime ms).engine.retry = s.engine.retry ∧ (s.passTime
    ms).engine.stopping = s.engine.stopping ∧ (s.passTime ms).engine.closePending = s.engine.closePending ∧
    (s.passTime ms).engine.requeue = s.engine.requeue ∧ (s.passTime ms).engine.placed = s.engine.placed ∧ (s.passTime
    ms).engine.lastRefusal = s.engine.lastRefusal ∧ (s.passTime ms).engine.seatRetries = s.engine.seatRetries ∧
    (s.passTime ms).engine.zoneRefusals = s.engine.zoneRefusals ∧ (s.passTime ms).engine.fault = s.engine.fault ∧
    (s.passTime ms).engine.erector = s.engine.erector ∧ (s.passTime ms).engine.erectorCommand =
    s.engine.erectorCommand ∧ (s.passTime ms).grout.ports = s.grout.ports ∧ (s.passTime ms).grout.pointer =
    s.grout.pointer ∧ (s.passTime ms).grout.pump = s.grout.pump ∧ (s.passTime ms).grout.restrained =
    s.grout.restrained := by
  unfold passTime
  dsimp only
  (repeat' split) <;> simp

end Sys2Proof.Machine.State
end

