-- ==== Sys2Proof/Laws/UnitsFields.lean ====
section
/-! SUPPORT. For each operation of Machine/Units.lean, the fields it leaves as they are in the parts of State it may change. -/

namespace Sys2Proof.Machine.State

@[simp] theorem thrustEntersHold_fields (fromBore : Bool) (s : State) :
    (s.thrustEntersHold fromBore).thrust.sectorAdvance = s.thrust.sectorAdvance ∧ (s.thrustEntersHold
    fromBore).thrust.credited = s.thrust.credited ∧ (s.thrustEntersHold fromBore).thrust.setpoint = s.thrust.setpoint
    ∧ (s.thrustEntersHold fromBore).thrust.strokeReached = s.thrust.strokeReached ∧ (s.thrustEntersHold
    fromBore).thrust.restraints = s.thrust.restraints := by
  simp [thrustEntersHold]

@[simp] theorem thrustEntersFaulted_fields (s : State) :
    s.thrustEntersFaulted.thrust.sectorAdvance = s.thrust.sectorAdvance ∧ s.thrustEntersFaulted.thrust.credited =
    s.thrust.credited ∧ s.thrustEntersFaulted.thrust.setpoint = s.thrust.setpoint ∧
    s.thrustEntersFaulted.thrust.steerPause = s.thrust.steerPause ∧ s.thrustEntersFaulted.thrust.strokeReached =
    s.thrust.strokeReached ∧ s.thrustEntersFaulted.thrust.zone = s.thrust.zone ∧
    s.thrustEntersFaulted.thrust.restraints = s.thrust.restraints := by
  simp [thrustEntersFaulted]

@[simp] theorem testDrives_fields (s : State) :
    s.testDrives.drive.setpoint = s.drive.setpoint ∧ s.testDrives.drive.guard = s.drive.guard := by
  simp [testDrives]

@[simp] theorem endDose_fields (e : DoseEnding) (s : State) :
    (s.endDose e).grout.ports = s.grout.ports ∧ (s.endDose e).grout.restrained = s.grout.restrained := by
  unfold endDose
  (repeat' split) <;> simp

@[simp] theorem stopDose_fields (s : State) :
    s.stopDose.grout.ports = s.grout.ports ∧ s.stopDose.grout.restrained = s.grout.restrained := by
  simp [stopDose]

@[simp] theorem startDose_fields (n : Nat) (s : State) :
    (s.startDose n).grout.ports = s.grout.ports ∧ (s.startDose n).grout.pointer = s.grout.pointer ∧ (s.startDose
    n).grout.restrained = s.grout.restrained ∧ (s.startDose n).channels.cylinders = s.channels.cylinders ∧
    (s.startDose n).channels.drives = s.channels.drives ∧ (s.startDose n).channels.linePressure =
    s.channels.linePressure ∧ (s.startDose n).channels.screwFault = s.channels.screwFault ∧ (s.startDose
    n).channels.face = s.channels.face ∧ (s.startDose n).channels.erectorFault = s.channels.erectorFault := by
  simp [startDose]

@[simp] theorem testDose_fields (s : State) :
    s.testDose.grout.ports = s.grout.ports ∧ s.testDose.grout.pointer = s.grout.pointer ∧ s.testDose.grout.restrained
    = s.grout.restrained ∧ s.testDose.channels.cylinders = s.channels.cylinders ∧ s.testDose.channels.drives =
    s.channels.drives ∧ s.testDose.channels.linePressure = s.channels.linePressure ∧ s.testDose.channels.screwFault =
    s.channels.screwFault ∧ s.testDose.channels.face = s.channels.face ∧ s.testDose.channels.erectorFault =
    s.channels.erectorFault := by
  unfold testDose
  (repeat' split) <;> simp

@[simp] theorem testGrout_fields (s : State) :
    s.testGrout.link.onWire = s.link.onWire ∧ s.testGrout.link.transmitting = s.link.transmitting ∧
    s.testGrout.thrust.cylinders = s.thrust.cylinders ∧ s.testGrout.thrust.sectorAdvance = s.thrust.sectorAdvance ∧
    s.testGrout.thrust.credited = s.thrust.credited ∧ s.testGrout.thrust.setpoint = s.thrust.setpoint ∧
    s.testGrout.thrust.steerPause = s.thrust.steerPause ∧ s.testGrout.thrust.strokeReached = s.thrust.strokeReached ∧
    s.testGrout.thrust.zone = s.thrust.zone ∧ s.testGrout.engine.state = s.engine.state ∧ s.testGrout.engine.seated =
    s.engine.seated ∧ s.testGrout.engine.attempt = s.engine.attempt ∧ s.testGrout.engine.zoneMembers =
    s.engine.zoneMembers ∧ s.testGrout.engine.answered = s.engine.answered ∧ s.testGrout.engine.retry = s.engine.retry
    ∧ s.testGrout.engine.limit = s.engine.limit ∧ s.testGrout.engine.stopping = s.engine.stopping ∧
    s.testGrout.engine.placed = s.engine.placed ∧ s.testGrout.engine.lastRefusal = s.engine.lastRefusal ∧
    s.testGrout.engine.seatRetries = s.engine.seatRetries ∧ s.testGrout.engine.zoneRefusals = s.engine.zoneRefusals ∧
    s.testGrout.engine.fault = s.engine.fault ∧ s.testGrout.engine.erector = s.engine.erector ∧
    s.testGrout.engine.erectorCommand = s.engine.erectorCommand ∧ s.testGrout.grout.ports = s.grout.ports ∧
    s.testGrout.grout.pointer = s.grout.pointer ∧ s.testGrout.grout.pump = s.grout.pump ∧ s.testGrout.grout.dose =
    s.grout.dose ∧ s.testGrout.console.watch = s.console.watch ∧ s.testGrout.console.records = s.console.records := by
  unfold testGrout
  (repeat' split) <;> simp

@[simp] theorem popHeadStep_fields (s : State) :
    s.popHeadStep.plans.opened = s.plans.opened := by
  unfold popHeadStep
  (repeat' split) <;> simp

@[simp] theorem haltErector_fields (s : State) :
    s.haltErector.engine.state = s.engine.state ∧ s.haltErector.engine.seated = s.engine.seated ∧
    s.haltErector.engine.attempt = s.engine.attempt ∧ s.haltErector.engine.zoneMembers = s.engine.zoneMembers ∧
    s.haltErector.engine.answered = s.engine.answered ∧ s.haltErector.engine.retry = s.engine.retry ∧
    s.haltErector.engine.limit = s.engine.limit ∧ s.haltErector.engine.stopping = s.engine.stopping ∧
    s.haltErector.engine.closePending = s.engine.closePending ∧ s.haltErector.engine.requeue = s.engine.requeue ∧
    s.haltErector.engine.placed = s.engine.placed ∧ s.haltErector.engine.lastRefusal = s.engine.lastRefusal ∧
    s.haltErector.engine.seatRetries = s.engine.seatRetries ∧ s.haltErector.engine.zoneRefusals =
    s.engine.zoneRefusals ∧ s.haltErector.engine.fault = s.engine.fault := by
  simp [haltErector]

@[simp] theorem commandPlace_fields (s : State) :
    s.commandPlace.engine.state = s.engine.state ∧ s.commandPlace.engine.seated = s.engine.seated ∧
    s.commandPlace.engine.attempt = s.engine.attempt ∧ s.commandPlace.engine.zoneMembers = s.engine.zoneMembers ∧
    s.commandPlace.engine.answered = s.engine.answered ∧ s.commandPlace.engine.retry = s.engine.retry ∧
    s.commandPlace.engine.limit = s.engine.limit ∧ s.commandPlace.engine.stopping = s.engine.stopping ∧
    s.commandPlace.engine.closePending = s.engine.closePending ∧ s.commandPlace.engine.requeue = s.engine.requeue ∧
    s.commandPlace.engine.placed = s.engine.placed ∧ s.commandPlace.engine.lastRefusal = s.engine.lastRefusal ∧
    s.commandPlace.engine.seatRetries = s.engine.seatRetries ∧ s.commandPlace.engine.zoneRefusals =
    s.engine.zoneRefusals ∧ s.commandPlace.engine.fault = s.engine.fault := by
  unfold commandPlace
  (repeat' split) <;> simp

@[simp] theorem dropStep_fields (s : State) :
    s.dropStep.plans.opened = s.plans.opened ∧ s.dropStep.engine.attempt = s.engine.attempt ∧ s.dropStep.engine.retry
    = s.engine.retry ∧ s.dropStep.engine.closePending = s.engine.closePending ∧ s.dropStep.engine.requeue =
    s.engine.requeue ∧ s.dropStep.engine.placed = s.engine.placed ∧ s.dropStep.engine.lastRefusal =
    s.engine.lastRefusal ∧ s.dropStep.engine.seatRetries = s.engine.seatRetries ∧ s.dropStep.engine.zoneRefusals =
    s.engine.zoneRefusals ∧ s.dropStep.engine.fault = s.engine.fault ∧ s.dropStep.engine.erector = s.engine.erector ∧
    s.dropStep.engine.erectorCommand = s.engine.erectorCommand := by
  unfold dropStep
  split <;> simp

@[simp] theorem engineEntersHold_fields (s : State) :
    s.engineEntersHold.plans.opened = s.plans.opened ∧ s.engineEntersHold.engine.attempt = s.engine.attempt ∧
    s.engineEntersHold.engine.closePending = s.engine.closePending ∧ s.engineEntersHold.engine.requeue =
    s.engine.requeue ∧ s.engineEntersHold.engine.placed = s.engine.placed ∧ s.engineEntersHold.engine.lastRefusal =
    s.engine.lastRefusal ∧ s.engineEntersHold.engine.seatRetries = s.engine.seatRetries ∧
    s.engineEntersHold.engine.zoneRefusals = s.engine.zoneRefusals ∧ s.engineEntersHold.engine.fault = s.engine.fault := by
  unfold engineEntersHold
  dsimp only
  (repeat' split) <;> simp

@[simp] theorem engineFaults_fields (reason : EngineFaultReason) (p : Plan) (st : PlanStep) (s : State) :
    (s.engineFaults reason p st).engine.attempt = s.engine.attempt ∧ (s.engineFaults reason p st).engine.retry =
    s.engine.retry ∧ (s.engineFaults reason p st).engine.stopping = s.engine.stopping ∧ (s.engineFaults reason p
    st).engine.closePending = s.engine.closePending ∧ (s.engineFaults reason p st).engine.requeue = s.engine.requeue ∧
    (s.engineFaults reason p st).engine.placed = s.engine.placed ∧ (s.engineFaults reason p st).engine.lastRefusal =
    s.engine.lastRefusal ∧ (s.engineFaults reason p st).engine.seatRetries = s.engine.seatRetries ∧ (s.engineFaults
    reason p st).engine.zoneRefusals = s.engine.zoneRefusals ∧ (s.engineFaults reason p st).engine.erector =
    s.engine.erector ∧ (s.engineFaults reason p st).engine.erectorCommand = s.engine.erectorCommand ∧ (s.engineFaults
    reason p st).console.watch = s.console.watch ∧ (s.engineFaults reason p st).console.counters = s.console.counters
    ∧ (s.engineFaults reason p st).console.dataReply = s.console.dataReply ∧ (s.engineFaults reason p
    st).console.records = s.console.records := by
  simp [engineFaults]

@[simp] theorem issueStage_fields (kind : ZoneKind) (s : State) :
    (s.issueStage kind).link.onWire = s.link.onWire ∧ (s.issueStage kind).link.transmitting = s.link.transmitting ∧
    (s.issueStage kind).engine.seated = s.engine.seated ∧ (s.issueStage kind).engine.retry = s.engine.retry ∧
    (s.issueStage kind).engine.stopping = s.engine.stopping ∧ (s.issueStage kind).engine.placed = s.engine.placed ∧
    (s.issueStage kind).engine.lastRefusal = s.engine.lastRefusal ∧ (s.issueStage kind).engine.seatRetries =
    s.engine.seatRetries ∧ (s.issueStage kind).engine.zoneRefusals = s.engine.zoneRefusals ∧ (s.issueStage
    kind).engine.fault = s.engine.fault ∧ (s.issueStage kind).engine.erector = s.engine.erector ∧ (s.issueStage
    kind).engine.erectorCommand = s.engine.erectorCommand ∧ (s.issueStage kind).console.watch = s.console.watch ∧
    (s.issueStage kind).console.records = s.console.records := by
  unfold issueStage
  split <;> simp

@[simp] theorem resumeStage_fields (s : State) :
    s.resumeStage.link.onWire = s.link.onWire ∧ s.resumeStage.link.transmitting = s.link.transmitting ∧
    s.resumeStage.engine.seated = s.engine.seated ∧ s.resumeStage.engine.stopping = s.engine.stopping ∧
    s.resumeStage.engine.placed = s.engine.placed ∧ s.resumeStage.engine.lastRefusal = s.engine.lastRefusal ∧
    s.resumeStage.engine.seatRetries = s.engine.seatRetries ∧ s.resumeStage.engine.zoneRefusals =
    s.engine.zoneRefusals ∧ s.resumeStage.engine.fault = s.engine.fault ∧ s.resumeStage.engine.erector =
    s.engine.erector ∧ s.resumeStage.engine.erectorCommand = s.engine.erectorCommand ∧ s.resumeStage.console.watch =
    s.console.watch ∧ s.resumeStage.console.records = s.console.records := by
  simp [resumeStage]

@[simp] theorem takeHeadStep_fields (s : State) :
    s.takeHeadStep.link.onWire = s.link.onWire ∧ s.takeHeadStep.link.transmitting = s.link.transmitting ∧
    s.takeHeadStep.engine.stopping = s.engine.stopping ∧ s.takeHeadStep.engine.placed = s.engine.placed ∧
    s.takeHeadStep.engine.lastRefusal = s.engine.lastRefusal ∧ s.takeHeadStep.engine.seatRetries =
    s.engine.seatRetries ∧ s.takeHeadStep.engine.zoneRefusals = s.engine.zoneRefusals ∧ s.takeHeadStep.engine.erector
    = s.engine.erector ∧ s.takeHeadStep.engine.erectorCommand = s.engine.erectorCommand ∧ s.takeHeadStep.console.watch
    = s.console.watch ∧ s.takeHeadStep.console.records = s.console.records := by
  unfold takeHeadStep
  (repeat' split) <;> simp

@[simp] theorem engineEntersBuild_fields (s : State) :
    s.engineEntersBuild.link.onWire = s.link.onWire ∧ s.engineEntersBuild.link.transmitting = s.link.transmitting ∧
    s.engineEntersBuild.engine.stopping = s.engine.stopping ∧ s.engineEntersBuild.engine.placed = s.engine.placed ∧
    s.engineEntersBuild.engine.lastRefusal = s.engine.lastRefusal ∧ s.engineEntersBuild.engine.seatRetries =
    s.engine.seatRetries ∧ s.engineEntersBuild.engine.zoneRefusals = s.engine.zoneRefusals ∧
    s.engineEntersBuild.engine.erector = s.engine.erector ∧ s.engineEntersBuild.engine.erectorCommand =
    s.engine.erectorCommand ∧ s.engineEntersBuild.console.watch = s.console.watch ∧
    s.engineEntersBuild.console.records = s.console.records := by
  unfold engineEntersBuild
  split <;> simp

@[simp] theorem commandScrew_fields (s : State) :
    s.commandScrew.muck.faceRestrained = s.muck.faceRestrained ∧ s.commandScrew.muck.faceLow = s.muck.faceLow ∧
    s.commandScrew.muck.queue = s.muck.queue ∧ s.commandScrew.muck.lastIndexed = s.muck.lastIndexed ∧
    s.commandScrew.muck.muckRestrained = s.muck.muckRestrained ∧ s.commandScrew.muck.spill = s.muck.spill ∧
    s.commandScrew.muck.weighed = s.muck.weighed ∧ s.commandScrew.muck.carried = s.muck.carried ∧
    s.commandScrew.muck.uncarried = s.muck.uncarried ∧ s.commandScrew.muck.excused = s.muck.excused ∧
    s.commandScrew.muck.indexed = s.muck.indexed ∧ s.commandScrew.muck.machineAdvance = s.muck.machineAdvance ∧
    s.commandScrew.muck.overdig = s.muck.overdig := by
  unfold commandScrew
  split <;> simp

@[simp] theorem testMuck_fields (s : State) :
    s.testMuck.link.onWire = s.link.onWire ∧ s.testMuck.link.transmitting = s.link.transmitting ∧
    s.testMuck.thrust.cylinders = s.thrust.cylinders ∧ s.testMuck.thrust.sectorAdvance = s.thrust.sectorAdvance ∧
    s.testMuck.thrust.credited = s.thrust.credited ∧ s.testMuck.thrust.setpoint = s.thrust.setpoint ∧
    s.testMuck.thrust.steerPause = s.thrust.steerPause ∧ s.testMuck.thrust.strokeReached = s.thrust.strokeReached ∧
    s.testMuck.thrust.zone = s.thrust.zone ∧ s.testMuck.engine.state = s.engine.state ∧ s.testMuck.engine.seated =
    s.engine.seated ∧ s.testMuck.engine.attempt = s.engine.attempt ∧ s.testMuck.engine.zoneMembers =
    s.engine.zoneMembers ∧ s.testMuck.engine.answered = s.engine.answered ∧ s.testMuck.engine.retry = s.engine.retry ∧
    s.testMuck.engine.limit = s.engine.limit ∧ s.testMuck.engine.stopping = s.engine.stopping ∧
    s.testMuck.engine.placed = s.engine.placed ∧ s.testMuck.engine.lastRefusal = s.engine.lastRefusal ∧
    s.testMuck.engine.seatRetries = s.engine.seatRetries ∧ s.testMuck.engine.zoneRefusals = s.engine.zoneRefusals ∧
    s.testMuck.engine.fault = s.engine.fault ∧ s.testMuck.engine.erector = s.engine.erector ∧
    s.testMuck.engine.erectorCommand = s.engine.erectorCommand ∧ s.testMuck.muck.screw = s.muck.screw ∧
    s.testMuck.muck.faceRestrained = s.muck.faceRestrained ∧ s.testMuck.muck.faceLow = s.muck.faceLow ∧
    s.testMuck.muck.queue = s.muck.queue ∧ s.testMuck.muck.lastIndexed = s.muck.lastIndexed ∧ s.testMuck.muck.spill =
    s.muck.spill ∧ s.testMuck.muck.weighed = s.muck.weighed ∧ s.testMuck.muck.carried = s.muck.carried ∧
    s.testMuck.muck.uncarried = s.muck.uncarried ∧ s.testMuck.muck.excused = s.muck.excused ∧ s.testMuck.muck.indexed
    = s.muck.indexed ∧ s.testMuck.muck.machineAdvance = s.muck.machineAdvance ∧ s.testMuck.muck.overdig =
    s.muck.overdig ∧ s.testMuck.console.watch = s.console.watch ∧ s.testMuck.console.records = s.console.records := by
  unfold testMuck
  (repeat' split) <;> simp

end Sys2Proof.Machine.State
end

