-- ==== Sys2Proof/Laws/HoldFields.lean ====
section
/-! SUPPORT. For each operation of Machine/Hold.lean, the fields it leaves as they are in the parts of State it may change. -/

namespace Sys2Proof.Machine.State

@[simp] theorem failRound_fields (station : Nat) (reason : FailReason) (s : State) :
    (s.failRound station reason).machine.phase = s.machine.phase ∧ (s.failRound station reason).machine.current =
    s.machine.current ∧ (s.failRound station reason).machine.previous = s.machine.previous ∧ (s.failRound station
    reason).machine.view = s.machine.view ∧ (s.failRound station reason).machine.ring = s.machine.ring ∧ (s.failRound
    station reason).machine.beaconTimer = s.machine.beaconTimer ∧ (s.failRound station reason).console.watch =
    s.console.watch ∧ (s.failRound station reason).console.dataReply = s.console.dataReply ∧ (s.failRound station
    reason).console.records = s.console.records := by
  unfold failRound
  split <;> simp

@[simp] theorem handEntryToHold_fields (fromBore : Bool) (g : Grade) (s : State) :
    (s.handEntryToHold fromBore g).link.transmitting = s.link.transmitting ∧ (s.handEntryToHold fromBore
    g).thrust.sectorAdvance = s.thrust.sectorAdvance ∧ (s.handEntryToHold fromBore g).thrust.credited =
    s.thrust.credited ∧ (s.handEntryToHold fromBore g).thrust.setpoint = s.thrust.setpoint ∧ (s.handEntryToHold
    fromBore g).thrust.strokeReached = s.thrust.strokeReached ∧ (s.handEntryToHold fromBore g).thrust.restraints =
    s.thrust.restraints ∧ (s.handEntryToHold fromBore g).drive.setpoint = s.drive.setpoint ∧ (s.handEntryToHold
    fromBore g).drive.guard = s.drive.guard ∧ (s.handEntryToHold fromBore g).plans.opened = s.plans.opened ∧
    (s.handEntryToHold fromBore g).engine.attempt = s.engine.attempt ∧ (s.handEntryToHold fromBore g).engine.placed =
    s.engine.placed ∧ (s.handEntryToHold fromBore g).engine.lastRefusal = s.engine.lastRefusal ∧ (s.handEntryToHold
    fromBore g).engine.seatRetries = s.engine.seatRetries ∧ (s.handEntryToHold fromBore g).engine.zoneRefusals =
    s.engine.zoneRefusals ∧ (s.handEntryToHold fromBore g).engine.fault = s.engine.fault ∧ (s.handEntryToHold fromBore
    g).grout.ports = s.grout.ports ∧ (s.handEntryToHold fromBore g).grout.restrained = s.grout.restrained ∧
    (s.handEntryToHold fromBore g).muck.faceRestrained = s.muck.faceRestrained ∧ (s.handEntryToHold fromBore
    g).muck.faceLow = s.muck.faceLow ∧ (s.handEntryToHold fromBore g).muck.queue = s.muck.queue ∧ (s.handEntryToHold
    fromBore g).muck.lastIndexed = s.muck.lastIndexed ∧ (s.handEntryToHold fromBore g).muck.muckRestrained =
    s.muck.muckRestrained ∧ (s.handEntryToHold fromBore g).muck.spill = s.muck.spill ∧ (s.handEntryToHold fromBore
    g).muck.weighed = s.muck.weighed ∧ (s.handEntryToHold fromBore g).muck.carried = s.muck.carried ∧
    (s.handEntryToHold fromBore g).muck.uncarried = s.muck.uncarried ∧ (s.handEntryToHold fromBore g).muck.excused =
    s.muck.excused ∧ (s.handEntryToHold fromBore g).muck.indexed = s.muck.indexed ∧ (s.handEntryToHold fromBore
    g).muck.machineAdvance = s.muck.machineAdvance ∧ (s.handEntryToHold fromBore g).muck.overdig = s.muck.overdig ∧
    (s.handEntryToHold fromBore g).console.watch = s.console.watch ∧ (s.handEntryToHold fromBore g).console.records =
    s.console.records := by
  unfold handEntryToHold
  split <;> simp

@[simp] theorem openHold_fields (cause : HoldCause) (source : Nat) (g : Grade) (s : State) :
    (s.openHold cause source g).machine.previous = s.machine.previous ∧ (s.openHold cause source g).machine.round =
    s.machine.round ∧ (s.openHold cause source g).machine.lastFailure = s.machine.lastFailure ∧ (s.openHold cause
    source g).machine.view = s.machine.view ∧ (s.openHold cause source g).machine.ring = s.machine.ring ∧ (s.openHold
    cause source g).machine.beaconTimer = s.machine.beaconTimer := by
  simp [openHold]

@[simp] theorem countHold_fields (cause : HoldCause) (source : Nat) (now g : Grade) (s : State) :
    (s.countHold cause source now g).machine.previous = s.machine.previous ∧ (s.countHold cause source now
    g).machine.round = s.machine.round ∧ (s.countHold cause source now g).machine.lastFailure = s.machine.lastFailure
    ∧ (s.countHold cause source now g).machine.view = s.machine.view ∧ (s.countHold cause source now g).machine.ring =
    s.machine.ring ∧ (s.countHold cause source now g).machine.beaconTimer = s.machine.beaconTimer := by
  simp [countHold]

@[simp] theorem imposeHold_fields (cause : HoldCause) (s : State) (always : Bool) :
    (s.imposeHold cause always).link.transmitting = s.link.transmitting ∧ (s.imposeHold cause always).machine.previous
    = s.machine.previous ∧ (s.imposeHold cause always).machine.view = s.machine.view ∧ (s.imposeHold cause
    always).machine.ring = s.machine.ring ∧ (s.imposeHold cause always).machine.beaconTimer = s.machine.beaconTimer ∧
    (s.imposeHold cause always).thrust.sectorAdvance = s.thrust.sectorAdvance ∧ (s.imposeHold cause
    always).thrust.credited = s.thrust.credited ∧ (s.imposeHold cause always).thrust.setpoint = s.thrust.setpoint ∧
    (s.imposeHold cause always).thrust.strokeReached = s.thrust.strokeReached ∧ (s.imposeHold cause
    always).thrust.restraints = s.thrust.restraints ∧ (s.imposeHold cause always).drive.setpoint = s.drive.setpoint ∧
    (s.imposeHold cause always).drive.guard = s.drive.guard ∧ (s.imposeHold cause always).plans.opened =
    s.plans.opened ∧ (s.imposeHold cause always).engine.attempt = s.engine.attempt ∧ (s.imposeHold cause
    always).engine.placed = s.engine.placed ∧ (s.imposeHold cause always).engine.lastRefusal = s.engine.lastRefusal ∧
    (s.imposeHold cause always).engine.seatRetries = s.engine.seatRetries ∧ (s.imposeHold cause
    always).engine.zoneRefusals = s.engine.zoneRefusals ∧ (s.imposeHold cause always).engine.fault = s.engine.fault ∧
    (s.imposeHold cause always).grout.ports = s.grout.ports ∧ (s.imposeHold cause always).grout.restrained =
    s.grout.restrained ∧ (s.imposeHold cause always).muck.faceRestrained = s.muck.faceRestrained ∧ (s.imposeHold cause
    always).muck.faceLow = s.muck.faceLow ∧ (s.imposeHold cause always).muck.queue = s.muck.queue ∧ (s.imposeHold
    cause always).muck.lastIndexed = s.muck.lastIndexed ∧ (s.imposeHold cause always).muck.muckRestrained =
    s.muck.muckRestrained ∧ (s.imposeHold cause always).muck.spill = s.muck.spill ∧ (s.imposeHold cause
    always).muck.weighed = s.muck.weighed ∧ (s.imposeHold cause always).muck.carried = s.muck.carried ∧ (s.imposeHold
    cause always).muck.uncarried = s.muck.uncarried ∧ (s.imposeHold cause always).muck.excused = s.muck.excused ∧
    (s.imposeHold cause always).muck.indexed = s.muck.indexed ∧ (s.imposeHold cause always).muck.machineAdvance =
    s.muck.machineAdvance ∧ (s.imposeHold cause always).muck.overdig = s.muck.overdig ∧ (s.imposeHold cause
    always).console.watch = s.console.watch ∧ (s.imposeHold cause always).console.records = s.console.records := by
  unfold imposeHold
  dsimp only
  (repeat' split) <;> simp

@[simp] theorem takeHold_fields (sender : Nat) (cause : HoldCause) (sent : Grade) (s : State) :
    (s.takeHold sender cause sent).link.transmitting = s.link.transmitting ∧ (s.takeHold sender cause
    sent).machine.previous = s.machine.previous ∧ (s.takeHold sender cause sent).machine.view = s.machine.view ∧
    (s.takeHold sender cause sent).machine.ring = s.machine.ring ∧ (s.takeHold sender cause sent).machine.beaconTimer
    = s.machine.beaconTimer ∧ (s.takeHold sender cause sent).thrust.sectorAdvance = s.thrust.sectorAdvance ∧
    (s.takeHold sender cause sent).thrust.credited = s.thrust.credited ∧ (s.takeHold sender cause
    sent).thrust.setpoint = s.thrust.setpoint ∧ (s.takeHold sender cause sent).thrust.strokeReached =
    s.thrust.strokeReached ∧ (s.takeHold sender cause sent).thrust.restraints = s.thrust.restraints ∧ (s.takeHold
    sender cause sent).drive.setpoint = s.drive.setpoint ∧ (s.takeHold sender cause sent).drive.guard = s.drive.guard
    ∧ (s.takeHold sender cause sent).plans.opened = s.plans.opened ∧ (s.takeHold sender cause sent).engine.attempt =
    s.engine.attempt ∧ (s.takeHold sender cause sent).engine.placed = s.engine.placed ∧ (s.takeHold sender cause
    sent).engine.lastRefusal = s.engine.lastRefusal ∧ (s.takeHold sender cause sent).engine.seatRetries =
    s.engine.seatRetries ∧ (s.takeHold sender cause sent).engine.zoneRefusals = s.engine.zoneRefusals ∧ (s.takeHold
    sender cause sent).engine.fault = s.engine.fault ∧ (s.takeHold sender cause sent).grout.ports = s.grout.ports ∧
    (s.takeHold sender cause sent).grout.restrained = s.grout.restrained ∧ (s.takeHold sender cause
    sent).muck.faceRestrained = s.muck.faceRestrained ∧ (s.takeHold sender cause sent).muck.faceLow = s.muck.faceLow ∧
    (s.takeHold sender cause sent).muck.queue = s.muck.queue ∧ (s.takeHold sender cause sent).muck.lastIndexed =
    s.muck.lastIndexed ∧ (s.takeHold sender cause sent).muck.muckRestrained = s.muck.muckRestrained ∧ (s.takeHold
    sender cause sent).muck.spill = s.muck.spill ∧ (s.takeHold sender cause sent).muck.weighed = s.muck.weighed ∧
    (s.takeHold sender cause sent).muck.carried = s.muck.carried ∧ (s.takeHold sender cause sent).muck.uncarried =
    s.muck.uncarried ∧ (s.takeHold sender cause sent).muck.excused = s.muck.excused ∧ (s.takeHold sender cause
    sent).muck.indexed = s.muck.indexed ∧ (s.takeHold sender cause sent).muck.machineAdvance = s.muck.machineAdvance ∧
    (s.takeHold sender cause sent).muck.overdig = s.muck.overdig ∧ (s.takeHold sender cause sent).console.watch =
    s.console.watch ∧ (s.takeHold sender cause sent).console.records = s.console.records := by
  unfold takeHold
  dsimp only
  (repeat' split) <;> simp

@[simp] theorem blocksEnterFaulted_fields (s : State) :
    s.blocksEnterFaulted.thrust.sectorAdvance = s.thrust.sectorAdvance ∧ s.blocksEnterFaulted.thrust.credited =
    s.thrust.credited ∧ s.blocksEnterFaulted.thrust.setpoint = s.thrust.setpoint ∧
    s.blocksEnterFaulted.thrust.steerPause = s.thrust.steerPause ∧ s.blocksEnterFaulted.thrust.strokeReached =
    s.thrust.strokeReached ∧ s.blocksEnterFaulted.thrust.zone = s.thrust.zone ∧ s.blocksEnterFaulted.thrust.restraints
    = s.thrust.restraints ∧ s.blocksEnterFaulted.drive.setpoint = s.drive.setpoint ∧ s.blocksEnterFaulted.drive.guard
    = s.drive.guard ∧ s.blocksEnterFaulted.engine.state = s.engine.state ∧ s.blocksEnterFaulted.engine.seated =
    s.engine.seated ∧ s.blocksEnterFaulted.engine.attempt = s.engine.attempt ∧ s.blocksEnterFaulted.engine.zoneMembers
    = s.engine.zoneMembers ∧ s.blocksEnterFaulted.engine.answered = s.engine.answered ∧
    s.blocksEnterFaulted.engine.retry = s.engine.retry ∧ s.blocksEnterFaulted.engine.limit = s.engine.limit ∧
    s.blocksEnterFaulted.engine.stopping = s.engine.stopping ∧ s.blocksEnterFaulted.engine.closePending =
    s.engine.closePending ∧ s.blocksEnterFaulted.engine.requeue = s.engine.requeue ∧
    s.blocksEnterFaulted.engine.placed = s.engine.placed ∧ s.blocksEnterFaulted.engine.lastRefusal =
    s.engine.lastRefusal ∧ s.blocksEnterFaulted.engine.seatRetries = s.engine.seatRetries ∧
    s.blocksEnterFaulted.engine.zoneRefusals = s.engine.zoneRefusals ∧ s.blocksEnterFaulted.engine.fault =
    s.engine.fault ∧ s.blocksEnterFaulted.grout.ports = s.grout.ports ∧ s.blocksEnterFaulted.grout.restrained =
    s.grout.restrained ∧ s.blocksEnterFaulted.muck.faceRestrained = s.muck.faceRestrained ∧
    s.blocksEnterFaulted.muck.faceLow = s.muck.faceLow ∧ s.blocksEnterFaulted.muck.queue = s.muck.queue ∧
    s.blocksEnterFaulted.muck.lastIndexed = s.muck.lastIndexed ∧ s.blocksEnterFaulted.muck.muckRestrained =
    s.muck.muckRestrained ∧ s.blocksEnterFaulted.muck.spill = s.muck.spill ∧ s.blocksEnterFaulted.muck.weighed =
    s.muck.weighed ∧ s.blocksEnterFaulted.muck.carried = s.muck.carried ∧ s.blocksEnterFaulted.muck.uncarried =
    s.muck.uncarried ∧ s.blocksEnterFaulted.muck.excused = s.muck.excused ∧ s.blocksEnterFaulted.muck.indexed =
    s.muck.indexed ∧ s.blocksEnterFaulted.muck.machineAdvance = s.muck.machineAdvance ∧
    s.blocksEnterFaulted.muck.overdig = s.muck.overdig := by
  unfold blocksEnterFaulted
  dsimp only
  (repeat' split) <;> simp

@[simp] theorem takeFault_fields (cause : FaultCause) (s : State) :
    (s.takeFault cause).link.transmitting = s.link.transmitting ∧ (s.takeFault cause).node.number = s.node.number ∧
    (s.takeFault cause).node.config = s.node.config ∧ (s.takeFault cause).node.digest = s.node.digest ∧ (s.takeFault
    cause).node.lastRejection = s.node.lastRejection ∧ (s.takeFault cause).node.firstMembership =
    s.node.firstMembership ∧ (s.takeFault cause).machine.previous = s.machine.previous ∧ (s.takeFault
    cause).machine.view = s.machine.view ∧ (s.takeFault cause).machine.ring = s.machine.ring ∧ (s.takeFault
    cause).machine.beaconTimer = s.machine.beaconTimer ∧ (s.takeFault cause).thrust.sectorAdvance =
    s.thrust.sectorAdvance ∧ (s.takeFault cause).thrust.credited = s.thrust.credited ∧ (s.takeFault
    cause).thrust.setpoint = s.thrust.setpoint ∧ (s.takeFault cause).thrust.strokeReached = s.thrust.strokeReached ∧
    (s.takeFault cause).thrust.restraints = s.thrust.restraints ∧ (s.takeFault cause).drive.setpoint =
    s.drive.setpoint ∧ (s.takeFault cause).drive.guard = s.drive.guard ∧ (s.takeFault cause).plans.opened =
    s.plans.opened ∧ (s.takeFault cause).engine.attempt = s.engine.attempt ∧ (s.takeFault cause).engine.placed =
    s.engine.placed ∧ (s.takeFault cause).engine.lastRefusal = s.engine.lastRefusal ∧ (s.takeFault
    cause).engine.seatRetries = s.engine.seatRetries ∧ (s.takeFault cause).engine.zoneRefusals = s.engine.zoneRefusals
    ∧ (s.takeFault cause).engine.fault = s.engine.fault ∧ (s.takeFault cause).grout.ports = s.grout.ports ∧
    (s.takeFault cause).grout.restrained = s.grout.restrained ∧ (s.takeFault cause).muck.faceRestrained =
    s.muck.faceRestrained ∧ (s.takeFault cause).muck.faceLow = s.muck.faceLow ∧ (s.takeFault cause).muck.queue =
    s.muck.queue ∧ (s.takeFault cause).muck.lastIndexed = s.muck.lastIndexed ∧ (s.takeFault cause).muck.muckRestrained
    = s.muck.muckRestrained ∧ (s.takeFault cause).muck.spill = s.muck.spill ∧ (s.takeFault cause).muck.weighed =
    s.muck.weighed ∧ (s.takeFault cause).muck.carried = s.muck.carried ∧ (s.takeFault cause).muck.uncarried =
    s.muck.uncarried ∧ (s.takeFault cause).muck.excused = s.muck.excused ∧ (s.takeFault cause).muck.indexed =
    s.muck.indexed ∧ (s.takeFault cause).muck.machineAdvance = s.muck.machineAdvance ∧ (s.takeFault
    cause).muck.overdig = s.muck.overdig ∧ (s.takeFault cause).console.watch = s.console.watch ∧ (s.takeFault
    cause).console.records = s.console.records := by
  unfold takeFault
  split <;> simp

@[simp] theorem removePending_fields (s : State) :
    s.removePending.link.onWire = s.link.onWire ∧ s.removePending.link.transmitting = s.link.transmitting ∧
    s.removePending.link.nextAge = s.link.nextAge ∧ s.removePending.engine.state = s.engine.state ∧
    s.removePending.engine.seated = s.engine.seated ∧ s.removePending.engine.attempt = s.engine.attempt ∧
    s.removePending.engine.zoneMembers = s.engine.zoneMembers ∧ s.removePending.engine.answered = s.engine.answered ∧
    s.removePending.engine.retry = s.engine.retry ∧ s.removePending.engine.limit = s.engine.limit ∧
    s.removePending.engine.stopping = s.engine.stopping ∧ s.removePending.engine.placed = s.engine.placed ∧
    s.removePending.engine.lastRefusal = s.engine.lastRefusal ∧ s.removePending.engine.seatRetries =
    s.engine.seatRetries ∧ s.removePending.engine.zoneRefusals = s.engine.zoneRefusals ∧ s.removePending.engine.fault
    = s.engine.fault ∧ s.removePending.engine.erector = s.engine.erector ∧ s.removePending.engine.erectorCommand =
    s.engine.erectorCommand ∧ s.removePending.console.watch = s.console.watch ∧ s.removePending.console.notices =
    s.console.notices ∧ s.removePending.console.counters = s.console.counters ∧ s.removePending.console.records =
    s.console.records := by
  simp [removePending]

@[simp] theorem linkFault_fields (s : State) :
    s.linkFault.node.number = s.node.number ∧ s.linkFault.node.config = s.node.config ∧ s.linkFault.node.digest =
    s.node.digest ∧ s.linkFault.node.lastRejection = s.node.lastRejection ∧ s.linkFault.node.firstMembership =
    s.node.firstMembership ∧ s.linkFault.machine.previous = s.machine.previous ∧ s.linkFault.machine.view =
    s.machine.view ∧ s.linkFault.machine.ring = s.machine.ring ∧ s.linkFault.machine.beaconTimer =
    s.machine.beaconTimer ∧ s.linkFault.thrust.sectorAdvance = s.thrust.sectorAdvance ∧ s.linkFault.thrust.credited =
    s.thrust.credited ∧ s.linkFault.thrust.setpoint = s.thrust.setpoint ∧ s.linkFault.thrust.strokeReached =
    s.thrust.strokeReached ∧ s.linkFault.thrust.restraints = s.thrust.restraints ∧ s.linkFault.drive.setpoint =
    s.drive.setpoint ∧ s.linkFault.drive.guard = s.drive.guard ∧ s.linkFault.plans.opened = s.plans.opened ∧
    s.linkFault.engine.attempt = s.engine.attempt ∧ s.linkFault.engine.placed = s.engine.placed ∧
    s.linkFault.engine.lastRefusal = s.engine.lastRefusal ∧ s.linkFault.engine.seatRetries = s.engine.seatRetries ∧
    s.linkFault.engine.zoneRefusals = s.engine.zoneRefusals ∧ s.linkFault.engine.fault = s.engine.fault ∧
    s.linkFault.grout.ports = s.grout.ports ∧ s.linkFault.grout.restrained = s.grout.restrained ∧
    s.linkFault.muck.faceRestrained = s.muck.faceRestrained ∧ s.linkFault.muck.faceLow = s.muck.faceLow ∧
    s.linkFault.muck.queue = s.muck.queue ∧ s.linkFault.muck.lastIndexed = s.muck.lastIndexed ∧
    s.linkFault.muck.muckRestrained = s.muck.muckRestrained ∧ s.linkFault.muck.spill = s.muck.spill ∧
    s.linkFault.muck.weighed = s.muck.weighed ∧ s.linkFault.muck.carried = s.muck.carried ∧ s.linkFault.muck.uncarried
    = s.muck.uncarried ∧ s.linkFault.muck.excused = s.muck.excused ∧ s.linkFault.muck.indexed = s.muck.indexed ∧
    s.linkFault.muck.machineAdvance = s.muck.machineAdvance ∧ s.linkFault.muck.overdig = s.muck.overdig ∧
    s.linkFault.console.watch = s.console.watch ∧ s.linkFault.console.records = s.console.records := by
  simp [linkFault]

end Sys2Proof.Machine.State
end

