-- ==== Sys2Proof/Laws/AdvanceFields.lean ====
section
/-! SUPPORT. For each operation of Machine/Advance.lean, the fields it leaves as they are in the parts of State it may change. -/

namespace Sys2Proof.Machine.State

@[simp] theorem groutIncrement_fields (d : Nat) (s : State) :
    (s.groutIncrement d).link.transmitting = s.link.transmitting ∧ (s.groutIncrement d).machine.previous =
    s.machine.previous ∧ (s.groutIncrement d).machine.view = s.machine.view ∧ (s.groutIncrement d).machine.ring =
    s.machine.ring ∧ (s.groutIncrement d).machine.beaconTimer = s.machine.beaconTimer ∧ (s.groutIncrement
    d).thrust.sectorAdvance = s.thrust.sectorAdvance ∧ (s.groutIncrement d).thrust.credited = s.thrust.credited ∧
    (s.groutIncrement d).thrust.setpoint = s.thrust.setpoint ∧ (s.groutIncrement d).thrust.strokeReached =
    s.thrust.strokeReached ∧ (s.groutIncrement d).drive.setpoint = s.drive.setpoint ∧ (s.groutIncrement d).drive.guard
    = s.drive.guard ∧ (s.groutIncrement d).plans.opened = s.plans.opened ∧ (s.groutIncrement d).engine.attempt =
    s.engine.attempt ∧ (s.groutIncrement d).engine.placed = s.engine.placed ∧ (s.groutIncrement d).engine.lastRefusal
    = s.engine.lastRefusal ∧ (s.groutIncrement d).engine.seatRetries = s.engine.seatRetries ∧ (s.groutIncrement
    d).engine.zoneRefusals = s.engine.zoneRefusals ∧ (s.groutIncrement d).engine.fault = s.engine.fault ∧
    (s.groutIncrement d).muck.faceRestrained = s.muck.faceRestrained ∧ (s.groutIncrement d).muck.faceLow =
    s.muck.faceLow ∧ (s.groutIncrement d).muck.queue = s.muck.queue ∧ (s.groutIncrement d).muck.lastIndexed =
    s.muck.lastIndexed ∧ (s.groutIncrement d).muck.muckRestrained = s.muck.muckRestrained ∧ (s.groutIncrement
    d).muck.spill = s.muck.spill ∧ (s.groutIncrement d).muck.weighed = s.muck.weighed ∧ (s.groutIncrement
    d).muck.carried = s.muck.carried ∧ (s.groutIncrement d).muck.uncarried = s.muck.uncarried ∧ (s.groutIncrement
    d).muck.excused = s.muck.excused ∧ (s.groutIncrement d).muck.indexed = s.muck.indexed ∧ (s.groutIncrement
    d).muck.machineAdvance = s.muck.machineAdvance ∧ (s.groutIncrement d).muck.overdig = s.muck.overdig ∧
    (s.groutIncrement d).channels.cylinders = s.channels.cylinders ∧ (s.groutIncrement d).channels.drives =
    s.channels.drives ∧ (s.groutIncrement d).channels.linePressure = s.channels.linePressure ∧ (s.groutIncrement
    d).channels.screwFault = s.channels.screwFault ∧ (s.groutIncrement d).channels.face = s.channels.face ∧
    (s.groutIncrement d).channels.erectorFault = s.channels.erectorFault ∧ (s.groutIncrement d).console.watch =
    s.console.watch ∧ (s.groutIncrement d).console.records = s.console.records := by
  unfold groutIncrement
  dsimp only
  (repeat' split) <;> simp

@[simp] theorem evaluateOverdig_fields (s : State) :
    s.evaluateOverdig.link.transmitting = s.link.transmitting ∧ s.evaluateOverdig.machine.previous =
    s.machine.previous ∧ s.evaluateOverdig.machine.view = s.machine.view ∧ s.evaluateOverdig.machine.ring =
    s.machine.ring ∧ s.evaluateOverdig.machine.beaconTimer = s.machine.beaconTimer ∧
    s.evaluateOverdig.thrust.sectorAdvance = s.thrust.sectorAdvance ∧ s.evaluateOverdig.thrust.credited =
    s.thrust.credited ∧ s.evaluateOverdig.thrust.setpoint = s.thrust.setpoint ∧ s.evaluateOverdig.thrust.strokeReached
    = s.thrust.strokeReached ∧ s.evaluateOverdig.thrust.restraints = s.thrust.restraints ∧
    s.evaluateOverdig.drive.setpoint = s.drive.setpoint ∧ s.evaluateOverdig.drive.guard = s.drive.guard ∧
    s.evaluateOverdig.plans.opened = s.plans.opened ∧ s.evaluateOverdig.engine.attempt = s.engine.attempt ∧
    s.evaluateOverdig.engine.placed = s.engine.placed ∧ s.evaluateOverdig.engine.lastRefusal = s.engine.lastRefusal ∧
    s.evaluateOverdig.engine.seatRetries = s.engine.seatRetries ∧ s.evaluateOverdig.engine.zoneRefusals =
    s.engine.zoneRefusals ∧ s.evaluateOverdig.engine.fault = s.engine.fault ∧ s.evaluateOverdig.grout.ports =
    s.grout.ports ∧ s.evaluateOverdig.grout.restrained = s.grout.restrained ∧ s.evaluateOverdig.muck.faceRestrained =
    s.muck.faceRestrained ∧ s.evaluateOverdig.muck.faceLow = s.muck.faceLow ∧ s.evaluateOverdig.muck.queue =
    s.muck.queue ∧ s.evaluateOverdig.muck.lastIndexed = s.muck.lastIndexed ∧ s.evaluateOverdig.muck.muckRestrained =
    s.muck.muckRestrained ∧ s.evaluateOverdig.muck.spill = s.muck.spill ∧ s.evaluateOverdig.muck.weighed =
    s.muck.weighed ∧ s.evaluateOverdig.muck.carried = s.muck.carried ∧ s.evaluateOverdig.muck.uncarried =
    s.muck.uncarried ∧ s.evaluateOverdig.muck.excused = s.muck.excused ∧ s.evaluateOverdig.muck.indexed =
    s.muck.indexed ∧ s.evaluateOverdig.muck.machineAdvance = s.muck.machineAdvance ∧ s.evaluateOverdig.console.watch =
    s.console.watch ∧ s.evaluateOverdig.console.records = s.console.records := by
  unfold evaluateOverdig
  (repeat' split) <;> simp

@[simp] theorem updateMachineAdvance_fields (s : State) :
    s.updateMachineAdvance.link.transmitting = s.link.transmitting ∧ s.updateMachineAdvance.machine.previous =
    s.machine.previous ∧ s.updateMachineAdvance.machine.view = s.machine.view ∧ s.updateMachineAdvance.machine.ring =
    s.machine.ring ∧ s.updateMachineAdvance.machine.beaconTimer = s.machine.beaconTimer ∧
    s.updateMachineAdvance.thrust.sectorAdvance = s.thrust.sectorAdvance ∧ s.updateMachineAdvance.thrust.credited =
    s.thrust.credited ∧ s.updateMachineAdvance.thrust.setpoint = s.thrust.setpoint ∧
    s.updateMachineAdvance.thrust.strokeReached = s.thrust.strokeReached ∧ s.updateMachineAdvance.thrust.restraints =
    s.thrust.restraints ∧ s.updateMachineAdvance.drive.setpoint = s.drive.setpoint ∧
    s.updateMachineAdvance.drive.guard = s.drive.guard ∧ s.updateMachineAdvance.plans.opened = s.plans.opened ∧
    s.updateMachineAdvance.engine.attempt = s.engine.attempt ∧ s.updateMachineAdvance.engine.placed = s.engine.placed
    ∧ s.updateMachineAdvance.engine.lastRefusal = s.engine.lastRefusal ∧ s.updateMachineAdvance.engine.seatRetries =
    s.engine.seatRetries ∧ s.updateMachineAdvance.engine.zoneRefusals = s.engine.zoneRefusals ∧
    s.updateMachineAdvance.engine.fault = s.engine.fault ∧ s.updateMachineAdvance.grout.ports = s.grout.ports ∧
    s.updateMachineAdvance.grout.restrained = s.grout.restrained ∧ s.updateMachineAdvance.muck.faceRestrained =
    s.muck.faceRestrained ∧ s.updateMachineAdvance.muck.faceLow = s.muck.faceLow ∧ s.updateMachineAdvance.muck.queue =
    s.muck.queue ∧ s.updateMachineAdvance.muck.lastIndexed = s.muck.lastIndexed ∧
    s.updateMachineAdvance.muck.muckRestrained = s.muck.muckRestrained ∧ s.updateMachineAdvance.muck.spill =
    s.muck.spill ∧ s.updateMachineAdvance.muck.weighed = s.muck.weighed ∧ s.updateMachineAdvance.muck.carried =
    s.muck.carried ∧ s.updateMachineAdvance.muck.uncarried = s.muck.uncarried ∧ s.updateMachineAdvance.muck.excused =
    s.muck.excused ∧ s.updateMachineAdvance.muck.indexed = s.muck.indexed ∧ s.updateMachineAdvance.console.watch =
    s.console.watch ∧ s.updateMachineAdvance.console.records = s.console.records := by
  unfold updateMachineAdvance
  split <;> simp

@[simp] theorem testSteer_fields (s : State) :
    s.testSteer.thrust.cylinders = s.thrust.cylinders ∧ s.testSteer.thrust.sectorAdvance = s.thrust.sectorAdvance ∧
    s.testSteer.thrust.credited = s.thrust.credited ∧ s.testSteer.thrust.setpoint = s.thrust.setpoint ∧
    s.testSteer.thrust.strokeReached = s.thrust.strokeReached ∧ s.testSteer.thrust.zone = s.thrust.zone ∧
    s.testSteer.thrust.restraints = s.thrust.restraints := by
  unfold testSteer
  dsimp only
  (repeat' split) <;> simp

@[simp] theorem testStrokeReached_fields (s : State) :
    s.testStrokeReached.thrust.sectorAdvance = s.thrust.sectorAdvance ∧ s.testStrokeReached.thrust.credited =
    s.thrust.credited ∧ s.testStrokeReached.thrust.setpoint = s.thrust.setpoint ∧
    s.testStrokeReached.thrust.steerPause = s.thrust.steerPause ∧ s.testStrokeReached.thrust.zone = s.thrust.zone ∧
    s.testStrokeReached.thrust.restraints = s.thrust.restraints := by
  unfold testStrokeReached
  split <;> simp

@[simp] theorem testStrokeEnd_fields (s : State) :
    s.testStrokeEnd.link.transmitting = s.link.transmitting ∧ s.testStrokeEnd.machine.previous = s.machine.previous ∧
    s.testStrokeEnd.machine.view = s.machine.view ∧ s.testStrokeEnd.machine.ring = s.machine.ring ∧
    s.testStrokeEnd.machine.beaconTimer = s.machine.beaconTimer ∧ s.testStrokeEnd.thrust.sectorAdvance =
    s.thrust.sectorAdvance ∧ s.testStrokeEnd.thrust.credited = s.thrust.credited ∧ s.testStrokeEnd.thrust.setpoint =
    s.thrust.setpoint ∧ s.testStrokeEnd.thrust.strokeReached = s.thrust.strokeReached ∧
    s.testStrokeEnd.thrust.restraints = s.thrust.restraints ∧ s.testStrokeEnd.drive.setpoint = s.drive.setpoint ∧
    s.testStrokeEnd.drive.guard = s.drive.guard ∧ s.testStrokeEnd.plans.opened = s.plans.opened ∧
    s.testStrokeEnd.engine.attempt = s.engine.attempt ∧ s.testStrokeEnd.engine.placed = s.engine.placed ∧
    s.testStrokeEnd.engine.lastRefusal = s.engine.lastRefusal ∧ s.testStrokeEnd.engine.seatRetries =
    s.engine.seatRetries ∧ s.testStrokeEnd.engine.zoneRefusals = s.engine.zoneRefusals ∧ s.testStrokeEnd.engine.fault
    = s.engine.fault ∧ s.testStrokeEnd.grout.ports = s.grout.ports ∧ s.testStrokeEnd.grout.restrained =
    s.grout.restrained ∧ s.testStrokeEnd.muck.faceRestrained = s.muck.faceRestrained ∧ s.testStrokeEnd.muck.faceLow =
    s.muck.faceLow ∧ s.testStrokeEnd.muck.queue = s.muck.queue ∧ s.testStrokeEnd.muck.lastIndexed = s.muck.lastIndexed
    ∧ s.testStrokeEnd.muck.muckRestrained = s.muck.muckRestrained ∧ s.testStrokeEnd.muck.spill = s.muck.spill ∧
    s.testStrokeEnd.muck.weighed = s.muck.weighed ∧ s.testStrokeEnd.muck.carried = s.muck.carried ∧
    s.testStrokeEnd.muck.uncarried = s.muck.uncarried ∧ s.testStrokeEnd.muck.excused = s.muck.excused ∧
    s.testStrokeEnd.muck.indexed = s.muck.indexed ∧ s.testStrokeEnd.muck.machineAdvance = s.muck.machineAdvance ∧
    s.testStrokeEnd.muck.overdig = s.muck.overdig ∧ s.testStrokeEnd.console.watch = s.console.watch ∧
    s.testStrokeEnd.console.records = s.console.records := by
  unfold testStrokeEnd
  split <;> simp

@[simp] theorem creditAdvance_fields (s : State) :
    s.creditAdvance.link.transmitting = s.link.transmitting ∧ s.creditAdvance.machine.previous = s.machine.previous ∧
    s.creditAdvance.machine.view = s.machine.view ∧ s.creditAdvance.machine.ring = s.machine.ring ∧
    s.creditAdvance.machine.beaconTimer = s.machine.beaconTimer ∧ s.creditAdvance.thrust.sectorAdvance =
    s.thrust.sectorAdvance ∧ s.creditAdvance.thrust.setpoint = s.thrust.setpoint ∧
    s.creditAdvance.thrust.strokeReached = s.thrust.strokeReached ∧ s.creditAdvance.drive.setpoint = s.drive.setpoint
    ∧ s.creditAdvance.drive.guard = s.drive.guard ∧ s.creditAdvance.plans.opened = s.plans.opened ∧
    s.creditAdvance.engine.attempt = s.engine.attempt ∧ s.creditAdvance.engine.placed = s.engine.placed ∧
    s.creditAdvance.engine.lastRefusal = s.engine.lastRefusal ∧ s.creditAdvance.engine.seatRetries =
    s.engine.seatRetries ∧ s.creditAdvance.engine.zoneRefusals = s.engine.zoneRefusals ∧ s.creditAdvance.engine.fault
    = s.engine.fault ∧ s.creditAdvance.muck.faceRestrained = s.muck.faceRestrained ∧ s.creditAdvance.muck.faceLow =
    s.muck.faceLow ∧ s.creditAdvance.muck.queue = s.muck.queue ∧ s.creditAdvance.muck.lastIndexed = s.muck.lastIndexed
    ∧ s.creditAdvance.muck.muckRestrained = s.muck.muckRestrained ∧ s.creditAdvance.muck.spill = s.muck.spill ∧
    s.creditAdvance.muck.weighed = s.muck.weighed ∧ s.creditAdvance.muck.carried = s.muck.carried ∧
    s.creditAdvance.muck.uncarried = s.muck.uncarried ∧ s.creditAdvance.muck.excused = s.muck.excused ∧
    s.creditAdvance.muck.indexed = s.muck.indexed ∧ s.creditAdvance.muck.machineAdvance = s.muck.machineAdvance ∧
    s.creditAdvance.muck.overdig = s.muck.overdig ∧ s.creditAdvance.channels.cylinders = s.channels.cylinders ∧
    s.creditAdvance.channels.drives = s.channels.drives ∧ s.creditAdvance.channels.linePressure =
    s.channels.linePressure ∧ s.creditAdvance.channels.screwFault = s.channels.screwFault ∧
    s.creditAdvance.channels.face = s.channels.face ∧ s.creditAdvance.channels.erectorFault = s.channels.erectorFault
    ∧ s.creditAdvance.console.watch = s.console.watch ∧ s.creditAdvance.console.records = s.console.records := by
  unfold creditAdvance
  split <;> simp

@[simp] theorem recomputeAdvance_fields (s : State) :
    s.recomputeAdvance.link.transmitting = s.link.transmitting ∧ s.recomputeAdvance.machine.previous =
    s.machine.previous ∧ s.recomputeAdvance.machine.view = s.machine.view ∧ s.recomputeAdvance.machine.ring =
    s.machine.ring ∧ s.recomputeAdvance.machine.beaconTimer = s.machine.beaconTimer ∧
    s.recomputeAdvance.thrust.setpoint = s.thrust.setpoint ∧ s.recomputeAdvance.drive.setpoint = s.drive.setpoint ∧
    s.recomputeAdvance.drive.guard = s.drive.guard ∧ s.recomputeAdvance.plans.opened = s.plans.opened ∧
    s.recomputeAdvance.engine.attempt = s.engine.attempt ∧ s.recomputeAdvance.engine.placed = s.engine.placed ∧
    s.recomputeAdvance.engine.lastRefusal = s.engine.lastRefusal ∧ s.recomputeAdvance.engine.seatRetries =
    s.engine.seatRetries ∧ s.recomputeAdvance.engine.zoneRefusals = s.engine.zoneRefusals ∧
    s.recomputeAdvance.engine.fault = s.engine.fault ∧ s.recomputeAdvance.muck.faceRestrained = s.muck.faceRestrained
    ∧ s.recomputeAdvance.muck.faceLow = s.muck.faceLow ∧ s.recomputeAdvance.muck.queue = s.muck.queue ∧
    s.recomputeAdvance.muck.lastIndexed = s.muck.lastIndexed ∧ s.recomputeAdvance.muck.muckRestrained =
    s.muck.muckRestrained ∧ s.recomputeAdvance.muck.spill = s.muck.spill ∧ s.recomputeAdvance.muck.weighed =
    s.muck.weighed ∧ s.recomputeAdvance.muck.carried = s.muck.carried ∧ s.recomputeAdvance.muck.uncarried =
    s.muck.uncarried ∧ s.recomputeAdvance.muck.excused = s.muck.excused ∧ s.recomputeAdvance.muck.indexed =
    s.muck.indexed ∧ s.recomputeAdvance.channels.cylinders = s.channels.cylinders ∧ s.recomputeAdvance.channels.drives
    = s.channels.drives ∧ s.recomputeAdvance.channels.linePressure = s.channels.linePressure ∧
    s.recomputeAdvance.channels.screwFault = s.channels.screwFault ∧ s.recomputeAdvance.channels.face =
    s.channels.face ∧ s.recomputeAdvance.channels.erectorFault = s.channels.erectorFault ∧
    s.recomputeAdvance.console.watch = s.console.watch ∧ s.recomputeAdvance.console.records = s.console.records := by
  unfold recomputeAdvance
  dsimp only
  (repeat' split) <;> simp

@[simp] theorem captureOrigin_fields (s : State) :
    s.captureOrigin.link.transmitting = s.link.transmitting ∧ s.captureOrigin.machine.previous = s.machine.previous ∧
    s.captureOrigin.machine.view = s.machine.view ∧ s.captureOrigin.machine.ring = s.machine.ring ∧
    s.captureOrigin.machine.beaconTimer = s.machine.beaconTimer ∧ s.captureOrigin.thrust.setpoint = s.thrust.setpoint
    ∧ s.captureOrigin.thrust.restraints = s.thrust.restraints ∧ s.captureOrigin.drive.setpoint = s.drive.setpoint ∧
    s.captureOrigin.drive.guard = s.drive.guard ∧ s.captureOrigin.plans.opened = s.plans.opened ∧
    s.captureOrigin.engine.attempt = s.engine.attempt ∧ s.captureOrigin.engine.placed = s.engine.placed ∧
    s.captureOrigin.engine.lastRefusal = s.engine.lastRefusal ∧ s.captureOrigin.engine.seatRetries =
    s.engine.seatRetries ∧ s.captureOrigin.engine.zoneRefusals = s.engine.zoneRefusals ∧ s.captureOrigin.engine.fault
    = s.engine.fault ∧ s.captureOrigin.grout.ports = s.grout.ports ∧ s.captureOrigin.grout.restrained =
    s.grout.restrained ∧ s.captureOrigin.muck.faceRestrained = s.muck.faceRestrained ∧ s.captureOrigin.muck.faceLow =
    s.muck.faceLow ∧ s.captureOrigin.muck.queue = s.muck.queue ∧ s.captureOrigin.muck.lastIndexed = s.muck.lastIndexed
    ∧ s.captureOrigin.muck.muckRestrained = s.muck.muckRestrained ∧ s.captureOrigin.muck.spill = s.muck.spill ∧
    s.captureOrigin.muck.weighed = s.muck.weighed ∧ s.captureOrigin.muck.carried = s.muck.carried ∧
    s.captureOrigin.muck.uncarried = s.muck.uncarried ∧ s.captureOrigin.muck.excused = s.muck.excused ∧
    s.captureOrigin.muck.indexed = s.muck.indexed ∧ s.captureOrigin.console.watch = s.console.watch ∧
    s.captureOrigin.console.records = s.console.records := by
  simp [captureOrigin]

@[simp] theorem startProbe_fields (s : State) :
    s.startProbe.drive.drives = s.drive.drives ∧ s.startProbe.drive.setpoint = s.drive.setpoint := by
  unfold startProbe
  split <;> simp

@[simp] theorem guardBegins_fields (s : State) :
    s.guardBegins.link.onWire = s.link.onWire ∧ s.guardBegins.link.transmitting = s.link.transmitting ∧
    s.guardBegins.thrust.cylinders = s.thrust.cylinders ∧ s.guardBegins.thrust.sectorAdvance = s.thrust.sectorAdvance
    ∧ s.guardBegins.thrust.credited = s.thrust.credited ∧ s.guardBegins.thrust.setpoint = s.thrust.setpoint ∧
    s.guardBegins.thrust.steerPause = s.thrust.steerPause ∧ s.guardBegins.thrust.strokeReached =
    s.thrust.strokeReached ∧ s.guardBegins.thrust.zone = s.thrust.zone ∧ s.guardBegins.drive.drives = s.drive.drives ∧
    s.guardBegins.drive.setpoint = s.drive.setpoint ∧ s.guardBegins.engine.state = s.engine.state ∧
    s.guardBegins.engine.seated = s.engine.seated ∧ s.guardBegins.engine.attempt = s.engine.attempt ∧
    s.guardBegins.engine.zoneMembers = s.engine.zoneMembers ∧ s.guardBegins.engine.answered = s.engine.answered ∧
    s.guardBegins.engine.retry = s.engine.retry ∧ s.guardBegins.engine.limit = s.engine.limit ∧
    s.guardBegins.engine.stopping = s.engine.stopping ∧ s.guardBegins.engine.placed = s.engine.placed ∧
    s.guardBegins.engine.lastRefusal = s.engine.lastRefusal ∧ s.guardBegins.engine.seatRetries = s.engine.seatRetries
    ∧ s.guardBegins.engine.zoneRefusals = s.engine.zoneRefusals ∧ s.guardBegins.engine.fault = s.engine.fault ∧
    s.guardBegins.engine.erector = s.engine.erector ∧ s.guardBegins.engine.erectorCommand = s.engine.erectorCommand ∧
    s.guardBegins.console.watch = s.console.watch ∧ s.guardBegins.console.records = s.console.records := by
  simp [guardBegins]

@[simp] theorem guardEnds_fields (s : State) :
    s.guardEnds.link.onWire = s.link.onWire ∧ s.guardEnds.link.transmitting = s.link.transmitting ∧
    s.guardEnds.thrust.cylinders = s.thrust.cylinders ∧ s.guardEnds.thrust.sectorAdvance = s.thrust.sectorAdvance ∧
    s.guardEnds.thrust.credited = s.thrust.credited ∧ s.guardEnds.thrust.setpoint = s.thrust.setpoint ∧
    s.guardEnds.thrust.steerPause = s.thrust.steerPause ∧ s.guardEnds.thrust.strokeReached = s.thrust.strokeReached ∧
    s.guardEnds.thrust.zone = s.thrust.zone ∧ s.guardEnds.drive.drives = s.drive.drives ∧ s.guardEnds.drive.setpoint =
    s.drive.setpoint ∧ s.guardEnds.engine.state = s.engine.state ∧ s.guardEnds.engine.seated = s.engine.seated ∧
    s.guardEnds.engine.attempt = s.engine.attempt ∧ s.guardEnds.engine.zoneMembers = s.engine.zoneMembers ∧
    s.guardEnds.engine.answered = s.engine.answered ∧ s.guardEnds.engine.retry = s.engine.retry ∧
    s.guardEnds.engine.limit = s.engine.limit ∧ s.guardEnds.engine.stopping = s.engine.stopping ∧
    s.guardEnds.engine.placed = s.engine.placed ∧ s.guardEnds.engine.lastRefusal = s.engine.lastRefusal ∧
    s.guardEnds.engine.seatRetries = s.engine.seatRetries ∧ s.guardEnds.engine.zoneRefusals = s.engine.zoneRefusals ∧
    s.guardEnds.engine.fault = s.engine.fault ∧ s.guardEnds.engine.erector = s.engine.erector ∧
    s.guardEnds.engine.erectorCommand = s.engine.erectorCommand ∧ s.guardEnds.console.watch = s.console.watch ∧
    s.guardEnds.console.records = s.console.records := by
  simp [guardEnds]

@[simp] theorem setGuardFlags_fields (manual latch : Bool) (s : State) :
    (s.setGuardFlags manual latch).link.onWire = s.link.onWire ∧ (s.setGuardFlags manual latch).link.transmitting =
    s.link.transmitting ∧ (s.setGuardFlags manual latch).thrust.cylinders = s.thrust.cylinders ∧ (s.setGuardFlags
    manual latch).thrust.sectorAdvance = s.thrust.sectorAdvance ∧ (s.setGuardFlags manual latch).thrust.credited =
    s.thrust.credited ∧ (s.setGuardFlags manual latch).thrust.setpoint = s.thrust.setpoint ∧ (s.setGuardFlags manual
    latch).thrust.steerPause = s.thrust.steerPause ∧ (s.setGuardFlags manual latch).thrust.strokeReached =
    s.thrust.strokeReached ∧ (s.setGuardFlags manual latch).thrust.zone = s.thrust.zone ∧ (s.setGuardFlags manual
    latch).drive.drives = s.drive.drives ∧ (s.setGuardFlags manual latch).drive.setpoint = s.drive.setpoint ∧
    (s.setGuardFlags manual latch).engine.state = s.engine.state ∧ (s.setGuardFlags manual latch).engine.seated =
    s.engine.seated ∧ (s.setGuardFlags manual latch).engine.attempt = s.engine.attempt ∧ (s.setGuardFlags manual
    latch).engine.zoneMembers = s.engine.zoneMembers ∧ (s.setGuardFlags manual latch).engine.answered =
    s.engine.answered ∧ (s.setGuardFlags manual latch).engine.retry = s.engine.retry ∧ (s.setGuardFlags manual
    latch).engine.limit = s.engine.limit ∧ (s.setGuardFlags manual latch).engine.stopping = s.engine.stopping ∧
    (s.setGuardFlags manual latch).engine.placed = s.engine.placed ∧ (s.setGuardFlags manual latch).engine.lastRefusal
    = s.engine.lastRefusal ∧ (s.setGuardFlags manual latch).engine.seatRetries = s.engine.seatRetries ∧
    (s.setGuardFlags manual latch).engine.zoneRefusals = s.engine.zoneRefusals ∧ (s.setGuardFlags manual
    latch).engine.fault = s.engine.fault ∧ (s.setGuardFlags manual latch).engine.erector = s.engine.erector ∧
    (s.setGuardFlags manual latch).engine.erectorCommand = s.engine.erectorCommand ∧ (s.setGuardFlags manual
    latch).console.watch = s.console.watch ∧ (s.setGuardFlags manual latch).console.records = s.console.records := by
  unfold setGuardFlags
  dsimp only
  (repeat' split) <;> simp

@[simp] theorem recomputeTotal_fields (s : State) :
    s.recomputeTotal.link.onWire = s.link.onWire ∧ s.recomputeTotal.link.transmitting = s.link.transmitting ∧
    s.recomputeTotal.thrust.cylinders = s.thrust.cylinders ∧ s.recomputeTotal.thrust.sectorAdvance =
    s.thrust.sectorAdvance ∧ s.recomputeTotal.thrust.credited = s.thrust.credited ∧ s.recomputeTotal.thrust.setpoint =
    s.thrust.setpoint ∧ s.recomputeTotal.thrust.steerPause = s.thrust.steerPause ∧
    s.recomputeTotal.thrust.strokeReached = s.thrust.strokeReached ∧ s.recomputeTotal.thrust.zone = s.thrust.zone ∧
    s.recomputeTotal.drive.drives = s.drive.drives ∧ s.recomputeTotal.drive.setpoint = s.drive.setpoint ∧
    s.recomputeTotal.engine.state = s.engine.state ∧ s.recomputeTotal.engine.seated = s.engine.seated ∧
    s.recomputeTotal.engine.attempt = s.engine.attempt ∧ s.recomputeTotal.engine.zoneMembers = s.engine.zoneMembers ∧
    s.recomputeTotal.engine.answered = s.engine.answered ∧ s.recomputeTotal.engine.retry = s.engine.retry ∧
    s.recomputeTotal.engine.limit = s.engine.limit ∧ s.recomputeTotal.engine.stopping = s.engine.stopping ∧
    s.recomputeTotal.engine.placed = s.engine.placed ∧ s.recomputeTotal.engine.lastRefusal = s.engine.lastRefusal ∧
    s.recomputeTotal.engine.seatRetries = s.engine.seatRetries ∧ s.recomputeTotal.engine.zoneRefusals =
    s.engine.zoneRefusals ∧ s.recomputeTotal.engine.fault = s.engine.fault ∧ s.recomputeTotal.engine.erector =
    s.engine.erector ∧ s.recomputeTotal.engine.erectorCommand = s.engine.erectorCommand ∧
    s.recomputeTotal.console.watch = s.console.watch ∧ s.recomputeTotal.console.records = s.console.records := by
  unfold recomputeTotal
  dsimp only
  (repeat' split) <;> simp

@[simp] theorem viewChanged_fields (s : State) :
    s.viewChanged.link.transmitting = s.link.transmitting ∧ s.viewChanged.machine.previous = s.machine.previous ∧
    s.viewChanged.machine.view = s.machine.view ∧ s.viewChanged.machine.ring = s.machine.ring ∧
    s.viewChanged.machine.beaconTimer = s.machine.beaconTimer ∧ s.viewChanged.thrust.sectorAdvance =
    s.thrust.sectorAdvance ∧ s.viewChanged.thrust.credited = s.thrust.credited ∧ s.viewChanged.thrust.setpoint =
    s.thrust.setpoint ∧ s.viewChanged.thrust.strokeReached = s.thrust.strokeReached ∧ s.viewChanged.drive.setpoint =
    s.drive.setpoint ∧ s.viewChanged.plans.opened = s.plans.opened ∧ s.viewChanged.engine.attempt = s.engine.attempt ∧
    s.viewChanged.engine.placed = s.engine.placed ∧ s.viewChanged.engine.lastRefusal = s.engine.lastRefusal ∧
    s.viewChanged.engine.seatRetries = s.engine.seatRetries ∧ s.viewChanged.engine.zoneRefusals =
    s.engine.zoneRefusals ∧ s.viewChanged.engine.fault = s.engine.fault ∧ s.viewChanged.grout.ports = s.grout.ports ∧
    s.viewChanged.grout.restrained = s.grout.restrained ∧ s.viewChanged.muck.faceRestrained = s.muck.faceRestrained ∧
    s.viewChanged.muck.faceLow = s.muck.faceLow ∧ s.viewChanged.muck.queue = s.muck.queue ∧
    s.viewChanged.muck.lastIndexed = s.muck.lastIndexed ∧ s.viewChanged.muck.muckRestrained = s.muck.muckRestrained ∧
    s.viewChanged.muck.spill = s.muck.spill ∧ s.viewChanged.muck.weighed = s.muck.weighed ∧ s.viewChanged.muck.carried
    = s.muck.carried ∧ s.viewChanged.muck.uncarried = s.muck.uncarried ∧ s.viewChanged.muck.excused = s.muck.excused ∧
    s.viewChanged.muck.indexed = s.muck.indexed ∧ s.viewChanged.console.watch = s.console.watch ∧
    s.viewChanged.console.records = s.console.records := by
  simp [viewChanged]

@[simp] theorem peerDeparts_fields (member : Nat) (s : State) :
    (s.peerDeparts member).link.transmitting = s.link.transmitting ∧ (s.peerDeparts member).machine.previous =
    s.machine.previous ∧ (s.peerDeparts member).machine.view = s.machine.view ∧ (s.peerDeparts member).machine.ring =
    s.machine.ring ∧ (s.peerDeparts member).machine.beaconTimer = s.machine.beaconTimer ∧ (s.peerDeparts
    member).thrust.sectorAdvance = s.thrust.sectorAdvance ∧ (s.peerDeparts member).thrust.credited = s.thrust.credited
    ∧ (s.peerDeparts member).thrust.setpoint = s.thrust.setpoint ∧ (s.peerDeparts member).thrust.strokeReached =
    s.thrust.strokeReached ∧ (s.peerDeparts member).drive.setpoint = s.drive.setpoint ∧ (s.peerDeparts
    member).drive.guard = s.drive.guard ∧ (s.peerDeparts member).plans.opened = s.plans.opened ∧ (s.peerDeparts
    member).engine.attempt = s.engine.attempt ∧ (s.peerDeparts member).engine.placed = s.engine.placed ∧
    (s.peerDeparts member).engine.lastRefusal = s.engine.lastRefusal ∧ (s.peerDeparts member).engine.seatRetries =
    s.engine.seatRetries ∧ (s.peerDeparts member).engine.zoneRefusals = s.engine.zoneRefusals ∧ (s.peerDeparts
    member).engine.fault = s.engine.fault ∧ (s.peerDeparts member).grout.ports = s.grout.ports ∧ (s.peerDeparts
    member).grout.restrained = s.grout.restrained ∧ (s.peerDeparts member).muck.faceRestrained = s.muck.faceRestrained
    ∧ (s.peerDeparts member).muck.faceLow = s.muck.faceLow ∧ (s.peerDeparts member).muck.queue = s.muck.queue ∧
    (s.peerDeparts member).muck.lastIndexed = s.muck.lastIndexed ∧ (s.peerDeparts member).muck.muckRestrained =
    s.muck.muckRestrained ∧ (s.peerDeparts member).muck.spill = s.muck.spill ∧ (s.peerDeparts member).muck.weighed =
    s.muck.weighed ∧ (s.peerDeparts member).muck.carried = s.muck.carried ∧ (s.peerDeparts member).muck.uncarried =
    s.muck.uncarried ∧ (s.peerDeparts member).muck.excused = s.muck.excused ∧ (s.peerDeparts member).muck.indexed =
    s.muck.indexed ∧ (s.peerDeparts member).muck.machineAdvance = s.muck.machineAdvance ∧ (s.peerDeparts
    member).muck.overdig = s.muck.overdig ∧ (s.peerDeparts member).console.watch = s.console.watch ∧ (s.peerDeparts
    member).console.records = s.console.records := by
  unfold peerDeparts
  dsimp only
  (repeat' split) <;> simp

@[simp] theorem driveEntersBore_fields (s : State) :
    s.driveEntersBore.link.transmitting = s.link.transmitting ∧ s.driveEntersBore.machine.previous =
    s.machine.previous ∧ s.driveEntersBore.machine.view = s.machine.view ∧ s.driveEntersBore.machine.ring =
    s.machine.ring ∧ s.driveEntersBore.machine.beaconTimer = s.machine.beaconTimer ∧
    s.driveEntersBore.thrust.sectorAdvance = s.thrust.sectorAdvance ∧ s.driveEntersBore.thrust.credited =
    s.thrust.credited ∧ s.driveEntersBore.thrust.setpoint = s.thrust.setpoint ∧ s.driveEntersBore.thrust.strokeReached
    = s.thrust.strokeReached ∧ s.driveEntersBore.thrust.restraints = s.thrust.restraints ∧
    s.driveEntersBore.drive.setpoint = s.drive.setpoint ∧ s.driveEntersBore.drive.guard = s.drive.guard ∧
    s.driveEntersBore.plans.opened = s.plans.opened ∧ s.driveEntersBore.engine.attempt = s.engine.attempt ∧
    s.driveEntersBore.engine.placed = s.engine.placed ∧ s.driveEntersBore.engine.lastRefusal = s.engine.lastRefusal ∧
    s.driveEntersBore.engine.seatRetries = s.engine.seatRetries ∧ s.driveEntersBore.engine.zoneRefusals =
    s.engine.zoneRefusals ∧ s.driveEntersBore.engine.fault = s.engine.fault ∧ s.driveEntersBore.grout.ports =
    s.grout.ports ∧ s.driveEntersBore.grout.restrained = s.grout.restrained ∧ s.driveEntersBore.muck.faceRestrained =
    s.muck.faceRestrained ∧ s.driveEntersBore.muck.faceLow = s.muck.faceLow ∧ s.driveEntersBore.muck.queue =
    s.muck.queue ∧ s.driveEntersBore.muck.lastIndexed = s.muck.lastIndexed ∧ s.driveEntersBore.muck.muckRestrained =
    s.muck.muckRestrained ∧ s.driveEntersBore.muck.spill = s.muck.spill ∧ s.driveEntersBore.muck.weighed =
    s.muck.weighed ∧ s.driveEntersBore.muck.carried = s.muck.carried ∧ s.driveEntersBore.muck.uncarried =
    s.muck.uncarried ∧ s.driveEntersBore.muck.excused = s.muck.excused ∧ s.driveEntersBore.muck.indexed =
    s.muck.indexed ∧ s.driveEntersBore.muck.machineAdvance = s.muck.machineAdvance ∧ s.driveEntersBore.muck.overdig =
    s.muck.overdig ∧ s.driveEntersBore.console.watch = s.console.watch ∧ s.driveEntersBore.console.records =
    s.console.records := by
  unfold driveEntersBore
  dsimp only
  (repeat' split) <;> simp

@[simp] theorem thrustEntersBore_fields (s : State) :
    s.thrustEntersBore.link.transmitting = s.link.transmitting ∧ s.thrustEntersBore.machine.previous =
    s.machine.previous ∧ s.thrustEntersBore.machine.view = s.machine.view ∧ s.thrustEntersBore.machine.ring =
    s.machine.ring ∧ s.thrustEntersBore.machine.beaconTimer = s.machine.beaconTimer ∧
    s.thrustEntersBore.thrust.setpoint = s.thrust.setpoint ∧ s.thrustEntersBore.drive.setpoint = s.drive.setpoint ∧
    s.thrustEntersBore.drive.guard = s.drive.guard ∧ s.thrustEntersBore.plans.opened = s.plans.opened ∧
    s.thrustEntersBore.engine.attempt = s.engine.attempt ∧ s.thrustEntersBore.engine.placed = s.engine.placed ∧
    s.thrustEntersBore.engine.lastRefusal = s.engine.lastRefusal ∧ s.thrustEntersBore.engine.seatRetries =
    s.engine.seatRetries ∧ s.thrustEntersBore.engine.zoneRefusals = s.engine.zoneRefusals ∧
    s.thrustEntersBore.engine.fault = s.engine.fault ∧ s.thrustEntersBore.muck.faceRestrained = s.muck.faceRestrained
    ∧ s.thrustEntersBore.muck.faceLow = s.muck.faceLow ∧ s.thrustEntersBore.muck.queue = s.muck.queue ∧
    s.thrustEntersBore.muck.lastIndexed = s.muck.lastIndexed ∧ s.thrustEntersBore.muck.muckRestrained =
    s.muck.muckRestrained ∧ s.thrustEntersBore.muck.spill = s.muck.spill ∧ s.thrustEntersBore.muck.weighed =
    s.muck.weighed ∧ s.thrustEntersBore.muck.carried = s.muck.carried ∧ s.thrustEntersBore.muck.uncarried =
    s.muck.uncarried ∧ s.thrustEntersBore.muck.excused = s.muck.excused ∧ s.thrustEntersBore.muck.indexed =
    s.muck.indexed ∧ s.thrustEntersBore.channels.cylinders = s.channels.cylinders ∧ s.thrustEntersBore.channels.drives
    = s.channels.drives ∧ s.thrustEntersBore.channels.linePressure = s.channels.linePressure ∧
    s.thrustEntersBore.channels.screwFault = s.channels.screwFault ∧ s.thrustEntersBore.channels.face =
    s.channels.face ∧ s.thrustEntersBore.channels.erectorFault = s.channels.erectorFault ∧
    s.thrustEntersBore.console.watch = s.console.watch ∧ s.thrustEntersBore.console.records = s.console.records := by
  simp [thrustEntersBore]

@[simp] theorem handEntryToBore_fields (s : State) :
    s.handEntryToBore.link.transmitting = s.link.transmitting ∧ s.handEntryToBore.machine.previous =
    s.machine.previous ∧ s.handEntryToBore.machine.view = s.machine.view ∧ s.handEntryToBore.machine.ring =
    s.machine.ring ∧ s.handEntryToBore.machine.beaconTimer = s.machine.beaconTimer ∧ s.handEntryToBore.thrust.setpoint
    = s.thrust.setpoint ∧ s.handEntryToBore.drive.setpoint = s.drive.setpoint ∧ s.handEntryToBore.drive.guard =
    s.drive.guard ∧ s.handEntryToBore.plans.opened = s.plans.opened ∧ s.handEntryToBore.engine.attempt =
    s.engine.attempt ∧ s.handEntryToBore.engine.placed = s.engine.placed ∧ s.handEntryToBore.engine.lastRefusal =
    s.engine.lastRefusal ∧ s.handEntryToBore.engine.seatRetries = s.engine.seatRetries ∧
    s.handEntryToBore.engine.zoneRefusals = s.engine.zoneRefusals ∧ s.handEntryToBore.engine.fault = s.engine.fault ∧
    s.handEntryToBore.muck.faceRestrained = s.muck.faceRestrained ∧ s.handEntryToBore.muck.faceLow = s.muck.faceLow ∧
    s.handEntryToBore.muck.queue = s.muck.queue ∧ s.handEntryToBore.muck.lastIndexed = s.muck.lastIndexed ∧
    s.handEntryToBore.muck.muckRestrained = s.muck.muckRestrained ∧ s.handEntryToBore.muck.spill = s.muck.spill ∧
    s.handEntryToBore.muck.weighed = s.muck.weighed ∧ s.handEntryToBore.muck.carried = s.muck.carried ∧
    s.handEntryToBore.muck.uncarried = s.muck.uncarried ∧ s.handEntryToBore.muck.excused = s.muck.excused ∧
    s.handEntryToBore.muck.indexed = s.muck.indexed ∧ s.handEntryToBore.channels.cylinders = s.channels.cylinders ∧
    s.handEntryToBore.channels.drives = s.channels.drives ∧ s.handEntryToBore.channels.linePressure =
    s.channels.linePressure ∧ s.handEntryToBore.channels.screwFault = s.channels.screwFault ∧
    s.handEntryToBore.channels.face = s.channels.face ∧ s.handEntryToBore.channels.erectorFault =
    s.channels.erectorFault ∧ s.handEntryToBore.console.watch = s.console.watch ∧ s.handEntryToBore.console.records =
    s.console.records := by
  simp only [handEntryToBore, whilePhase]
  (repeat' split) <;> simp

@[simp] theorem handEntryToBuild_fields (s : State) :
    s.handEntryToBuild.link.onWire = s.link.onWire ∧ s.handEntryToBuild.link.transmitting = s.link.transmitting ∧
    s.handEntryToBuild.drive.setpoint = s.drive.setpoint ∧ s.handEntryToBuild.drive.guard = s.drive.guard ∧
    s.handEntryToBuild.engine.stopping = s.engine.stopping ∧ s.handEntryToBuild.engine.placed = s.engine.placed ∧
    s.handEntryToBuild.engine.lastRefusal = s.engine.lastRefusal ∧ s.handEntryToBuild.engine.seatRetries =
    s.engine.seatRetries ∧ s.handEntryToBuild.engine.zoneRefusals = s.engine.zoneRefusals ∧
    s.handEntryToBuild.engine.erector = s.engine.erector ∧ s.handEntryToBuild.engine.erectorCommand =
    s.engine.erectorCommand ∧ s.handEntryToBuild.grout.ports = s.grout.ports ∧ s.handEntryToBuild.grout.pointer =
    s.grout.pointer ∧ s.handEntryToBuild.grout.restrained = s.grout.restrained ∧
    s.handEntryToBuild.muck.faceRestrained = s.muck.faceRestrained ∧ s.handEntryToBuild.muck.faceLow = s.muck.faceLow
    ∧ s.handEntryToBuild.muck.queue = s.muck.queue ∧ s.handEntryToBuild.muck.lastIndexed = s.muck.lastIndexed ∧
    s.handEntryToBuild.muck.muckRestrained = s.muck.muckRestrained ∧ s.handEntryToBuild.muck.spill = s.muck.spill ∧
    s.handEntryToBuild.muck.weighed = s.muck.weighed ∧ s.handEntryToBuild.muck.carried = s.muck.carried ∧
    s.handEntryToBuild.muck.uncarried = s.muck.uncarried ∧ s.handEntryToBuild.muck.excused = s.muck.excused ∧
    s.handEntryToBuild.muck.indexed = s.muck.indexed ∧ s.handEntryToBuild.muck.machineAdvance = s.muck.machineAdvance
    ∧ s.handEntryToBuild.muck.overdig = s.muck.overdig ∧ s.handEntryToBuild.channels.cylinders = s.channels.cylinders
    ∧ s.handEntryToBuild.channels.drives = s.channels.drives ∧ s.handEntryToBuild.channels.linePressure =
    s.channels.linePressure ∧ s.handEntryToBuild.channels.screwFault = s.channels.screwFault ∧
    s.handEntryToBuild.channels.face = s.channels.face ∧ s.handEntryToBuild.channels.erectorFault =
    s.channels.erectorFault ∧ s.handEntryToBuild.console.watch = s.console.watch ∧ s.handEntryToBuild.console.records
    = s.console.records := by
  simp [handEntryToBuild]

end Sys2Proof.Machine.State
end

