-- ==== Sys2Proof/Laws/PhaseFields.lean ====
section
/-! SUPPORT. For each operation of Machine/Phase.lean, the fields it leaves as they are in the parts of State it may change. -/

namespace Sys2Proof.Machine.State

@[simp] theorem takeHoldFrame_fields (sender : Station) (cause : HoldCause) (sent : Grade) (s : State) :
    (s.takeHoldFrame sender cause sent).link.transmitting = s.link.transmitting ∧ (s.takeHoldFrame sender cause
    sent).machine.previous = s.machine.previous ∧ (s.takeHoldFrame sender cause sent).machine.view = s.machine.view ∧
    (s.takeHoldFrame sender cause sent).machine.ring = s.machine.ring ∧ (s.takeHoldFrame sender cause
    sent).machine.beaconTimer = s.machine.beaconTimer ∧ (s.takeHoldFrame sender cause sent).thrust.sectorAdvance =
    s.thrust.sectorAdvance ∧ (s.takeHoldFrame sender cause sent).thrust.credited = s.thrust.credited ∧
    (s.takeHoldFrame sender cause sent).thrust.setpoint = s.thrust.setpoint ∧ (s.takeHoldFrame sender cause
    sent).thrust.strokeReached = s.thrust.strokeReached ∧ (s.takeHoldFrame sender cause sent).thrust.restraints =
    s.thrust.restraints ∧ (s.takeHoldFrame sender cause sent).drive.setpoint = s.drive.setpoint ∧ (s.takeHoldFrame
    sender cause sent).drive.guard = s.drive.guard ∧ (s.takeHoldFrame sender cause sent).plans.opened = s.plans.opened
    ∧ (s.takeHoldFrame sender cause sent).engine.attempt = s.engine.attempt ∧ (s.takeHoldFrame sender cause
    sent).engine.placed = s.engine.placed ∧ (s.takeHoldFrame sender cause sent).engine.lastRefusal =
    s.engine.lastRefusal ∧ (s.takeHoldFrame sender cause sent).engine.seatRetries = s.engine.seatRetries ∧
    (s.takeHoldFrame sender cause sent).engine.zoneRefusals = s.engine.zoneRefusals ∧ (s.takeHoldFrame sender cause
    sent).engine.fault = s.engine.fault ∧ (s.takeHoldFrame sender cause sent).grout.ports = s.grout.ports ∧
    (s.takeHoldFrame sender cause sent).grout.restrained = s.grout.restrained ∧ (s.takeHoldFrame sender cause
    sent).muck.faceRestrained = s.muck.faceRestrained ∧ (s.takeHoldFrame sender cause sent).muck.faceLow =
    s.muck.faceLow ∧ (s.takeHoldFrame sender cause sent).muck.queue = s.muck.queue ∧ (s.takeHoldFrame sender cause
    sent).muck.lastIndexed = s.muck.lastIndexed ∧ (s.takeHoldFrame sender cause sent).muck.muckRestrained =
    s.muck.muckRestrained ∧ (s.takeHoldFrame sender cause sent).muck.spill = s.muck.spill ∧ (s.takeHoldFrame sender
    cause sent).muck.weighed = s.muck.weighed ∧ (s.takeHoldFrame sender cause sent).muck.carried = s.muck.carried ∧
    (s.takeHoldFrame sender cause sent).muck.uncarried = s.muck.uncarried ∧ (s.takeHoldFrame sender cause
    sent).muck.excused = s.muck.excused ∧ (s.takeHoldFrame sender cause sent).muck.indexed = s.muck.indexed ∧
    (s.takeHoldFrame sender cause sent).muck.machineAdvance = s.muck.machineAdvance ∧ (s.takeHoldFrame sender cause
    sent).muck.overdig = s.muck.overdig ∧ (s.takeHoldFrame sender cause sent).console.watch = s.console.watch ∧
    (s.takeHoldFrame sender cause sent).console.records = s.console.records := by
  unfold takeHoldFrame
  split <;> simp

@[simp] theorem takePropose_fields (t : VoteTarget) (s : State) :
    (s.takePropose t).link.onWire = s.link.onWire ∧ (s.takePropose t).link.transmitting = s.link.transmitting ∧
    (s.takePropose t).machine.phase = s.machine.phase ∧ (s.takePropose t).machine.current = s.machine.current ∧
    (s.takePropose t).machine.previous = s.machine.previous ∧ (s.takePropose t).machine.lastFailure =
    s.machine.lastFailure ∧ (s.takePropose t).machine.view = s.machine.view ∧ (s.takePropose t).machine.ring =
    s.machine.ring ∧ (s.takePropose t).machine.beaconTimer = s.machine.beaconTimer ∧ (s.takePropose t).engine.state =
    s.engine.state ∧ (s.takePropose t).engine.seated = s.engine.seated ∧ (s.takePropose t).engine.attempt =
    s.engine.attempt ∧ (s.takePropose t).engine.zoneMembers = s.engine.zoneMembers ∧ (s.takePropose t).engine.answered
    = s.engine.answered ∧ (s.takePropose t).engine.retry = s.engine.retry ∧ (s.takePropose t).engine.limit =
    s.engine.limit ∧ (s.takePropose t).engine.stopping = s.engine.stopping ∧ (s.takePropose t).engine.placed =
    s.engine.placed ∧ (s.takePropose t).engine.lastRefusal = s.engine.lastRefusal ∧ (s.takePropose
    t).engine.seatRetries = s.engine.seatRetries ∧ (s.takePropose t).engine.zoneRefusals = s.engine.zoneRefusals ∧
    (s.takePropose t).engine.fault = s.engine.fault ∧ (s.takePropose t).engine.erector = s.engine.erector ∧
    (s.takePropose t).engine.erectorCommand = s.engine.erectorCommand ∧ (s.takePropose t).console.watch =
    s.console.watch ∧ (s.takePropose t).console.records = s.console.records := by
  unfold takePropose
  (repeat' split) <;> simp

@[simp] theorem succeedRound_fields (t : VoteTarget) (s : State) :
    (s.succeedRound t).link.transmitting = s.link.transmitting ∧ (s.succeedRound t).machine.view = s.machine.view ∧
    (s.succeedRound t).machine.ring = s.machine.ring ∧ (s.succeedRound t).machine.beaconTimer = s.machine.beaconTimer
    ∧ (s.succeedRound t).thrust.setpoint = s.thrust.setpoint ∧ (s.succeedRound t).drive.setpoint = s.drive.setpoint ∧
    (s.succeedRound t).drive.guard = s.drive.guard ∧ (s.succeedRound t).plans.opened = s.plans.opened ∧
    (s.succeedRound t).engine.placed = s.engine.placed ∧ (s.succeedRound t).engine.lastRefusal = s.engine.lastRefusal
    ∧ (s.succeedRound t).engine.seatRetries = s.engine.seatRetries ∧ (s.succeedRound t).engine.zoneRefusals =
    s.engine.zoneRefusals ∧ (s.succeedRound t).muck.faceRestrained = s.muck.faceRestrained ∧ (s.succeedRound
    t).muck.faceLow = s.muck.faceLow ∧ (s.succeedRound t).muck.queue = s.muck.queue ∧ (s.succeedRound
    t).muck.lastIndexed = s.muck.lastIndexed ∧ (s.succeedRound t).muck.muckRestrained = s.muck.muckRestrained ∧
    (s.succeedRound t).muck.spill = s.muck.spill ∧ (s.succeedRound t).muck.weighed = s.muck.weighed ∧ (s.succeedRound
    t).muck.carried = s.muck.carried ∧ (s.succeedRound t).muck.uncarried = s.muck.uncarried ∧ (s.succeedRound
    t).muck.excused = s.muck.excused ∧ (s.succeedRound t).muck.indexed = s.muck.indexed ∧ (s.succeedRound
    t).channels.cylinders = s.channels.cylinders ∧ (s.succeedRound t).channels.drives = s.channels.drives ∧
    (s.succeedRound t).channels.linePressure = s.channels.linePressure ∧ (s.succeedRound t).channels.screwFault =
    s.channels.screwFault ∧ (s.succeedRound t).channels.face = s.channels.face ∧ (s.succeedRound
    t).channels.erectorFault = s.channels.erectorFault ∧ (s.succeedRound t).console.watch = s.console.watch ∧
    (s.succeedRound t).console.records = s.console.records := by
  unfold succeedRound
  (repeat' split) <;> simp

@[simp] theorem recordVote_fields (member : Nat) (t : VoteTarget) (a : VoteAnswer) (s : State) :
    (s.recordVote member t a).link.transmitting = s.link.transmitting ∧ (s.recordVote member t a).machine.view =
    s.machine.view ∧ (s.recordVote member t a).machine.ring = s.machine.ring ∧ (s.recordVote member t
    a).machine.beaconTimer = s.machine.beaconTimer ∧ (s.recordVote member t a).thrust.setpoint = s.thrust.setpoint ∧
    (s.recordVote member t a).drive.setpoint = s.drive.setpoint ∧ (s.recordVote member t a).drive.guard =
    s.drive.guard ∧ (s.recordVote member t a).plans.opened = s.plans.opened ∧ (s.recordVote member t a).engine.placed
    = s.engine.placed ∧ (s.recordVote member t a).engine.lastRefusal = s.engine.lastRefusal ∧ (s.recordVote member t
    a).engine.seatRetries = s.engine.seatRetries ∧ (s.recordVote member t a).engine.zoneRefusals =
    s.engine.zoneRefusals ∧ (s.recordVote member t a).muck.faceRestrained = s.muck.faceRestrained ∧ (s.recordVote
    member t a).muck.faceLow = s.muck.faceLow ∧ (s.recordVote member t a).muck.queue = s.muck.queue ∧ (s.recordVote
    member t a).muck.lastIndexed = s.muck.lastIndexed ∧ (s.recordVote member t a).muck.muckRestrained =
    s.muck.muckRestrained ∧ (s.recordVote member t a).muck.spill = s.muck.spill ∧ (s.recordVote member t
    a).muck.weighed = s.muck.weighed ∧ (s.recordVote member t a).muck.carried = s.muck.carried ∧ (s.recordVote member
    t a).muck.uncarried = s.muck.uncarried ∧ (s.recordVote member t a).muck.excused = s.muck.excused ∧ (s.recordVote
    member t a).muck.indexed = s.muck.indexed ∧ (s.recordVote member t a).channels.cylinders = s.channels.cylinders ∧
    (s.recordVote member t a).channels.drives = s.channels.drives ∧ (s.recordVote member t a).channels.linePressure =
    s.channels.linePressure ∧ (s.recordVote member t a).channels.screwFault = s.channels.screwFault ∧ (s.recordVote
    member t a).channels.face = s.channels.face ∧ (s.recordVote member t a).channels.erectorFault =
    s.channels.erectorFault ∧ (s.recordVote member t a).console.watch = s.console.watch ∧ (s.recordVote member t
    a).console.records = s.console.records := by
  unfold recordVote
  dsimp only
  (repeat' split) <;> simp

@[simp] theorem discordCheck_fields (peer : Nat) (b : Beacon) (s : State) :
    (s.discordCheck peer b).link.transmitting = s.link.transmitting ∧ (s.discordCheck peer b).machine.previous =
    s.machine.previous ∧ (s.discordCheck peer b).machine.ring = s.machine.ring ∧ (s.discordCheck peer
    b).machine.beaconTimer = s.machine.beaconTimer ∧ (s.discordCheck peer b).thrust.sectorAdvance =
    s.thrust.sectorAdvance ∧ (s.discordCheck peer b).thrust.credited = s.thrust.credited ∧ (s.discordCheck peer
    b).thrust.setpoint = s.thrust.setpoint ∧ (s.discordCheck peer b).thrust.strokeReached = s.thrust.strokeReached ∧
    (s.discordCheck peer b).thrust.restraints = s.thrust.restraints ∧ (s.discordCheck peer b).drive.setpoint =
    s.drive.setpoint ∧ (s.discordCheck peer b).drive.guard = s.drive.guard ∧ (s.discordCheck peer b).plans.opened =
    s.plans.opened ∧ (s.discordCheck peer b).engine.attempt = s.engine.attempt ∧ (s.discordCheck peer b).engine.placed
    = s.engine.placed ∧ (s.discordCheck peer b).engine.lastRefusal = s.engine.lastRefusal ∧ (s.discordCheck peer
    b).engine.seatRetries = s.engine.seatRetries ∧ (s.discordCheck peer b).engine.zoneRefusals = s.engine.zoneRefusals
    ∧ (s.discordCheck peer b).engine.fault = s.engine.fault ∧ (s.discordCheck peer b).grout.ports = s.grout.ports ∧
    (s.discordCheck peer b).grout.restrained = s.grout.restrained ∧ (s.discordCheck peer b).muck.faceRestrained =
    s.muck.faceRestrained ∧ (s.discordCheck peer b).muck.faceLow = s.muck.faceLow ∧ (s.discordCheck peer b).muck.queue
    = s.muck.queue ∧ (s.discordCheck peer b).muck.lastIndexed = s.muck.lastIndexed ∧ (s.discordCheck peer
    b).muck.muckRestrained = s.muck.muckRestrained ∧ (s.discordCheck peer b).muck.spill = s.muck.spill ∧
    (s.discordCheck peer b).muck.weighed = s.muck.weighed ∧ (s.discordCheck peer b).muck.carried = s.muck.carried ∧
    (s.discordCheck peer b).muck.uncarried = s.muck.uncarried ∧ (s.discordCheck peer b).muck.excused = s.muck.excused
    ∧ (s.discordCheck peer b).muck.indexed = s.muck.indexed ∧ (s.discordCheck peer b).muck.machineAdvance =
    s.muck.machineAdvance ∧ (s.discordCheck peer b).muck.overdig = s.muck.overdig ∧ (s.discordCheck peer
    b).console.watch = s.console.watch ∧ (s.discordCheck peer b).console.records = s.console.records := by
  unfold discordCheck
  (repeat' split) <;> simp

@[simp] theorem reconcileOne_fields (peer : Nat) (r : RestraintReason) (held : Bool) (s : State) :
    (s.reconcileOne peer r held).thrust.cylinders = s.thrust.cylinders ∧ (s.reconcileOne peer r
    held).thrust.sectorAdvance = s.thrust.sectorAdvance ∧ (s.reconcileOne peer r held).thrust.credited =
    s.thrust.credited ∧ (s.reconcileOne peer r held).thrust.setpoint = s.thrust.setpoint ∧ (s.reconcileOne peer r
    held).thrust.steerPause = s.thrust.steerPause ∧ (s.reconcileOne peer r held).thrust.strokeReached =
    s.thrust.strokeReached ∧ (s.reconcileOne peer r held).thrust.zone = s.thrust.zone := by
  unfold reconcileOne
  split <;> simp

@[simp] theorem reconcile_fields (peer : Nat) (b : Beacon) (s : State) :
    (s.reconcile peer b).thrust.cylinders = s.thrust.cylinders ∧ (s.reconcile peer b).thrust.sectorAdvance =
    s.thrust.sectorAdvance ∧ (s.reconcile peer b).thrust.credited = s.thrust.credited ∧ (s.reconcile peer
    b).thrust.setpoint = s.thrust.setpoint ∧ (s.reconcile peer b).thrust.steerPause = s.thrust.steerPause ∧
    (s.reconcile peer b).thrust.strokeReached = s.thrust.strokeReached ∧ (s.reconcile peer b).thrust.zone =
    s.thrust.zone := by
  simp [reconcile]

@[simp] theorem takeMatchingBeacon_fields (peer : Nat) (b : Beacon) (s : State) :
    (s.takeMatchingBeacon peer b).link.transmitting = s.link.transmitting ∧ (s.takeMatchingBeacon peer
    b).machine.previous = s.machine.previous ∧ (s.takeMatchingBeacon peer b).machine.ring = s.machine.ring ∧
    (s.takeMatchingBeacon peer b).machine.beaconTimer = s.machine.beaconTimer ∧ (s.takeMatchingBeacon peer
    b).thrust.sectorAdvance = s.thrust.sectorAdvance ∧ (s.takeMatchingBeacon peer b).thrust.credited =
    s.thrust.credited ∧ (s.takeMatchingBeacon peer b).thrust.setpoint = s.thrust.setpoint ∧ (s.takeMatchingBeacon peer
    b).thrust.strokeReached = s.thrust.strokeReached ∧ (s.takeMatchingBeacon peer b).drive.setpoint = s.drive.setpoint
    ∧ (s.takeMatchingBeacon peer b).plans.opened = s.plans.opened ∧ (s.takeMatchingBeacon peer b).engine.attempt =
    s.engine.attempt ∧ (s.takeMatchingBeacon peer b).engine.placed = s.engine.placed ∧ (s.takeMatchingBeacon peer
    b).engine.lastRefusal = s.engine.lastRefusal ∧ (s.takeMatchingBeacon peer b).engine.seatRetries =
    s.engine.seatRetries ∧ (s.takeMatchingBeacon peer b).engine.zoneRefusals = s.engine.zoneRefusals ∧
    (s.takeMatchingBeacon peer b).engine.fault = s.engine.fault ∧ (s.takeMatchingBeacon peer b).grout.ports =
    s.grout.ports ∧ (s.takeMatchingBeacon peer b).grout.restrained = s.grout.restrained ∧ (s.takeMatchingBeacon peer
    b).muck.faceRestrained = s.muck.faceRestrained ∧ (s.takeMatchingBeacon peer b).muck.faceLow = s.muck.faceLow ∧
    (s.takeMatchingBeacon peer b).muck.queue = s.muck.queue ∧ (s.takeMatchingBeacon peer b).muck.lastIndexed =
    s.muck.lastIndexed ∧ (s.takeMatchingBeacon peer b).muck.muckRestrained = s.muck.muckRestrained ∧
    (s.takeMatchingBeacon peer b).muck.spill = s.muck.spill ∧ (s.takeMatchingBeacon peer b).muck.weighed =
    s.muck.weighed ∧ (s.takeMatchingBeacon peer b).muck.carried = s.muck.carried ∧ (s.takeMatchingBeacon peer
    b).muck.uncarried = s.muck.uncarried ∧ (s.takeMatchingBeacon peer b).muck.excused = s.muck.excused ∧
    (s.takeMatchingBeacon peer b).muck.indexed = s.muck.indexed ∧ (s.takeMatchingBeacon peer b).console.watch =
    s.console.watch ∧ (s.takeMatchingBeacon peer b).console.records = s.console.records := by
  simp [takeMatchingBeacon]

@[simp] theorem takeAlienBeacon_fields (peer : Nat) (s : State) :
    (s.takeAlienBeacon peer).link.transmitting = s.link.transmitting ∧ (s.takeAlienBeacon peer).machine.previous =
    s.machine.previous ∧ (s.takeAlienBeacon peer).machine.ring = s.machine.ring ∧ (s.takeAlienBeacon
    peer).machine.beaconTimer = s.machine.beaconTimer ∧ (s.takeAlienBeacon peer).thrust.sectorAdvance =
    s.thrust.sectorAdvance ∧ (s.takeAlienBeacon peer).thrust.credited = s.thrust.credited ∧ (s.takeAlienBeacon
    peer).thrust.setpoint = s.thrust.setpoint ∧ (s.takeAlienBeacon peer).thrust.strokeReached = s.thrust.strokeReached
    ∧ (s.takeAlienBeacon peer).drive.setpoint = s.drive.setpoint ∧ (s.takeAlienBeacon peer).plans.opened =
    s.plans.opened ∧ (s.takeAlienBeacon peer).engine.attempt = s.engine.attempt ∧ (s.takeAlienBeacon
    peer).engine.placed = s.engine.placed ∧ (s.takeAlienBeacon peer).engine.lastRefusal = s.engine.lastRefusal ∧
    (s.takeAlienBeacon peer).engine.seatRetries = s.engine.seatRetries ∧ (s.takeAlienBeacon peer).engine.zoneRefusals
    = s.engine.zoneRefusals ∧ (s.takeAlienBeacon peer).engine.fault = s.engine.fault ∧ (s.takeAlienBeacon
    peer).grout.ports = s.grout.ports ∧ (s.takeAlienBeacon peer).grout.restrained = s.grout.restrained ∧
    (s.takeAlienBeacon peer).muck.faceRestrained = s.muck.faceRestrained ∧ (s.takeAlienBeacon peer).muck.faceLow =
    s.muck.faceLow ∧ (s.takeAlienBeacon peer).muck.queue = s.muck.queue ∧ (s.takeAlienBeacon peer).muck.lastIndexed =
    s.muck.lastIndexed ∧ (s.takeAlienBeacon peer).muck.muckRestrained = s.muck.muckRestrained ∧ (s.takeAlienBeacon
    peer).muck.spill = s.muck.spill ∧ (s.takeAlienBeacon peer).muck.weighed = s.muck.weighed ∧ (s.takeAlienBeacon
    peer).muck.carried = s.muck.carried ∧ (s.takeAlienBeacon peer).muck.uncarried = s.muck.uncarried ∧
    (s.takeAlienBeacon peer).muck.excused = s.muck.excused ∧ (s.takeAlienBeacon peer).muck.indexed = s.muck.indexed ∧
    (s.takeAlienBeacon peer).console.watch = s.console.watch ∧ (s.takeAlienBeacon peer).console.records =
    s.console.records := by
  unfold takeAlienBeacon
  (repeat' split) <;> simp

@[simp] theorem takeBeacon_fields (sender : Station) (b : Beacon) (s : State) :
    (s.takeBeacon sender b).link.transmitting = s.link.transmitting ∧ (s.takeBeacon sender b).machine.previous =
    s.machine.previous ∧ (s.takeBeacon sender b).machine.ring = s.machine.ring ∧ (s.takeBeacon sender
    b).machine.beaconTimer = s.machine.beaconTimer ∧ (s.takeBeacon sender b).thrust.sectorAdvance =
    s.thrust.sectorAdvance ∧ (s.takeBeacon sender b).thrust.credited = s.thrust.credited ∧ (s.takeBeacon sender
    b).thrust.setpoint = s.thrust.setpoint ∧ (s.takeBeacon sender b).thrust.strokeReached = s.thrust.strokeReached ∧
    (s.takeBeacon sender b).drive.setpoint = s.drive.setpoint ∧ (s.takeBeacon sender b).plans.opened = s.plans.opened
    ∧ (s.takeBeacon sender b).engine.attempt = s.engine.attempt ∧ (s.takeBeacon sender b).engine.placed =
    s.engine.placed ∧ (s.takeBeacon sender b).engine.lastRefusal = s.engine.lastRefusal ∧ (s.takeBeacon sender
    b).engine.seatRetries = s.engine.seatRetries ∧ (s.takeBeacon sender b).engine.zoneRefusals = s.engine.zoneRefusals
    ∧ (s.takeBeacon sender b).engine.fault = s.engine.fault ∧ (s.takeBeacon sender b).grout.ports = s.grout.ports ∧
    (s.takeBeacon sender b).grout.restrained = s.grout.restrained ∧ (s.takeBeacon sender b).muck.faceRestrained =
    s.muck.faceRestrained ∧ (s.takeBeacon sender b).muck.faceLow = s.muck.faceLow ∧ (s.takeBeacon sender b).muck.queue
    = s.muck.queue ∧ (s.takeBeacon sender b).muck.lastIndexed = s.muck.lastIndexed ∧ (s.takeBeacon sender
    b).muck.muckRestrained = s.muck.muckRestrained ∧ (s.takeBeacon sender b).muck.spill = s.muck.spill ∧ (s.takeBeacon
    sender b).muck.weighed = s.muck.weighed ∧ (s.takeBeacon sender b).muck.carried = s.muck.carried ∧ (s.takeBeacon
    sender b).muck.uncarried = s.muck.uncarried ∧ (s.takeBeacon sender b).muck.excused = s.muck.excused ∧
    (s.takeBeacon sender b).muck.indexed = s.muck.indexed ∧ (s.takeBeacon sender b).console.watch = s.console.watch ∧
    (s.takeBeacon sender b).console.records = s.console.records := by
  unfold takeBeacon
  split <;> simp

@[simp] theorem ownBeaconHeard_fields (b : Beacon) (s : State) :
    (s.ownBeaconHeard b).machine.phase = s.machine.phase ∧ (s.ownBeaconHeard b).machine.current = s.machine.current ∧
    (s.ownBeaconHeard b).machine.previous = s.machine.previous ∧ (s.ownBeaconHeard b).machine.round = s.machine.round
    ∧ (s.ownBeaconHeard b).machine.lastFailure = s.machine.lastFailure ∧ (s.ownBeaconHeard b).machine.ring =
    s.machine.ring ∧ (s.ownBeaconHeard b).machine.beaconTimer = s.machine.beaconTimer := by
  simp [ownBeaconHeard]

@[simp] theorem firstMember_fields (s : State) :
    s.firstMember.link.transmitting = s.link.transmitting ∧ s.firstMember.node.number = s.node.number ∧
    s.firstMember.node.state = s.node.state ∧ s.firstMember.node.cause = s.node.cause ∧
    s.firstMember.node.furtherFaults = s.node.furtherFaults ∧ s.firstMember.node.config = s.node.config ∧
    s.firstMember.node.digest = s.node.digest ∧ s.firstMember.node.collection = s.node.collection ∧
    s.firstMember.node.lastRejection = s.node.lastRejection ∧ s.firstMember.node.listen = s.node.listen ∧
    s.firstMember.machine.previous = s.machine.previous ∧ s.firstMember.machine.view = s.machine.view ∧
    s.firstMember.machine.ring = s.machine.ring ∧ s.firstMember.machine.beaconTimer = s.machine.beaconTimer ∧
    s.firstMember.thrust.setpoint = s.thrust.setpoint ∧ s.firstMember.thrust.restraints = s.thrust.restraints ∧
    s.firstMember.drive.setpoint = s.drive.setpoint ∧ s.firstMember.drive.guard = s.drive.guard ∧
    s.firstMember.plans.opened = s.plans.opened ∧ s.firstMember.engine.attempt = s.engine.attempt ∧
    s.firstMember.engine.placed = s.engine.placed ∧ s.firstMember.engine.lastRefusal = s.engine.lastRefusal ∧
    s.firstMember.engine.seatRetries = s.engine.seatRetries ∧ s.firstMember.engine.zoneRefusals =
    s.engine.zoneRefusals ∧ s.firstMember.engine.fault = s.engine.fault ∧ s.firstMember.grout.ports = s.grout.ports ∧
    s.firstMember.grout.restrained = s.grout.restrained ∧ s.firstMember.muck.faceRestrained = s.muck.faceRestrained ∧
    s.firstMember.muck.faceLow = s.muck.faceLow ∧ s.firstMember.muck.queue = s.muck.queue ∧
    s.firstMember.muck.lastIndexed = s.muck.lastIndexed ∧ s.firstMember.muck.muckRestrained = s.muck.muckRestrained ∧
    s.firstMember.muck.spill = s.muck.spill ∧ s.firstMember.muck.weighed = s.muck.weighed ∧ s.firstMember.muck.carried
    = s.muck.carried ∧ s.firstMember.muck.uncarried = s.muck.uncarried ∧ s.firstMember.muck.excused = s.muck.excused ∧
    s.firstMember.muck.indexed = s.muck.indexed ∧ s.firstMember.console.watch = s.console.watch ∧
    s.firstMember.console.records = s.console.records := by
  unfold firstMember
  split <;> simp

@[simp] theorem enterMember_fields (s : State) :
    s.enterMember.link.transmitting = s.link.transmitting ∧ s.enterMember.node.number = s.node.number ∧
    s.enterMember.node.cause = s.node.cause ∧ s.enterMember.node.furtherFaults = s.node.furtherFaults ∧
    s.enterMember.node.config = s.node.config ∧ s.enterMember.node.digest = s.node.digest ∧
    s.enterMember.node.collection = s.node.collection ∧ s.enterMember.node.lastRejection = s.node.lastRejection ∧
    s.enterMember.machine.previous = s.machine.previous ∧ s.enterMember.machine.view = s.machine.view ∧
    s.enterMember.machine.ring = s.machine.ring ∧ s.enterMember.machine.beaconTimer = s.machine.beaconTimer ∧
    s.enterMember.thrust.setpoint = s.thrust.setpoint ∧ s.enterMember.thrust.restraints = s.thrust.restraints ∧
    s.enterMember.drive.setpoint = s.drive.setpoint ∧ s.enterMember.drive.guard = s.drive.guard ∧
    s.enterMember.plans.opened = s.plans.opened ∧ s.enterMember.engine.attempt = s.engine.attempt ∧
    s.enterMember.engine.placed = s.engine.placed ∧ s.enterMember.engine.lastRefusal = s.engine.lastRefusal ∧
    s.enterMember.engine.seatRetries = s.engine.seatRetries ∧ s.enterMember.engine.zoneRefusals =
    s.engine.zoneRefusals ∧ s.enterMember.engine.fault = s.engine.fault ∧ s.enterMember.grout.ports = s.grout.ports ∧
    s.enterMember.grout.restrained = s.grout.restrained ∧ s.enterMember.muck.faceRestrained = s.muck.faceRestrained ∧
    s.enterMember.muck.faceLow = s.muck.faceLow ∧ s.enterMember.muck.queue = s.muck.queue ∧
    s.enterMember.muck.lastIndexed = s.muck.lastIndexed ∧ s.enterMember.muck.muckRestrained = s.muck.muckRestrained ∧
    s.enterMember.muck.spill = s.muck.spill ∧ s.enterMember.muck.weighed = s.muck.weighed ∧ s.enterMember.muck.carried
    = s.muck.carried ∧ s.enterMember.muck.uncarried = s.muck.uncarried ∧ s.enterMember.muck.excused = s.muck.excused ∧
    s.enterMember.muck.indexed = s.muck.indexed ∧ s.enterMember.channels.cylinders = s.channels.cylinders ∧
    s.enterMember.channels.drives = s.channels.drives ∧ s.enterMember.channels.linePressure = s.channels.linePressure
    ∧ s.enterMember.channels.screwFault = s.channels.screwFault ∧ s.enterMember.channels.face = s.channels.face ∧
    s.enterMember.channels.erectorFault = s.channels.erectorFault ∧ s.enterMember.console.watch = s.console.watch ∧
    s.enterMember.console.records = s.console.records := by
  simp [enterMember]

@[simp] theorem endListen_fields (s : State) :
    s.endListen.link.transmitting = s.link.transmitting ∧ s.endListen.node.number = s.node.number ∧
    s.endListen.node.cause = s.node.cause ∧ s.endListen.node.furtherFaults = s.node.furtherFaults ∧
    s.endListen.node.config = s.node.config ∧ s.endListen.node.digest = s.node.digest ∧ s.endListen.node.collection =
    s.node.collection ∧ s.endListen.node.lastRejection = s.node.lastRejection ∧ s.endListen.machine.previous =
    s.machine.previous ∧ s.endListen.machine.view = s.machine.view ∧ s.endListen.machine.beaconTimer =
    s.machine.beaconTimer ∧ s.endListen.thrust.setpoint = s.thrust.setpoint ∧ s.endListen.thrust.restraints =
    s.thrust.restraints ∧ s.endListen.drive.setpoint = s.drive.setpoint ∧ s.endListen.drive.guard = s.drive.guard ∧
    s.endListen.plans.opened = s.plans.opened ∧ s.endListen.engine.attempt = s.engine.attempt ∧
    s.endListen.engine.placed = s.engine.placed ∧ s.endListen.engine.lastRefusal = s.engine.lastRefusal ∧
    s.endListen.engine.seatRetries = s.engine.seatRetries ∧ s.endListen.engine.zoneRefusals = s.engine.zoneRefusals ∧
    s.endListen.engine.fault = s.engine.fault ∧ s.endListen.grout.ports = s.grout.ports ∧ s.endListen.grout.restrained
    = s.grout.restrained ∧ s.endListen.muck.faceRestrained = s.muck.faceRestrained ∧ s.endListen.muck.faceLow =
    s.muck.faceLow ∧ s.endListen.muck.queue = s.muck.queue ∧ s.endListen.muck.lastIndexed = s.muck.lastIndexed ∧
    s.endListen.muck.muckRestrained = s.muck.muckRestrained ∧ s.endListen.muck.spill = s.muck.spill ∧
    s.endListen.muck.weighed = s.muck.weighed ∧ s.endListen.muck.carried = s.muck.carried ∧ s.endListen.muck.uncarried
    = s.muck.uncarried ∧ s.endListen.muck.excused = s.muck.excused ∧ s.endListen.muck.indexed = s.muck.indexed ∧
    s.endListen.channels.cylinders = s.channels.cylinders ∧ s.endListen.channels.drives = s.channels.drives ∧
    s.endListen.channels.linePressure = s.channels.linePressure ∧ s.endListen.channels.screwFault =
    s.channels.screwFault ∧ s.endListen.channels.face = s.channels.face ∧ s.endListen.channels.erectorFault =
    s.channels.erectorFault ∧ s.endListen.console.watch = s.console.watch ∧ s.endListen.console.records =
    s.console.records := by
  unfold endListen
  (repeat' split) <;> simp

end Sys2Proof.Machine.State
end

