-- ==== Sys2Proof/Laws/ThrustFields.lean ====
section
/-! SUPPORT. For each operation of Machine/Thrust.lean, the fields it leaves as they are in the parts of State it may change. -/

namespace Sys2Proof.Machine.State

@[simp] theorem takeRestrain_fields (sender : Station) (payload : List Byte) (s : State) :
    (s.takeRestrain sender payload).thrust.cylinders = s.thrust.cylinders ∧ (s.takeRestrain sender
    payload).thrust.sectorAdvance = s.thrust.sectorAdvance ∧ (s.takeRestrain sender payload).thrust.credited =
    s.thrust.credited ∧ (s.takeRestrain sender payload).thrust.setpoint = s.thrust.setpoint ∧ (s.takeRestrain sender
    payload).thrust.steerPause = s.thrust.steerPause ∧ (s.takeRestrain sender payload).thrust.strokeReached =
    s.thrust.strokeReached ∧ (s.takeRestrain sender payload).thrust.zone = s.thrust.zone := by
  unfold takeRestrain
  (repeat' split) <;> simp

@[simp] theorem takeRelease_fields (sender : Station) (payload : List Byte) (s : State) :
    (s.takeRelease sender payload).thrust.cylinders = s.thrust.cylinders ∧ (s.takeRelease sender
    payload).thrust.sectorAdvance = s.thrust.sectorAdvance ∧ (s.takeRelease sender payload).thrust.credited =
    s.thrust.credited ∧ (s.takeRelease sender payload).thrust.setpoint = s.thrust.setpoint ∧ (s.takeRelease sender
    payload).thrust.steerPause = s.thrust.steerPause ∧ (s.takeRelease sender payload).thrust.strokeReached =
    s.thrust.strokeReached ∧ (s.takeRelease sender payload).thrust.zone = s.thrust.zone := by
  unfold takeRelease
  (repeat' split) <;> simp

@[simp] theorem queueAnswer_fields (z : ZoneRequest) (s : State) :
    (s.queueAnswer z).link.onWire = s.link.onWire ∧ (s.queueAnswer z).link.transmitting = s.link.transmitting ∧
    (s.queueAnswer z).engine.state = s.engine.state ∧ (s.queueAnswer z).engine.seated = s.engine.seated ∧
    (s.queueAnswer z).engine.attempt = s.engine.attempt ∧ (s.queueAnswer z).engine.zoneMembers = s.engine.zoneMembers
    ∧ (s.queueAnswer z).engine.answered = s.engine.answered ∧ (s.queueAnswer z).engine.retry = s.engine.retry ∧
    (s.queueAnswer z).engine.limit = s.engine.limit ∧ (s.queueAnswer z).engine.stopping = s.engine.stopping ∧
    (s.queueAnswer z).engine.placed = s.engine.placed ∧ (s.queueAnswer z).engine.lastRefusal = s.engine.lastRefusal ∧
    (s.queueAnswer z).engine.seatRetries = s.engine.seatRetries ∧ (s.queueAnswer z).engine.zoneRefusals =
    s.engine.zoneRefusals ∧ (s.queueAnswer z).engine.fault = s.engine.fault ∧ (s.queueAnswer z).engine.erector =
    s.engine.erector ∧ (s.queueAnswer z).engine.erectorCommand = s.engine.erectorCommand ∧ (s.queueAnswer
    z).console.watch = s.console.watch ∧ (s.queueAnswer z).console.records = s.console.records := by
  unfold queueAnswer
  split <;> simp

@[simp] theorem queueRefusal_fields (z : ZoneRequest) (r : ZoneRefusal) (s : State) :
    (s.queueRefusal z r).link.onWire = s.link.onWire ∧ (s.queueRefusal z r).link.transmitting = s.link.transmitting ∧
    (s.queueRefusal z r).engine.state = s.engine.state ∧ (s.queueRefusal z r).engine.seated = s.engine.seated ∧
    (s.queueRefusal z r).engine.attempt = s.engine.attempt ∧ (s.queueRefusal z r).engine.zoneMembers =
    s.engine.zoneMembers ∧ (s.queueRefusal z r).engine.answered = s.engine.answered ∧ (s.queueRefusal z
    r).engine.retry = s.engine.retry ∧ (s.queueRefusal z r).engine.limit = s.engine.limit ∧ (s.queueRefusal z
    r).engine.stopping = s.engine.stopping ∧ (s.queueRefusal z r).engine.placed = s.engine.placed ∧ (s.queueRefusal z
    r).engine.lastRefusal = s.engine.lastRefusal ∧ (s.queueRefusal z r).engine.seatRetries = s.engine.seatRetries ∧
    (s.queueRefusal z r).engine.zoneRefusals = s.engine.zoneRefusals ∧ (s.queueRefusal z r).engine.fault =
    s.engine.fault ∧ (s.queueRefusal z r).engine.erector = s.engine.erector ∧ (s.queueRefusal z
    r).engine.erectorCommand = s.engine.erectorCommand ∧ (s.queueRefusal z r).console.watch = s.console.watch ∧
    (s.queueRefusal z r).console.records = s.console.records := by
  simp [queueRefusal]

@[simp] theorem testZone_fields (s : State) :
    s.testZone.link.onWire = s.link.onWire ∧ s.testZone.link.transmitting = s.link.transmitting ∧
    s.testZone.thrust.cylinders = s.thrust.cylinders ∧ s.testZone.thrust.sectorAdvance = s.thrust.sectorAdvance ∧
    s.testZone.thrust.credited = s.thrust.credited ∧ s.testZone.thrust.setpoint = s.thrust.setpoint ∧
    s.testZone.thrust.steerPause = s.thrust.steerPause ∧ s.testZone.thrust.strokeReached = s.thrust.strokeReached ∧
    s.testZone.thrust.restraints = s.thrust.restraints ∧ s.testZone.engine.state = s.engine.state ∧
    s.testZone.engine.seated = s.engine.seated ∧ s.testZone.engine.attempt = s.engine.attempt ∧
    s.testZone.engine.zoneMembers = s.engine.zoneMembers ∧ s.testZone.engine.answered = s.engine.answered ∧
    s.testZone.engine.retry = s.engine.retry ∧ s.testZone.engine.limit = s.engine.limit ∧ s.testZone.engine.stopping =
    s.engine.stopping ∧ s.testZone.engine.placed = s.engine.placed ∧ s.testZone.engine.lastRefusal =
    s.engine.lastRefusal ∧ s.testZone.engine.seatRetries = s.engine.seatRetries ∧ s.testZone.engine.zoneRefusals =
    s.engine.zoneRefusals ∧ s.testZone.engine.fault = s.engine.fault ∧ s.testZone.engine.erector = s.engine.erector ∧
    s.testZone.engine.erectorCommand = s.engine.erectorCommand ∧ s.testZone.console.watch = s.console.watch ∧
    s.testZone.console.records = s.console.records := by
  unfold testZone
  dsimp only
  (repeat' split) <;> simp

@[simp] theorem clearZone_fields (z : ZoneRequest) (s : State) :
    (s.clearZone z).link.onWire = s.link.onWire ∧ (s.clearZone z).link.transmitting = s.link.transmitting ∧
    (s.clearZone z).thrust.sectorAdvance = s.thrust.sectorAdvance ∧ (s.clearZone z).thrust.credited =
    s.thrust.credited ∧ (s.clearZone z).thrust.setpoint = s.thrust.setpoint ∧ (s.clearZone z).thrust.steerPause =
    s.thrust.steerPause ∧ (s.clearZone z).thrust.strokeReached = s.thrust.strokeReached ∧ (s.clearZone
    z).thrust.restraints = s.thrust.restraints ∧ (s.clearZone z).engine.state = s.engine.state ∧ (s.clearZone
    z).engine.seated = s.engine.seated ∧ (s.clearZone z).engine.attempt = s.engine.attempt ∧ (s.clearZone
    z).engine.zoneMembers = s.engine.zoneMembers ∧ (s.clearZone z).engine.answered = s.engine.answered ∧ (s.clearZone
    z).engine.retry = s.engine.retry ∧ (s.clearZone z).engine.limit = s.engine.limit ∧ (s.clearZone z).engine.stopping
    = s.engine.stopping ∧ (s.clearZone z).engine.placed = s.engine.placed ∧ (s.clearZone z).engine.lastRefusal =
    s.engine.lastRefusal ∧ (s.clearZone z).engine.seatRetries = s.engine.seatRetries ∧ (s.clearZone
    z).engine.zoneRefusals = s.engine.zoneRefusals ∧ (s.clearZone z).engine.fault = s.engine.fault ∧ (s.clearZone
    z).engine.erector = s.engine.erector ∧ (s.clearZone z).engine.erectorCommand = s.engine.erectorCommand ∧
    (s.clearZone z).console.watch = s.console.watch ∧ (s.clearZone z).console.records = s.console.records := by
  unfold clearZone
  dsimp only
  (repeat' split) <;> simp

@[simp] theorem seatZone_fields (z : ZoneRequest) (s : State) :
    (s.seatZone z).link.onWire = s.link.onWire ∧ (s.seatZone z).link.transmitting = s.link.transmitting ∧ (s.seatZone
    z).thrust.sectorAdvance = s.thrust.sectorAdvance ∧ (s.seatZone z).thrust.credited = s.thrust.credited ∧
    (s.seatZone z).thrust.setpoint = s.thrust.setpoint ∧ (s.seatZone z).thrust.steerPause = s.thrust.steerPause ∧
    (s.seatZone z).thrust.strokeReached = s.thrust.strokeReached ∧ (s.seatZone z).thrust.restraints =
    s.thrust.restraints ∧ (s.seatZone z).engine.state = s.engine.state ∧ (s.seatZone z).engine.seated =
    s.engine.seated ∧ (s.seatZone z).engine.attempt = s.engine.attempt ∧ (s.seatZone z).engine.zoneMembers =
    s.engine.zoneMembers ∧ (s.seatZone z).engine.answered = s.engine.answered ∧ (s.seatZone z).engine.retry =
    s.engine.retry ∧ (s.seatZone z).engine.limit = s.engine.limit ∧ (s.seatZone z).engine.stopping = s.engine.stopping
    ∧ (s.seatZone z).engine.placed = s.engine.placed ∧ (s.seatZone z).engine.lastRefusal = s.engine.lastRefusal ∧
    (s.seatZone z).engine.seatRetries = s.engine.seatRetries ∧ (s.seatZone z).engine.zoneRefusals =
    s.engine.zoneRefusals ∧ (s.seatZone z).engine.fault = s.engine.fault ∧ (s.seatZone z).engine.erector =
    s.engine.erector ∧ (s.seatZone z).engine.erectorCommand = s.engine.erectorCommand ∧ (s.seatZone z).console.watch =
    s.console.watch ∧ (s.seatZone z).console.records = s.console.records := by
  unfold seatZone
  dsimp only
  (repeat' split) <;> simp

@[simp] theorem takeZoneClear_fields (sender : Nat) (payload : List Byte) (s : State) :
    (s.takeZoneClear sender payload).link.onWire = s.link.onWire ∧ (s.takeZoneClear sender payload).link.transmitting
    = s.link.transmitting ∧ (s.takeZoneClear sender payload).thrust.sectorAdvance = s.thrust.sectorAdvance ∧
    (s.takeZoneClear sender payload).thrust.credited = s.thrust.credited ∧ (s.takeZoneClear sender
    payload).thrust.setpoint = s.thrust.setpoint ∧ (s.takeZoneClear sender payload).thrust.steerPause =
    s.thrust.steerPause ∧ (s.takeZoneClear sender payload).thrust.strokeReached = s.thrust.strokeReached ∧
    (s.takeZoneClear sender payload).thrust.restraints = s.thrust.restraints ∧ (s.takeZoneClear sender
    payload).engine.state = s.engine.state ∧ (s.takeZoneClear sender payload).engine.seated = s.engine.seated ∧
    (s.takeZoneClear sender payload).engine.attempt = s.engine.attempt ∧ (s.takeZoneClear sender
    payload).engine.zoneMembers = s.engine.zoneMembers ∧ (s.takeZoneClear sender payload).engine.answered =
    s.engine.answered ∧ (s.takeZoneClear sender payload).engine.retry = s.engine.retry ∧ (s.takeZoneClear sender
    payload).engine.limit = s.engine.limit ∧ (s.takeZoneClear sender payload).engine.stopping = s.engine.stopping ∧
    (s.takeZoneClear sender payload).engine.placed = s.engine.placed ∧ (s.takeZoneClear sender
    payload).engine.lastRefusal = s.engine.lastRefusal ∧ (s.takeZoneClear sender payload).engine.seatRetries =
    s.engine.seatRetries ∧ (s.takeZoneClear sender payload).engine.zoneRefusals = s.engine.zoneRefusals ∧
    (s.takeZoneClear sender payload).engine.fault = s.engine.fault ∧ (s.takeZoneClear sender payload).engine.erector =
    s.engine.erector ∧ (s.takeZoneClear sender payload).engine.erectorCommand = s.engine.erectorCommand ∧
    (s.takeZoneClear sender payload).console.watch = s.console.watch ∧ (s.takeZoneClear sender
    payload).console.records = s.console.records := by
  unfold takeZoneClear
  (repeat' split) <;> simp

@[simp] theorem takeZoneSeat_fields (sender : Nat) (payload : List Byte) (s : State) :
    (s.takeZoneSeat sender payload).link.onWire = s.link.onWire ∧ (s.takeZoneSeat sender payload).link.transmitting =
    s.link.transmitting ∧ (s.takeZoneSeat sender payload).thrust.sectorAdvance = s.thrust.sectorAdvance ∧
    (s.takeZoneSeat sender payload).thrust.credited = s.thrust.credited ∧ (s.takeZoneSeat sender
    payload).thrust.setpoint = s.thrust.setpoint ∧ (s.takeZoneSeat sender payload).thrust.steerPause =
    s.thrust.steerPause ∧ (s.takeZoneSeat sender payload).thrust.strokeReached = s.thrust.strokeReached ∧
    (s.takeZoneSeat sender payload).thrust.restraints = s.thrust.restraints ∧ (s.takeZoneSeat sender
    payload).engine.state = s.engine.state ∧ (s.takeZoneSeat sender payload).engine.seated = s.engine.seated ∧
    (s.takeZoneSeat sender payload).engine.attempt = s.engine.attempt ∧ (s.takeZoneSeat sender
    payload).engine.zoneMembers = s.engine.zoneMembers ∧ (s.takeZoneSeat sender payload).engine.answered =
    s.engine.answered ∧ (s.takeZoneSeat sender payload).engine.retry = s.engine.retry ∧ (s.takeZoneSeat sender
    payload).engine.limit = s.engine.limit ∧ (s.takeZoneSeat sender payload).engine.stopping = s.engine.stopping ∧
    (s.takeZoneSeat sender payload).engine.placed = s.engine.placed ∧ (s.takeZoneSeat sender
    payload).engine.lastRefusal = s.engine.lastRefusal ∧ (s.takeZoneSeat sender payload).engine.seatRetries =
    s.engine.seatRetries ∧ (s.takeZoneSeat sender payload).engine.zoneRefusals = s.engine.zoneRefusals ∧
    (s.takeZoneSeat sender payload).engine.fault = s.engine.fault ∧ (s.takeZoneSeat sender payload).engine.erector =
    s.engine.erector ∧ (s.takeZoneSeat sender payload).engine.erectorCommand = s.engine.erectorCommand ∧
    (s.takeZoneSeat sender payload).console.watch = s.console.watch ∧ (s.takeZoneSeat sender payload).console.records
    = s.console.records := by
  unfold takeZoneSeat
  (repeat' split) <;> simp

@[simp] theorem takeAdvanceSetpoint_fields (v : Nat) (s : State) :
    (s.takeAdvanceSetpoint v).thrust.cylinders = s.thrust.cylinders ∧ (s.takeAdvanceSetpoint v).thrust.sectorAdvance =
    s.thrust.sectorAdvance ∧ (s.takeAdvanceSetpoint v).thrust.credited = s.thrust.credited ∧ (s.takeAdvanceSetpoint
    v).thrust.steerPause = s.thrust.steerPause ∧ (s.takeAdvanceSetpoint v).thrust.strokeReached =
    s.thrust.strokeReached ∧ (s.takeAdvanceSetpoint v).thrust.zone = s.thrust.zone ∧ (s.takeAdvanceSetpoint
    v).thrust.restraints = s.thrust.restraints := by
  unfold takeAdvanceSetpoint
  split <;> simp

@[simp] theorem takeCutterSetpoint_fields (v : Nat) (s : State) :
    (s.takeCutterSetpoint v).drive.drives = s.drive.drives ∧ (s.takeCutterSetpoint v).drive.guard = s.drive.guard := by
  unfold takeCutterSetpoint
  split <;> simp

@[simp] theorem takeSetpoint_fields (payload : List Byte) (s : State) :
    (s.takeSetpoint payload).thrust.cylinders = s.thrust.cylinders ∧ (s.takeSetpoint payload).thrust.sectorAdvance =
    s.thrust.sectorAdvance ∧ (s.takeSetpoint payload).thrust.credited = s.thrust.credited ∧ (s.takeSetpoint
    payload).thrust.steerPause = s.thrust.steerPause ∧ (s.takeSetpoint payload).thrust.strokeReached =
    s.thrust.strokeReached ∧ (s.takeSetpoint payload).thrust.zone = s.thrust.zone ∧ (s.takeSetpoint
    payload).thrust.restraints = s.thrust.restraints ∧ (s.takeSetpoint payload).drive.drives = s.drive.drives ∧
    (s.takeSetpoint payload).drive.guard = s.drive.guard := by
  unfold takeSetpoint
  (repeat' split) <;> simp

@[simp] theorem keepCylReport_fields (n : Nat) (r : CylReport) (s : State) :
    (s.keepCylReport n r).channels.drives = s.channels.drives ∧ (s.keepCylReport n r).channels.pumpAtRest =
    s.channels.pumpAtRest ∧ (s.keepCylReport n r).channels.linePressure = s.channels.linePressure ∧ (s.keepCylReport n
    r).channels.screwFault = s.channels.screwFault ∧ (s.keepCylReport n r).channels.face = s.channels.face ∧
    (s.keepCylReport n r).channels.erectorFault = s.channels.erectorFault := by
  unfold keepCylReport
  split <;> simp

@[simp] theorem cylinderFault_fields (n : Nat) (old : CylState) (s : State) :
    (s.cylinderFault n old).link.transmitting = s.link.transmitting ∧ (s.cylinderFault n old).machine.previous =
    s.machine.previous ∧ (s.cylinderFault n old).machine.view = s.machine.view ∧ (s.cylinderFault n old).machine.ring
    = s.machine.ring ∧ (s.cylinderFault n old).machine.beaconTimer = s.machine.beaconTimer ∧ (s.cylinderFault n
    old).thrust.setpoint = s.thrust.setpoint ∧ (s.cylinderFault n old).drive.setpoint = s.drive.setpoint ∧
    (s.cylinderFault n old).drive.guard = s.drive.guard ∧ (s.cylinderFault n old).plans.opened = s.plans.opened ∧
    (s.cylinderFault n old).engine.attempt = s.engine.attempt ∧ (s.cylinderFault n old).engine.placed =
    s.engine.placed ∧ (s.cylinderFault n old).engine.lastRefusal = s.engine.lastRefusal ∧ (s.cylinderFault n
    old).engine.seatRetries = s.engine.seatRetries ∧ (s.cylinderFault n old).engine.zoneRefusals =
    s.engine.zoneRefusals ∧ (s.cylinderFault n old).engine.fault = s.engine.fault ∧ (s.cylinderFault n
    old).muck.faceRestrained = s.muck.faceRestrained ∧ (s.cylinderFault n old).muck.faceLow = s.muck.faceLow ∧
    (s.cylinderFault n old).muck.queue = s.muck.queue ∧ (s.cylinderFault n old).muck.lastIndexed = s.muck.lastIndexed
    ∧ (s.cylinderFault n old).muck.muckRestrained = s.muck.muckRestrained ∧ (s.cylinderFault n old).muck.spill =
    s.muck.spill ∧ (s.cylinderFault n old).muck.weighed = s.muck.weighed ∧ (s.cylinderFault n old).muck.carried =
    s.muck.carried ∧ (s.cylinderFault n old).muck.uncarried = s.muck.uncarried ∧ (s.cylinderFault n old).muck.excused
    = s.muck.excused ∧ (s.cylinderFault n old).muck.indexed = s.muck.indexed ∧ (s.cylinderFault n
    old).channels.cylinders = s.channels.cylinders ∧ (s.cylinderFault n old).channels.drives = s.channels.drives ∧
    (s.cylinderFault n old).channels.linePressure = s.channels.linePressure ∧ (s.cylinderFault n
    old).channels.screwFault = s.channels.screwFault ∧ (s.cylinderFault n old).channels.face = s.channels.face ∧
    (s.cylinderFault n old).channels.erectorFault = s.channels.erectorFault ∧ (s.cylinderFault n old).console.watch =
    s.console.watch ∧ (s.cylinderFault n old).console.records = s.console.records := by
  unfold cylinderFault
  dsimp only
  (repeat' split) <;> simp

@[simp] theorem takeCylReport_fields (n : Nat) (r : CylReport) (s : State) :
    (s.takeCylReport n r).link.transmitting = s.link.transmitting ∧ (s.takeCylReport n r).machine.previous =
    s.machine.previous ∧ (s.takeCylReport n r).machine.view = s.machine.view ∧ (s.takeCylReport n r).machine.ring =
    s.machine.ring ∧ (s.takeCylReport n r).machine.beaconTimer = s.machine.beaconTimer ∧ (s.takeCylReport n
    r).thrust.setpoint = s.thrust.setpoint ∧ (s.takeCylReport n r).drive.setpoint = s.drive.setpoint ∧
    (s.takeCylReport n r).drive.guard = s.drive.guard ∧ (s.takeCylReport n r).plans.opened = s.plans.opened ∧
    (s.takeCylReport n r).engine.attempt = s.engine.attempt ∧ (s.takeCylReport n r).engine.placed = s.engine.placed ∧
    (s.takeCylReport n r).engine.lastRefusal = s.engine.lastRefusal ∧ (s.takeCylReport n r).engine.seatRetries =
    s.engine.seatRetries ∧ (s.takeCylReport n r).engine.zoneRefusals = s.engine.zoneRefusals ∧ (s.takeCylReport n
    r).engine.fault = s.engine.fault ∧ (s.takeCylReport n r).muck.faceRestrained = s.muck.faceRestrained ∧
    (s.takeCylReport n r).muck.faceLow = s.muck.faceLow ∧ (s.takeCylReport n r).muck.queue = s.muck.queue ∧
    (s.takeCylReport n r).muck.lastIndexed = s.muck.lastIndexed ∧ (s.takeCylReport n r).muck.muckRestrained =
    s.muck.muckRestrained ∧ (s.takeCylReport n r).muck.spill = s.muck.spill ∧ (s.takeCylReport n r).muck.weighed =
    s.muck.weighed ∧ (s.takeCylReport n r).muck.carried = s.muck.carried ∧ (s.takeCylReport n r).muck.uncarried =
    s.muck.uncarried ∧ (s.takeCylReport n r).muck.excused = s.muck.excused ∧ (s.takeCylReport n r).muck.indexed =
    s.muck.indexed ∧ (s.takeCylReport n r).channels.drives = s.channels.drives ∧ (s.takeCylReport n
    r).channels.linePressure = s.channels.linePressure ∧ (s.takeCylReport n r).channels.screwFault =
    s.channels.screwFault ∧ (s.takeCylReport n r).channels.face = s.channels.face ∧ (s.takeCylReport n
    r).channels.erectorFault = s.channels.erectorFault ∧ (s.takeCylReport n r).console.watch = s.console.watch ∧
    (s.takeCylReport n r).console.records = s.console.records := by
  unfold takeCylReport
  dsimp only
  (repeat' split) <;> simp

@[simp] theorem clearCylinders_fields (leavesFaulted : Bool) (s : State) :
    (s.clearCylinders leavesFaulted).thrust.sectorAdvance = s.thrust.sectorAdvance ∧ (s.clearCylinders
    leavesFaulted).thrust.credited = s.thrust.credited ∧ (s.clearCylinders leavesFaulted).thrust.setpoint =
    s.thrust.setpoint ∧ (s.clearCylinders leavesFaulted).thrust.steerPause = s.thrust.steerPause ∧ (s.clearCylinders
    leavesFaulted).thrust.strokeReached = s.thrust.strokeReached ∧ (s.clearCylinders leavesFaulted).thrust.zone =
    s.thrust.zone ∧ (s.clearCylinders leavesFaulted).thrust.restraints = s.thrust.restraints := by
  simp [clearCylinders]

@[simp] theorem restartCylinders_fields (s : State) :
    s.restartCylinders.thrust.sectorAdvance = s.thrust.sectorAdvance ∧ s.restartCylinders.thrust.credited =
    s.thrust.credited ∧ s.restartCylinders.thrust.setpoint = s.thrust.setpoint ∧
    s.restartCylinders.thrust.strokeReached = s.thrust.strokeReached ∧ s.restartCylinders.thrust.restraints =
    s.thrust.restraints := by
  simp [restartCylinders]

@[simp] theorem addOwn_fields (rs : List RestraintReason) (s : State) :
    (s.addOwn rs).thrust.cylinders = s.thrust.cylinders ∧ (s.addOwn rs).thrust.sectorAdvance = s.thrust.sectorAdvance
    ∧ (s.addOwn rs).thrust.credited = s.thrust.credited ∧ (s.addOwn rs).thrust.setpoint = s.thrust.setpoint ∧
    (s.addOwn rs).thrust.steerPause = s.thrust.steerPause ∧ (s.addOwn rs).thrust.strokeReached =
    s.thrust.strokeReached ∧ (s.addOwn rs).thrust.zone = s.thrust.zone := by
  unfold addOwn
  induction rs generalizing s with
  | nil => simp
  | cons x xs ih => exact ih _

@[simp] theorem restartRestraints_fields (s : State) :
    s.restartRestraints.link.onWire = s.link.onWire ∧ s.restartRestraints.link.transmitting = s.link.transmitting ∧
    s.restartRestraints.thrust.cylinders = s.thrust.cylinders ∧ s.restartRestraints.thrust.sectorAdvance =
    s.thrust.sectorAdvance ∧ s.restartRestraints.thrust.credited = s.thrust.credited ∧
    s.restartRestraints.thrust.setpoint = s.thrust.setpoint ∧ s.restartRestraints.thrust.steerPause =
    s.thrust.steerPause ∧ s.restartRestraints.thrust.strokeReached = s.thrust.strokeReached ∧
    s.restartRestraints.thrust.zone = s.thrust.zone ∧ s.restartRestraints.engine.state = s.engine.state ∧
    s.restartRestraints.engine.seated = s.engine.seated ∧ s.restartRestraints.engine.attempt = s.engine.attempt ∧
    s.restartRestraints.engine.zoneMembers = s.engine.zoneMembers ∧ s.restartRestraints.engine.answered =
    s.engine.answered ∧ s.restartRestraints.engine.retry = s.engine.retry ∧ s.restartRestraints.engine.limit =
    s.engine.limit ∧ s.restartRestraints.engine.stopping = s.engine.stopping ∧ s.restartRestraints.engine.placed =
    s.engine.placed ∧ s.restartRestraints.engine.lastRefusal = s.engine.lastRefusal ∧
    s.restartRestraints.engine.seatRetries = s.engine.seatRetries ∧ s.restartRestraints.engine.zoneRefusals =
    s.engine.zoneRefusals ∧ s.restartRestraints.engine.fault = s.engine.fault ∧ s.restartRestraints.engine.erector =
    s.engine.erector ∧ s.restartRestraints.engine.erectorCommand = s.engine.erectorCommand ∧
    s.restartRestraints.console.watch = s.console.watch ∧ s.restartRestraints.console.records = s.console.records := by
  simp [restartRestraints]

end Sys2Proof.Machine.State
end

