-- ==== Sys2Proof/Laws/DriveFields.lean ====
section
/-! SUPPORT. For each operation of Machine/Drive.lean, the fields it leaves as they are in the parts of State it may change. -/

namespace Sys2Proof.Machine.State

@[simp] theorem keepDriveReport_fields (n : Nat) (r : DriveReport) (s : State) :
    (s.keepDriveReport n r).channels.cylinders = s.channels.cylinders ∧ (s.keepDriveReport n r).channels.pumpAtRest =
    s.channels.pumpAtRest ∧ (s.keepDriveReport n r).channels.linePressure = s.channels.linePressure ∧
    (s.keepDriveReport n r).channels.screwFault = s.channels.screwFault ∧ (s.keepDriveReport n r).channels.face =
    s.channels.face ∧ (s.keepDriveReport n r).channels.erectorFault = s.channels.erectorFault := by
  unfold keepDriveReport
  split <;> simp

@[simp] theorem driveFault_fields (n : Nat) (old : DriveState) (s : State) :
    (s.driveFault n old).link.transmitting = s.link.transmitting ∧ (s.driveFault n old).machine.previous =
    s.machine.previous ∧ (s.driveFault n old).machine.view = s.machine.view ∧ (s.driveFault n old).machine.ring =
    s.machine.ring ∧ (s.driveFault n old).machine.beaconTimer = s.machine.beaconTimer ∧ (s.driveFault n
    old).thrust.sectorAdvance = s.thrust.sectorAdvance ∧ (s.driveFault n old).thrust.credited = s.thrust.credited ∧
    (s.driveFault n old).thrust.setpoint = s.thrust.setpoint ∧ (s.driveFault n old).thrust.strokeReached =
    s.thrust.strokeReached ∧ (s.driveFault n old).thrust.restraints = s.thrust.restraints ∧ (s.driveFault n
    old).drive.setpoint = s.drive.setpoint ∧ (s.driveFault n old).drive.guard = s.drive.guard ∧ (s.driveFault n
    old).plans.opened = s.plans.opened ∧ (s.driveFault n old).engine.attempt = s.engine.attempt ∧ (s.driveFault n
    old).engine.placed = s.engine.placed ∧ (s.driveFault n old).engine.lastRefusal = s.engine.lastRefusal ∧
    (s.driveFault n old).engine.seatRetries = s.engine.seatRetries ∧ (s.driveFault n old).engine.zoneRefusals =
    s.engine.zoneRefusals ∧ (s.driveFault n old).engine.fault = s.engine.fault ∧ (s.driveFault n old).grout.ports =
    s.grout.ports ∧ (s.driveFault n old).grout.restrained = s.grout.restrained ∧ (s.driveFault n
    old).muck.faceRestrained = s.muck.faceRestrained ∧ (s.driveFault n old).muck.faceLow = s.muck.faceLow ∧
    (s.driveFault n old).muck.queue = s.muck.queue ∧ (s.driveFault n old).muck.lastIndexed = s.muck.lastIndexed ∧
    (s.driveFault n old).muck.muckRestrained = s.muck.muckRestrained ∧ (s.driveFault n old).muck.spill = s.muck.spill
    ∧ (s.driveFault n old).muck.weighed = s.muck.weighed ∧ (s.driveFault n old).muck.carried = s.muck.carried ∧
    (s.driveFault n old).muck.uncarried = s.muck.uncarried ∧ (s.driveFault n old).muck.excused = s.muck.excused ∧
    (s.driveFault n old).muck.indexed = s.muck.indexed ∧ (s.driveFault n old).muck.machineAdvance =
    s.muck.machineAdvance ∧ (s.driveFault n old).muck.overdig = s.muck.overdig ∧ (s.driveFault n old).console.watch =
    s.console.watch ∧ (s.driveFault n old).console.records = s.console.records := by
  unfold driveFault
  dsimp only
  (repeat' split) <;> simp

@[simp] theorem takeDriveReport_fields (n : Nat) (r : DriveReport) (s : State) :
    (s.takeDriveReport n r).link.transmitting = s.link.transmitting ∧ (s.takeDriveReport n r).machine.previous =
    s.machine.previous ∧ (s.takeDriveReport n r).machine.view = s.machine.view ∧ (s.takeDriveReport n r).machine.ring
    = s.machine.ring ∧ (s.takeDriveReport n r).machine.beaconTimer = s.machine.beaconTimer ∧ (s.takeDriveReport n
    r).thrust.sectorAdvance = s.thrust.sectorAdvance ∧ (s.takeDriveReport n r).thrust.credited = s.thrust.credited ∧
    (s.takeDriveReport n r).thrust.setpoint = s.thrust.setpoint ∧ (s.takeDriveReport n r).thrust.strokeReached =
    s.thrust.strokeReached ∧ (s.takeDriveReport n r).drive.setpoint = s.drive.setpoint ∧ (s.takeDriveReport n
    r).plans.opened = s.plans.opened ∧ (s.takeDriveReport n r).engine.attempt = s.engine.attempt ∧ (s.takeDriveReport
    n r).engine.placed = s.engine.placed ∧ (s.takeDriveReport n r).engine.lastRefusal = s.engine.lastRefusal ∧
    (s.takeDriveReport n r).engine.seatRetries = s.engine.seatRetries ∧ (s.takeDriveReport n r).engine.zoneRefusals =
    s.engine.zoneRefusals ∧ (s.takeDriveReport n r).engine.fault = s.engine.fault ∧ (s.takeDriveReport n
    r).grout.ports = s.grout.ports ∧ (s.takeDriveReport n r).grout.restrained = s.grout.restrained ∧
    (s.takeDriveReport n r).muck.faceRestrained = s.muck.faceRestrained ∧ (s.takeDriveReport n r).muck.faceLow =
    s.muck.faceLow ∧ (s.takeDriveReport n r).muck.queue = s.muck.queue ∧ (s.takeDriveReport n r).muck.lastIndexed =
    s.muck.lastIndexed ∧ (s.takeDriveReport n r).muck.muckRestrained = s.muck.muckRestrained ∧ (s.takeDriveReport n
    r).muck.spill = s.muck.spill ∧ (s.takeDriveReport n r).muck.weighed = s.muck.weighed ∧ (s.takeDriveReport n
    r).muck.carried = s.muck.carried ∧ (s.takeDriveReport n r).muck.uncarried = s.muck.uncarried ∧ (s.takeDriveReport
    n r).muck.excused = s.muck.excused ∧ (s.takeDriveReport n r).muck.indexed = s.muck.indexed ∧ (s.takeDriveReport n
    r).muck.machineAdvance = s.muck.machineAdvance ∧ (s.takeDriveReport n r).muck.overdig = s.muck.overdig ∧
    (s.takeDriveReport n r).channels.cylinders = s.channels.cylinders ∧ (s.takeDriveReport n r).channels.pumpAtRest =
    s.channels.pumpAtRest ∧ (s.takeDriveReport n r).channels.linePressure = s.channels.linePressure ∧
    (s.takeDriveReport n r).channels.screwFault = s.channels.screwFault ∧ (s.takeDriveReport n r).channels.face =
    s.channels.face ∧ (s.takeDriveReport n r).channels.erectorFault = s.channels.erectorFault ∧ (s.takeDriveReport n
    r).console.watch = s.console.watch ∧ (s.takeDriveReport n r).console.records = s.console.records := by
  unfold takeDriveReport
  dsimp only
  (repeat' split) <;> simp

@[simp] theorem clearDrives_fields (s : State) :
    s.clearDrives.drive.setpoint = s.drive.setpoint ∧ s.clearDrives.drive.guard = s.drive.guard := by
  simp [clearDrives]

@[simp] theorem restartGuard_fields (s : State) :
    s.restartGuard.drive.drives = s.drive.drives ∧ s.restartGuard.drive.setpoint = s.drive.setpoint := by
  simp [restartGuard]

@[simp] theorem serveGuardOn_fields  (station : Station) (addressed : Bool) (args : List Byte) (s : State) :
    (s.serveGuardOn station addressed args).link.onWire = s.link.onWire ∧ (s.serveGuardOn station addressed
    args).link.transmitting = s.link.transmitting ∧ (s.serveGuardOn station addressed args).thrust.cylinders =
    s.thrust.cylinders ∧ (s.serveGuardOn station addressed args).thrust.sectorAdvance = s.thrust.sectorAdvance ∧
    (s.serveGuardOn station addressed args).thrust.credited = s.thrust.credited ∧ (s.serveGuardOn station addressed
    args).thrust.setpoint = s.thrust.setpoint ∧ (s.serveGuardOn station addressed args).thrust.steerPause =
    s.thrust.steerPause ∧ (s.serveGuardOn station addressed args).thrust.strokeReached = s.thrust.strokeReached ∧
    (s.serveGuardOn station addressed args).thrust.zone = s.thrust.zone ∧ (s.serveGuardOn station addressed
    args).drive.drives = s.drive.drives ∧ (s.serveGuardOn station addressed args).drive.setpoint = s.drive.setpoint ∧
    (s.serveGuardOn station addressed args).engine.state = s.engine.state ∧ (s.serveGuardOn station addressed
    args).engine.seated = s.engine.seated ∧ (s.serveGuardOn station addressed args).engine.attempt = s.engine.attempt
    ∧ (s.serveGuardOn station addressed args).engine.zoneMembers = s.engine.zoneMembers ∧ (s.serveGuardOn station
    addressed args).engine.answered = s.engine.answered ∧ (s.serveGuardOn station addressed args).engine.retry =
    s.engine.retry ∧ (s.serveGuardOn station addressed args).engine.limit = s.engine.limit ∧ (s.serveGuardOn station
    addressed args).engine.stopping = s.engine.stopping ∧ (s.serveGuardOn station addressed args).engine.placed =
    s.engine.placed ∧ (s.serveGuardOn station addressed args).engine.lastRefusal = s.engine.lastRefusal ∧
    (s.serveGuardOn station addressed args).engine.seatRetries = s.engine.seatRetries ∧ (s.serveGuardOn station
    addressed args).engine.zoneRefusals = s.engine.zoneRefusals ∧ (s.serveGuardOn station addressed args).engine.fault
    = s.engine.fault ∧ (s.serveGuardOn station addressed args).engine.erector = s.engine.erector ∧ (s.serveGuardOn
    station addressed args).engine.erectorCommand = s.engine.erectorCommand ∧ (s.serveGuardOn station addressed
    args).console.watch = s.console.watch ∧ (s.serveGuardOn station addressed args).console.records =
    s.console.records := by
  simp only [serveGuardOn, configuredOnly]
  (repeat' split) <;> simp

@[simp] theorem serveGuardOff_fields  (station : Station) (addressed : Bool) (args : List Byte) (s : State) :
    (s.serveGuardOff station addressed args).link.onWire = s.link.onWire ∧ (s.serveGuardOff station addressed
    args).link.transmitting = s.link.transmitting ∧ (s.serveGuardOff station addressed args).thrust.cylinders =
    s.thrust.cylinders ∧ (s.serveGuardOff station addressed args).thrust.sectorAdvance = s.thrust.sectorAdvance ∧
    (s.serveGuardOff station addressed args).thrust.credited = s.thrust.credited ∧ (s.serveGuardOff station addressed
    args).thrust.setpoint = s.thrust.setpoint ∧ (s.serveGuardOff station addressed args).thrust.steerPause =
    s.thrust.steerPause ∧ (s.serveGuardOff station addressed args).thrust.strokeReached = s.thrust.strokeReached ∧
    (s.serveGuardOff station addressed args).thrust.zone = s.thrust.zone ∧ (s.serveGuardOff station addressed
    args).drive.drives = s.drive.drives ∧ (s.serveGuardOff station addressed args).drive.setpoint = s.drive.setpoint ∧
    (s.serveGuardOff station addressed args).engine.state = s.engine.state ∧ (s.serveGuardOff station addressed
    args).engine.seated = s.engine.seated ∧ (s.serveGuardOff station addressed args).engine.attempt = s.engine.attempt
    ∧ (s.serveGuardOff station addressed args).engine.zoneMembers = s.engine.zoneMembers ∧ (s.serveGuardOff station
    addressed args).engine.answered = s.engine.answered ∧ (s.serveGuardOff station addressed args).engine.retry =
    s.engine.retry ∧ (s.serveGuardOff station addressed args).engine.limit = s.engine.limit ∧ (s.serveGuardOff station
    addressed args).engine.stopping = s.engine.stopping ∧ (s.serveGuardOff station addressed args).engine.placed =
    s.engine.placed ∧ (s.serveGuardOff station addressed args).engine.lastRefusal = s.engine.lastRefusal ∧
    (s.serveGuardOff station addressed args).engine.seatRetries = s.engine.seatRetries ∧ (s.serveGuardOff station
    addressed args).engine.zoneRefusals = s.engine.zoneRefusals ∧ (s.serveGuardOff station addressed
    args).engine.fault = s.engine.fault ∧ (s.serveGuardOff station addressed args).engine.erector = s.engine.erector ∧
    (s.serveGuardOff station addressed args).engine.erectorCommand = s.engine.erectorCommand ∧ (s.serveGuardOff
    station addressed args).console.watch = s.console.watch ∧ (s.serveGuardOff station addressed args).console.records
    = s.console.records := by
  simp only [serveGuardOff, configuredOnly]
  (repeat' split) <;> simp

@[simp] theorem serveGuardLevel_fields  (station : Station) (addressed : Bool) (args : List Byte) (s : State) :
    (s.serveGuardLevel station addressed args).link.onWire = s.link.onWire ∧ (s.serveGuardLevel station addressed
    args).link.transmitting = s.link.transmitting ∧ (s.serveGuardLevel station addressed args).drive.drives =
    s.drive.drives ∧ (s.serveGuardLevel station addressed args).drive.setpoint = s.drive.setpoint ∧ (s.serveGuardLevel
    station addressed args).engine.state = s.engine.state ∧ (s.serveGuardLevel station addressed args).engine.seated =
    s.engine.seated ∧ (s.serveGuardLevel station addressed args).engine.attempt = s.engine.attempt ∧
    (s.serveGuardLevel station addressed args).engine.zoneMembers = s.engine.zoneMembers ∧ (s.serveGuardLevel station
    addressed args).engine.answered = s.engine.answered ∧ (s.serveGuardLevel station addressed args).engine.retry =
    s.engine.retry ∧ (s.serveGuardLevel station addressed args).engine.limit = s.engine.limit ∧ (s.serveGuardLevel
    station addressed args).engine.stopping = s.engine.stopping ∧ (s.serveGuardLevel station addressed
    args).engine.placed = s.engine.placed ∧ (s.serveGuardLevel station addressed args).engine.lastRefusal =
    s.engine.lastRefusal ∧ (s.serveGuardLevel station addressed args).engine.seatRetries = s.engine.seatRetries ∧
    (s.serveGuardLevel station addressed args).engine.zoneRefusals = s.engine.zoneRefusals ∧ (s.serveGuardLevel
    station addressed args).engine.fault = s.engine.fault ∧ (s.serveGuardLevel station addressed args).engine.erector
    = s.engine.erector ∧ (s.serveGuardLevel station addressed args).engine.erectorCommand = s.engine.erectorCommand ∧
    (s.serveGuardLevel station addressed args).console.watch = s.console.watch ∧ (s.serveGuardLevel station addressed
    args).console.records = s.console.records := by
  simp only [serveGuardLevel, configuredOnly]
  (repeat' split) <;> simp

@[simp] theorem serveGuardProbe_fields  (station : Station) (addressed : Bool) (args : List Byte) (s : State) :
    (s.serveGuardProbe station addressed args).link.onWire = s.link.onWire ∧ (s.serveGuardProbe station addressed
    args).link.transmitting = s.link.transmitting ∧ (s.serveGuardProbe station addressed args).drive.drives =
    s.drive.drives ∧ (s.serveGuardProbe station addressed args).drive.setpoint = s.drive.setpoint ∧ (s.serveGuardProbe
    station addressed args).engine.state = s.engine.state ∧ (s.serveGuardProbe station addressed args).engine.seated =
    s.engine.seated ∧ (s.serveGuardProbe station addressed args).engine.attempt = s.engine.attempt ∧
    (s.serveGuardProbe station addressed args).engine.zoneMembers = s.engine.zoneMembers ∧ (s.serveGuardProbe station
    addressed args).engine.answered = s.engine.answered ∧ (s.serveGuardProbe station addressed args).engine.retry =
    s.engine.retry ∧ (s.serveGuardProbe station addressed args).engine.limit = s.engine.limit ∧ (s.serveGuardProbe
    station addressed args).engine.stopping = s.engine.stopping ∧ (s.serveGuardProbe station addressed
    args).engine.placed = s.engine.placed ∧ (s.serveGuardProbe station addressed args).engine.lastRefusal =
    s.engine.lastRefusal ∧ (s.serveGuardProbe station addressed args).engine.seatRetries = s.engine.seatRetries ∧
    (s.serveGuardProbe station addressed args).engine.zoneRefusals = s.engine.zoneRefusals ∧ (s.serveGuardProbe
    station addressed args).engine.fault = s.engine.fault ∧ (s.serveGuardProbe station addressed args).engine.erector
    = s.engine.erector ∧ (s.serveGuardProbe station addressed args).engine.erectorCommand = s.engine.erectorCommand ∧
    (s.serveGuardProbe station addressed args).console.watch = s.console.watch ∧ (s.serveGuardProbe station addressed
    args).console.records = s.console.records := by
  simp only [serveGuardProbe, configuredOnly]
  (repeat' split) <;> simp

@[simp] theorem serveGuardReset_fields  (station : Station) (addressed : Bool) (args : List Byte) (s : State) :
    (s.serveGuardReset station addressed args).link.onWire = s.link.onWire ∧ (s.serveGuardReset station addressed
    args).link.transmitting = s.link.transmitting ∧ (s.serveGuardReset station addressed args).drive.drives =
    s.drive.drives ∧ (s.serveGuardReset station addressed args).drive.setpoint = s.drive.setpoint ∧ (s.serveGuardReset
    station addressed args).engine.state = s.engine.state ∧ (s.serveGuardReset station addressed args).engine.seated =
    s.engine.seated ∧ (s.serveGuardReset station addressed args).engine.attempt = s.engine.attempt ∧
    (s.serveGuardReset station addressed args).engine.zoneMembers = s.engine.zoneMembers ∧ (s.serveGuardReset station
    addressed args).engine.answered = s.engine.answered ∧ (s.serveGuardReset station addressed args).engine.retry =
    s.engine.retry ∧ (s.serveGuardReset station addressed args).engine.limit = s.engine.limit ∧ (s.serveGuardReset
    station addressed args).engine.stopping = s.engine.stopping ∧ (s.serveGuardReset station addressed
    args).engine.placed = s.engine.placed ∧ (s.serveGuardReset station addressed args).engine.lastRefusal =
    s.engine.lastRefusal ∧ (s.serveGuardReset station addressed args).engine.seatRetries = s.engine.seatRetries ∧
    (s.serveGuardReset station addressed args).engine.zoneRefusals = s.engine.zoneRefusals ∧ (s.serveGuardReset
    station addressed args).engine.fault = s.engine.fault ∧ (s.serveGuardReset station addressed args).engine.erector
    = s.engine.erector ∧ (s.serveGuardReset station addressed args).engine.erectorCommand = s.engine.erectorCommand ∧
    (s.serveGuardReset station addressed args).console.watch = s.console.watch ∧ (s.serveGuardReset station addressed
    args).console.records = s.console.records := by
  simp only [serveGuardReset, configuredOnly]
  (repeat' split) <;> simp

@[simp] theorem takeStall_fields (mean : Nat) (s : State) :
    (s.takeStall mean).link.transmitting = s.link.transmitting ∧ (s.takeStall mean).machine.previous =
    s.machine.previous ∧ (s.takeStall mean).machine.view = s.machine.view ∧ (s.takeStall mean).machine.ring =
    s.machine.ring ∧ (s.takeStall mean).machine.beaconTimer = s.machine.beaconTimer ∧ (s.takeStall
    mean).thrust.sectorAdvance = s.thrust.sectorAdvance ∧ (s.takeStall mean).thrust.credited = s.thrust.credited ∧
    (s.takeStall mean).thrust.setpoint = s.thrust.setpoint ∧ (s.takeStall mean).thrust.strokeReached =
    s.thrust.strokeReached ∧ (s.takeStall mean).thrust.restraints = s.thrust.restraints ∧ (s.takeStall
    mean).drive.setpoint = s.drive.setpoint ∧ (s.takeStall mean).plans.opened = s.plans.opened ∧ (s.takeStall
    mean).engine.attempt = s.engine.attempt ∧ (s.takeStall mean).engine.placed = s.engine.placed ∧ (s.takeStall
    mean).engine.lastRefusal = s.engine.lastRefusal ∧ (s.takeStall mean).engine.seatRetries = s.engine.seatRetries ∧
    (s.takeStall mean).engine.zoneRefusals = s.engine.zoneRefusals ∧ (s.takeStall mean).engine.fault = s.engine.fault
    ∧ (s.takeStall mean).grout.ports = s.grout.ports ∧ (s.takeStall mean).grout.restrained = s.grout.restrained ∧
    (s.takeStall mean).muck.faceRestrained = s.muck.faceRestrained ∧ (s.takeStall mean).muck.faceLow = s.muck.faceLow
    ∧ (s.takeStall mean).muck.queue = s.muck.queue ∧ (s.takeStall mean).muck.lastIndexed = s.muck.lastIndexed ∧
    (s.takeStall mean).muck.muckRestrained = s.muck.muckRestrained ∧ (s.takeStall mean).muck.spill = s.muck.spill ∧
    (s.takeStall mean).muck.weighed = s.muck.weighed ∧ (s.takeStall mean).muck.carried = s.muck.carried ∧ (s.takeStall
    mean).muck.uncarried = s.muck.uncarried ∧ (s.takeStall mean).muck.excused = s.muck.excused ∧ (s.takeStall
    mean).muck.indexed = s.muck.indexed ∧ (s.takeStall mean).muck.machineAdvance = s.muck.machineAdvance ∧
    (s.takeStall mean).muck.overdig = s.muck.overdig ∧ (s.takeStall mean).console.watch = s.console.watch ∧
    (s.takeStall mean).console.records = s.console.records := by
  unfold takeStall
  (repeat' split) <;> simp

@[simp] theorem endProbe_fields (p : Probe) (s : State) :
    (s.endProbe p).link.transmitting = s.link.transmitting ∧ (s.endProbe p).machine.previous = s.machine.previous ∧
    (s.endProbe p).machine.view = s.machine.view ∧ (s.endProbe p).machine.ring = s.machine.ring ∧ (s.endProbe
    p).machine.beaconTimer = s.machine.beaconTimer ∧ (s.endProbe p).thrust.sectorAdvance = s.thrust.sectorAdvance ∧
    (s.endProbe p).thrust.credited = s.thrust.credited ∧ (s.endProbe p).thrust.setpoint = s.thrust.setpoint ∧
    (s.endProbe p).thrust.strokeReached = s.thrust.strokeReached ∧ (s.endProbe p).drive.setpoint = s.drive.setpoint ∧
    (s.endProbe p).plans.opened = s.plans.opened ∧ (s.endProbe p).engine.attempt = s.engine.attempt ∧ (s.endProbe
    p).engine.placed = s.engine.placed ∧ (s.endProbe p).engine.lastRefusal = s.engine.lastRefusal ∧ (s.endProbe
    p).engine.seatRetries = s.engine.seatRetries ∧ (s.endProbe p).engine.zoneRefusals = s.engine.zoneRefusals ∧
    (s.endProbe p).engine.fault = s.engine.fault ∧ (s.endProbe p).grout.ports = s.grout.ports ∧ (s.endProbe
    p).grout.restrained = s.grout.restrained ∧ (s.endProbe p).muck.faceRestrained = s.muck.faceRestrained ∧
    (s.endProbe p).muck.faceLow = s.muck.faceLow ∧ (s.endProbe p).muck.queue = s.muck.queue ∧ (s.endProbe
    p).muck.lastIndexed = s.muck.lastIndexed ∧ (s.endProbe p).muck.muckRestrained = s.muck.muckRestrained ∧
    (s.endProbe p).muck.spill = s.muck.spill ∧ (s.endProbe p).muck.weighed = s.muck.weighed ∧ (s.endProbe
    p).muck.carried = s.muck.carried ∧ (s.endProbe p).muck.uncarried = s.muck.uncarried ∧ (s.endProbe p).muck.excused
    = s.muck.excused ∧ (s.endProbe p).muck.indexed = s.muck.indexed ∧ (s.endProbe p).muck.machineAdvance =
    s.muck.machineAdvance ∧ (s.endProbe p).muck.overdig = s.muck.overdig ∧ (s.endProbe p).console.watch =
    s.console.watch ∧ (s.endProbe p).console.records = s.console.records := by
  unfold endProbe
  dsimp only
  (repeat' split) <;> simp

end Sys2Proof.Machine.State
end

