-- ==== Sys2Proof/Laws/PlanFields.lean ====
section
/-! SUPPORT. For each operation of Machine/Plan.lean, the fields it leaves as they are in the parts of State it may change. -/

namespace Sys2Proof.Machine.State

@[simp] theorem discardOpenPlan_fields (s : State) :
    s.discardOpenPlan.plans.closed = s.plans.closed := by
  simp [discardOpenPlan]

@[simp] theorem servePlanOpen_fields  (station : Station) (addressed : Bool) (args : List Byte) (s : State) :
    (s.servePlanOpen station addressed args).link.onWire = s.link.onWire ∧ (s.servePlanOpen station addressed
    args).link.transmitting = s.link.transmitting ∧ (s.servePlanOpen station addressed args).plans.closed =
    s.plans.closed ∧ (s.servePlanOpen station addressed args).engine.state = s.engine.state ∧ (s.servePlanOpen station
    addressed args).engine.seated = s.engine.seated ∧ (s.servePlanOpen station addressed args).engine.attempt =
    s.engine.attempt ∧ (s.servePlanOpen station addressed args).engine.zoneMembers = s.engine.zoneMembers ∧
    (s.servePlanOpen station addressed args).engine.answered = s.engine.answered ∧ (s.servePlanOpen station addressed
    args).engine.retry = s.engine.retry ∧ (s.servePlanOpen station addressed args).engine.limit = s.engine.limit ∧
    (s.servePlanOpen station addressed args).engine.stopping = s.engine.stopping ∧ (s.servePlanOpen station addressed
    args).engine.placed = s.engine.placed ∧ (s.servePlanOpen station addressed args).engine.lastRefusal =
    s.engine.lastRefusal ∧ (s.servePlanOpen station addressed args).engine.seatRetries = s.engine.seatRetries ∧
    (s.servePlanOpen station addressed args).engine.zoneRefusals = s.engine.zoneRefusals ∧ (s.servePlanOpen station
    addressed args).engine.fault = s.engine.fault ∧ (s.servePlanOpen station addressed args).engine.erector =
    s.engine.erector ∧ (s.servePlanOpen station addressed args).engine.erectorCommand = s.engine.erectorCommand ∧
    (s.servePlanOpen station addressed args).console.watch = s.console.watch ∧ (s.servePlanOpen station addressed
    args).console.records = s.console.records := by
  simp only [servePlanOpen, planService]
  (repeat' split) <;> simp

@[simp] theorem servePlanStep_fields  (station : Station) (addressed : Bool) (args : List Byte) (s : State) :
    (s.servePlanStep station addressed args).link.onWire = s.link.onWire ∧ (s.servePlanStep station addressed
    args).link.transmitting = s.link.transmitting ∧ (s.servePlanStep station addressed args).plans.closed =
    s.plans.closed ∧ (s.servePlanStep station addressed args).engine.state = s.engine.state ∧ (s.servePlanStep station
    addressed args).engine.seated = s.engine.seated ∧ (s.servePlanStep station addressed args).engine.attempt =
    s.engine.attempt ∧ (s.servePlanStep station addressed args).engine.zoneMembers = s.engine.zoneMembers ∧
    (s.servePlanStep station addressed args).engine.answered = s.engine.answered ∧ (s.servePlanStep station addressed
    args).engine.retry = s.engine.retry ∧ (s.servePlanStep station addressed args).engine.limit = s.engine.limit ∧
    (s.servePlanStep station addressed args).engine.stopping = s.engine.stopping ∧ (s.servePlanStep station addressed
    args).engine.placed = s.engine.placed ∧ (s.servePlanStep station addressed args).engine.lastRefusal =
    s.engine.lastRefusal ∧ (s.servePlanStep station addressed args).engine.seatRetries = s.engine.seatRetries ∧
    (s.servePlanStep station addressed args).engine.zoneRefusals = s.engine.zoneRefusals ∧ (s.servePlanStep station
    addressed args).engine.fault = s.engine.fault ∧ (s.servePlanStep station addressed args).engine.erector =
    s.engine.erector ∧ (s.servePlanStep station addressed args).engine.erectorCommand = s.engine.erectorCommand ∧
    (s.servePlanStep station addressed args).console.watch = s.console.watch ∧ (s.servePlanStep station addressed
    args).console.records = s.console.records := by
  simp only [servePlanStep, planService]
  (repeat' split) <;> simp

@[simp] theorem closePlan_fields (p : Plan) (n : Nat) (s : State) :
    (s.closePlan p n).link.onWire = s.link.onWire ∧ (s.closePlan p n).link.transmitting = s.link.transmitting ∧
    (s.closePlan p n).engine.stopping = s.engine.stopping ∧ (s.closePlan p n).engine.placed = s.engine.placed ∧
    (s.closePlan p n).engine.lastRefusal = s.engine.lastRefusal ∧ (s.closePlan p n).engine.seatRetries =
    s.engine.seatRetries ∧ (s.closePlan p n).engine.zoneRefusals = s.engine.zoneRefusals ∧ (s.closePlan p
    n).engine.erector = s.engine.erector ∧ (s.closePlan p n).engine.erectorCommand = s.engine.erectorCommand ∧
    (s.closePlan p n).console.watch = s.console.watch ∧ (s.closePlan p n).console.records = s.console.records := by
  unfold closePlan
  dsimp only
  (repeat' split) <;> simp

@[simp] theorem servePlanClose_fields  (station : Station) (addressed : Bool) (args : List Byte) (s : State) :
    (s.servePlanClose station addressed args).link.onWire = s.link.onWire ∧ (s.servePlanClose station addressed
    args).link.transmitting = s.link.transmitting ∧ (s.servePlanClose station addressed args).engine.stopping =
    s.engine.stopping ∧ (s.servePlanClose station addressed args).engine.placed = s.engine.placed ∧ (s.servePlanClose
    station addressed args).engine.lastRefusal = s.engine.lastRefusal ∧ (s.servePlanClose station addressed
    args).engine.seatRetries = s.engine.seatRetries ∧ (s.servePlanClose station addressed args).engine.zoneRefusals =
    s.engine.zoneRefusals ∧ (s.servePlanClose station addressed args).engine.erector = s.engine.erector ∧
    (s.servePlanClose station addressed args).engine.erectorCommand = s.engine.erectorCommand ∧ (s.servePlanClose
    station addressed args).console.watch = s.console.watch ∧ (s.servePlanClose station addressed
    args).console.records = s.console.records := by
  simp only [servePlanClose, planService]
  (repeat' split) <;> simp

@[simp] theorem servePlanAbort_fields  (station : Station) (addressed : Bool) (args : List Byte) (s : State) :
    (s.servePlanAbort station addressed args).link.onWire = s.link.onWire ∧ (s.servePlanAbort station addressed
    args).link.transmitting = s.link.transmitting ∧ (s.servePlanAbort station addressed args).plans.closed =
    s.plans.closed ∧ (s.servePlanAbort station addressed args).engine.state = s.engine.state ∧ (s.servePlanAbort
    station addressed args).engine.seated = s.engine.seated ∧ (s.servePlanAbort station addressed args).engine.attempt
    = s.engine.attempt ∧ (s.servePlanAbort station addressed args).engine.zoneMembers = s.engine.zoneMembers ∧
    (s.servePlanAbort station addressed args).engine.answered = s.engine.answered ∧ (s.servePlanAbort station
    addressed args).engine.retry = s.engine.retry ∧ (s.servePlanAbort station addressed args).engine.limit =
    s.engine.limit ∧ (s.servePlanAbort station addressed args).engine.stopping = s.engine.stopping ∧ (s.servePlanAbort
    station addressed args).engine.placed = s.engine.placed ∧ (s.servePlanAbort station addressed
    args).engine.lastRefusal = s.engine.lastRefusal ∧ (s.servePlanAbort station addressed args).engine.seatRetries =
    s.engine.seatRetries ∧ (s.servePlanAbort station addressed args).engine.zoneRefusals = s.engine.zoneRefusals ∧
    (s.servePlanAbort station addressed args).engine.fault = s.engine.fault ∧ (s.servePlanAbort station addressed
    args).engine.erector = s.engine.erector ∧ (s.servePlanAbort station addressed args).engine.erectorCommand =
    s.engine.erectorCommand ∧ (s.servePlanAbort station addressed args).console.watch = s.console.watch ∧
    (s.servePlanAbort station addressed args).console.records = s.console.records := by
  simp only [servePlanAbort, planServiceBare, planService]
  (repeat' split) <;> simp

@[simp] theorem stopEngine_fields (s : State) :
    s.stopEngine.plans.opened = s.plans.opened ∧ s.stopEngine.engine.attempt = s.engine.attempt ∧
    s.stopEngine.engine.retry = s.engine.retry ∧ s.stopEngine.engine.closePending = s.engine.closePending ∧
    s.stopEngine.engine.requeue = s.engine.requeue ∧ s.stopEngine.engine.placed = s.engine.placed ∧
    s.stopEngine.engine.lastRefusal = s.engine.lastRefusal ∧ s.stopEngine.engine.seatRetries = s.engine.seatRetries ∧
    s.stopEngine.engine.zoneRefusals = s.engine.zoneRefusals ∧ s.stopEngine.engine.fault = s.engine.fault ∧
    s.stopEngine.engine.erector = s.engine.erector ∧ s.stopEngine.engine.erectorCommand = s.engine.erectorCommand := by
  unfold stopEngine
  split <;> simp

@[simp] theorem servePlanStop_fields  (station : Station) (addressed : Bool) (args : List Byte) (s : State) :
    (s.servePlanStop station addressed args).link.onWire = s.link.onWire ∧ (s.servePlanStop station addressed
    args).link.transmitting = s.link.transmitting ∧ (s.servePlanStop station addressed args).plans.opened =
    s.plans.opened ∧ (s.servePlanStop station addressed args).engine.attempt = s.engine.attempt ∧ (s.servePlanStop
    station addressed args).engine.retry = s.engine.retry ∧ (s.servePlanStop station addressed args).engine.placed =
    s.engine.placed ∧ (s.servePlanStop station addressed args).engine.lastRefusal = s.engine.lastRefusal ∧
    (s.servePlanStop station addressed args).engine.seatRetries = s.engine.seatRetries ∧ (s.servePlanStop station
    addressed args).engine.zoneRefusals = s.engine.zoneRefusals ∧ (s.servePlanStop station addressed
    args).engine.fault = s.engine.fault ∧ (s.servePlanStop station addressed args).engine.erector = s.engine.erector ∧
    (s.servePlanStop station addressed args).engine.erectorCommand = s.engine.erectorCommand ∧ (s.servePlanStop
    station addressed args).console.watch = s.console.watch ∧ (s.servePlanStop station addressed args).console.records
    = s.console.records := by
  simp only [servePlanStop, planServiceBare, planService]
  (repeat' split) <;> simp

@[simp] theorem servePlanFlush_fields  (station : Station) (addressed : Bool) (args : List Byte) (s : State) :
    (s.servePlanFlush station addressed args).link.onWire = s.link.onWire ∧ (s.servePlanFlush station addressed
    args).link.transmitting = s.link.transmitting ∧ (s.servePlanFlush station addressed args).engine.state =
    s.engine.state ∧ (s.servePlanFlush station addressed args).engine.seated = s.engine.seated ∧ (s.servePlanFlush
    station addressed args).engine.attempt = s.engine.attempt ∧ (s.servePlanFlush station addressed
    args).engine.zoneMembers = s.engine.zoneMembers ∧ (s.servePlanFlush station addressed args).engine.answered =
    s.engine.answered ∧ (s.servePlanFlush station addressed args).engine.retry = s.engine.retry ∧ (s.servePlanFlush
    station addressed args).engine.limit = s.engine.limit ∧ (s.servePlanFlush station addressed args).engine.stopping
    = s.engine.stopping ∧ (s.servePlanFlush station addressed args).engine.placed = s.engine.placed ∧
    (s.servePlanFlush station addressed args).engine.lastRefusal = s.engine.lastRefusal ∧ (s.servePlanFlush station
    addressed args).engine.seatRetries = s.engine.seatRetries ∧ (s.servePlanFlush station addressed
    args).engine.zoneRefusals = s.engine.zoneRefusals ∧ (s.servePlanFlush station addressed args).engine.fault =
    s.engine.fault ∧ (s.servePlanFlush station addressed args).engine.erector = s.engine.erector ∧ (s.servePlanFlush
    station addressed args).engine.erectorCommand = s.engine.erectorCommand ∧ (s.servePlanFlush station addressed
    args).console.watch = s.console.watch ∧ (s.servePlanFlush station addressed args).console.records =
    s.console.records := by
  simp only [servePlanFlush, planServiceBare, planService]
  (repeat' split) <;> simp

@[simp] theorem servePlanEnable_fields  (station : Station) (addressed : Bool) (args : List Byte) (s : State) :
    (s.servePlanEnable station addressed args).link.onWire = s.link.onWire ∧ (s.servePlanEnable station addressed
    args).link.transmitting = s.link.transmitting ∧ (s.servePlanEnable station addressed args).engine.placed =
    s.engine.placed ∧ (s.servePlanEnable station addressed args).engine.lastRefusal = s.engine.lastRefusal ∧
    (s.servePlanEnable station addressed args).engine.seatRetries = s.engine.seatRetries ∧ (s.servePlanEnable station
    addressed args).engine.zoneRefusals = s.engine.zoneRefusals ∧ (s.servePlanEnable station addressed
    args).engine.erector = s.engine.erector ∧ (s.servePlanEnable station addressed args).engine.erectorCommand =
    s.engine.erectorCommand ∧ (s.servePlanEnable station addressed args).console.watch = s.console.watch ∧
    (s.servePlanEnable station addressed args).console.records = s.console.records := by
  simp only [servePlanEnable, planServiceBare, planService]
  (repeat' split) <;> simp

@[simp] theorem resumeEngine_fields (s : State) :
    s.resumeEngine.link.onWire = s.link.onWire ∧ s.resumeEngine.link.transmitting = s.link.transmitting ∧
    s.resumeEngine.engine.seated = s.engine.seated ∧ s.resumeEngine.engine.stopping = s.engine.stopping ∧
    s.resumeEngine.engine.placed = s.engine.placed ∧ s.resumeEngine.engine.lastRefusal = s.engine.lastRefusal ∧
    s.resumeEngine.engine.seatRetries = s.engine.seatRetries ∧ s.resumeEngine.engine.zoneRefusals =
    s.engine.zoneRefusals ∧ s.resumeEngine.engine.fault = s.engine.fault ∧ s.resumeEngine.engine.erector =
    s.engine.erector ∧ s.resumeEngine.engine.erectorCommand = s.engine.erectorCommand ∧ s.resumeEngine.console.watch =
    s.console.watch ∧ s.resumeEngine.console.records = s.console.records := by
  unfold resumeEngine
  split <;> simp

@[simp] theorem servePlanResume_fields  (station : Station) (addressed : Bool) (args : List Byte) (s : State) :
    (s.servePlanResume station addressed args).link.onWire = s.link.onWire ∧ (s.servePlanResume station addressed
    args).link.transmitting = s.link.transmitting ∧ (s.servePlanResume station addressed args).engine.seated =
    s.engine.seated ∧ (s.servePlanResume station addressed args).engine.stopping = s.engine.stopping ∧
    (s.servePlanResume station addressed args).engine.placed = s.engine.placed ∧ (s.servePlanResume station addressed
    args).engine.lastRefusal = s.engine.lastRefusal ∧ (s.servePlanResume station addressed args).engine.seatRetries =
    s.engine.seatRetries ∧ (s.servePlanResume station addressed args).engine.zoneRefusals = s.engine.zoneRefusals ∧
    (s.servePlanResume station addressed args).engine.fault = s.engine.fault ∧ (s.servePlanResume station addressed
    args).engine.erector = s.engine.erector ∧ (s.servePlanResume station addressed args).engine.erectorCommand =
    s.engine.erectorCommand ∧ (s.servePlanResume station addressed args).console.watch = s.console.watch ∧
    (s.servePlanResume station addressed args).console.records = s.console.records := by
  simp only [servePlanResume, planServiceBare, planService]
  (repeat' split) <;> simp

end Sys2Proof.Machine.State
end

