-- ==== Sys2Proof/Laws/RingFields.lean ====
section
/-! SUPPORT. For each operation of Machine/Ring.lean, the fields it leaves as they are in the parts of State it may change. -/

namespace Sys2Proof.Machine.State

@[simp] theorem enterPlacing_fields (s : State) :
    s.enterPlacing.engine.seated = s.engine.seated ∧ s.enterPlacing.engine.attempt = s.engine.attempt ∧
    s.enterPlacing.engine.retry = s.engine.retry ∧ s.enterPlacing.engine.stopping = s.engine.stopping ∧
    s.enterPlacing.engine.closePending = s.engine.closePending ∧ s.enterPlacing.engine.requeue = s.engine.requeue ∧
    s.enterPlacing.engine.placed = s.engine.placed ∧ s.enterPlacing.engine.lastRefusal = s.engine.lastRefusal ∧
    s.enterPlacing.engine.seatRetries = s.engine.seatRetries ∧ s.enterPlacing.engine.zoneRefusals =
    s.engine.zoneRefusals ∧ s.enterPlacing.engine.fault = s.engine.fault := by
  simp [enterPlacing]

@[simp] theorem afterStep_fields (s : State) :
    s.afterStep.engine.seated = s.engine.seated ∧ s.afterStep.engine.attempt = s.engine.attempt ∧
    s.afterStep.engine.zoneMembers = s.engine.zoneMembers ∧ s.afterStep.engine.answered = s.engine.answered ∧
    s.afterStep.engine.retry = s.engine.retry ∧ s.afterStep.engine.limit = s.engine.limit ∧
    s.afterStep.engine.closePending = s.engine.closePending ∧ s.afterStep.engine.requeue = s.engine.requeue ∧
    s.afterStep.engine.placed = s.engine.placed ∧ s.afterStep.engine.lastRefusal = s.engine.lastRefusal ∧
    s.afterStep.engine.seatRetries = s.engine.seatRetries ∧ s.afterStep.engine.zoneRefusals = s.engine.zoneRefusals ∧
    s.afterStep.engine.fault = s.engine.fault ∧ s.afterStep.engine.erector = s.engine.erector ∧
    s.afterStep.engine.erectorCommand = s.engine.erectorCommand := by
  simp [afterStep]

@[simp] theorem closeRing_fields (s : State) :
    s.closeRing.link.onWire = s.link.onWire ∧ s.closeRing.link.transmitting = s.link.transmitting ∧
    s.closeRing.engine.state = s.engine.state ∧ s.closeRing.engine.seated = s.engine.seated ∧
    s.closeRing.engine.attempt = s.engine.attempt ∧ s.closeRing.engine.zoneMembers = s.engine.zoneMembers ∧
    s.closeRing.engine.answered = s.engine.answered ∧ s.closeRing.engine.retry = s.engine.retry ∧
    s.closeRing.engine.limit = s.engine.limit ∧ s.closeRing.engine.stopping = s.engine.stopping ∧
    s.closeRing.engine.placed = s.engine.placed ∧ s.closeRing.engine.lastRefusal = s.engine.lastRefusal ∧
    s.closeRing.engine.seatRetries = s.engine.seatRetries ∧ s.closeRing.engine.zoneRefusals = s.engine.zoneRefusals ∧
    s.closeRing.engine.fault = s.engine.fault ∧ s.closeRing.engine.erector = s.engine.erector ∧
    s.closeRing.engine.erectorCommand = s.engine.erectorCommand ∧ s.closeRing.console.watch = s.console.watch ∧
    s.closeRing.console.records = s.console.records := by
  simp [closeRing]

@[simp] theorem stepDone_fields (p : Plan) (st : PlanStep) (s : State) :
    (s.stepDone p st).link.onWire = s.link.onWire ∧ (s.stepDone p st).link.transmitting = s.link.transmitting ∧
    (s.stepDone p st).plans.opened = s.plans.opened ∧ (s.stepDone p st).engine.placed = s.engine.placed ∧ (s.stepDone
    p st).engine.lastRefusal = s.engine.lastRefusal ∧ (s.stepDone p st).engine.seatRetries = s.engine.seatRetries ∧
    (s.stepDone p st).engine.zoneRefusals = s.engine.zoneRefusals ∧ (s.stepDone p st).engine.erector =
    s.engine.erector ∧ (s.stepDone p st).engine.erectorCommand = s.engine.erectorCommand ∧ (s.stepDone p
    st).console.watch = s.console.watch ∧ (s.stepDone p st).console.records = s.console.records := by
  unfold stepDone
  dsimp only
  (repeat' split) <;> simp

@[simp] theorem countAnswer_fields (sender : Nat) (s : State) :
    (s.countAnswer sender).link.onWire = s.link.onWire ∧ (s.countAnswer sender).link.transmitting =
    s.link.transmitting ∧ (s.countAnswer sender).plans.opened = s.plans.opened ∧ (s.countAnswer sender).engine.placed
    = s.engine.placed ∧ (s.countAnswer sender).engine.lastRefusal = s.engine.lastRefusal ∧ (s.countAnswer
    sender).engine.seatRetries = s.engine.seatRetries ∧ (s.countAnswer sender).engine.zoneRefusals =
    s.engine.zoneRefusals ∧ (s.countAnswer sender).console.watch = s.console.watch ∧ (s.countAnswer
    sender).console.records = s.console.records := by
  unfold countAnswer
  dsimp only
  (repeat' split) <;> simp

@[simp] theorem takeZoneAnswer_fields (stage : EngineState) (sender : Nat) (payload : List Byte) (s : State) :
    (s.takeZoneAnswer stage sender payload).link.onWire = s.link.onWire ∧ (s.takeZoneAnswer stage sender
    payload).link.transmitting = s.link.transmitting ∧ (s.takeZoneAnswer stage sender payload).plans.opened =
    s.plans.opened ∧ (s.takeZoneAnswer stage sender payload).engine.placed = s.engine.placed ∧ (s.takeZoneAnswer stage
    sender payload).engine.lastRefusal = s.engine.lastRefusal ∧ (s.takeZoneAnswer stage sender
    payload).engine.seatRetries = s.engine.seatRetries ∧ (s.takeZoneAnswer stage sender payload).engine.zoneRefusals =
    s.engine.zoneRefusals ∧ (s.takeZoneAnswer stage sender payload).console.watch = s.console.watch ∧
    (s.takeZoneAnswer stage sender payload).console.records = s.console.records := by
  unfold takeZoneAnswer
  (repeat' split) <;> simp

@[simp] theorem stallEngine_fields (sender : Nat) (reason : ZoneRefusal) (position : Nat) (kind : ZoneKind) (s :
State) :
    (s.stallEngine sender reason position kind).plans.opened = s.plans.opened ∧ (s.stallEngine sender reason position
    kind).engine.attempt = s.engine.attempt ∧ (s.stallEngine sender reason position kind).engine.retry =
    s.engine.retry ∧ (s.stallEngine sender reason position kind).engine.closePending = s.engine.closePending ∧
    (s.stallEngine sender reason position kind).engine.requeue = s.engine.requeue ∧ (s.stallEngine sender reason
    position kind).engine.placed = s.engine.placed ∧ (s.stallEngine sender reason position kind).engine.seatRetries =
    s.engine.seatRetries ∧ (s.stallEngine sender reason position kind).engine.fault = s.engine.fault ∧ (s.stallEngine
    sender reason position kind).engine.erector = s.engine.erector ∧ (s.stallEngine sender reason position
    kind).engine.erectorCommand = s.engine.erectorCommand ∧ (s.stallEngine sender reason position kind).console.watch
    = s.console.watch ∧ (s.stallEngine sender reason position kind).console.counters = s.console.counters ∧
    (s.stallEngine sender reason position kind).console.dataReply = s.console.dataReply ∧ (s.stallEngine sender reason
    position kind).console.records = s.console.records := by
  unfold stallEngine
  dsimp only
  (repeat' split) <;> simp

@[simp] theorem takeZoneRefused_fields (sender : Nat) (payload : List Byte) (s : State) :
    (s.takeZoneRefused sender payload).plans.opened = s.plans.opened ∧ (s.takeZoneRefused sender
    payload).engine.attempt = s.engine.attempt ∧ (s.takeZoneRefused sender payload).engine.retry = s.engine.retry ∧
    (s.takeZoneRefused sender payload).engine.closePending = s.engine.closePending ∧ (s.takeZoneRefused sender
    payload).engine.requeue = s.engine.requeue ∧ (s.takeZoneRefused sender payload).engine.placed = s.engine.placed ∧
    (s.takeZoneRefused sender payload).engine.seatRetries = s.engine.seatRetries ∧ (s.takeZoneRefused sender
    payload).engine.fault = s.engine.fault ∧ (s.takeZoneRefused sender payload).engine.erector = s.engine.erector ∧
    (s.takeZoneRefused sender payload).engine.erectorCommand = s.engine.erectorCommand ∧ (s.takeZoneRefused sender
    payload).console.watch = s.console.watch ∧ (s.takeZoneRefused sender payload).console.counters =
    s.console.counters ∧ (s.takeZoneRefused sender payload).console.dataReply = s.console.dataReply ∧
    (s.takeZoneRefused sender payload).console.records = s.console.records := by
  unfold takeZoneRefused
  (repeat' split) <;> simp

@[simp] theorem erectorReady_fields (s : State) :
    s.erectorReady.engine.state = s.engine.state ∧ s.erectorReady.engine.seated = s.engine.seated ∧
    s.erectorReady.engine.attempt = s.engine.attempt ∧ s.erectorReady.engine.zoneMembers = s.engine.zoneMembers ∧
    s.erectorReady.engine.answered = s.engine.answered ∧ s.erectorReady.engine.retry = s.engine.retry ∧
    s.erectorReady.engine.limit = s.engine.limit ∧ s.erectorReady.engine.stopping = s.engine.stopping ∧
    s.erectorReady.engine.closePending = s.engine.closePending ∧ s.erectorReady.engine.requeue = s.engine.requeue ∧
    s.erectorReady.engine.placed = s.engine.placed ∧ s.erectorReady.engine.lastRefusal = s.engine.lastRefusal ∧
    s.erectorReady.engine.seatRetries = s.engine.seatRetries ∧ s.erectorReady.engine.zoneRefusals =
    s.engine.zoneRefusals ∧ s.erectorReady.engine.fault = s.engine.fault ∧ s.erectorReady.engine.erectorCommand =
    s.engine.erectorCommand := by
  simp [erectorReady]

@[simp] theorem takeSeated_fields (s : State) :
    s.takeSeated.link.onWire = s.link.onWire ∧ s.takeSeated.link.transmitting = s.link.transmitting ∧
    s.takeSeated.engine.retry = s.engine.retry ∧ s.takeSeated.engine.stopping = s.engine.stopping ∧
    s.takeSeated.engine.lastRefusal = s.engine.lastRefusal ∧ s.takeSeated.engine.seatRetries = s.engine.seatRetries ∧
    s.takeSeated.engine.zoneRefusals = s.engine.zoneRefusals ∧ s.takeSeated.engine.fault = s.engine.fault ∧
    s.takeSeated.engine.erectorCommand = s.engine.erectorCommand ∧ s.takeSeated.console.watch = s.console.watch ∧
    s.takeSeated.console.records = s.console.records := by
  unfold takeSeated
  dsimp only
  (repeat' split) <;> simp

@[simp] theorem failPlacement_fields (s : State) :
    s.failPlacement.link.transmitting = s.link.transmitting ∧ s.failPlacement.machine.previous = s.machine.previous ∧
    s.failPlacement.machine.view = s.machine.view ∧ s.failPlacement.machine.ring = s.machine.ring ∧
    s.failPlacement.machine.beaconTimer = s.machine.beaconTimer ∧ s.failPlacement.thrust.sectorAdvance =
    s.thrust.sectorAdvance ∧ s.failPlacement.thrust.credited = s.thrust.credited ∧ s.failPlacement.thrust.setpoint =
    s.thrust.setpoint ∧ s.failPlacement.thrust.strokeReached = s.thrust.strokeReached ∧
    s.failPlacement.thrust.restraints = s.thrust.restraints ∧ s.failPlacement.drive.setpoint = s.drive.setpoint ∧
    s.failPlacement.drive.guard = s.drive.guard ∧ s.failPlacement.plans.opened = s.plans.opened ∧
    s.failPlacement.engine.attempt = s.engine.attempt ∧ s.failPlacement.engine.placed = s.engine.placed ∧
    s.failPlacement.engine.lastRefusal = s.engine.lastRefusal ∧ s.failPlacement.engine.zoneRefusals =
    s.engine.zoneRefusals ∧ s.failPlacement.engine.fault = s.engine.fault ∧ s.failPlacement.grout.ports =
    s.grout.ports ∧ s.failPlacement.grout.restrained = s.grout.restrained ∧ s.failPlacement.muck.faceRestrained =
    s.muck.faceRestrained ∧ s.failPlacement.muck.faceLow = s.muck.faceLow ∧ s.failPlacement.muck.queue = s.muck.queue
    ∧ s.failPlacement.muck.lastIndexed = s.muck.lastIndexed ∧ s.failPlacement.muck.muckRestrained =
    s.muck.muckRestrained ∧ s.failPlacement.muck.spill = s.muck.spill ∧ s.failPlacement.muck.weighed = s.muck.weighed
    ∧ s.failPlacement.muck.carried = s.muck.carried ∧ s.failPlacement.muck.uncarried = s.muck.uncarried ∧
    s.failPlacement.muck.excused = s.muck.excused ∧ s.failPlacement.muck.indexed = s.muck.indexed ∧
    s.failPlacement.muck.machineAdvance = s.muck.machineAdvance ∧ s.failPlacement.muck.overdig = s.muck.overdig ∧
    s.failPlacement.console.watch = s.console.watch ∧ s.failPlacement.console.records = s.console.records := by
  unfold failPlacement
  split <;> simp

@[simp] theorem takeSeatFail_fields (s : State) :
    s.takeSeatFail.link.transmitting = s.link.transmitting ∧ s.takeSeatFail.machine.previous = s.machine.previous ∧
    s.takeSeatFail.machine.view = s.machine.view ∧ s.takeSeatFail.machine.ring = s.machine.ring ∧
    s.takeSeatFail.machine.beaconTimer = s.machine.beaconTimer ∧ s.takeSeatFail.thrust.sectorAdvance =
    s.thrust.sectorAdvance ∧ s.takeSeatFail.thrust.credited = s.thrust.credited ∧ s.takeSeatFail.thrust.setpoint =
    s.thrust.setpoint ∧ s.takeSeatFail.thrust.strokeReached = s.thrust.strokeReached ∧
    s.takeSeatFail.thrust.restraints = s.thrust.restraints ∧ s.takeSeatFail.drive.setpoint = s.drive.setpoint ∧
    s.takeSeatFail.drive.guard = s.drive.guard ∧ s.takeSeatFail.plans.opened = s.plans.opened ∧
    s.takeSeatFail.engine.attempt = s.engine.attempt ∧ s.takeSeatFail.engine.placed = s.engine.placed ∧
    s.takeSeatFail.engine.lastRefusal = s.engine.lastRefusal ∧ s.takeSeatFail.engine.zoneRefusals =
    s.engine.zoneRefusals ∧ s.takeSeatFail.engine.fault = s.engine.fault ∧ s.takeSeatFail.grout.ports = s.grout.ports
    ∧ s.takeSeatFail.grout.restrained = s.grout.restrained ∧ s.takeSeatFail.muck.faceRestrained =
    s.muck.faceRestrained ∧ s.takeSeatFail.muck.faceLow = s.muck.faceLow ∧ s.takeSeatFail.muck.queue = s.muck.queue ∧
    s.takeSeatFail.muck.lastIndexed = s.muck.lastIndexed ∧ s.takeSeatFail.muck.muckRestrained = s.muck.muckRestrained
    ∧ s.takeSeatFail.muck.spill = s.muck.spill ∧ s.takeSeatFail.muck.weighed = s.muck.weighed ∧
    s.takeSeatFail.muck.carried = s.muck.carried ∧ s.takeSeatFail.muck.uncarried = s.muck.uncarried ∧
    s.takeSeatFail.muck.excused = s.muck.excused ∧ s.takeSeatFail.muck.indexed = s.muck.indexed ∧
    s.takeSeatFail.muck.machineAdvance = s.muck.machineAdvance ∧ s.takeSeatFail.muck.overdig = s.muck.overdig ∧
    s.takeSeatFail.console.watch = s.console.watch ∧ s.takeSeatFail.console.records = s.console.records := by
  unfold takeSeatFail
  dsimp only
  (repeat' split) <;> simp

@[simp] theorem takeErectorIndication_fields (present : Bool) (s : State) :
    (s.takeErectorIndication present).link.transmitting = s.link.transmitting ∧ (s.takeErectorIndication
    present).node.number = s.node.number ∧ (s.takeErectorIndication present).node.config = s.node.config ∧
    (s.takeErectorIndication present).node.digest = s.node.digest ∧ (s.takeErectorIndication
    present).node.lastRejection = s.node.lastRejection ∧ (s.takeErectorIndication present).node.firstMembership =
    s.node.firstMembership ∧ (s.takeErectorIndication present).machine.previous = s.machine.previous ∧
    (s.takeErectorIndication present).machine.view = s.machine.view ∧ (s.takeErectorIndication present).machine.ring =
    s.machine.ring ∧ (s.takeErectorIndication present).machine.beaconTimer = s.machine.beaconTimer ∧
    (s.takeErectorIndication present).thrust.sectorAdvance = s.thrust.sectorAdvance ∧ (s.takeErectorIndication
    present).thrust.credited = s.thrust.credited ∧ (s.takeErectorIndication present).thrust.setpoint =
    s.thrust.setpoint ∧ (s.takeErectorIndication present).thrust.strokeReached = s.thrust.strokeReached ∧
    (s.takeErectorIndication present).thrust.restraints = s.thrust.restraints ∧ (s.takeErectorIndication
    present).drive.setpoint = s.drive.setpoint ∧ (s.takeErectorIndication present).drive.guard = s.drive.guard ∧
    (s.takeErectorIndication present).plans.opened = s.plans.opened ∧ (s.takeErectorIndication present).engine.attempt
    = s.engine.attempt ∧ (s.takeErectorIndication present).engine.placed = s.engine.placed ∧ (s.takeErectorIndication
    present).engine.lastRefusal = s.engine.lastRefusal ∧ (s.takeErectorIndication present).engine.seatRetries =
    s.engine.seatRetries ∧ (s.takeErectorIndication present).engine.zoneRefusals = s.engine.zoneRefusals ∧
    (s.takeErectorIndication present).engine.fault = s.engine.fault ∧ (s.takeErectorIndication present).grout.ports =
    s.grout.ports ∧ (s.takeErectorIndication present).grout.restrained = s.grout.restrained ∧ (s.takeErectorIndication
    present).muck.faceRestrained = s.muck.faceRestrained ∧ (s.takeErectorIndication present).muck.faceLow =
    s.muck.faceLow ∧ (s.takeErectorIndication present).muck.queue = s.muck.queue ∧ (s.takeErectorIndication
    present).muck.lastIndexed = s.muck.lastIndexed ∧ (s.takeErectorIndication present).muck.muckRestrained =
    s.muck.muckRestrained ∧ (s.takeErectorIndication present).muck.spill = s.muck.spill ∧ (s.takeErectorIndication
    present).muck.weighed = s.muck.weighed ∧ (s.takeErectorIndication present).muck.carried = s.muck.carried ∧
    (s.takeErectorIndication present).muck.uncarried = s.muck.uncarried ∧ (s.takeErectorIndication
    present).muck.excused = s.muck.excused ∧ (s.takeErectorIndication present).muck.indexed = s.muck.indexed ∧
    (s.takeErectorIndication present).muck.machineAdvance = s.muck.machineAdvance ∧ (s.takeErectorIndication
    present).muck.overdig = s.muck.overdig ∧ (s.takeErectorIndication present).channels.cylinders =
    s.channels.cylinders ∧ (s.takeErectorIndication present).channels.drives = s.channels.drives ∧
    (s.takeErectorIndication present).channels.pumpAtRest = s.channels.pumpAtRest ∧ (s.takeErectorIndication
    present).channels.linePressure = s.channels.linePressure ∧ (s.takeErectorIndication present).channels.screwFault =
    s.channels.screwFault ∧ (s.takeErectorIndication present).channels.face = s.channels.face ∧
    (s.takeErectorIndication present).console.watch = s.console.watch ∧ (s.takeErectorIndication
    present).console.records = s.console.records := by
  unfold takeErectorIndication
  dsimp only
  (repeat' split) <;> simp

@[simp] theorem keepRecord_fields (r : RingRecord) (s : State) :
    (s.keepRecord r).console.watch = s.console.watch ∧ (s.keepRecord r).console.notices = s.console.notices ∧
    (s.keepRecord r).console.counters = s.console.counters ∧ (s.keepRecord r).console.dataReply = s.console.dataReply := by
  simp [keepRecord]

@[simp] theorem carryOver_fields (s : State) :
    s.carryOver.grout.pointer = s.grout.pointer ∧ s.carryOver.grout.pump = s.grout.pump ∧ s.carryOver.grout.dose =
    s.grout.dose ∧ s.carryOver.grout.restrained = s.grout.restrained := by
  simp [carryOver]

@[simp] theorem closeTallies_fields (s : State) :
    s.closeTallies.muck.screw = s.muck.screw ∧ s.closeTallies.muck.faceRestrained = s.muck.faceRestrained ∧
    s.closeTallies.muck.faceLow = s.muck.faceLow ∧ s.closeTallies.muck.queue = s.muck.queue ∧
    s.closeTallies.muck.lastIndexed = s.muck.lastIndexed ∧ s.closeTallies.muck.muckRestrained = s.muck.muckRestrained
    ∧ s.closeTallies.muck.spill = s.muck.spill ∧ s.closeTallies.muck.machineAdvance = s.muck.machineAdvance := by
  unfold closeTallies
  split <;> simp

@[simp] theorem closeAccounts_fields (n : Nat) (s : State) :
    (s.closeAccounts n).link.transmitting = s.link.transmitting ∧ (s.closeAccounts n).machine.previous =
    s.machine.previous ∧ (s.closeAccounts n).machine.view = s.machine.view ∧ (s.closeAccounts n).machine.beaconTimer =
    s.machine.beaconTimer ∧ (s.closeAccounts n).thrust.setpoint = s.thrust.setpoint ∧ (s.closeAccounts
    n).thrust.restraints = s.thrust.restraints ∧ (s.closeAccounts n).drive.setpoint = s.drive.setpoint ∧
    (s.closeAccounts n).plans.opened = s.plans.opened ∧ (s.closeAccounts n).engine.attempt = s.engine.attempt ∧
    (s.closeAccounts n).engine.placed = s.engine.placed ∧ (s.closeAccounts n).engine.lastRefusal =
    s.engine.lastRefusal ∧ (s.closeAccounts n).engine.seatRetries = s.engine.seatRetries ∧ (s.closeAccounts
    n).engine.zoneRefusals = s.engine.zoneRefusals ∧ (s.closeAccounts n).engine.fault = s.engine.fault ∧
    (s.closeAccounts n).grout.restrained = s.grout.restrained ∧ (s.closeAccounts n).muck.faceRestrained =
    s.muck.faceRestrained ∧ (s.closeAccounts n).muck.faceLow = s.muck.faceLow ∧ (s.closeAccounts n).muck.queue =
    s.muck.queue ∧ (s.closeAccounts n).muck.lastIndexed = s.muck.lastIndexed ∧ (s.closeAccounts n).muck.muckRestrained
    = s.muck.muckRestrained ∧ (s.closeAccounts n).muck.spill = s.muck.spill ∧ (s.closeAccounts n).console.watch =
    s.console.watch := by
  simp [closeAccounts]

@[simp] theorem writeStatistics_fields (s : State) :
    s.writeStatistics.console.watch = s.console.watch ∧ s.writeStatistics.console.notices = s.console.notices ∧
    s.writeStatistics.console.counters = s.console.counters ∧ s.writeStatistics.console.dataReply =
    s.console.dataReply := by
  simp [writeStatistics]

@[simp] theorem ownerCloses_fields (s : State) :
    s.ownerCloses.link.transmitting = s.link.transmitting ∧ s.ownerCloses.machine.previous = s.machine.previous ∧
    s.ownerCloses.machine.view = s.machine.view ∧ s.ownerCloses.machine.ring = s.machine.ring ∧
    s.ownerCloses.machine.beaconTimer = s.machine.beaconTimer ∧ s.ownerCloses.thrust.sectorAdvance =
    s.thrust.sectorAdvance ∧ s.ownerCloses.thrust.credited = s.thrust.credited ∧ s.ownerCloses.thrust.setpoint =
    s.thrust.setpoint ∧ s.ownerCloses.thrust.strokeReached = s.thrust.strokeReached ∧ s.ownerCloses.thrust.restraints
    = s.thrust.restraints ∧ s.ownerCloses.drive.setpoint = s.drive.setpoint ∧ s.ownerCloses.drive.guard =
    s.drive.guard ∧ s.ownerCloses.plans.opened = s.plans.opened ∧ s.ownerCloses.engine.attempt = s.engine.attempt ∧
    s.ownerCloses.engine.lastRefusal = s.engine.lastRefusal ∧ s.ownerCloses.engine.fault = s.engine.fault ∧
    s.ownerCloses.grout.ports = s.grout.ports ∧ s.ownerCloses.grout.restrained = s.grout.restrained ∧
    s.ownerCloses.muck.faceRestrained = s.muck.faceRestrained ∧ s.ownerCloses.muck.faceLow = s.muck.faceLow ∧
    s.ownerCloses.muck.queue = s.muck.queue ∧ s.ownerCloses.muck.lastIndexed = s.muck.lastIndexed ∧
    s.ownerCloses.muck.muckRestrained = s.muck.muckRestrained ∧ s.ownerCloses.muck.spill = s.muck.spill ∧
    s.ownerCloses.muck.weighed = s.muck.weighed ∧ s.ownerCloses.muck.carried = s.muck.carried ∧
    s.ownerCloses.muck.uncarried = s.muck.uncarried ∧ s.ownerCloses.muck.excused = s.muck.excused ∧
    s.ownerCloses.muck.indexed = s.muck.indexed ∧ s.ownerCloses.muck.machineAdvance = s.muck.machineAdvance ∧
    s.ownerCloses.muck.overdig = s.muck.overdig ∧ s.ownerCloses.console.watch = s.console.watch := by
  simp [ownerCloses]

@[simp] theorem takeRingClosed_fields (sender : Nat) (payload : List Byte) (s : State) :
    (s.takeRingClosed sender payload).link.transmitting = s.link.transmitting ∧ (s.takeRingClosed sender
    payload).machine.previous = s.machine.previous ∧ (s.takeRingClosed sender payload).machine.view = s.machine.view ∧
    (s.takeRingClosed sender payload).machine.beaconTimer = s.machine.beaconTimer ∧ (s.takeRingClosed sender
    payload).thrust.setpoint = s.thrust.setpoint ∧ (s.takeRingClosed sender payload).thrust.restraints =
    s.thrust.restraints ∧ (s.takeRingClosed sender payload).drive.setpoint = s.drive.setpoint ∧ (s.takeRingClosed
    sender payload).plans.opened = s.plans.opened ∧ (s.takeRingClosed sender payload).engine.attempt =
    s.engine.attempt ∧ (s.takeRingClosed sender payload).engine.lastRefusal = s.engine.lastRefusal ∧ (s.takeRingClosed
    sender payload).engine.fault = s.engine.fault ∧ (s.takeRingClosed sender payload).grout.restrained =
    s.grout.restrained ∧ (s.takeRingClosed sender payload).muck.faceRestrained = s.muck.faceRestrained ∧
    (s.takeRingClosed sender payload).muck.faceLow = s.muck.faceLow ∧ (s.takeRingClosed sender payload).muck.queue =
    s.muck.queue ∧ (s.takeRingClosed sender payload).muck.lastIndexed = s.muck.lastIndexed ∧ (s.takeRingClosed sender
    payload).muck.muckRestrained = s.muck.muckRestrained ∧ (s.takeRingClosed sender payload).muck.spill = s.muck.spill
    ∧ (s.takeRingClosed sender payload).console.watch = s.console.watch := by
  unfold takeRingClosed
  dsimp only
  (repeat' split) <;> simp

@[simp] theorem ownerRingSet_fields (s : State) :
    s.ownerRingSet.link.onWire = s.link.onWire ∧ s.ownerRingSet.link.transmitting = s.link.transmitting ∧
    s.ownerRingSet.plans.opened = s.plans.opened ∧ s.ownerRingSet.engine.lastRefusal = s.engine.lastRefusal ∧
    s.ownerRingSet.engine.erector = s.engine.erector ∧ s.ownerRingSet.engine.erectorCommand = s.engine.erectorCommand
    ∧ s.ownerRingSet.console.watch = s.console.watch ∧ s.ownerRingSet.console.records = s.console.records := by
  unfold ownerRingSet
  split <;> simp

@[simp] theorem takeRingSet_fields (payload : List Byte) (s : State) :
    (s.takeRingSet payload).link.onWire = s.link.onWire ∧ (s.takeRingSet payload).link.transmitting =
    s.link.transmitting ∧ (s.takeRingSet payload).machine.phase = s.machine.phase ∧ (s.takeRingSet
    payload).machine.current = s.machine.current ∧ (s.takeRingSet payload).machine.previous = s.machine.previous ∧
    (s.takeRingSet payload).machine.round = s.machine.round ∧ (s.takeRingSet payload).machine.lastFailure =
    s.machine.lastFailure ∧ (s.takeRingSet payload).machine.view = s.machine.view ∧ (s.takeRingSet
    payload).machine.beaconTimer = s.machine.beaconTimer ∧ (s.takeRingSet payload).plans.opened = s.plans.opened ∧
    (s.takeRingSet payload).engine.lastRefusal = s.engine.lastRefusal ∧ (s.takeRingSet payload).engine.erector =
    s.engine.erector ∧ (s.takeRingSet payload).engine.erectorCommand = s.engine.erectorCommand ∧ (s.takeRingSet
    payload).console.watch = s.console.watch ∧ (s.takeRingSet payload).console.records = s.console.records := by
  unfold takeRingSet
  dsimp only
  (repeat' split) <;> simp

end Sys2Proof.Machine.State
end

