-- ==== Sys2Proof/Laws/GroutFields.lean ====
section
/-! SUPPORT. For each operation of Machine/Grout.lean, the fields it leaves as they are in the parts of State it may change. -/

namespace Sys2Proof.Machine.State

@[simp] theorem completeDose_fields (n : Nat) (s : State) :
    (s.completeDose n).grout.restrained = s.grout.restrained ∧ (s.completeDose n).console.watch = s.console.watch ∧
    (s.completeDose n).console.notices = s.console.notices ∧ (s.completeDose n).console.dataReply =
    s.console.dataReply ∧ (s.completeDose n).console.records = s.console.records := by
  simp [completeDose]

@[simp] theorem creditStroke_fields (d : Dose) (s : State) :
    (s.creditStroke d).link.onWire = s.link.onWire ∧ (s.creditStroke d).link.transmitting = s.link.transmitting ∧
    (s.creditStroke d).thrust.cylinders = s.thrust.cylinders ∧ (s.creditStroke d).thrust.sectorAdvance =
    s.thrust.sectorAdvance ∧ (s.creditStroke d).thrust.credited = s.thrust.credited ∧ (s.creditStroke
    d).thrust.setpoint = s.thrust.setpoint ∧ (s.creditStroke d).thrust.steerPause = s.thrust.steerPause ∧
    (s.creditStroke d).thrust.strokeReached = s.thrust.strokeReached ∧ (s.creditStroke d).thrust.zone = s.thrust.zone
    ∧ (s.creditStroke d).engine.state = s.engine.state ∧ (s.creditStroke d).engine.seated = s.engine.seated ∧
    (s.creditStroke d).engine.attempt = s.engine.attempt ∧ (s.creditStroke d).engine.zoneMembers =
    s.engine.zoneMembers ∧ (s.creditStroke d).engine.answered = s.engine.answered ∧ (s.creditStroke d).engine.retry =
    s.engine.retry ∧ (s.creditStroke d).engine.limit = s.engine.limit ∧ (s.creditStroke d).engine.stopping =
    s.engine.stopping ∧ (s.creditStroke d).engine.placed = s.engine.placed ∧ (s.creditStroke d).engine.lastRefusal =
    s.engine.lastRefusal ∧ (s.creditStroke d).engine.seatRetries = s.engine.seatRetries ∧ (s.creditStroke
    d).engine.zoneRefusals = s.engine.zoneRefusals ∧ (s.creditStroke d).engine.fault = s.engine.fault ∧
    (s.creditStroke d).engine.erector = s.engine.erector ∧ (s.creditStroke d).engine.erectorCommand =
    s.engine.erectorCommand ∧ (s.creditStroke d).grout.pointer = s.grout.pointer ∧ (s.creditStroke d).grout.pump =
    s.grout.pump ∧ (s.creditStroke d).console.watch = s.console.watch ∧ (s.creditStroke d).console.records =
    s.console.records := by
  simp [creditStroke]

@[simp] theorem takeStroke_fields (s : State) :
    s.takeStroke.link.onWire = s.link.onWire ∧ s.takeStroke.link.transmitting = s.link.transmitting ∧
    s.takeStroke.thrust.cylinders = s.thrust.cylinders ∧ s.takeStroke.thrust.sectorAdvance = s.thrust.sectorAdvance ∧
    s.takeStroke.thrust.credited = s.thrust.credited ∧ s.takeStroke.thrust.setpoint = s.thrust.setpoint ∧
    s.takeStroke.thrust.steerPause = s.thrust.steerPause ∧ s.takeStroke.thrust.strokeReached = s.thrust.strokeReached
    ∧ s.takeStroke.thrust.zone = s.thrust.zone ∧ s.takeStroke.engine.state = s.engine.state ∧
    s.takeStroke.engine.seated = s.engine.seated ∧ s.takeStroke.engine.attempt = s.engine.attempt ∧
    s.takeStroke.engine.zoneMembers = s.engine.zoneMembers ∧ s.takeStroke.engine.answered = s.engine.answered ∧
    s.takeStroke.engine.retry = s.engine.retry ∧ s.takeStroke.engine.limit = s.engine.limit ∧
    s.takeStroke.engine.stopping = s.engine.stopping ∧ s.takeStroke.engine.placed = s.engine.placed ∧
    s.takeStroke.engine.lastRefusal = s.engine.lastRefusal ∧ s.takeStroke.engine.seatRetries = s.engine.seatRetries ∧
    s.takeStroke.engine.zoneRefusals = s.engine.zoneRefusals ∧ s.takeStroke.engine.fault = s.engine.fault ∧
    s.takeStroke.engine.erector = s.engine.erector ∧ s.takeStroke.engine.erectorCommand = s.engine.erectorCommand ∧
    s.takeStroke.console.watch = s.console.watch ∧ s.takeStroke.console.records = s.console.records := by
  unfold takeStroke
  dsimp only
  (repeat' split) <;> simp

@[simp] theorem cutDose_fields (n : Nat) (s : State) :
    (s.cutDose n).grout.restrained = s.grout.restrained ∧ (s.cutDose n).console.watch = s.console.watch ∧ (s.cutDose
    n).console.dataReply = s.console.dataReply ∧ (s.cutDose n).console.records = s.console.records := by
  unfold cutDose
  dsimp only
  (repeat' split) <;> simp

@[simp] theorem takeLinePressure_fields (kPa : Half) (s : State) :
    (s.takeLinePressure kPa).grout.restrained = s.grout.restrained ∧ (s.takeLinePressure kPa).channels.cylinders =
    s.channels.cylinders ∧ (s.takeLinePressure kPa).channels.drives = s.channels.drives ∧ (s.takeLinePressure
    kPa).channels.pumpAtRest = s.channels.pumpAtRest ∧ (s.takeLinePressure kPa).channels.screwFault =
    s.channels.screwFault ∧ (s.takeLinePressure kPa).channels.face = s.channels.face ∧ (s.takeLinePressure
    kPa).channels.erectorFault = s.channels.erectorFault ∧ (s.takeLinePressure kPa).console.watch = s.console.watch ∧
    (s.takeLinePressure kPa).console.dataReply = s.console.dataReply ∧ (s.takeLinePressure kPa).console.records =
    s.console.records := by
  unfold takeLinePressure
  dsimp only
  (repeat' split) <;> simp

@[simp] theorem takeAtRest_fields (atRest : Bool) (s : State) :
    (s.takeAtRest atRest).grout.ports = s.grout.ports ∧ (s.takeAtRest atRest).grout.pointer = s.grout.pointer ∧
    (s.takeAtRest atRest).grout.restrained = s.grout.restrained ∧ (s.takeAtRest atRest).channels.cylinders =
    s.channels.cylinders ∧ (s.takeAtRest atRest).channels.drives = s.channels.drives ∧ (s.takeAtRest
    atRest).channels.linePressure = s.channels.linePressure ∧ (s.takeAtRest atRest).channels.screwFault =
    s.channels.screwFault ∧ (s.takeAtRest atRest).channels.face = s.channels.face ∧ (s.takeAtRest
    atRest).channels.erectorFault = s.channels.erectorFault := by
  unfold takeAtRest
  split <;> simp

@[simp] theorem doseLimitReached_fields (s : State) :
    s.doseLimitReached.link.transmitting = s.link.transmitting ∧ s.doseLimitReached.node.number = s.node.number ∧
    s.doseLimitReached.node.config = s.node.config ∧ s.doseLimitReached.node.digest = s.node.digest ∧
    s.doseLimitReached.node.lastRejection = s.node.lastRejection ∧ s.doseLimitReached.node.firstMembership =
    s.node.firstMembership ∧ s.doseLimitReached.machine.previous = s.machine.previous ∧
    s.doseLimitReached.machine.view = s.machine.view ∧ s.doseLimitReached.machine.ring = s.machine.ring ∧
    s.doseLimitReached.machine.beaconTimer = s.machine.beaconTimer ∧ s.doseLimitReached.thrust.sectorAdvance =
    s.thrust.sectorAdvance ∧ s.doseLimitReached.thrust.credited = s.thrust.credited ∧
    s.doseLimitReached.thrust.setpoint = s.thrust.setpoint ∧ s.doseLimitReached.thrust.strokeReached =
    s.thrust.strokeReached ∧ s.doseLimitReached.thrust.restraints = s.thrust.restraints ∧
    s.doseLimitReached.drive.setpoint = s.drive.setpoint ∧ s.doseLimitReached.drive.guard = s.drive.guard ∧
    s.doseLimitReached.plans.opened = s.plans.opened ∧ s.doseLimitReached.engine.attempt = s.engine.attempt ∧
    s.doseLimitReached.engine.placed = s.engine.placed ∧ s.doseLimitReached.engine.lastRefusal = s.engine.lastRefusal
    ∧ s.doseLimitReached.engine.seatRetries = s.engine.seatRetries ∧ s.doseLimitReached.engine.zoneRefusals =
    s.engine.zoneRefusals ∧ s.doseLimitReached.engine.fault = s.engine.fault ∧ s.doseLimitReached.grout.ports =
    s.grout.ports ∧ s.doseLimitReached.grout.restrained = s.grout.restrained ∧ s.doseLimitReached.muck.faceRestrained
    = s.muck.faceRestrained ∧ s.doseLimitReached.muck.faceLow = s.muck.faceLow ∧ s.doseLimitReached.muck.queue =
    s.muck.queue ∧ s.doseLimitReached.muck.lastIndexed = s.muck.lastIndexed ∧ s.doseLimitReached.muck.muckRestrained =
    s.muck.muckRestrained ∧ s.doseLimitReached.muck.spill = s.muck.spill ∧ s.doseLimitReached.muck.weighed =
    s.muck.weighed ∧ s.doseLimitReached.muck.carried = s.muck.carried ∧ s.doseLimitReached.muck.uncarried =
    s.muck.uncarried ∧ s.doseLimitReached.muck.excused = s.muck.excused ∧ s.doseLimitReached.muck.indexed =
    s.muck.indexed ∧ s.doseLimitReached.muck.machineAdvance = s.muck.machineAdvance ∧ s.doseLimitReached.muck.overdig
    = s.muck.overdig ∧ s.doseLimitReached.console.watch = s.console.watch ∧ s.doseLimitReached.console.records =
    s.console.records := by
  simp [doseLimitReached]

@[simp] theorem serveUnblock_fields  (station : Station) (addressed : Bool) (args : List Byte) (s : State) :
    (s.serveUnblock station addressed args).link.onWire = s.link.onWire ∧ (s.serveUnblock station addressed
    args).link.transmitting = s.link.transmitting ∧ (s.serveUnblock station addressed args).engine.state =
    s.engine.state ∧ (s.serveUnblock station addressed args).engine.seated = s.engine.seated ∧ (s.serveUnblock station
    addressed args).engine.attempt = s.engine.attempt ∧ (s.serveUnblock station addressed args).engine.zoneMembers =
    s.engine.zoneMembers ∧ (s.serveUnblock station addressed args).engine.answered = s.engine.answered ∧
    (s.serveUnblock station addressed args).engine.retry = s.engine.retry ∧ (s.serveUnblock station addressed
    args).engine.limit = s.engine.limit ∧ (s.serveUnblock station addressed args).engine.stopping = s.engine.stopping
    ∧ (s.serveUnblock station addressed args).engine.placed = s.engine.placed ∧ (s.serveUnblock station addressed
    args).engine.lastRefusal = s.engine.lastRefusal ∧ (s.serveUnblock station addressed args).engine.seatRetries =
    s.engine.seatRetries ∧ (s.serveUnblock station addressed args).engine.zoneRefusals = s.engine.zoneRefusals ∧
    (s.serveUnblock station addressed args).engine.fault = s.engine.fault ∧ (s.serveUnblock station addressed
    args).engine.erector = s.engine.erector ∧ (s.serveUnblock station addressed args).engine.erectorCommand =
    s.engine.erectorCommand ∧ (s.serveUnblock station addressed args).grout.pointer = s.grout.pointer ∧
    (s.serveUnblock station addressed args).grout.restrained = s.grout.restrained ∧ (s.serveUnblock station addressed
    args).channels.cylinders = s.channels.cylinders ∧ (s.serveUnblock station addressed args).channels.drives =
    s.channels.drives ∧ (s.serveUnblock station addressed args).channels.linePressure = s.channels.linePressure ∧
    (s.serveUnblock station addressed args).channels.screwFault = s.channels.screwFault ∧ (s.serveUnblock station
    addressed args).channels.face = s.channels.face ∧ (s.serveUnblock station addressed args).channels.erectorFault =
    s.channels.erectorFault ∧ (s.serveUnblock station addressed args).console.watch = s.console.watch ∧
    (s.serveUnblock station addressed args).console.records = s.console.records := by
  simp only [serveUnblock, configuredOnly]
  (repeat' split) <;> simp

end Sys2Proof.Machine.State
end

