-- ==== Sys2Proof/Laws/MuckFields.lean ====
section
/-! SUPPORT. For each operation of Machine/Muck.lean, the fields it leaves as they are in the parts of State it may change. -/

namespace Sys2Proof.Machine.State

@[simp] theorem takeScrewReport_fields (fault : Bool) (s : State) :
    (s.takeScrewReport fault).link.transmitting = s.link.transmitting ∧ (s.takeScrewReport fault).node.number =
    s.node.number ∧ (s.takeScrewReport fault).node.config = s.node.config ∧ (s.takeScrewReport fault).node.digest =
    s.node.digest ∧ (s.takeScrewReport fault).node.lastRejection = s.node.lastRejection ∧ (s.takeScrewReport
    fault).node.firstMembership = s.node.firstMembership ∧ (s.takeScrewReport fault).machine.previous =
    s.machine.previous ∧ (s.takeScrewReport fault).machine.view = s.machine.view ∧ (s.takeScrewReport
    fault).machine.ring = s.machine.ring ∧ (s.takeScrewReport fault).machine.beaconTimer = s.machine.beaconTimer ∧
    (s.takeScrewReport fault).thrust.sectorAdvance = s.thrust.sectorAdvance ∧ (s.takeScrewReport
    fault).thrust.credited = s.thrust.credited ∧ (s.takeScrewReport fault).thrust.setpoint = s.thrust.setpoint ∧
    (s.takeScrewReport fault).thrust.strokeReached = s.thrust.strokeReached ∧ (s.takeScrewReport
    fault).thrust.restraints = s.thrust.restraints ∧ (s.takeScrewReport fault).drive.setpoint = s.drive.setpoint ∧
    (s.takeScrewReport fault).drive.guard = s.drive.guard ∧ (s.takeScrewReport fault).plans.opened = s.plans.opened ∧
    (s.takeScrewReport fault).engine.attempt = s.engine.attempt ∧ (s.takeScrewReport fault).engine.placed =
    s.engine.placed ∧ (s.takeScrewReport fault).engine.lastRefusal = s.engine.lastRefusal ∧ (s.takeScrewReport
    fault).engine.seatRetries = s.engine.seatRetries ∧ (s.takeScrewReport fault).engine.zoneRefusals =
    s.engine.zoneRefusals ∧ (s.takeScrewReport fault).engine.fault = s.engine.fault ∧ (s.takeScrewReport
    fault).grout.ports = s.grout.ports ∧ (s.takeScrewReport fault).grout.restrained = s.grout.restrained ∧
    (s.takeScrewReport fault).muck.faceRestrained = s.muck.faceRestrained ∧ (s.takeScrewReport fault).muck.faceLow =
    s.muck.faceLow ∧ (s.takeScrewReport fault).muck.queue = s.muck.queue ∧ (s.takeScrewReport fault).muck.lastIndexed
    = s.muck.lastIndexed ∧ (s.takeScrewReport fault).muck.muckRestrained = s.muck.muckRestrained ∧ (s.takeScrewReport
    fault).muck.spill = s.muck.spill ∧ (s.takeScrewReport fault).muck.weighed = s.muck.weighed ∧ (s.takeScrewReport
    fault).muck.carried = s.muck.carried ∧ (s.takeScrewReport fault).muck.uncarried = s.muck.uncarried ∧
    (s.takeScrewReport fault).muck.excused = s.muck.excused ∧ (s.takeScrewReport fault).muck.indexed = s.muck.indexed
    ∧ (s.takeScrewReport fault).muck.machineAdvance = s.muck.machineAdvance ∧ (s.takeScrewReport fault).muck.overdig =
    s.muck.overdig ∧ (s.takeScrewReport fault).channels.cylinders = s.channels.cylinders ∧ (s.takeScrewReport
    fault).channels.drives = s.channels.drives ∧ (s.takeScrewReport fault).channels.pumpAtRest = s.channels.pumpAtRest
    ∧ (s.takeScrewReport fault).channels.linePressure = s.channels.linePressure ∧ (s.takeScrewReport
    fault).channels.face = s.channels.face ∧ (s.takeScrewReport fault).channels.erectorFault = s.channels.erectorFault
    ∧ (s.takeScrewReport fault).console.watch = s.console.watch ∧ (s.takeScrewReport fault).console.records =
    s.console.records := by
  unfold takeScrewReport
  dsimp only
  (repeat' split) <;> simp

@[simp] theorem testFaceHigh_fields (kPa : Half) (s : State) :
    (s.testFaceHigh kPa).link.onWire = s.link.onWire ∧ (s.testFaceHigh kPa).link.transmitting = s.link.transmitting ∧
    (s.testFaceHigh kPa).thrust.cylinders = s.thrust.cylinders ∧ (s.testFaceHigh kPa).thrust.sectorAdvance =
    s.thrust.sectorAdvance ∧ (s.testFaceHigh kPa).thrust.credited = s.thrust.credited ∧ (s.testFaceHigh
    kPa).thrust.setpoint = s.thrust.setpoint ∧ (s.testFaceHigh kPa).thrust.steerPause = s.thrust.steerPause ∧
    (s.testFaceHigh kPa).thrust.strokeReached = s.thrust.strokeReached ∧ (s.testFaceHigh kPa).thrust.zone =
    s.thrust.zone ∧ (s.testFaceHigh kPa).engine.state = s.engine.state ∧ (s.testFaceHigh kPa).engine.seated =
    s.engine.seated ∧ (s.testFaceHigh kPa).engine.attempt = s.engine.attempt ∧ (s.testFaceHigh kPa).engine.zoneMembers
    = s.engine.zoneMembers ∧ (s.testFaceHigh kPa).engine.answered = s.engine.answered ∧ (s.testFaceHigh
    kPa).engine.retry = s.engine.retry ∧ (s.testFaceHigh kPa).engine.limit = s.engine.limit ∧ (s.testFaceHigh
    kPa).engine.stopping = s.engine.stopping ∧ (s.testFaceHigh kPa).engine.placed = s.engine.placed ∧ (s.testFaceHigh
    kPa).engine.lastRefusal = s.engine.lastRefusal ∧ (s.testFaceHigh kPa).engine.seatRetries = s.engine.seatRetries ∧
    (s.testFaceHigh kPa).engine.zoneRefusals = s.engine.zoneRefusals ∧ (s.testFaceHigh kPa).engine.fault =
    s.engine.fault ∧ (s.testFaceHigh kPa).engine.erector = s.engine.erector ∧ (s.testFaceHigh
    kPa).engine.erectorCommand = s.engine.erectorCommand ∧ (s.testFaceHigh kPa).muck.screw = s.muck.screw ∧
    (s.testFaceHigh kPa).muck.faceLow = s.muck.faceLow ∧ (s.testFaceHigh kPa).muck.queue = s.muck.queue ∧
    (s.testFaceHigh kPa).muck.lastIndexed = s.muck.lastIndexed ∧ (s.testFaceHigh kPa).muck.muckRestrained =
    s.muck.muckRestrained ∧ (s.testFaceHigh kPa).muck.spill = s.muck.spill ∧ (s.testFaceHigh kPa).muck.weighed =
    s.muck.weighed ∧ (s.testFaceHigh kPa).muck.carried = s.muck.carried ∧ (s.testFaceHigh kPa).muck.uncarried =
    s.muck.uncarried ∧ (s.testFaceHigh kPa).muck.excused = s.muck.excused ∧ (s.testFaceHigh kPa).muck.indexed =
    s.muck.indexed ∧ (s.testFaceHigh kPa).muck.machineAdvance = s.muck.machineAdvance ∧ (s.testFaceHigh
    kPa).muck.overdig = s.muck.overdig ∧ (s.testFaceHigh kPa).console.watch = s.console.watch ∧ (s.testFaceHigh
    kPa).console.records = s.console.records := by
  unfold testFaceHigh
  (repeat' split) <;> simp

@[simp] theorem testFaceLow_fields (kPa : Half) (s : State) :
    (s.testFaceLow kPa).link.transmitting = s.link.transmitting ∧ (s.testFaceLow kPa).machine.previous =
    s.machine.previous ∧ (s.testFaceLow kPa).machine.view = s.machine.view ∧ (s.testFaceLow kPa).machine.ring =
    s.machine.ring ∧ (s.testFaceLow kPa).machine.beaconTimer = s.machine.beaconTimer ∧ (s.testFaceLow
    kPa).thrust.sectorAdvance = s.thrust.sectorAdvance ∧ (s.testFaceLow kPa).thrust.credited = s.thrust.credited ∧
    (s.testFaceLow kPa).thrust.setpoint = s.thrust.setpoint ∧ (s.testFaceLow kPa).thrust.strokeReached =
    s.thrust.strokeReached ∧ (s.testFaceLow kPa).thrust.restraints = s.thrust.restraints ∧ (s.testFaceLow
    kPa).drive.setpoint = s.drive.setpoint ∧ (s.testFaceLow kPa).drive.guard = s.drive.guard ∧ (s.testFaceLow
    kPa).plans.opened = s.plans.opened ∧ (s.testFaceLow kPa).engine.attempt = s.engine.attempt ∧ (s.testFaceLow
    kPa).engine.placed = s.engine.placed ∧ (s.testFaceLow kPa).engine.lastRefusal = s.engine.lastRefusal ∧
    (s.testFaceLow kPa).engine.seatRetries = s.engine.seatRetries ∧ (s.testFaceLow kPa).engine.zoneRefusals =
    s.engine.zoneRefusals ∧ (s.testFaceLow kPa).engine.fault = s.engine.fault ∧ (s.testFaceLow kPa).grout.ports =
    s.grout.ports ∧ (s.testFaceLow kPa).grout.restrained = s.grout.restrained ∧ (s.testFaceLow
    kPa).muck.faceRestrained = s.muck.faceRestrained ∧ (s.testFaceLow kPa).muck.queue = s.muck.queue ∧ (s.testFaceLow
    kPa).muck.lastIndexed = s.muck.lastIndexed ∧ (s.testFaceLow kPa).muck.muckRestrained = s.muck.muckRestrained ∧
    (s.testFaceLow kPa).muck.spill = s.muck.spill ∧ (s.testFaceLow kPa).muck.weighed = s.muck.weighed ∧ (s.testFaceLow
    kPa).muck.carried = s.muck.carried ∧ (s.testFaceLow kPa).muck.uncarried = s.muck.uncarried ∧ (s.testFaceLow
    kPa).muck.excused = s.muck.excused ∧ (s.testFaceLow kPa).muck.indexed = s.muck.indexed ∧ (s.testFaceLow
    kPa).muck.machineAdvance = s.muck.machineAdvance ∧ (s.testFaceLow kPa).muck.overdig = s.muck.overdig ∧
    (s.testFaceLow kPa).console.watch = s.console.watch ∧ (s.testFaceLow kPa).console.records = s.console.records := by
  unfold testFaceLow
  (repeat' split) <;> simp

@[simp] theorem testFace_fields (s : State) :
    s.testFace.link.transmitting = s.link.transmitting ∧ s.testFace.machine.previous = s.machine.previous ∧
    s.testFace.machine.view = s.machine.view ∧ s.testFace.machine.ring = s.machine.ring ∧
    s.testFace.machine.beaconTimer = s.machine.beaconTimer ∧ s.testFace.thrust.sectorAdvance = s.thrust.sectorAdvance
    ∧ s.testFace.thrust.credited = s.thrust.credited ∧ s.testFace.thrust.setpoint = s.thrust.setpoint ∧
    s.testFace.thrust.strokeReached = s.thrust.strokeReached ∧ s.testFace.drive.setpoint = s.drive.setpoint ∧
    s.testFace.drive.guard = s.drive.guard ∧ s.testFace.plans.opened = s.plans.opened ∧ s.testFace.engine.attempt =
    s.engine.attempt ∧ s.testFace.engine.placed = s.engine.placed ∧ s.testFace.engine.lastRefusal =
    s.engine.lastRefusal ∧ s.testFace.engine.seatRetries = s.engine.seatRetries ∧ s.testFace.engine.zoneRefusals =
    s.engine.zoneRefusals ∧ s.testFace.engine.fault = s.engine.fault ∧ s.testFace.grout.ports = s.grout.ports ∧
    s.testFace.grout.restrained = s.grout.restrained ∧ s.testFace.muck.queue = s.muck.queue ∧
    s.testFace.muck.lastIndexed = s.muck.lastIndexed ∧ s.testFace.muck.muckRestrained = s.muck.muckRestrained ∧
    s.testFace.muck.spill = s.muck.spill ∧ s.testFace.muck.weighed = s.muck.weighed ∧ s.testFace.muck.carried =
    s.muck.carried ∧ s.testFace.muck.uncarried = s.muck.uncarried ∧ s.testFace.muck.excused = s.muck.excused ∧
    s.testFace.muck.indexed = s.muck.indexed ∧ s.testFace.muck.machineAdvance = s.muck.machineAdvance ∧
    s.testFace.muck.overdig = s.muck.overdig ∧ s.testFace.console.watch = s.console.watch ∧ s.testFace.console.records
    = s.console.records := by
  unfold testFace
  split <;> simp

@[simp] theorem takeFacePressure_fields (kPa : Half) (s : State) :
    (s.takeFacePressure kPa).link.transmitting = s.link.transmitting ∧ (s.takeFacePressure kPa).machine.previous =
    s.machine.previous ∧ (s.takeFacePressure kPa).machine.view = s.machine.view ∧ (s.takeFacePressure
    kPa).machine.ring = s.machine.ring ∧ (s.takeFacePressure kPa).machine.beaconTimer = s.machine.beaconTimer ∧
    (s.takeFacePressure kPa).thrust.sectorAdvance = s.thrust.sectorAdvance ∧ (s.takeFacePressure kPa).thrust.credited
    = s.thrust.credited ∧ (s.takeFacePressure kPa).thrust.setpoint = s.thrust.setpoint ∧ (s.takeFacePressure
    kPa).thrust.strokeReached = s.thrust.strokeReached ∧ (s.takeFacePressure kPa).drive.setpoint = s.drive.setpoint ∧
    (s.takeFacePressure kPa).drive.guard = s.drive.guard ∧ (s.takeFacePressure kPa).plans.opened = s.plans.opened ∧
    (s.takeFacePressure kPa).engine.attempt = s.engine.attempt ∧ (s.takeFacePressure kPa).engine.placed =
    s.engine.placed ∧ (s.takeFacePressure kPa).engine.lastRefusal = s.engine.lastRefusal ∧ (s.takeFacePressure
    kPa).engine.seatRetries = s.engine.seatRetries ∧ (s.takeFacePressure kPa).engine.zoneRefusals =
    s.engine.zoneRefusals ∧ (s.takeFacePressure kPa).engine.fault = s.engine.fault ∧ (s.takeFacePressure
    kPa).grout.ports = s.grout.ports ∧ (s.takeFacePressure kPa).grout.restrained = s.grout.restrained ∧
    (s.takeFacePressure kPa).muck.queue = s.muck.queue ∧ (s.takeFacePressure kPa).muck.lastIndexed =
    s.muck.lastIndexed ∧ (s.takeFacePressure kPa).muck.muckRestrained = s.muck.muckRestrained ∧ (s.takeFacePressure
    kPa).muck.spill = s.muck.spill ∧ (s.takeFacePressure kPa).muck.weighed = s.muck.weighed ∧ (s.takeFacePressure
    kPa).muck.carried = s.muck.carried ∧ (s.takeFacePressure kPa).muck.uncarried = s.muck.uncarried ∧
    (s.takeFacePressure kPa).muck.excused = s.muck.excused ∧ (s.takeFacePressure kPa).muck.indexed = s.muck.indexed ∧
    (s.takeFacePressure kPa).muck.machineAdvance = s.muck.machineAdvance ∧ (s.takeFacePressure kPa).muck.overdig =
    s.muck.overdig ∧ (s.takeFacePressure kPa).channels.cylinders = s.channels.cylinders ∧ (s.takeFacePressure
    kPa).channels.drives = s.channels.drives ∧ (s.takeFacePressure kPa).channels.pumpAtRest = s.channels.pumpAtRest ∧
    (s.takeFacePressure kPa).channels.linePressure = s.channels.linePressure ∧ (s.takeFacePressure
    kPa).channels.screwFault = s.channels.screwFault ∧ (s.takeFacePressure kPa).channels.erectorFault =
    s.channels.erectorFault ∧ (s.takeFacePressure kPa).console.watch = s.console.watch ∧ (s.takeFacePressure
    kPa).console.records = s.console.records := by
  unfold takeFacePressure
  dsimp only
  (repeat' split) <;> simp

@[simp] theorem weigh_fields (m : Nat) (s : State) :
    (s.weigh m).muck.screw = s.muck.screw ∧ (s.weigh m).muck.faceRestrained = s.muck.faceRestrained ∧ (s.weigh
    m).muck.faceLow = s.muck.faceLow ∧ (s.weigh m).muck.lastIndexed = s.muck.lastIndexed ∧ (s.weigh
    m).muck.muckRestrained = s.muck.muckRestrained ∧ (s.weigh m).muck.excused = s.muck.excused ∧ (s.weigh
    m).muck.indexed = s.muck.indexed ∧ (s.weigh m).muck.machineAdvance = s.muck.machineAdvance ∧ (s.weigh
    m).muck.overdig = s.muck.overdig := by
  simp [weigh]

@[simp] theorem testDue_fields (s : State) :
    s.testDue.muck.screw = s.muck.screw ∧ s.testDue.muck.faceRestrained = s.muck.faceRestrained ∧
    s.testDue.muck.faceLow = s.muck.faceLow ∧ s.testDue.muck.lastIndexed = s.muck.lastIndexed ∧
    s.testDue.muck.muckRestrained = s.muck.muckRestrained ∧ s.testDue.muck.spill = s.muck.spill ∧
    s.testDue.muck.weighed = s.muck.weighed ∧ s.testDue.muck.carried = s.muck.carried ∧ s.testDue.muck.uncarried =
    s.muck.uncarried ∧ s.testDue.muck.excused = s.muck.excused ∧ s.testDue.muck.indexed = s.muck.indexed ∧
    s.testDue.muck.machineAdvance = s.muck.machineAdvance ∧ s.testDue.muck.overdig = s.muck.overdig ∧
    s.testDue.console.watch = s.console.watch ∧ s.testDue.console.counters = s.console.counters ∧
    s.testDue.console.dataReply = s.console.dataReply ∧ s.testDue.console.records = s.console.records := by
  unfold testDue
  (repeat' split) <;> simp

@[simp] theorem testSpill_fields (before : Nat) (s : State) :
    (s.testSpill before).link.transmitting = s.link.transmitting ∧ (s.testSpill before).machine.previous =
    s.machine.previous ∧ (s.testSpill before).machine.view = s.machine.view ∧ (s.testSpill before).machine.ring =
    s.machine.ring ∧ (s.testSpill before).machine.beaconTimer = s.machine.beaconTimer ∧ (s.testSpill
    before).thrust.sectorAdvance = s.thrust.sectorAdvance ∧ (s.testSpill before).thrust.credited = s.thrust.credited ∧
    (s.testSpill before).thrust.setpoint = s.thrust.setpoint ∧ (s.testSpill before).thrust.strokeReached =
    s.thrust.strokeReached ∧ (s.testSpill before).thrust.restraints = s.thrust.restraints ∧ (s.testSpill
    before).drive.setpoint = s.drive.setpoint ∧ (s.testSpill before).drive.guard = s.drive.guard ∧ (s.testSpill
    before).plans.opened = s.plans.opened ∧ (s.testSpill before).engine.attempt = s.engine.attempt ∧ (s.testSpill
    before).engine.placed = s.engine.placed ∧ (s.testSpill before).engine.lastRefusal = s.engine.lastRefusal ∧
    (s.testSpill before).engine.seatRetries = s.engine.seatRetries ∧ (s.testSpill before).engine.zoneRefusals =
    s.engine.zoneRefusals ∧ (s.testSpill before).engine.fault = s.engine.fault ∧ (s.testSpill before).grout.ports =
    s.grout.ports ∧ (s.testSpill before).grout.restrained = s.grout.restrained ∧ (s.testSpill
    before).muck.faceRestrained = s.muck.faceRestrained ∧ (s.testSpill before).muck.faceLow = s.muck.faceLow ∧
    (s.testSpill before).muck.queue = s.muck.queue ∧ (s.testSpill before).muck.lastIndexed = s.muck.lastIndexed ∧
    (s.testSpill before).muck.muckRestrained = s.muck.muckRestrained ∧ (s.testSpill before).muck.spill = s.muck.spill
    ∧ (s.testSpill before).muck.weighed = s.muck.weighed ∧ (s.testSpill before).muck.carried = s.muck.carried ∧
    (s.testSpill before).muck.uncarried = s.muck.uncarried ∧ (s.testSpill before).muck.excused = s.muck.excused ∧
    (s.testSpill before).muck.indexed = s.muck.indexed ∧ (s.testSpill before).muck.machineAdvance =
    s.muck.machineAdvance ∧ (s.testSpill before).muck.overdig = s.muck.overdig ∧ (s.testSpill before).console.watch =
    s.console.watch ∧ (s.testSpill before).console.records = s.console.records := by
  unfold testSpill
  split <;> simp

@[simp] theorem takeIncrement_fields (m : Nat) (s : State) :
    (s.takeIncrement m).link.transmitting = s.link.transmitting ∧ (s.takeIncrement m).machine.previous =
    s.machine.previous ∧ (s.takeIncrement m).machine.view = s.machine.view ∧ (s.takeIncrement m).machine.ring =
    s.machine.ring ∧ (s.takeIncrement m).machine.beaconTimer = s.machine.beaconTimer ∧ (s.takeIncrement
    m).thrust.sectorAdvance = s.thrust.sectorAdvance ∧ (s.takeIncrement m).thrust.credited = s.thrust.credited ∧
    (s.takeIncrement m).thrust.setpoint = s.thrust.setpoint ∧ (s.takeIncrement m).thrust.strokeReached =
    s.thrust.strokeReached ∧ (s.takeIncrement m).drive.setpoint = s.drive.setpoint ∧ (s.takeIncrement m).drive.guard =
    s.drive.guard ∧ (s.takeIncrement m).plans.opened = s.plans.opened ∧ (s.takeIncrement m).engine.attempt =
    s.engine.attempt ∧ (s.takeIncrement m).engine.placed = s.engine.placed ∧ (s.takeIncrement m).engine.lastRefusal =
    s.engine.lastRefusal ∧ (s.takeIncrement m).engine.seatRetries = s.engine.seatRetries ∧ (s.takeIncrement
    m).engine.zoneRefusals = s.engine.zoneRefusals ∧ (s.takeIncrement m).engine.fault = s.engine.fault ∧
    (s.takeIncrement m).grout.ports = s.grout.ports ∧ (s.takeIncrement m).grout.restrained = s.grout.restrained ∧
    (s.takeIncrement m).muck.faceRestrained = s.muck.faceRestrained ∧ (s.takeIncrement m).muck.faceLow =
    s.muck.faceLow ∧ (s.takeIncrement m).muck.lastIndexed = s.muck.lastIndexed ∧ (s.takeIncrement m).muck.excused =
    s.muck.excused ∧ (s.takeIncrement m).muck.indexed = s.muck.indexed ∧ (s.takeIncrement m).muck.machineAdvance =
    s.muck.machineAdvance ∧ (s.takeIncrement m).console.watch = s.console.watch ∧ (s.takeIncrement m).console.records
    = s.console.records := by
  unfold takeIncrement
  split <;> simp

@[simp] theorem appendCars_fields (cars : List Car) (s : State) :
    (s.appendCars cars).muck.screw = s.muck.screw ∧ (s.appendCars cars).muck.faceRestrained = s.muck.faceRestrained ∧
    (s.appendCars cars).muck.faceLow = s.muck.faceLow ∧ (s.appendCars cars).muck.lastIndexed = s.muck.lastIndexed ∧
    (s.appendCars cars).muck.muckRestrained = s.muck.muckRestrained ∧ (s.appendCars cars).muck.weighed =
    s.muck.weighed ∧ (s.appendCars cars).muck.carried = s.muck.carried ∧ (s.appendCars cars).muck.uncarried =
    s.muck.uncarried ∧ (s.appendCars cars).muck.excused = s.muck.excused ∧ (s.appendCars cars).muck.indexed =
    s.muck.indexed ∧ (s.appendCars cars).muck.machineAdvance = s.muck.machineAdvance ∧ (s.appendCars
    cars).muck.overdig = s.muck.overdig := by
  unfold appendCars
  split <;> simp

@[simp] theorem trainArrives_fields (station : Station) (capacity : Nat) (numbers : List Nat) (s : State) :
    (s.trainArrives station capacity numbers).link.onWire = s.link.onWire ∧ (s.trainArrives station capacity
    numbers).link.transmitting = s.link.transmitting ∧ (s.trainArrives station capacity numbers).thrust.cylinders =
    s.thrust.cylinders ∧ (s.trainArrives station capacity numbers).thrust.sectorAdvance = s.thrust.sectorAdvance ∧
    (s.trainArrives station capacity numbers).thrust.credited = s.thrust.credited ∧ (s.trainArrives station capacity
    numbers).thrust.setpoint = s.thrust.setpoint ∧ (s.trainArrives station capacity numbers).thrust.steerPause =
    s.thrust.steerPause ∧ (s.trainArrives station capacity numbers).thrust.strokeReached = s.thrust.strokeReached ∧
    (s.trainArrives station capacity numbers).thrust.zone = s.thrust.zone ∧ (s.trainArrives station capacity
    numbers).engine.state = s.engine.state ∧ (s.trainArrives station capacity numbers).engine.seated = s.engine.seated
    ∧ (s.trainArrives station capacity numbers).engine.attempt = s.engine.attempt ∧ (s.trainArrives station capacity
    numbers).engine.zoneMembers = s.engine.zoneMembers ∧ (s.trainArrives station capacity numbers).engine.answered =
    s.engine.answered ∧ (s.trainArrives station capacity numbers).engine.retry = s.engine.retry ∧ (s.trainArrives
    station capacity numbers).engine.limit = s.engine.limit ∧ (s.trainArrives station capacity
    numbers).engine.stopping = s.engine.stopping ∧ (s.trainArrives station capacity numbers).engine.placed =
    s.engine.placed ∧ (s.trainArrives station capacity numbers).engine.lastRefusal = s.engine.lastRefusal ∧
    (s.trainArrives station capacity numbers).engine.seatRetries = s.engine.seatRetries ∧ (s.trainArrives station
    capacity numbers).engine.zoneRefusals = s.engine.zoneRefusals ∧ (s.trainArrives station capacity
    numbers).engine.fault = s.engine.fault ∧ (s.trainArrives station capacity numbers).engine.erector =
    s.engine.erector ∧ (s.trainArrives station capacity numbers).engine.erectorCommand = s.engine.erectorCommand ∧
    (s.trainArrives station capacity numbers).muck.screw = s.muck.screw ∧ (s.trainArrives station capacity
    numbers).muck.faceRestrained = s.muck.faceRestrained ∧ (s.trainArrives station capacity numbers).muck.faceLow =
    s.muck.faceLow ∧ (s.trainArrives station capacity numbers).muck.lastIndexed = s.muck.lastIndexed ∧ (s.trainArrives
    station capacity numbers).muck.weighed = s.muck.weighed ∧ (s.trainArrives station capacity numbers).muck.carried =
    s.muck.carried ∧ (s.trainArrives station capacity numbers).muck.uncarried = s.muck.uncarried ∧ (s.trainArrives
    station capacity numbers).muck.excused = s.muck.excused ∧ (s.trainArrives station capacity numbers).muck.indexed =
    s.muck.indexed ∧ (s.trainArrives station capacity numbers).muck.machineAdvance = s.muck.machineAdvance ∧
    (s.trainArrives station capacity numbers).muck.overdig = s.muck.overdig ∧ (s.trainArrives station capacity
    numbers).console.watch = s.console.watch ∧ (s.trainArrives station capacity numbers).console.records =
    s.console.records := by
  unfold trainArrives
  (repeat' split) <;> simp

@[simp] theorem serveTrainArrive_fields  (station : Station) (addressed : Bool) (args : List Byte) (s : State) :
    (s.serveTrainArrive station addressed args).link.onWire = s.link.onWire ∧ (s.serveTrainArrive station addressed
    args).link.transmitting = s.link.transmitting ∧ (s.serveTrainArrive station addressed args).thrust.cylinders =
    s.thrust.cylinders ∧ (s.serveTrainArrive station addressed args).thrust.sectorAdvance = s.thrust.sectorAdvance ∧
    (s.serveTrainArrive station addressed args).thrust.credited = s.thrust.credited ∧ (s.serveTrainArrive station
    addressed args).thrust.setpoint = s.thrust.setpoint ∧ (s.serveTrainArrive station addressed
    args).thrust.steerPause = s.thrust.steerPause ∧ (s.serveTrainArrive station addressed args).thrust.strokeReached =
    s.thrust.strokeReached ∧ (s.serveTrainArrive station addressed args).thrust.zone = s.thrust.zone ∧
    (s.serveTrainArrive station addressed args).engine.state = s.engine.state ∧ (s.serveTrainArrive station addressed
    args).engine.seated = s.engine.seated ∧ (s.serveTrainArrive station addressed args).engine.attempt =
    s.engine.attempt ∧ (s.serveTrainArrive station addressed args).engine.zoneMembers = s.engine.zoneMembers ∧
    (s.serveTrainArrive station addressed args).engine.answered = s.engine.answered ∧ (s.serveTrainArrive station
    addressed args).engine.retry = s.engine.retry ∧ (s.serveTrainArrive station addressed args).engine.limit =
    s.engine.limit ∧ (s.serveTrainArrive station addressed args).engine.stopping = s.engine.stopping ∧
    (s.serveTrainArrive station addressed args).engine.placed = s.engine.placed ∧ (s.serveTrainArrive station
    addressed args).engine.lastRefusal = s.engine.lastRefusal ∧ (s.serveTrainArrive station addressed
    args).engine.seatRetries = s.engine.seatRetries ∧ (s.serveTrainArrive station addressed args).engine.zoneRefusals
    = s.engine.zoneRefusals ∧ (s.serveTrainArrive station addressed args).engine.fault = s.engine.fault ∧
    (s.serveTrainArrive station addressed args).engine.erector = s.engine.erector ∧ (s.serveTrainArrive station
    addressed args).engine.erectorCommand = s.engine.erectorCommand ∧ (s.serveTrainArrive station addressed
    args).muck.screw = s.muck.screw ∧ (s.serveTrainArrive station addressed args).muck.faceRestrained =
    s.muck.faceRestrained ∧ (s.serveTrainArrive station addressed args).muck.faceLow = s.muck.faceLow ∧
    (s.serveTrainArrive station addressed args).muck.lastIndexed = s.muck.lastIndexed ∧ (s.serveTrainArrive station
    addressed args).muck.weighed = s.muck.weighed ∧ (s.serveTrainArrive station addressed args).muck.carried =
    s.muck.carried ∧ (s.serveTrainArrive station addressed args).muck.uncarried = s.muck.uncarried ∧
    (s.serveTrainArrive station addressed args).muck.excused = s.muck.excused ∧ (s.serveTrainArrive station addressed
    args).muck.indexed = s.muck.indexed ∧ (s.serveTrainArrive station addressed args).muck.machineAdvance =
    s.muck.machineAdvance ∧ (s.serveTrainArrive station addressed args).muck.overdig = s.muck.overdig ∧
    (s.serveTrainArrive station addressed args).console.watch = s.console.watch ∧ (s.serveTrainArrive station
    addressed args).console.records = s.console.records := by
  simp only [serveTrainArrive, muckService]
  (repeat' split) <;> simp

@[simp] theorem indexHead_fields (n : Nat) (rest : List Car) (s : State) :
    (s.indexHead n rest).muck.screw = s.muck.screw ∧ (s.indexHead n rest).muck.faceRestrained = s.muck.faceRestrained
    ∧ (s.indexHead n rest).muck.faceLow = s.muck.faceLow ∧ (s.indexHead n rest).muck.muckRestrained =
    s.muck.muckRestrained ∧ (s.indexHead n rest).muck.weighed = s.muck.weighed ∧ (s.indexHead n rest).muck.carried =
    s.muck.carried ∧ (s.indexHead n rest).muck.uncarried = s.muck.uncarried ∧ (s.indexHead n rest).muck.excused =
    s.muck.excused ∧ (s.indexHead n rest).muck.machineAdvance = s.muck.machineAdvance ∧ (s.indexHead n
    rest).muck.overdig = s.muck.overdig := by
  simp [indexHead]

@[simp] theorem carIndexed_fields (station : Station) (n : Nat) (s : State) :
    (s.carIndexed station n).link.onWire = s.link.onWire ∧ (s.carIndexed station n).link.transmitting =
    s.link.transmitting ∧ (s.carIndexed station n).thrust.cylinders = s.thrust.cylinders ∧ (s.carIndexed station
    n).thrust.sectorAdvance = s.thrust.sectorAdvance ∧ (s.carIndexed station n).thrust.credited = s.thrust.credited ∧
    (s.carIndexed station n).thrust.setpoint = s.thrust.setpoint ∧ (s.carIndexed station n).thrust.steerPause =
    s.thrust.steerPause ∧ (s.carIndexed station n).thrust.strokeReached = s.thrust.strokeReached ∧ (s.carIndexed
    station n).thrust.zone = s.thrust.zone ∧ (s.carIndexed station n).engine.state = s.engine.state ∧ (s.carIndexed
    station n).engine.seated = s.engine.seated ∧ (s.carIndexed station n).engine.attempt = s.engine.attempt ∧
    (s.carIndexed station n).engine.zoneMembers = s.engine.zoneMembers ∧ (s.carIndexed station n).engine.answered =
    s.engine.answered ∧ (s.carIndexed station n).engine.retry = s.engine.retry ∧ (s.carIndexed station n).engine.limit
    = s.engine.limit ∧ (s.carIndexed station n).engine.stopping = s.engine.stopping ∧ (s.carIndexed station
    n).engine.placed = s.engine.placed ∧ (s.carIndexed station n).engine.lastRefusal = s.engine.lastRefusal ∧
    (s.carIndexed station n).engine.seatRetries = s.engine.seatRetries ∧ (s.carIndexed station n).engine.zoneRefusals
    = s.engine.zoneRefusals ∧ (s.carIndexed station n).engine.fault = s.engine.fault ∧ (s.carIndexed station
    n).engine.erector = s.engine.erector ∧ (s.carIndexed station n).engine.erectorCommand = s.engine.erectorCommand ∧
    (s.carIndexed station n).muck.screw = s.muck.screw ∧ (s.carIndexed station n).muck.faceRestrained =
    s.muck.faceRestrained ∧ (s.carIndexed station n).muck.faceLow = s.muck.faceLow ∧ (s.carIndexed station
    n).muck.weighed = s.muck.weighed ∧ (s.carIndexed station n).muck.carried = s.muck.carried ∧ (s.carIndexed station
    n).muck.uncarried = s.muck.uncarried ∧ (s.carIndexed station n).muck.excused = s.muck.excused ∧ (s.carIndexed
    station n).muck.machineAdvance = s.muck.machineAdvance ∧ (s.carIndexed station n).muck.overdig = s.muck.overdig ∧
    (s.carIndexed station n).console.watch = s.console.watch ∧ (s.carIndexed station n).console.records =
    s.console.records := by
  unfold carIndexed
  (repeat' split) <;> simp

@[simp] theorem serveCarIndexed_fields  (station : Station) (addressed : Bool) (args : List Byte) (s : State) :
    (s.serveCarIndexed station addressed args).link.onWire = s.link.onWire ∧ (s.serveCarIndexed station addressed
    args).link.transmitting = s.link.transmitting ∧ (s.serveCarIndexed station addressed args).thrust.cylinders =
    s.thrust.cylinders ∧ (s.serveCarIndexed station addressed args).thrust.sectorAdvance = s.thrust.sectorAdvance ∧
    (s.serveCarIndexed station addressed args).thrust.credited = s.thrust.credited ∧ (s.serveCarIndexed station
    addressed args).thrust.setpoint = s.thrust.setpoint ∧ (s.serveCarIndexed station addressed args).thrust.steerPause
    = s.thrust.steerPause ∧ (s.serveCarIndexed station addressed args).thrust.strokeReached = s.thrust.strokeReached ∧
    (s.serveCarIndexed station addressed args).thrust.zone = s.thrust.zone ∧ (s.serveCarIndexed station addressed
    args).engine.state = s.engine.state ∧ (s.serveCarIndexed station addressed args).engine.seated = s.engine.seated ∧
    (s.serveCarIndexed station addressed args).engine.attempt = s.engine.attempt ∧ (s.serveCarIndexed station
    addressed args).engine.zoneMembers = s.engine.zoneMembers ∧ (s.serveCarIndexed station addressed
    args).engine.answered = s.engine.answered ∧ (s.serveCarIndexed station addressed args).engine.retry =
    s.engine.retry ∧ (s.serveCarIndexed station addressed args).engine.limit = s.engine.limit ∧ (s.serveCarIndexed
    station addressed args).engine.stopping = s.engine.stopping ∧ (s.serveCarIndexed station addressed
    args).engine.placed = s.engine.placed ∧ (s.serveCarIndexed station addressed args).engine.lastRefusal =
    s.engine.lastRefusal ∧ (s.serveCarIndexed station addressed args).engine.seatRetries = s.engine.seatRetries ∧
    (s.serveCarIndexed station addressed args).engine.zoneRefusals = s.engine.zoneRefusals ∧ (s.serveCarIndexed
    station addressed args).engine.fault = s.engine.fault ∧ (s.serveCarIndexed station addressed args).engine.erector
    = s.engine.erector ∧ (s.serveCarIndexed station addressed args).engine.erectorCommand = s.engine.erectorCommand ∧
    (s.serveCarIndexed station addressed args).muck.screw = s.muck.screw ∧ (s.serveCarIndexed station addressed
    args).muck.faceRestrained = s.muck.faceRestrained ∧ (s.serveCarIndexed station addressed args).muck.faceLow =
    s.muck.faceLow ∧ (s.serveCarIndexed station addressed args).muck.weighed = s.muck.weighed ∧ (s.serveCarIndexed
    station addressed args).muck.carried = s.muck.carried ∧ (s.serveCarIndexed station addressed args).muck.uncarried
    = s.muck.uncarried ∧ (s.serveCarIndexed station addressed args).muck.excused = s.muck.excused ∧ (s.serveCarIndexed
    station addressed args).muck.machineAdvance = s.muck.machineAdvance ∧ (s.serveCarIndexed station addressed
    args).muck.overdig = s.muck.overdig ∧ (s.serveCarIndexed station addressed args).console.watch = s.console.watch ∧
    (s.serveCarIndexed station addressed args).console.records = s.console.records := by
  simp only [serveCarIndexed, muckService]
  (repeat' split) <;> simp

@[simp] theorem excuse_fields (s : State) :
    s.excuse.link.transmitting = s.link.transmitting ∧ s.excuse.machine.previous = s.machine.previous ∧
    s.excuse.machine.view = s.machine.view ∧ s.excuse.machine.ring = s.machine.ring ∧ s.excuse.machine.beaconTimer =
    s.machine.beaconTimer ∧ s.excuse.thrust.sectorAdvance = s.thrust.sectorAdvance ∧ s.excuse.thrust.credited =
    s.thrust.credited ∧ s.excuse.thrust.setpoint = s.thrust.setpoint ∧ s.excuse.thrust.strokeReached =
    s.thrust.strokeReached ∧ s.excuse.thrust.restraints = s.thrust.restraints ∧ s.excuse.drive.setpoint =
    s.drive.setpoint ∧ s.excuse.drive.guard = s.drive.guard ∧ s.excuse.plans.opened = s.plans.opened ∧
    s.excuse.engine.attempt = s.engine.attempt ∧ s.excuse.engine.placed = s.engine.placed ∧
    s.excuse.engine.lastRefusal = s.engine.lastRefusal ∧ s.excuse.engine.seatRetries = s.engine.seatRetries ∧
    s.excuse.engine.zoneRefusals = s.engine.zoneRefusals ∧ s.excuse.engine.fault = s.engine.fault ∧
    s.excuse.grout.ports = s.grout.ports ∧ s.excuse.grout.restrained = s.grout.restrained ∧
    s.excuse.muck.faceRestrained = s.muck.faceRestrained ∧ s.excuse.muck.faceLow = s.muck.faceLow ∧
    s.excuse.muck.queue = s.muck.queue ∧ s.excuse.muck.lastIndexed = s.muck.lastIndexed ∧ s.excuse.muck.muckRestrained
    = s.muck.muckRestrained ∧ s.excuse.muck.spill = s.muck.spill ∧ s.excuse.muck.weighed = s.muck.weighed ∧
    s.excuse.muck.carried = s.muck.carried ∧ s.excuse.muck.uncarried = s.muck.uncarried ∧ s.excuse.muck.indexed =
    s.muck.indexed ∧ s.excuse.muck.machineAdvance = s.muck.machineAdvance ∧ s.excuse.console.watch = s.console.watch ∧
    s.excuse.console.records = s.console.records := by
  simp [excuse]

@[simp] theorem serveOverdigExcuse_fields  (station : Station) (addressed : Bool) (args : List Byte) (s : State) :
    (s.serveOverdigExcuse station addressed args).link.transmitting = s.link.transmitting ∧ (s.serveOverdigExcuse
    station addressed args).machine.previous = s.machine.previous ∧ (s.serveOverdigExcuse station addressed
    args).machine.view = s.machine.view ∧ (s.serveOverdigExcuse station addressed args).machine.ring = s.machine.ring
    ∧ (s.serveOverdigExcuse station addressed args).machine.beaconTimer = s.machine.beaconTimer ∧
    (s.serveOverdigExcuse station addressed args).thrust.sectorAdvance = s.thrust.sectorAdvance ∧
    (s.serveOverdigExcuse station addressed args).thrust.credited = s.thrust.credited ∧ (s.serveOverdigExcuse station
    addressed args).thrust.setpoint = s.thrust.setpoint ∧ (s.serveOverdigExcuse station addressed
    args).thrust.strokeReached = s.thrust.strokeReached ∧ (s.serveOverdigExcuse station addressed
    args).thrust.restraints = s.thrust.restraints ∧ (s.serveOverdigExcuse station addressed args).drive.setpoint =
    s.drive.setpoint ∧ (s.serveOverdigExcuse station addressed args).drive.guard = s.drive.guard ∧
    (s.serveOverdigExcuse station addressed args).plans.opened = s.plans.opened ∧ (s.serveOverdigExcuse station
    addressed args).engine.attempt = s.engine.attempt ∧ (s.serveOverdigExcuse station addressed args).engine.placed =
    s.engine.placed ∧ (s.serveOverdigExcuse station addressed args).engine.lastRefusal = s.engine.lastRefusal ∧
    (s.serveOverdigExcuse station addressed args).engine.seatRetries = s.engine.seatRetries ∧ (s.serveOverdigExcuse
    station addressed args).engine.zoneRefusals = s.engine.zoneRefusals ∧ (s.serveOverdigExcuse station addressed
    args).engine.fault = s.engine.fault ∧ (s.serveOverdigExcuse station addressed args).grout.ports = s.grout.ports ∧
    (s.serveOverdigExcuse station addressed args).grout.restrained = s.grout.restrained ∧ (s.serveOverdigExcuse
    station addressed args).muck.faceRestrained = s.muck.faceRestrained ∧ (s.serveOverdigExcuse station addressed
    args).muck.faceLow = s.muck.faceLow ∧ (s.serveOverdigExcuse station addressed args).muck.queue = s.muck.queue ∧
    (s.serveOverdigExcuse station addressed args).muck.lastIndexed = s.muck.lastIndexed ∧ (s.serveOverdigExcuse
    station addressed args).muck.muckRestrained = s.muck.muckRestrained ∧ (s.serveOverdigExcuse station addressed
    args).muck.spill = s.muck.spill ∧ (s.serveOverdigExcuse station addressed args).muck.weighed = s.muck.weighed ∧
    (s.serveOverdigExcuse station addressed args).muck.carried = s.muck.carried ∧ (s.serveOverdigExcuse station
    addressed args).muck.uncarried = s.muck.uncarried ∧ (s.serveOverdigExcuse station addressed args).muck.indexed =
    s.muck.indexed ∧ (s.serveOverdigExcuse station addressed args).muck.machineAdvance = s.muck.machineAdvance ∧
    (s.serveOverdigExcuse station addressed args).console.watch = s.console.watch ∧ (s.serveOverdigExcuse station
    addressed args).console.records = s.console.records := by
  simp only [serveOverdigExcuse, muckService]
  (repeat' split) <;> simp

end Sys2Proof.Machine.State
end

