-- ==== Sys2Proof/Laws/OverridesFields.lean ====
section
/-! SUPPORT. For each operation of Machine/Overrides.lean, the fields it leaves as they are in the parts of State it may change. -/

namespace Sys2Proof.Machine.State

@[simp] theorem cylinderPinChanged_fields (n : Nat) (s : State) :
    (s.cylinderPinChanged n).link.transmitting = s.link.transmitting ∧ (s.cylinderPinChanged n).machine.previous =
    s.machine.previous ∧ (s.cylinderPinChanged n).machine.view = s.machine.view ∧ (s.cylinderPinChanged
    n).machine.ring = s.machine.ring ∧ (s.cylinderPinChanged n).machine.beaconTimer = s.machine.beaconTimer ∧
    (s.cylinderPinChanged n).thrust.setpoint = s.thrust.setpoint ∧ (s.cylinderPinChanged n).drive.setpoint =
    s.drive.setpoint ∧ (s.cylinderPinChanged n).drive.guard = s.drive.guard ∧ (s.cylinderPinChanged n).plans.opened =
    s.plans.opened ∧ (s.cylinderPinChanged n).engine.attempt = s.engine.attempt ∧ (s.cylinderPinChanged
    n).engine.placed = s.engine.placed ∧ (s.cylinderPinChanged n).engine.lastRefusal = s.engine.lastRefusal ∧
    (s.cylinderPinChanged n).engine.seatRetries = s.engine.seatRetries ∧ (s.cylinderPinChanged n).engine.zoneRefusals
    = s.engine.zoneRefusals ∧ (s.cylinderPinChanged n).engine.fault = s.engine.fault ∧ (s.cylinderPinChanged
    n).muck.faceRestrained = s.muck.faceRestrained ∧ (s.cylinderPinChanged n).muck.faceLow = s.muck.faceLow ∧
    (s.cylinderPinChanged n).muck.queue = s.muck.queue ∧ (s.cylinderPinChanged n).muck.lastIndexed =
    s.muck.lastIndexed ∧ (s.cylinderPinChanged n).muck.muckRestrained = s.muck.muckRestrained ∧ (s.cylinderPinChanged
    n).muck.spill = s.muck.spill ∧ (s.cylinderPinChanged n).muck.weighed = s.muck.weighed ∧ (s.cylinderPinChanged
    n).muck.carried = s.muck.carried ∧ (s.cylinderPinChanged n).muck.uncarried = s.muck.uncarried ∧
    (s.cylinderPinChanged n).muck.excused = s.muck.excused ∧ (s.cylinderPinChanged n).muck.indexed = s.muck.indexed ∧
    (s.cylinderPinChanged n).channels.cylinders = s.channels.cylinders ∧ (s.cylinderPinChanged n).channels.drives =
    s.channels.drives ∧ (s.cylinderPinChanged n).channels.linePressure = s.channels.linePressure ∧
    (s.cylinderPinChanged n).channels.screwFault = s.channels.screwFault ∧ (s.cylinderPinChanged n).channels.face =
    s.channels.face ∧ (s.cylinderPinChanged n).channels.erectorFault = s.channels.erectorFault ∧ (s.cylinderPinChanged
    n).console.watch = s.console.watch ∧ (s.cylinderPinChanged n).console.records = s.console.records := by
  unfold cylinderPinChanged
  dsimp only
  (repeat' split) <;> simp

@[simp] theorem shutPort_fields (n : Nat) (s : State) :
    (s.shutPort n).grout.ports = s.grout.ports ∧ (s.shutPort n).grout.restrained = s.grout.restrained ∧ (s.shutPort
    n).channels.cylinders = s.channels.cylinders ∧ (s.shutPort n).channels.drives = s.channels.drives ∧ (s.shutPort
    n).channels.linePressure = s.channels.linePressure ∧ (s.shutPort n).channels.screwFault = s.channels.screwFault ∧
    (s.shutPort n).channels.face = s.channels.face ∧ (s.shutPort n).channels.erectorFault = s.channels.erectorFault := by
  unfold shutPort
  (repeat' split) <;> simp

@[simp] theorem applyForced_fields (forced : ForcedState) (n : Nat) (s : State) :
    (s.applyForced forced n).link.transmitting = s.link.transmitting ∧ (s.applyForced forced n).machine.previous =
    s.machine.previous ∧ (s.applyForced forced n).machine.view = s.machine.view ∧ (s.applyForced forced
    n).machine.ring = s.machine.ring ∧ (s.applyForced forced n).machine.beaconTimer = s.machine.beaconTimer ∧
    (s.applyForced forced n).thrust.setpoint = s.thrust.setpoint ∧ (s.applyForced forced n).drive.setpoint =
    s.drive.setpoint ∧ (s.applyForced forced n).drive.guard = s.drive.guard ∧ (s.applyForced forced n).plans.opened =
    s.plans.opened ∧ (s.applyForced forced n).engine.attempt = s.engine.attempt ∧ (s.applyForced forced
    n).engine.placed = s.engine.placed ∧ (s.applyForced forced n).engine.lastRefusal = s.engine.lastRefusal ∧
    (s.applyForced forced n).engine.seatRetries = s.engine.seatRetries ∧ (s.applyForced forced n).engine.zoneRefusals
    = s.engine.zoneRefusals ∧ (s.applyForced forced n).engine.fault = s.engine.fault ∧ (s.applyForced forced
    n).muck.faceRestrained = s.muck.faceRestrained ∧ (s.applyForced forced n).muck.faceLow = s.muck.faceLow ∧
    (s.applyForced forced n).muck.queue = s.muck.queue ∧ (s.applyForced forced n).muck.lastIndexed =
    s.muck.lastIndexed ∧ (s.applyForced forced n).muck.muckRestrained = s.muck.muckRestrained ∧ (s.applyForced forced
    n).muck.spill = s.muck.spill ∧ (s.applyForced forced n).muck.weighed = s.muck.weighed ∧ (s.applyForced forced
    n).muck.carried = s.muck.carried ∧ (s.applyForced forced n).muck.uncarried = s.muck.uncarried ∧ (s.applyForced
    forced n).muck.excused = s.muck.excused ∧ (s.applyForced forced n).muck.indexed = s.muck.indexed ∧ (s.applyForced
    forced n).channels.cylinders = s.channels.cylinders ∧ (s.applyForced forced n).channels.drives = s.channels.drives
    ∧ (s.applyForced forced n).channels.linePressure = s.channels.linePressure ∧ (s.applyForced forced
    n).channels.screwFault = s.channels.screwFault ∧ (s.applyForced forced n).channels.face = s.channels.face ∧
    (s.applyForced forced n).channels.erectorFault = s.channels.erectorFault ∧ (s.applyForced forced n).console.watch
    = s.console.watch ∧ (s.applyForced forced n).console.records = s.console.records := by
  unfold applyForced
  split <;> simp

@[simp] theorem serveOverride_fields  (station : Station) (addressed : Bool) (args : List Byte) (s : State) :
    (s.serveOverride station addressed args).link.transmitting = s.link.transmitting ∧ (s.serveOverride station
    addressed args).machine.previous = s.machine.previous ∧ (s.serveOverride station addressed args).machine.view =
    s.machine.view ∧ (s.serveOverride station addressed args).machine.ring = s.machine.ring ∧ (s.serveOverride station
    addressed args).machine.beaconTimer = s.machine.beaconTimer ∧ (s.serveOverride station addressed
    args).thrust.setpoint = s.thrust.setpoint ∧ (s.serveOverride station addressed args).drive.setpoint =
    s.drive.setpoint ∧ (s.serveOverride station addressed args).drive.guard = s.drive.guard ∧ (s.serveOverride station
    addressed args).plans.opened = s.plans.opened ∧ (s.serveOverride station addressed args).engine.attempt =
    s.engine.attempt ∧ (s.serveOverride station addressed args).engine.placed = s.engine.placed ∧ (s.serveOverride
    station addressed args).engine.lastRefusal = s.engine.lastRefusal ∧ (s.serveOverride station addressed
    args).engine.seatRetries = s.engine.seatRetries ∧ (s.serveOverride station addressed args).engine.zoneRefusals =
    s.engine.zoneRefusals ∧ (s.serveOverride station addressed args).engine.fault = s.engine.fault ∧ (s.serveOverride
    station addressed args).muck.faceRestrained = s.muck.faceRestrained ∧ (s.serveOverride station addressed
    args).muck.faceLow = s.muck.faceLow ∧ (s.serveOverride station addressed args).muck.queue = s.muck.queue ∧
    (s.serveOverride station addressed args).muck.lastIndexed = s.muck.lastIndexed ∧ (s.serveOverride station
    addressed args).muck.muckRestrained = s.muck.muckRestrained ∧ (s.serveOverride station addressed args).muck.spill
    = s.muck.spill ∧ (s.serveOverride station addressed args).muck.weighed = s.muck.weighed ∧ (s.serveOverride station
    addressed args).muck.carried = s.muck.carried ∧ (s.serveOverride station addressed args).muck.uncarried =
    s.muck.uncarried ∧ (s.serveOverride station addressed args).muck.excused = s.muck.excused ∧ (s.serveOverride
    station addressed args).muck.indexed = s.muck.indexed ∧ (s.serveOverride station addressed
    args).channels.cylinders = s.channels.cylinders ∧ (s.serveOverride station addressed args).channels.drives =
    s.channels.drives ∧ (s.serveOverride station addressed args).channels.linePressure = s.channels.linePressure ∧
    (s.serveOverride station addressed args).channels.screwFault = s.channels.screwFault ∧ (s.serveOverride station
    addressed args).channels.face = s.channels.face ∧ (s.serveOverride station addressed args).channels.erectorFault =
    s.channels.erectorFault ∧ (s.serveOverride station addressed args).console.watch = s.console.watch ∧
    (s.serveOverride station addressed args).console.records = s.console.records := by
  simp only [serveOverride, configuredOnly]
  (repeat' split) <;> simp

@[simp] theorem cancelEntry_fields (e : OverrideEntry) (s : State) :
    (s.cancelEntry e).link.transmitting = s.link.transmitting ∧ (s.cancelEntry e).machine.previous =
    s.machine.previous ∧ (s.cancelEntry e).machine.view = s.machine.view ∧ (s.cancelEntry e).machine.ring =
    s.machine.ring ∧ (s.cancelEntry e).machine.beaconTimer = s.machine.beaconTimer ∧ (s.cancelEntry e).thrust.setpoint
    = s.thrust.setpoint ∧ (s.cancelEntry e).drive.setpoint = s.drive.setpoint ∧ (s.cancelEntry e).drive.guard =
    s.drive.guard ∧ (s.cancelEntry e).plans.opened = s.plans.opened ∧ (s.cancelEntry e).engine.attempt =
    s.engine.attempt ∧ (s.cancelEntry e).engine.placed = s.engine.placed ∧ (s.cancelEntry e).engine.lastRefusal =
    s.engine.lastRefusal ∧ (s.cancelEntry e).engine.seatRetries = s.engine.seatRetries ∧ (s.cancelEntry
    e).engine.zoneRefusals = s.engine.zoneRefusals ∧ (s.cancelEntry e).engine.fault = s.engine.fault ∧ (s.cancelEntry
    e).muck.faceRestrained = s.muck.faceRestrained ∧ (s.cancelEntry e).muck.faceLow = s.muck.faceLow ∧ (s.cancelEntry
    e).muck.queue = s.muck.queue ∧ (s.cancelEntry e).muck.lastIndexed = s.muck.lastIndexed ∧ (s.cancelEntry
    e).muck.muckRestrained = s.muck.muckRestrained ∧ (s.cancelEntry e).muck.spill = s.muck.spill ∧ (s.cancelEntry
    e).muck.weighed = s.muck.weighed ∧ (s.cancelEntry e).muck.carried = s.muck.carried ∧ (s.cancelEntry
    e).muck.uncarried = s.muck.uncarried ∧ (s.cancelEntry e).muck.excused = s.muck.excused ∧ (s.cancelEntry
    e).muck.indexed = s.muck.indexed ∧ (s.cancelEntry e).channels.cylinders = s.channels.cylinders ∧ (s.cancelEntry
    e).channels.drives = s.channels.drives ∧ (s.cancelEntry e).channels.linePressure = s.channels.linePressure ∧
    (s.cancelEntry e).channels.screwFault = s.channels.screwFault ∧ (s.cancelEntry e).channels.face = s.channels.face
    ∧ (s.cancelEntry e).channels.erectorFault = s.channels.erectorFault ∧ (s.cancelEntry e).console.watch =
    s.console.watch ∧ (s.cancelEntry e).console.records = s.console.records := by
  unfold cancelEntry
  split <;> simp

@[simp] theorem cancelEntries_fields (es : List OverrideEntry) (s : State) :
    (s.cancelEntries es).link.transmitting = s.link.transmitting ∧ (s.cancelEntries es).machine.previous =
    s.machine.previous ∧ (s.cancelEntries es).machine.view = s.machine.view ∧ (s.cancelEntries es).machine.ring =
    s.machine.ring ∧ (s.cancelEntries es).machine.beaconTimer = s.machine.beaconTimer ∧ (s.cancelEntries
    es).thrust.setpoint = s.thrust.setpoint ∧ (s.cancelEntries es).drive.setpoint = s.drive.setpoint ∧
    (s.cancelEntries es).drive.guard = s.drive.guard ∧ (s.cancelEntries es).plans.opened = s.plans.opened ∧
    (s.cancelEntries es).engine.attempt = s.engine.attempt ∧ (s.cancelEntries es).engine.placed = s.engine.placed ∧
    (s.cancelEntries es).engine.lastRefusal = s.engine.lastRefusal ∧ (s.cancelEntries es).engine.seatRetries =
    s.engine.seatRetries ∧ (s.cancelEntries es).engine.zoneRefusals = s.engine.zoneRefusals ∧ (s.cancelEntries
    es).engine.fault = s.engine.fault ∧ (s.cancelEntries es).muck.faceRestrained = s.muck.faceRestrained ∧
    (s.cancelEntries es).muck.faceLow = s.muck.faceLow ∧ (s.cancelEntries es).muck.queue = s.muck.queue ∧
    (s.cancelEntries es).muck.lastIndexed = s.muck.lastIndexed ∧ (s.cancelEntries es).muck.muckRestrained =
    s.muck.muckRestrained ∧ (s.cancelEntries es).muck.spill = s.muck.spill ∧ (s.cancelEntries es).muck.weighed =
    s.muck.weighed ∧ (s.cancelEntries es).muck.carried = s.muck.carried ∧ (s.cancelEntries es).muck.uncarried =
    s.muck.uncarried ∧ (s.cancelEntries es).muck.excused = s.muck.excused ∧ (s.cancelEntries es).muck.indexed =
    s.muck.indexed ∧ (s.cancelEntries es).channels.cylinders = s.channels.cylinders ∧ (s.cancelEntries
    es).channels.drives = s.channels.drives ∧ (s.cancelEntries es).channels.linePressure = s.channels.linePressure ∧
    (s.cancelEntries es).channels.screwFault = s.channels.screwFault ∧ (s.cancelEntries es).channels.face =
    s.channels.face ∧ (s.cancelEntries es).channels.erectorFault = s.channels.erectorFault ∧ (s.cancelEntries
    es).console.watch = s.console.watch ∧ (s.cancelEntries es).console.records = s.console.records := by
  unfold cancelEntries
  induction es generalizing s with
  | nil => simp
  | cons x xs ih => simp [ih]

@[simp] theorem serveOverrideCancel_fields  (station : Station) (addressed : Bool) (args : List Byte) (s : State) :
    (s.serveOverrideCancel station addressed args).link.transmitting = s.link.transmitting ∧ (s.serveOverrideCancel
    station addressed args).machine.previous = s.machine.previous ∧ (s.serveOverrideCancel station addressed
    args).machine.view = s.machine.view ∧ (s.serveOverrideCancel station addressed args).machine.ring = s.machine.ring
    ∧ (s.serveOverrideCancel station addressed args).machine.beaconTimer = s.machine.beaconTimer ∧
    (s.serveOverrideCancel station addressed args).thrust.setpoint = s.thrust.setpoint ∧ (s.serveOverrideCancel
    station addressed args).drive.setpoint = s.drive.setpoint ∧ (s.serveOverrideCancel station addressed
    args).drive.guard = s.drive.guard ∧ (s.serveOverrideCancel station addressed args).plans.opened = s.plans.opened ∧
    (s.serveOverrideCancel station addressed args).engine.attempt = s.engine.attempt ∧ (s.serveOverrideCancel station
    addressed args).engine.placed = s.engine.placed ∧ (s.serveOverrideCancel station addressed
    args).engine.lastRefusal = s.engine.lastRefusal ∧ (s.serveOverrideCancel station addressed
    args).engine.seatRetries = s.engine.seatRetries ∧ (s.serveOverrideCancel station addressed
    args).engine.zoneRefusals = s.engine.zoneRefusals ∧ (s.serveOverrideCancel station addressed args).engine.fault =
    s.engine.fault ∧ (s.serveOverrideCancel station addressed args).muck.faceRestrained = s.muck.faceRestrained ∧
    (s.serveOverrideCancel station addressed args).muck.faceLow = s.muck.faceLow ∧ (s.serveOverrideCancel station
    addressed args).muck.queue = s.muck.queue ∧ (s.serveOverrideCancel station addressed args).muck.lastIndexed =
    s.muck.lastIndexed ∧ (s.serveOverrideCancel station addressed args).muck.muckRestrained = s.muck.muckRestrained ∧
    (s.serveOverrideCancel station addressed args).muck.spill = s.muck.spill ∧ (s.serveOverrideCancel station
    addressed args).muck.weighed = s.muck.weighed ∧ (s.serveOverrideCancel station addressed args).muck.carried =
    s.muck.carried ∧ (s.serveOverrideCancel station addressed args).muck.uncarried = s.muck.uncarried ∧
    (s.serveOverrideCancel station addressed args).muck.excused = s.muck.excused ∧ (s.serveOverrideCancel station
    addressed args).muck.indexed = s.muck.indexed ∧ (s.serveOverrideCancel station addressed args).channels.cylinders
    = s.channels.cylinders ∧ (s.serveOverrideCancel station addressed args).channels.drives = s.channels.drives ∧
    (s.serveOverrideCancel station addressed args).channels.linePressure = s.channels.linePressure ∧
    (s.serveOverrideCancel station addressed args).channels.screwFault = s.channels.screwFault ∧
    (s.serveOverrideCancel station addressed args).channels.face = s.channels.face ∧ (s.serveOverrideCancel station
    addressed args).channels.erectorFault = s.channels.erectorFault ∧ (s.serveOverrideCancel station addressed
    args).console.watch = s.console.watch ∧ (s.serveOverrideCancel station addressed args).console.records =
    s.console.records := by
  simp only [serveOverrideCancel, configuredOnly]
  (repeat' split) <;> simp

end Sys2Proof.Machine.State
end

