-- ==== Sys2Proof/Laws/ConsoleFields.lean ====
section
/-! SUPPORT. For each operation of Machine/Console.lean, the fields it leaves as they are in the parts of State it may change. -/

namespace Sys2Proof.Machine.State

@[simp] theorem queuePart_fields (station : Station) (service : Byte) (k n : Nat) (values : List Value) (s : State) :
    (s.queuePart station service k n values).link.onWire = s.link.onWire ∧ (s.queuePart station service k n
    values).link.transmitting = s.link.transmitting ∧ (s.queuePart station service k n values).engine.state =
    s.engine.state ∧ (s.queuePart station service k n values).engine.seated = s.engine.seated ∧ (s.queuePart station
    service k n values).engine.attempt = s.engine.attempt ∧ (s.queuePart station service k n
    values).engine.zoneMembers = s.engine.zoneMembers ∧ (s.queuePart station service k n values).engine.answered =
    s.engine.answered ∧ (s.queuePart station service k n values).engine.retry = s.engine.retry ∧ (s.queuePart station
    service k n values).engine.limit = s.engine.limit ∧ (s.queuePart station service k n values).engine.stopping =
    s.engine.stopping ∧ (s.queuePart station service k n values).engine.placed = s.engine.placed ∧ (s.queuePart
    station service k n values).engine.lastRefusal = s.engine.lastRefusal ∧ (s.queuePart station service k n
    values).engine.seatRetries = s.engine.seatRetries ∧ (s.queuePart station service k n values).engine.zoneRefusals =
    s.engine.zoneRefusals ∧ (s.queuePart station service k n values).engine.fault = s.engine.fault ∧ (s.queuePart
    station service k n values).engine.erector = s.engine.erector ∧ (s.queuePart station service k n
    values).engine.erectorCommand = s.engine.erectorCommand ∧ (s.queuePart station service k n values).console.watch =
    s.console.watch ∧ (s.queuePart station service k n values).console.records = s.console.records := by
  simp [queuePart]

@[simp] theorem startDataReply_fields (station : Station) (service : Service) (values : List Value) (s : State) :
    (s.startDataReply station service values).link.onWire = s.link.onWire ∧ (s.startDataReply station service
    values).link.transmitting = s.link.transmitting ∧ (s.startDataReply station service values).engine.state =
    s.engine.state ∧ (s.startDataReply station service values).engine.seated = s.engine.seated ∧ (s.startDataReply
    station service values).engine.attempt = s.engine.attempt ∧ (s.startDataReply station service
    values).engine.zoneMembers = s.engine.zoneMembers ∧ (s.startDataReply station service values).engine.answered =
    s.engine.answered ∧ (s.startDataReply station service values).engine.retry = s.engine.retry ∧ (s.startDataReply
    station service values).engine.limit = s.engine.limit ∧ (s.startDataReply station service values).engine.stopping
    = s.engine.stopping ∧ (s.startDataReply station service values).engine.placed = s.engine.placed ∧
    (s.startDataReply station service values).engine.lastRefusal = s.engine.lastRefusal ∧ (s.startDataReply station
    service values).engine.seatRetries = s.engine.seatRetries ∧ (s.startDataReply station service
    values).engine.zoneRefusals = s.engine.zoneRefusals ∧ (s.startDataReply station service values).engine.fault =
    s.engine.fault ∧ (s.startDataReply station service values).engine.erector = s.engine.erector ∧ (s.startDataReply
    station service values).engine.erectorCommand = s.engine.erectorCommand ∧ (s.startDataReply station service
    values).console.watch = s.console.watch ∧ (s.startDataReply station service values).console.records =
    s.console.records := by
  simp [startDataReply]

@[simp] theorem nextPart_fields (s : State) :
    s.nextPart.link.onWire = s.link.onWire ∧ s.nextPart.link.transmitting = s.link.transmitting ∧
    s.nextPart.engine.state = s.engine.state ∧ s.nextPart.engine.seated = s.engine.seated ∧ s.nextPart.engine.attempt
    = s.engine.attempt ∧ s.nextPart.engine.zoneMembers = s.engine.zoneMembers ∧ s.nextPart.engine.answered =
    s.engine.answered ∧ s.nextPart.engine.retry = s.engine.retry ∧ s.nextPart.engine.limit = s.engine.limit ∧
    s.nextPart.engine.stopping = s.engine.stopping ∧ s.nextPart.engine.placed = s.engine.placed ∧
    s.nextPart.engine.lastRefusal = s.engine.lastRefusal ∧ s.nextPart.engine.seatRetries = s.engine.seatRetries ∧
    s.nextPart.engine.zoneRefusals = s.engine.zoneRefusals ∧ s.nextPart.engine.fault = s.engine.fault ∧
    s.nextPart.engine.erector = s.engine.erector ∧ s.nextPart.engine.erectorCommand = s.engine.erectorCommand ∧
    s.nextPart.console.watch = s.console.watch ∧ s.nextPart.console.records = s.console.records := by
  unfold nextPart
  (repeat' split) <;> simp

@[simp] theorem readItems_fields (station : Station) (c : ReadClass) (first count : Nat) (s : State) :
    (s.readItems station c first count).link.onWire = s.link.onWire ∧ (s.readItems station c first
    count).link.transmitting = s.link.transmitting ∧ (s.readItems station c first count).engine.state = s.engine.state
    ∧ (s.readItems station c first count).engine.seated = s.engine.seated ∧ (s.readItems station c first
    count).engine.attempt = s.engine.attempt ∧ (s.readItems station c first count).engine.zoneMembers =
    s.engine.zoneMembers ∧ (s.readItems station c first count).engine.answered = s.engine.answered ∧ (s.readItems
    station c first count).engine.retry = s.engine.retry ∧ (s.readItems station c first count).engine.limit =
    s.engine.limit ∧ (s.readItems station c first count).engine.stopping = s.engine.stopping ∧ (s.readItems station c
    first count).engine.placed = s.engine.placed ∧ (s.readItems station c first count).engine.lastRefusal =
    s.engine.lastRefusal ∧ (s.readItems station c first count).engine.seatRetries = s.engine.seatRetries ∧
    (s.readItems station c first count).engine.zoneRefusals = s.engine.zoneRefusals ∧ (s.readItems station c first
    count).engine.fault = s.engine.fault ∧ (s.readItems station c first count).engine.erector = s.engine.erector ∧
    (s.readItems station c first count).engine.erectorCommand = s.engine.erectorCommand ∧ (s.readItems station c first
    count).console.watch = s.console.watch ∧ (s.readItems station c first count).console.records = s.console.records := by
  unfold readItems
  (repeat' split) <;> simp

@[simp] theorem serveRead_fields  (station : Station) (addressed : Bool) (args : List Byte) (s : State) :
    (s.serveRead station addressed args).link.onWire = s.link.onWire ∧ (s.serveRead station addressed
    args).link.transmitting = s.link.transmitting ∧ (s.serveRead station addressed args).engine.state = s.engine.state
    ∧ (s.serveRead station addressed args).engine.seated = s.engine.seated ∧ (s.serveRead station addressed
    args).engine.attempt = s.engine.attempt ∧ (s.serveRead station addressed args).engine.zoneMembers =
    s.engine.zoneMembers ∧ (s.serveRead station addressed args).engine.answered = s.engine.answered ∧ (s.serveRead
    station addressed args).engine.retry = s.engine.retry ∧ (s.serveRead station addressed args).engine.limit =
    s.engine.limit ∧ (s.serveRead station addressed args).engine.stopping = s.engine.stopping ∧ (s.serveRead station
    addressed args).engine.placed = s.engine.placed ∧ (s.serveRead station addressed args).engine.lastRefusal =
    s.engine.lastRefusal ∧ (s.serveRead station addressed args).engine.seatRetries = s.engine.seatRetries ∧
    (s.serveRead station addressed args).engine.zoneRefusals = s.engine.zoneRefusals ∧ (s.serveRead station addressed
    args).engine.fault = s.engine.fault ∧ (s.serveRead station addressed args).engine.erector = s.engine.erector ∧
    (s.serveRead station addressed args).engine.erectorCommand = s.engine.erectorCommand ∧ (s.serveRead station
    addressed args).console.watch = s.console.watch ∧ (s.serveRead station addressed args).console.records =
    s.console.records := by
  simp only [serveRead]
  (repeat' split) <;> simp

@[simp] theorem serveWatchSet_fields  (station : Station) (addressed : Bool) (args : List Byte) (s : State) :
    (s.serveWatchSet station addressed args).link.onWire = s.link.onWire ∧ (s.serveWatchSet station addressed
    args).link.transmitting = s.link.transmitting ∧ (s.serveWatchSet station addressed args).engine.state =
    s.engine.state ∧ (s.serveWatchSet station addressed args).engine.seated = s.engine.seated ∧ (s.serveWatchSet
    station addressed args).engine.attempt = s.engine.attempt ∧ (s.serveWatchSet station addressed
    args).engine.zoneMembers = s.engine.zoneMembers ∧ (s.serveWatchSet station addressed args).engine.answered =
    s.engine.answered ∧ (s.serveWatchSet station addressed args).engine.retry = s.engine.retry ∧ (s.serveWatchSet
    station addressed args).engine.limit = s.engine.limit ∧ (s.serveWatchSet station addressed args).engine.stopping =
    s.engine.stopping ∧ (s.serveWatchSet station addressed args).engine.placed = s.engine.placed ∧ (s.serveWatchSet
    station addressed args).engine.lastRefusal = s.engine.lastRefusal ∧ (s.serveWatchSet station addressed
    args).engine.seatRetries = s.engine.seatRetries ∧ (s.serveWatchSet station addressed args).engine.zoneRefusals =
    s.engine.zoneRefusals ∧ (s.serveWatchSet station addressed args).engine.fault = s.engine.fault ∧ (s.serveWatchSet
    station addressed args).engine.erector = s.engine.erector ∧ (s.serveWatchSet station addressed
    args).engine.erectorCommand = s.engine.erectorCommand ∧ (s.serveWatchSet station addressed args).console.records =
    s.console.records := by
  simp only [serveWatchSet]
  (repeat' split) <;> simp

@[simp] theorem serveWatchRead_fields  (station : Station) (addressed : Bool) (args : List Byte) (s : State) :
    (s.serveWatchRead station addressed args).link.onWire = s.link.onWire ∧ (s.serveWatchRead station addressed
    args).link.transmitting = s.link.transmitting ∧ (s.serveWatchRead station addressed args).engine.state =
    s.engine.state ∧ (s.serveWatchRead station addressed args).engine.seated = s.engine.seated ∧ (s.serveWatchRead
    station addressed args).engine.attempt = s.engine.attempt ∧ (s.serveWatchRead station addressed
    args).engine.zoneMembers = s.engine.zoneMembers ∧ (s.serveWatchRead station addressed args).engine.answered =
    s.engine.answered ∧ (s.serveWatchRead station addressed args).engine.retry = s.engine.retry ∧ (s.serveWatchRead
    station addressed args).engine.limit = s.engine.limit ∧ (s.serveWatchRead station addressed args).engine.stopping
    = s.engine.stopping ∧ (s.serveWatchRead station addressed args).engine.placed = s.engine.placed ∧
    (s.serveWatchRead station addressed args).engine.lastRefusal = s.engine.lastRefusal ∧ (s.serveWatchRead station
    addressed args).engine.seatRetries = s.engine.seatRetries ∧ (s.serveWatchRead station addressed
    args).engine.zoneRefusals = s.engine.zoneRefusals ∧ (s.serveWatchRead station addressed args).engine.fault =
    s.engine.fault ∧ (s.serveWatchRead station addressed args).engine.erector = s.engine.erector ∧ (s.serveWatchRead
    station addressed args).engine.erectorCommand = s.engine.erectorCommand ∧ (s.serveWatchRead station addressed
    args).console.watch = s.console.watch ∧ (s.serveWatchRead station addressed args).console.records =
    s.console.records := by
  simp only [serveWatchRead]
  (repeat' split) <;> simp

@[simp] theorem serveNotices_fields  (station : Station) (addressed : Bool) (args : List Byte) (s : State) :
    (s.serveNotices station addressed args).link.onWire = s.link.onWire ∧ (s.serveNotices station addressed
    args).link.transmitting = s.link.transmitting ∧ (s.serveNotices station addressed args).engine.state =
    s.engine.state ∧ (s.serveNotices station addressed args).engine.seated = s.engine.seated ∧ (s.serveNotices station
    addressed args).engine.attempt = s.engine.attempt ∧ (s.serveNotices station addressed args).engine.zoneMembers =
    s.engine.zoneMembers ∧ (s.serveNotices station addressed args).engine.answered = s.engine.answered ∧
    (s.serveNotices station addressed args).engine.retry = s.engine.retry ∧ (s.serveNotices station addressed
    args).engine.limit = s.engine.limit ∧ (s.serveNotices station addressed args).engine.stopping = s.engine.stopping
    ∧ (s.serveNotices station addressed args).engine.placed = s.engine.placed ∧ (s.serveNotices station addressed
    args).engine.lastRefusal = s.engine.lastRefusal ∧ (s.serveNotices station addressed args).engine.seatRetries =
    s.engine.seatRetries ∧ (s.serveNotices station addressed args).engine.zoneRefusals = s.engine.zoneRefusals ∧
    (s.serveNotices station addressed args).engine.fault = s.engine.fault ∧ (s.serveNotices station addressed
    args).engine.erector = s.engine.erector ∧ (s.serveNotices station addressed args).engine.erectorCommand =
    s.engine.erectorCommand ∧ (s.serveNotices station addressed args).console.watch = s.console.watch ∧
    (s.serveNotices station addressed args).console.records = s.console.records := by
  simp only [serveNotices]
  (repeat' split) <;> simp

@[simp] theorem serveEcho_fields  (station : Station) (addressed : Bool) (args : List Byte) (s : State) :
    (s.serveEcho station addressed args).link.onWire = s.link.onWire ∧ (s.serveEcho station addressed
    args).link.transmitting = s.link.transmitting ∧ (s.serveEcho station addressed args).engine.state = s.engine.state
    ∧ (s.serveEcho station addressed args).engine.seated = s.engine.seated ∧ (s.serveEcho station addressed
    args).engine.attempt = s.engine.attempt ∧ (s.serveEcho station addressed args).engine.zoneMembers =
    s.engine.zoneMembers ∧ (s.serveEcho station addressed args).engine.answered = s.engine.answered ∧ (s.serveEcho
    station addressed args).engine.retry = s.engine.retry ∧ (s.serveEcho station addressed args).engine.limit =
    s.engine.limit ∧ (s.serveEcho station addressed args).engine.stopping = s.engine.stopping ∧ (s.serveEcho station
    addressed args).engine.placed = s.engine.placed ∧ (s.serveEcho station addressed args).engine.lastRefusal =
    s.engine.lastRefusal ∧ (s.serveEcho station addressed args).engine.seatRetries = s.engine.seatRetries ∧
    (s.serveEcho station addressed args).engine.zoneRefusals = s.engine.zoneRefusals ∧ (s.serveEcho station addressed
    args).engine.fault = s.engine.fault ∧ (s.serveEcho station addressed args).engine.erector = s.engine.erector ∧
    (s.serveEcho station addressed args).engine.erectorCommand = s.engine.erectorCommand ∧ (s.serveEcho station
    addressed args).console.watch = s.console.watch ∧ (s.serveEcho station addressed args).console.records =
    s.console.records := by
  simp only [serveEcho]
  (repeat' split) <;> simp

@[simp] theorem serveUnknown_fields (service : Byte) (station : Station) (addressed : Bool) (args : List Byte) (s :
State) :
    (s.serveUnknown service station addressed args).link.onWire = s.link.onWire ∧ (s.serveUnknown service station
    addressed args).link.transmitting = s.link.transmitting ∧ (s.serveUnknown service station addressed
    args).engine.state = s.engine.state ∧ (s.serveUnknown service station addressed args).engine.seated =
    s.engine.seated ∧ (s.serveUnknown service station addressed args).engine.attempt = s.engine.attempt ∧
    (s.serveUnknown service station addressed args).engine.zoneMembers = s.engine.zoneMembers ∧ (s.serveUnknown
    service station addressed args).engine.answered = s.engine.answered ∧ (s.serveUnknown service station addressed
    args).engine.retry = s.engine.retry ∧ (s.serveUnknown service station addressed args).engine.limit =
    s.engine.limit ∧ (s.serveUnknown service station addressed args).engine.stopping = s.engine.stopping ∧
    (s.serveUnknown service station addressed args).engine.placed = s.engine.placed ∧ (s.serveUnknown service station
    addressed args).engine.lastRefusal = s.engine.lastRefusal ∧ (s.serveUnknown service station addressed
    args).engine.seatRetries = s.engine.seatRetries ∧ (s.serveUnknown service station addressed
    args).engine.zoneRefusals = s.engine.zoneRefusals ∧ (s.serveUnknown service station addressed args).engine.fault =
    s.engine.fault ∧ (s.serveUnknown service station addressed args).engine.erector = s.engine.erector ∧
    (s.serveUnknown service station addressed args).engine.erectorCommand = s.engine.erectorCommand ∧ (s.serveUnknown
    service station addressed args).console.watch = s.console.watch ∧ (s.serveUnknown service station addressed
    args).console.records = s.console.records := by
  simp only [serveUnknown]
  simp

end Sys2Proof.Machine.State
end

