-- ==== Sys2Proof/Laws/ConfigurationFields.lean ====
section
/-! SUPPORT. For each operation of Machine/Configuration.lean, the fields it leaves as they are in the parts of State it may change. -/

namespace Sys2Proof.Machine.State

@[simp] theorem rejectCollection_fields (r : Rejection) (s : State) :
    (s.rejectCollection r).node.number = s.node.number ∧ (s.rejectCollection r).node.state = s.node.state ∧
    (s.rejectCollection r).node.cause = s.node.cause ∧ (s.rejectCollection r).node.furtherFaults =
    s.node.furtherFaults ∧ (s.rejectCollection r).node.config = s.node.config ∧ (s.rejectCollection r).node.digest =
    s.node.digest ∧ (s.rejectCollection r).node.firstMembership = s.node.firstMembership ∧ (s.rejectCollection
    r).node.listen = s.node.listen ∧ (s.rejectCollection r).console.watch = s.console.watch ∧ (s.rejectCollection
    r).console.counters = s.console.counters ∧ (s.rejectCollection r).console.dataReply = s.console.dataReply ∧
    (s.rejectCollection r).console.records = s.console.records := by
  simp [rejectCollection]

@[simp] theorem buildEngine_fields (s : State) :
    s.buildEngine.link.transmitting = s.link.transmitting ∧ s.buildEngine.node.number = s.node.number ∧
    s.buildEngine.node.config = s.node.config ∧ s.buildEngine.node.digest = s.node.digest ∧
    s.buildEngine.node.lastRejection = s.node.lastRejection ∧ s.buildEngine.node.firstMembership =
    s.node.firstMembership ∧ s.buildEngine.machine.previous = s.machine.previous ∧ s.buildEngine.machine.view =
    s.machine.view ∧ s.buildEngine.machine.ring = s.machine.ring ∧ s.buildEngine.machine.beaconTimer =
    s.machine.beaconTimer ∧ s.buildEngine.thrust.sectorAdvance = s.thrust.sectorAdvance ∧
    s.buildEngine.thrust.credited = s.thrust.credited ∧ s.buildEngine.thrust.setpoint = s.thrust.setpoint ∧
    s.buildEngine.thrust.strokeReached = s.thrust.strokeReached ∧ s.buildEngine.thrust.restraints =
    s.thrust.restraints ∧ s.buildEngine.drive.setpoint = s.drive.setpoint ∧ s.buildEngine.drive.guard = s.drive.guard
    ∧ s.buildEngine.grout.ports = s.grout.ports ∧ s.buildEngine.grout.restrained = s.grout.restrained ∧
    s.buildEngine.muck.faceRestrained = s.muck.faceRestrained ∧ s.buildEngine.muck.faceLow = s.muck.faceLow ∧
    s.buildEngine.muck.queue = s.muck.queue ∧ s.buildEngine.muck.lastIndexed = s.muck.lastIndexed ∧
    s.buildEngine.muck.muckRestrained = s.muck.muckRestrained ∧ s.buildEngine.muck.spill = s.muck.spill ∧
    s.buildEngine.muck.weighed = s.muck.weighed ∧ s.buildEngine.muck.carried = s.muck.carried ∧
    s.buildEngine.muck.uncarried = s.muck.uncarried ∧ s.buildEngine.muck.excused = s.muck.excused ∧
    s.buildEngine.muck.indexed = s.muck.indexed ∧ s.buildEngine.muck.machineAdvance = s.muck.machineAdvance ∧
    s.buildEngine.muck.overdig = s.muck.overdig ∧ s.buildEngine.console.watch = s.console.watch ∧
    s.buildEngine.console.records = s.console.records := by
  unfold buildEngine
  dsimp only
  (repeat' split) <;> simp

@[simp] theorem buildMuck_fields (s : State) :
    s.buildMuck.link.transmitting = s.link.transmitting ∧ s.buildMuck.node.number = s.node.number ∧
    s.buildMuck.node.config = s.node.config ∧ s.buildMuck.node.digest = s.node.digest ∧ s.buildMuck.node.lastRejection
    = s.node.lastRejection ∧ s.buildMuck.node.firstMembership = s.node.firstMembership ∧ s.buildMuck.machine.previous
    = s.machine.previous ∧ s.buildMuck.machine.view = s.machine.view ∧ s.buildMuck.machine.ring = s.machine.ring ∧
    s.buildMuck.machine.beaconTimer = s.machine.beaconTimer ∧ s.buildMuck.thrust.sectorAdvance =
    s.thrust.sectorAdvance ∧ s.buildMuck.thrust.credited = s.thrust.credited ∧ s.buildMuck.thrust.setpoint =
    s.thrust.setpoint ∧ s.buildMuck.thrust.strokeReached = s.thrust.strokeReached ∧ s.buildMuck.drive.setpoint =
    s.drive.setpoint ∧ s.buildMuck.drive.guard = s.drive.guard ∧ s.buildMuck.plans.opened = s.plans.opened ∧
    s.buildMuck.engine.attempt = s.engine.attempt ∧ s.buildMuck.engine.placed = s.engine.placed ∧
    s.buildMuck.engine.lastRefusal = s.engine.lastRefusal ∧ s.buildMuck.engine.seatRetries = s.engine.seatRetries ∧
    s.buildMuck.engine.zoneRefusals = s.engine.zoneRefusals ∧ s.buildMuck.engine.fault = s.engine.fault ∧
    s.buildMuck.grout.ports = s.grout.ports ∧ s.buildMuck.grout.restrained = s.grout.restrained ∧
    s.buildMuck.console.watch = s.console.watch ∧ s.buildMuck.console.records = s.console.records := by
  unfold buildMuck
  dsimp only
  (repeat' split) <;> simp

@[simp] theorem buildUnits_fields (s : State) :
    s.buildUnits.link.transmitting = s.link.transmitting ∧ s.buildUnits.node.number = s.node.number ∧
    s.buildUnits.node.config = s.node.config ∧ s.buildUnits.node.digest = s.node.digest ∧
    s.buildUnits.node.lastRejection = s.node.lastRejection ∧ s.buildUnits.node.firstMembership =
    s.node.firstMembership ∧ s.buildUnits.machine.previous = s.machine.previous ∧ s.buildUnits.machine.view =
    s.machine.view ∧ s.buildUnits.machine.ring = s.machine.ring ∧ s.buildUnits.machine.beaconTimer =
    s.machine.beaconTimer ∧ s.buildUnits.thrust.sectorAdvance = s.thrust.sectorAdvance ∧ s.buildUnits.thrust.credited
    = s.thrust.credited ∧ s.buildUnits.thrust.setpoint = s.thrust.setpoint ∧ s.buildUnits.thrust.strokeReached =
    s.thrust.strokeReached ∧ s.buildUnits.drive.setpoint = s.drive.setpoint ∧ s.buildUnits.console.watch =
    s.console.watch ∧ s.buildUnits.console.records = s.console.records := by
  simp [buildUnits]

@[simp] theorem enterJoining_fields (s : State) :
    s.enterJoining.link.onWire = s.link.onWire ∧ s.enterJoining.link.transmitting = s.link.transmitting ∧
    s.enterJoining.node.number = s.node.number ∧ s.enterJoining.node.cause = s.node.cause ∧
    s.enterJoining.node.furtherFaults = s.node.furtherFaults ∧ s.enterJoining.node.config = s.node.config ∧
    s.enterJoining.node.digest = s.node.digest ∧ s.enterJoining.node.collection = s.node.collection ∧
    s.enterJoining.node.lastRejection = s.node.lastRejection ∧ s.enterJoining.node.firstMembership =
    s.node.firstMembership ∧ s.enterJoining.machine.phase = s.machine.phase ∧ s.enterJoining.machine.current =
    s.machine.current ∧ s.enterJoining.machine.previous = s.machine.previous ∧ s.enterJoining.machine.round =
    s.machine.round ∧ s.enterJoining.machine.lastFailure = s.machine.lastFailure ∧ s.enterJoining.machine.view =
    s.machine.view ∧ s.enterJoining.machine.ring = s.machine.ring ∧ s.enterJoining.engine.state = s.engine.state ∧
    s.enterJoining.engine.seated = s.engine.seated ∧ s.enterJoining.engine.attempt = s.engine.attempt ∧
    s.enterJoining.engine.zoneMembers = s.engine.zoneMembers ∧ s.enterJoining.engine.answered = s.engine.answered ∧
    s.enterJoining.engine.retry = s.engine.retry ∧ s.enterJoining.engine.limit = s.engine.limit ∧
    s.enterJoining.engine.stopping = s.engine.stopping ∧ s.enterJoining.engine.placed = s.engine.placed ∧
    s.enterJoining.engine.lastRefusal = s.engine.lastRefusal ∧ s.enterJoining.engine.seatRetries =
    s.engine.seatRetries ∧ s.enterJoining.engine.zoneRefusals = s.engine.zoneRefusals ∧ s.enterJoining.engine.fault =
    s.engine.fault ∧ s.enterJoining.engine.erector = s.engine.erector ∧ s.enterJoining.engine.erectorCommand =
    s.engine.erectorCommand ∧ s.enterJoining.console.watch = s.console.watch ∧ s.enterJoining.console.records =
    s.console.records := by
  simp [enterJoining]

@[simp] theorem storeConfiguration_fields (c : Configuration) (digest : Half) (s : State) :
    (s.storeConfiguration c digest).link.transmitting = s.link.transmitting ∧ (s.storeConfiguration c
    digest).node.number = s.node.number ∧ (s.storeConfiguration c digest).node.lastRejection = s.node.lastRejection ∧
    (s.storeConfiguration c digest).node.firstMembership = s.node.firstMembership ∧ (s.storeConfiguration c
    digest).machine.previous = s.machine.previous ∧ (s.storeConfiguration c digest).thrust.sectorAdvance =
    s.thrust.sectorAdvance ∧ (s.storeConfiguration c digest).thrust.credited = s.thrust.credited ∧
    (s.storeConfiguration c digest).thrust.setpoint = s.thrust.setpoint ∧ (s.storeConfiguration c
    digest).thrust.strokeReached = s.thrust.strokeReached ∧ (s.storeConfiguration c digest).drive.setpoint =
    s.drive.setpoint ∧ (s.storeConfiguration c digest).console.watch = s.console.watch ∧ (s.storeConfiguration c
    digest).console.records = s.console.records := by
  simp [storeConfiguration]

@[simp] theorem validate_fields (count : Nat) (parts : List (List Byte)) (s : State) :
    (s.validate count parts).link.transmitting = s.link.transmitting ∧ (s.validate count parts).node.number =
    s.node.number ∧ (s.validate count parts).node.firstMembership = s.node.firstMembership ∧ (s.validate count
    parts).machine.previous = s.machine.previous ∧ (s.validate count parts).thrust.sectorAdvance =
    s.thrust.sectorAdvance ∧ (s.validate count parts).thrust.credited = s.thrust.credited ∧ (s.validate count
    parts).thrust.setpoint = s.thrust.setpoint ∧ (s.validate count parts).thrust.strokeReached =
    s.thrust.strokeReached ∧ (s.validate count parts).drive.setpoint = s.drive.setpoint ∧ (s.validate count
    parts).console.watch = s.console.watch ∧ (s.validate count parts).console.records = s.console.records := by
  unfold validate
  (repeat' split) <;> simp

@[simp] theorem partOutOfTurn_fields (s : State) :
    s.partOutOfTurn.node.number = s.node.number ∧ s.partOutOfTurn.node.state = s.node.state ∧
    s.partOutOfTurn.node.cause = s.node.cause ∧ s.partOutOfTurn.node.furtherFaults = s.node.furtherFaults ∧
    s.partOutOfTurn.node.config = s.node.config ∧ s.partOutOfTurn.node.digest = s.node.digest ∧
    s.partOutOfTurn.node.lastRejection = s.node.lastRejection ∧ s.partOutOfTurn.node.firstMembership =
    s.node.firstMembership ∧ s.partOutOfTurn.node.listen = s.node.listen ∧ s.partOutOfTurn.console.watch =
    s.console.watch ∧ s.partOutOfTurn.console.counters = s.console.counters ∧ s.partOutOfTurn.console.dataReply =
    s.console.dataReply ∧ s.partOutOfTurn.console.records = s.console.records := by
  simp [partOutOfTurn]

@[simp] theorem holdPart_fields (sender : Station) (count : Nat) (parts : List (List Byte)) (s : State) :
    (s.holdPart sender count parts).link.transmitting = s.link.transmitting ∧ (s.holdPart sender count
    parts).node.number = s.node.number ∧ (s.holdPart sender count parts).node.firstMembership = s.node.firstMembership
    ∧ (s.holdPart sender count parts).machine.previous = s.machine.previous ∧ (s.holdPart sender count
    parts).thrust.sectorAdvance = s.thrust.sectorAdvance ∧ (s.holdPart sender count parts).thrust.credited =
    s.thrust.credited ∧ (s.holdPart sender count parts).thrust.setpoint = s.thrust.setpoint ∧ (s.holdPart sender count
    parts).thrust.strokeReached = s.thrust.strokeReached ∧ (s.holdPart sender count parts).drive.setpoint =
    s.drive.setpoint ∧ (s.holdPart sender count parts).console.watch = s.console.watch ∧ (s.holdPart sender count
    parts).console.records = s.console.records := by
  unfold holdPart
  split <;> simp

@[simp] theorem takePart_fields (sender : Station) (k n : Nat) (content : List Byte) (s : State) :
    (s.takePart sender k n content).link.transmitting = s.link.transmitting ∧ (s.takePart sender k n
    content).node.number = s.node.number ∧ (s.takePart sender k n content).node.firstMembership =
    s.node.firstMembership ∧ (s.takePart sender k n content).machine.previous = s.machine.previous ∧ (s.takePart
    sender k n content).thrust.sectorAdvance = s.thrust.sectorAdvance ∧ (s.takePart sender k n
    content).thrust.credited = s.thrust.credited ∧ (s.takePart sender k n content).thrust.setpoint = s.thrust.setpoint
    ∧ (s.takePart sender k n content).thrust.strokeReached = s.thrust.strokeReached ∧ (s.takePart sender k n
    content).drive.setpoint = s.drive.setpoint ∧ (s.takePart sender k n content).console.watch = s.console.watch ∧
    (s.takePart sender k n content).console.records = s.console.records := by
  unfold takePart
  (repeat' split) <;> simp

@[simp] theorem takeConfigure_fields (sender : Station) (payload : List Byte) (s : State) :
    (s.takeConfigure sender payload).link.transmitting = s.link.transmitting ∧ (s.takeConfigure sender
    payload).node.number = s.node.number ∧ (s.takeConfigure sender payload).node.firstMembership =
    s.node.firstMembership ∧ (s.takeConfigure sender payload).machine.previous = s.machine.previous ∧ (s.takeConfigure
    sender payload).thrust.sectorAdvance = s.thrust.sectorAdvance ∧ (s.takeConfigure sender payload).thrust.credited =
    s.thrust.credited ∧ (s.takeConfigure sender payload).thrust.setpoint = s.thrust.setpoint ∧ (s.takeConfigure sender
    payload).thrust.strokeReached = s.thrust.strokeReached ∧ (s.takeConfigure sender payload).drive.setpoint =
    s.drive.setpoint ∧ (s.takeConfigure sender payload).console.watch = s.console.watch ∧ (s.takeConfigure sender
    payload).console.records = s.console.records := by
  unfold takeConfigure
  (repeat' split) <;> simp

@[simp] theorem restartLink_fields (s : State) :
    s.restartLink.link.nextAge = s.link.nextAge ∧ s.restartLink.engine.state = s.engine.state ∧
    s.restartLink.engine.seated = s.engine.seated ∧ s.restartLink.engine.attempt = s.engine.attempt ∧
    s.restartLink.engine.zoneMembers = s.engine.zoneMembers ∧ s.restartLink.engine.answered = s.engine.answered ∧
    s.restartLink.engine.retry = s.engine.retry ∧ s.restartLink.engine.limit = s.engine.limit ∧
    s.restartLink.engine.stopping = s.engine.stopping ∧ s.restartLink.engine.placed = s.engine.placed ∧
    s.restartLink.engine.lastRefusal = s.engine.lastRefusal ∧ s.restartLink.engine.seatRetries = s.engine.seatRetries
    ∧ s.restartLink.engine.zoneRefusals = s.engine.zoneRefusals ∧ s.restartLink.engine.fault = s.engine.fault ∧
    s.restartLink.engine.erector = s.engine.erector ∧ s.restartLink.engine.erectorCommand = s.engine.erectorCommand ∧
    s.restartLink.console.watch = s.console.watch ∧ s.restartLink.console.notices = s.console.notices ∧
    s.restartLink.console.counters = s.console.counters ∧ s.restartLink.console.records = s.console.records := by
  simp [restartLink]

@[simp] theorem restartEngine_fields (s : State) :
    s.restartEngine.engine.attempt = s.engine.attempt ∧ s.restartEngine.engine.requeue = s.engine.requeue ∧
    s.restartEngine.engine.placed = s.engine.placed ∧ s.restartEngine.engine.lastRefusal = s.engine.lastRefusal ∧
    s.restartEngine.engine.seatRetries = s.engine.seatRetries ∧ s.restartEngine.engine.zoneRefusals =
    s.engine.zoneRefusals ∧ s.restartEngine.engine.fault = s.engine.fault ∧ s.restartEngine.engine.erector =
    s.engine.erector ∧ s.restartEngine.engine.erectorCommand = s.engine.erectorCommand := by
  unfold restartEngine
  split <;> simp

@[simp] theorem clearPump_fields (s : State) :
    s.clearPump.grout.ports = s.grout.ports ∧ s.clearPump.grout.pointer = s.grout.pointer ∧ s.clearPump.grout.dose =
    s.grout.dose ∧ s.clearPump.grout.restrained = s.grout.restrained := by
  unfold clearPump
  split <;> simp

@[simp] theorem restartUnits_fields (s : State) :
    s.restartUnits.thrust.sectorAdvance = s.thrust.sectorAdvance ∧ s.restartUnits.thrust.credited = s.thrust.credited
    ∧ s.restartUnits.thrust.setpoint = s.thrust.setpoint ∧ s.restartUnits.thrust.strokeReached =
    s.thrust.strokeReached ∧ s.restartUnits.thrust.restraints = s.thrust.restraints ∧ s.restartUnits.drive.drives =
    s.drive.drives ∧ s.restartUnits.drive.setpoint = s.drive.setpoint ∧ s.restartUnits.engine.attempt =
    s.engine.attempt ∧ s.restartUnits.engine.requeue = s.engine.requeue ∧ s.restartUnits.engine.placed =
    s.engine.placed ∧ s.restartUnits.engine.lastRefusal = s.engine.lastRefusal ∧ s.restartUnits.engine.seatRetries =
    s.engine.seatRetries ∧ s.restartUnits.engine.zoneRefusals = s.engine.zoneRefusals ∧ s.restartUnits.engine.fault =
    s.engine.fault ∧ s.restartUnits.engine.erector = s.engine.erector ∧ s.restartUnits.engine.erectorCommand =
    s.engine.erectorCommand ∧ s.restartUnits.grout.ports = s.grout.ports ∧ s.restartUnits.grout.restrained =
    s.grout.restrained ∧ s.restartUnits.console.notices = s.console.notices ∧ s.restartUnits.console.counters =
    s.console.counters ∧ s.restartUnits.console.dataReply = s.console.dataReply ∧ s.restartUnits.console.records =
    s.console.records := by
  simp [restartUnits]

@[simp] theorem warmRestart_fields (s : State) :
    s.warmRestart.node.number = s.node.number ∧ s.warmRestart.node.config = s.node.config ∧ s.warmRestart.node.digest
    = s.node.digest ∧ s.warmRestart.node.collection = s.node.collection ∧ s.warmRestart.node.lastRejection =
    s.node.lastRejection ∧ s.warmRestart.node.firstMembership = s.node.firstMembership ∧
    s.warmRestart.machine.previous = s.machine.previous ∧ s.warmRestart.machine.ring = s.machine.ring ∧
    s.warmRestart.thrust.sectorAdvance = s.thrust.sectorAdvance ∧ s.warmRestart.thrust.credited = s.thrust.credited ∧
    s.warmRestart.thrust.setpoint = s.thrust.setpoint ∧ s.warmRestart.thrust.strokeReached = s.thrust.strokeReached ∧
    s.warmRestart.drive.setpoint = s.drive.setpoint ∧ s.warmRestart.engine.attempt = s.engine.attempt ∧
    s.warmRestart.engine.placed = s.engine.placed ∧ s.warmRestart.engine.lastRefusal = s.engine.lastRefusal ∧
    s.warmRestart.engine.seatRetries = s.engine.seatRetries ∧ s.warmRestart.engine.zoneRefusals =
    s.engine.zoneRefusals ∧ s.warmRestart.engine.fault = s.engine.fault ∧ s.warmRestart.grout.ports = s.grout.ports ∧
    s.warmRestart.grout.restrained = s.grout.restrained ∧ s.warmRestart.muck.faceRestrained = s.muck.faceRestrained ∧
    s.warmRestart.muck.faceLow = s.muck.faceLow ∧ s.warmRestart.muck.queue = s.muck.queue ∧
    s.warmRestart.muck.lastIndexed = s.muck.lastIndexed ∧ s.warmRestart.muck.muckRestrained = s.muck.muckRestrained ∧
    s.warmRestart.muck.spill = s.muck.spill ∧ s.warmRestart.muck.weighed = s.muck.weighed ∧ s.warmRestart.muck.carried
    = s.muck.carried ∧ s.warmRestart.muck.uncarried = s.muck.uncarried ∧ s.warmRestart.muck.excused = s.muck.excused ∧
    s.warmRestart.muck.indexed = s.muck.indexed ∧ s.warmRestart.channels.cylinders = s.channels.cylinders ∧
    s.warmRestart.channels.drives = s.channels.drives ∧ s.warmRestart.channels.linePressure = s.channels.linePressure
    ∧ s.warmRestart.channels.screwFault = s.channels.screwFault ∧ s.warmRestart.channels.face = s.channels.face ∧
    s.warmRestart.channels.erectorFault = s.channels.erectorFault ∧ s.warmRestart.console.records = s.console.records := by
  simp [warmRestart]

@[simp] theorem takeRestart_fields (s : State) :
    s.takeRestart.node.number = s.node.number ∧ s.takeRestart.node.config = s.node.config ∧ s.takeRestart.node.digest
    = s.node.digest ∧ s.takeRestart.node.collection = s.node.collection ∧ s.takeRestart.node.lastRejection =
    s.node.lastRejection ∧ s.takeRestart.node.firstMembership = s.node.firstMembership ∧
    s.takeRestart.machine.previous = s.machine.previous ∧ s.takeRestart.machine.ring = s.machine.ring ∧
    s.takeRestart.thrust.sectorAdvance = s.thrust.sectorAdvance ∧ s.takeRestart.thrust.credited = s.thrust.credited ∧
    s.takeRestart.thrust.setpoint = s.thrust.setpoint ∧ s.takeRestart.thrust.strokeReached = s.thrust.strokeReached ∧
    s.takeRestart.drive.setpoint = s.drive.setpoint ∧ s.takeRestart.engine.attempt = s.engine.attempt ∧
    s.takeRestart.engine.placed = s.engine.placed ∧ s.takeRestart.engine.lastRefusal = s.engine.lastRefusal ∧
    s.takeRestart.engine.seatRetries = s.engine.seatRetries ∧ s.takeRestart.engine.zoneRefusals =
    s.engine.zoneRefusals ∧ s.takeRestart.engine.fault = s.engine.fault ∧ s.takeRestart.grout.ports = s.grout.ports ∧
    s.takeRestart.grout.restrained = s.grout.restrained ∧ s.takeRestart.muck.faceRestrained = s.muck.faceRestrained ∧
    s.takeRestart.muck.faceLow = s.muck.faceLow ∧ s.takeRestart.muck.queue = s.muck.queue ∧
    s.takeRestart.muck.lastIndexed = s.muck.lastIndexed ∧ s.takeRestart.muck.muckRestrained = s.muck.muckRestrained ∧
    s.takeRestart.muck.spill = s.muck.spill ∧ s.takeRestart.muck.weighed = s.muck.weighed ∧ s.takeRestart.muck.carried
    = s.muck.carried ∧ s.takeRestart.muck.uncarried = s.muck.uncarried ∧ s.takeRestart.muck.excused = s.muck.excused ∧
    s.takeRestart.muck.indexed = s.muck.indexed ∧ s.takeRestart.channels.cylinders = s.channels.cylinders ∧
    s.takeRestart.channels.drives = s.channels.drives ∧ s.takeRestart.channels.linePressure = s.channels.linePressure
    ∧ s.takeRestart.channels.screwFault = s.channels.screwFault ∧ s.takeRestart.channels.face = s.channels.face ∧
    s.takeRestart.channels.erectorFault = s.channels.erectorFault ∧ s.takeRestart.console.records = s.console.records := by
  unfold takeRestart
  split <;> simp

@[simp] theorem releaseErector_fields (s : State) :
    s.releaseErector.link.transmitting = s.link.transmitting ∧ s.releaseErector.node.number = s.node.number ∧
    s.releaseErector.node.config = s.node.config ∧ s.releaseErector.node.digest = s.node.digest ∧
    s.releaseErector.node.lastRejection = s.node.lastRejection ∧ s.releaseErector.node.firstMembership =
    s.node.firstMembership ∧ s.releaseErector.machine.previous = s.machine.previous ∧ s.releaseErector.machine.view =
    s.machine.view ∧ s.releaseErector.machine.ring = s.machine.ring ∧ s.releaseErector.machine.beaconTimer =
    s.machine.beaconTimer ∧ s.releaseErector.thrust.sectorAdvance = s.thrust.sectorAdvance ∧
    s.releaseErector.thrust.credited = s.thrust.credited ∧ s.releaseErector.thrust.setpoint = s.thrust.setpoint ∧
    s.releaseErector.thrust.strokeReached = s.thrust.strokeReached ∧ s.releaseErector.thrust.restraints =
    s.thrust.restraints ∧ s.releaseErector.drive.setpoint = s.drive.setpoint ∧ s.releaseErector.drive.guard =
    s.drive.guard ∧ s.releaseErector.plans.opened = s.plans.opened ∧ s.releaseErector.engine.attempt =
    s.engine.attempt ∧ s.releaseErector.engine.placed = s.engine.placed ∧ s.releaseErector.engine.lastRefusal =
    s.engine.lastRefusal ∧ s.releaseErector.engine.seatRetries = s.engine.seatRetries ∧
    s.releaseErector.engine.zoneRefusals = s.engine.zoneRefusals ∧ s.releaseErector.engine.fault = s.engine.fault ∧
    s.releaseErector.grout.ports = s.grout.ports ∧ s.releaseErector.grout.restrained = s.grout.restrained ∧
    s.releaseErector.muck.faceRestrained = s.muck.faceRestrained ∧ s.releaseErector.muck.faceLow = s.muck.faceLow ∧
    s.releaseErector.muck.queue = s.muck.queue ∧ s.releaseErector.muck.lastIndexed = s.muck.lastIndexed ∧
    s.releaseErector.muck.muckRestrained = s.muck.muckRestrained ∧ s.releaseErector.muck.spill = s.muck.spill ∧
    s.releaseErector.muck.weighed = s.muck.weighed ∧ s.releaseErector.muck.carried = s.muck.carried ∧
    s.releaseErector.muck.uncarried = s.muck.uncarried ∧ s.releaseErector.muck.excused = s.muck.excused ∧
    s.releaseErector.muck.indexed = s.muck.indexed ∧ s.releaseErector.muck.machineAdvance = s.muck.machineAdvance ∧
    s.releaseErector.muck.overdig = s.muck.overdig ∧ s.releaseErector.console.watch = s.console.watch ∧
    s.releaseErector.console.records = s.console.records := by
  unfold releaseErector
  dsimp only
  (repeat' split) <;> simp

@[simp] theorem releaseScrew_fields (s : State) :
    s.releaseScrew.link.transmitting = s.link.transmitting ∧ s.releaseScrew.node.number = s.node.number ∧
    s.releaseScrew.node.config = s.node.config ∧ s.releaseScrew.node.digest = s.node.digest ∧
    s.releaseScrew.node.lastRejection = s.node.lastRejection ∧ s.releaseScrew.node.firstMembership =
    s.node.firstMembership ∧ s.releaseScrew.machine.previous = s.machine.previous ∧ s.releaseScrew.machine.view =
    s.machine.view ∧ s.releaseScrew.machine.ring = s.machine.ring ∧ s.releaseScrew.machine.beaconTimer =
    s.machine.beaconTimer ∧ s.releaseScrew.thrust.sectorAdvance = s.thrust.sectorAdvance ∧
    s.releaseScrew.thrust.credited = s.thrust.credited ∧ s.releaseScrew.thrust.setpoint = s.thrust.setpoint ∧
    s.releaseScrew.thrust.strokeReached = s.thrust.strokeReached ∧ s.releaseScrew.thrust.restraints =
    s.thrust.restraints ∧ s.releaseScrew.drive.setpoint = s.drive.setpoint ∧ s.releaseScrew.drive.guard =
    s.drive.guard ∧ s.releaseScrew.plans.opened = s.plans.opened ∧ s.releaseScrew.engine.attempt = s.engine.attempt ∧
    s.releaseScrew.engine.placed = s.engine.placed ∧ s.releaseScrew.engine.lastRefusal = s.engine.lastRefusal ∧
    s.releaseScrew.engine.seatRetries = s.engine.seatRetries ∧ s.releaseScrew.engine.zoneRefusals =
    s.engine.zoneRefusals ∧ s.releaseScrew.engine.fault = s.engine.fault ∧ s.releaseScrew.grout.ports = s.grout.ports
    ∧ s.releaseScrew.grout.restrained = s.grout.restrained ∧ s.releaseScrew.muck.faceRestrained =
    s.muck.faceRestrained ∧ s.releaseScrew.muck.faceLow = s.muck.faceLow ∧ s.releaseScrew.muck.queue = s.muck.queue ∧
    s.releaseScrew.muck.lastIndexed = s.muck.lastIndexed ∧ s.releaseScrew.muck.muckRestrained = s.muck.muckRestrained
    ∧ s.releaseScrew.muck.spill = s.muck.spill ∧ s.releaseScrew.muck.weighed = s.muck.weighed ∧
    s.releaseScrew.muck.carried = s.muck.carried ∧ s.releaseScrew.muck.uncarried = s.muck.uncarried ∧
    s.releaseScrew.muck.excused = s.muck.excused ∧ s.releaseScrew.muck.indexed = s.muck.indexed ∧
    s.releaseScrew.muck.machineAdvance = s.muck.machineAdvance ∧ s.releaseScrew.muck.overdig = s.muck.overdig ∧
    s.releaseScrew.console.watch = s.console.watch ∧ s.releaseScrew.console.records = s.console.records := by
  unfold releaseScrew
  split <;> simp

@[simp] theorem clearUnits_fields (leavesFaulted : Bool) (s : State) :
    (s.clearUnits leavesFaulted).link.transmitting = s.link.transmitting ∧ (s.clearUnits leavesFaulted).node.number =
    s.node.number ∧ (s.clearUnits leavesFaulted).node.config = s.node.config ∧ (s.clearUnits
    leavesFaulted).node.digest = s.node.digest ∧ (s.clearUnits leavesFaulted).node.lastRejection =
    s.node.lastRejection ∧ (s.clearUnits leavesFaulted).node.firstMembership = s.node.firstMembership ∧ (s.clearUnits
    leavesFaulted).machine.previous = s.machine.previous ∧ (s.clearUnits leavesFaulted).machine.view = s.machine.view
    ∧ (s.clearUnits leavesFaulted).machine.ring = s.machine.ring ∧ (s.clearUnits leavesFaulted).machine.beaconTimer =
    s.machine.beaconTimer ∧ (s.clearUnits leavesFaulted).thrust.sectorAdvance = s.thrust.sectorAdvance ∧ (s.clearUnits
    leavesFaulted).thrust.credited = s.thrust.credited ∧ (s.clearUnits leavesFaulted).thrust.setpoint =
    s.thrust.setpoint ∧ (s.clearUnits leavesFaulted).thrust.strokeReached = s.thrust.strokeReached ∧ (s.clearUnits
    leavesFaulted).thrust.restraints = s.thrust.restraints ∧ (s.clearUnits leavesFaulted).drive.setpoint =
    s.drive.setpoint ∧ (s.clearUnits leavesFaulted).drive.guard = s.drive.guard ∧ (s.clearUnits
    leavesFaulted).plans.opened = s.plans.opened ∧ (s.clearUnits leavesFaulted).engine.attempt = s.engine.attempt ∧
    (s.clearUnits leavesFaulted).engine.placed = s.engine.placed ∧ (s.clearUnits leavesFaulted).engine.lastRefusal =
    s.engine.lastRefusal ∧ (s.clearUnits leavesFaulted).engine.seatRetries = s.engine.seatRetries ∧ (s.clearUnits
    leavesFaulted).engine.zoneRefusals = s.engine.zoneRefusals ∧ (s.clearUnits leavesFaulted).engine.fault =
    s.engine.fault ∧ (s.clearUnits leavesFaulted).grout.ports = s.grout.ports ∧ (s.clearUnits
    leavesFaulted).grout.restrained = s.grout.restrained ∧ (s.clearUnits leavesFaulted).muck.faceRestrained =
    s.muck.faceRestrained ∧ (s.clearUnits leavesFaulted).muck.faceLow = s.muck.faceLow ∧ (s.clearUnits
    leavesFaulted).muck.queue = s.muck.queue ∧ (s.clearUnits leavesFaulted).muck.lastIndexed = s.muck.lastIndexed ∧
    (s.clearUnits leavesFaulted).muck.muckRestrained = s.muck.muckRestrained ∧ (s.clearUnits leavesFaulted).muck.spill
    = s.muck.spill ∧ (s.clearUnits leavesFaulted).muck.weighed = s.muck.weighed ∧ (s.clearUnits
    leavesFaulted).muck.carried = s.muck.carried ∧ (s.clearUnits leavesFaulted).muck.uncarried = s.muck.uncarried ∧
    (s.clearUnits leavesFaulted).muck.excused = s.muck.excused ∧ (s.clearUnits leavesFaulted).muck.indexed =
    s.muck.indexed ∧ (s.clearUnits leavesFaulted).muck.machineAdvance = s.muck.machineAdvance ∧ (s.clearUnits
    leavesFaulted).muck.overdig = s.muck.overdig ∧ (s.clearUnits leavesFaulted).channels.cylinders =
    s.channels.cylinders ∧ (s.clearUnits leavesFaulted).channels.drives = s.channels.drives ∧ (s.clearUnits
    leavesFaulted).channels.linePressure = s.channels.linePressure ∧ (s.clearUnits leavesFaulted).channels.screwFault
    = s.channels.screwFault ∧ (s.clearUnits leavesFaulted).channels.face = s.channels.face ∧ (s.clearUnits
    leavesFaulted).channels.erectorFault = s.channels.erectorFault ∧ (s.clearUnits leavesFaulted).console.watch =
    s.console.watch ∧ (s.clearUnits leavesFaulted).console.records = s.console.records := by
  simp [clearUnits]

@[simp] theorem leaveFaulted_fields (s : State) :
    s.leaveFaulted.link.queue = s.link.queue ∧ s.leaveFaulted.link.onWire = s.link.onWire ∧
    s.leaveFaulted.link.nextAge = s.link.nextAge ∧ s.leaveFaulted.node.number = s.node.number ∧
    s.leaveFaulted.node.config = s.node.config ∧ s.leaveFaulted.node.digest = s.node.digest ∧
    s.leaveFaulted.node.lastRejection = s.node.lastRejection ∧ s.leaveFaulted.node.firstMembership =
    s.node.firstMembership ∧ s.leaveFaulted.node.listen = s.node.listen ∧ s.leaveFaulted.machine.phase =
    s.machine.phase ∧ s.leaveFaulted.machine.current = s.machine.current ∧ s.leaveFaulted.machine.previous =
    s.machine.previous ∧ s.leaveFaulted.machine.round = s.machine.round ∧ s.leaveFaulted.machine.lastFailure =
    s.machine.lastFailure ∧ s.leaveFaulted.machine.ring = s.machine.ring ∧ s.leaveFaulted.machine.beaconTimer =
    s.machine.beaconTimer := by
  unfold leaveFaulted
  dsimp only
  (repeat' split) <;> simp

@[simp] theorem clearsFault_fields (station : Station) (addressed : Bool) (s : State) :
    (s.clearsFault station addressed).node.number = s.node.number ∧ (s.clearsFault station addressed).node.config =
    s.node.config ∧ (s.clearsFault station addressed).node.digest = s.node.digest ∧ (s.clearsFault station
    addressed).node.lastRejection = s.node.lastRejection ∧ (s.clearsFault station addressed).machine.previous =
    s.machine.previous ∧ (s.clearsFault station addressed).machine.ring = s.machine.ring ∧ (s.clearsFault station
    addressed).machine.beaconTimer = s.machine.beaconTimer ∧ (s.clearsFault station addressed).thrust.setpoint =
    s.thrust.setpoint ∧ (s.clearsFault station addressed).thrust.restraints = s.thrust.restraints ∧ (s.clearsFault
    station addressed).drive.setpoint = s.drive.setpoint ∧ (s.clearsFault station addressed).drive.guard =
    s.drive.guard ∧ (s.clearsFault station addressed).plans.opened = s.plans.opened ∧ (s.clearsFault station
    addressed).engine.attempt = s.engine.attempt ∧ (s.clearsFault station addressed).engine.placed = s.engine.placed ∧
    (s.clearsFault station addressed).engine.lastRefusal = s.engine.lastRefusal ∧ (s.clearsFault station
    addressed).engine.seatRetries = s.engine.seatRetries ∧ (s.clearsFault station addressed).engine.zoneRefusals =
    s.engine.zoneRefusals ∧ (s.clearsFault station addressed).engine.fault = s.engine.fault ∧ (s.clearsFault station
    addressed).grout.ports = s.grout.ports ∧ (s.clearsFault station addressed).grout.restrained = s.grout.restrained ∧
    (s.clearsFault station addressed).muck.faceRestrained = s.muck.faceRestrained ∧ (s.clearsFault station
    addressed).muck.faceLow = s.muck.faceLow ∧ (s.clearsFault station addressed).muck.queue = s.muck.queue ∧
    (s.clearsFault station addressed).muck.lastIndexed = s.muck.lastIndexed ∧ (s.clearsFault station
    addressed).muck.muckRestrained = s.muck.muckRestrained ∧ (s.clearsFault station addressed).muck.spill =
    s.muck.spill ∧ (s.clearsFault station addressed).muck.weighed = s.muck.weighed ∧ (s.clearsFault station
    addressed).muck.carried = s.muck.carried ∧ (s.clearsFault station addressed).muck.uncarried = s.muck.uncarried ∧
    (s.clearsFault station addressed).muck.excused = s.muck.excused ∧ (s.clearsFault station addressed).muck.indexed =
    s.muck.indexed ∧ (s.clearsFault station addressed).channels.cylinders = s.channels.cylinders ∧ (s.clearsFault
    station addressed).channels.drives = s.channels.drives ∧ (s.clearsFault station addressed).channels.linePressure =
    s.channels.linePressure ∧ (s.clearsFault station addressed).channels.screwFault = s.channels.screwFault ∧
    (s.clearsFault station addressed).channels.face = s.channels.face ∧ (s.clearsFault station
    addressed).channels.erectorFault = s.channels.erectorFault ∧ (s.clearsFault station addressed).console.watch =
    s.console.watch ∧ (s.clearsFault station addressed).console.records = s.console.records := by
  unfold clearsFault
  dsimp only
  (repeat' split) <;> simp

@[simp] theorem serveClearFault_fields  (station : Station) (addressed : Bool) (args : List Byte) (s : State) :
    (s.serveClearFault station addressed args).node.number = s.node.number ∧ (s.serveClearFault station addressed
    args).node.config = s.node.config ∧ (s.serveClearFault station addressed args).node.digest = s.node.digest ∧
    (s.serveClearFault station addressed args).node.lastRejection = s.node.lastRejection ∧ (s.serveClearFault station
    addressed args).machine.previous = s.machine.previous ∧ (s.serveClearFault station addressed args).machine.ring =
    s.machine.ring ∧ (s.serveClearFault station addressed args).machine.beaconTimer = s.machine.beaconTimer ∧
    (s.serveClearFault station addressed args).thrust.setpoint = s.thrust.setpoint ∧ (s.serveClearFault station
    addressed args).thrust.restraints = s.thrust.restraints ∧ (s.serveClearFault station addressed
    args).drive.setpoint = s.drive.setpoint ∧ (s.serveClearFault station addressed args).drive.guard = s.drive.guard ∧
    (s.serveClearFault station addressed args).plans.opened = s.plans.opened ∧ (s.serveClearFault station addressed
    args).engine.attempt = s.engine.attempt ∧ (s.serveClearFault station addressed args).engine.placed =
    s.engine.placed ∧ (s.serveClearFault station addressed args).engine.lastRefusal = s.engine.lastRefusal ∧
    (s.serveClearFault station addressed args).engine.seatRetries = s.engine.seatRetries ∧ (s.serveClearFault station
    addressed args).engine.zoneRefusals = s.engine.zoneRefusals ∧ (s.serveClearFault station addressed
    args).engine.fault = s.engine.fault ∧ (s.serveClearFault station addressed args).grout.ports = s.grout.ports ∧
    (s.serveClearFault station addressed args).grout.restrained = s.grout.restrained ∧ (s.serveClearFault station
    addressed args).muck.faceRestrained = s.muck.faceRestrained ∧ (s.serveClearFault station addressed
    args).muck.faceLow = s.muck.faceLow ∧ (s.serveClearFault station addressed args).muck.queue = s.muck.queue ∧
    (s.serveClearFault station addressed args).muck.lastIndexed = s.muck.lastIndexed ∧ (s.serveClearFault station
    addressed args).muck.muckRestrained = s.muck.muckRestrained ∧ (s.serveClearFault station addressed
    args).muck.spill = s.muck.spill ∧ (s.serveClearFault station addressed args).muck.weighed = s.muck.weighed ∧
    (s.serveClearFault station addressed args).muck.carried = s.muck.carried ∧ (s.serveClearFault station addressed
    args).muck.uncarried = s.muck.uncarried ∧ (s.serveClearFault station addressed args).muck.excused = s.muck.excused
    ∧ (s.serveClearFault station addressed args).muck.indexed = s.muck.indexed ∧ (s.serveClearFault station addressed
    args).channels.cylinders = s.channels.cylinders ∧ (s.serveClearFault station addressed args).channels.drives =
    s.channels.drives ∧ (s.serveClearFault station addressed args).channels.linePressure = s.channels.linePressure ∧
    (s.serveClearFault station addressed args).channels.screwFault = s.channels.screwFault ∧ (s.serveClearFault
    station addressed args).channels.face = s.channels.face ∧ (s.serveClearFault station addressed
    args).channels.erectorFault = s.channels.erectorFault ∧ (s.serveClearFault station addressed args).console.watch =
    s.console.watch ∧ (s.serveClearFault station addressed args).console.records = s.console.records := by
  simp only [serveClearFault]
  (repeat' split) <;> simp

end Sys2Proof.Machine.State
end

