-- ==== Sys2Proof/Laws/LinkFields.lean ====
section
/-! SUPPORT. For each operation of Machine/Link.lean, the fields it leaves as they are in the parts of State it may change. -/

namespace Sys2Proof.Machine.State

@[simp] theorem deliverOwn_fields (body : Body) (s : State) :
    (s.deliverOwn body).link.transmitting = s.link.transmitting ∧ (s.deliverOwn body).machine.beaconTimer =
    s.machine.beaconTimer ∧ (s.deliverOwn body).thrust.setpoint = s.thrust.setpoint ∧ (s.deliverOwn
    body).drive.setpoint = s.drive.setpoint ∧ (s.deliverOwn body).plans.opened = s.plans.opened ∧ (s.deliverOwn
    body).muck.faceRestrained = s.muck.faceRestrained ∧ (s.deliverOwn body).muck.faceLow = s.muck.faceLow ∧
    (s.deliverOwn body).muck.queue = s.muck.queue ∧ (s.deliverOwn body).muck.lastIndexed = s.muck.lastIndexed ∧
    (s.deliverOwn body).muck.muckRestrained = s.muck.muckRestrained ∧ (s.deliverOwn body).muck.spill = s.muck.spill ∧
    (s.deliverOwn body).channels.cylinders = s.channels.cylinders ∧ (s.deliverOwn body).channels.drives =
    s.channels.drives ∧ (s.deliverOwn body).channels.linePressure = s.channels.linePressure ∧ (s.deliverOwn
    body).channels.screwFault = s.channels.screwFault ∧ (s.deliverOwn body).channels.face = s.channels.face ∧
    (s.deliverOwn body).channels.erectorFault = s.channels.erectorFault ∧ (s.deliverOwn body).console.watch =
    s.console.watch := by
  unfold deliverOwn
  (repeat' split) <;> simp

@[simp] theorem startFrame_fields (s : State) :
    s.startFrame.link.transmitting = s.link.transmitting ∧ s.startFrame.link.nextAge = s.link.nextAge := by
  unfold startFrame
  split <;> simp

@[simp] theorem returnLost_fields (f : TxFrame) (s : State) :
    (s.returnLost f).link.transmitting = s.link.transmitting ∧ (s.returnLost f).engine.state = s.engine.state ∧
    (s.returnLost f).engine.seated = s.engine.seated ∧ (s.returnLost f).engine.attempt = s.engine.attempt ∧
    (s.returnLost f).engine.zoneMembers = s.engine.zoneMembers ∧ (s.returnLost f).engine.answered = s.engine.answered
    ∧ (s.returnLost f).engine.retry = s.engine.retry ∧ (s.returnLost f).engine.limit = s.engine.limit ∧ (s.returnLost
    f).engine.stopping = s.engine.stopping ∧ (s.returnLost f).engine.placed = s.engine.placed ∧ (s.returnLost
    f).engine.lastRefusal = s.engine.lastRefusal ∧ (s.returnLost f).engine.seatRetries = s.engine.seatRetries ∧
    (s.returnLost f).engine.zoneRefusals = s.engine.zoneRefusals ∧ (s.returnLost f).engine.fault = s.engine.fault ∧
    (s.returnLost f).engine.erector = s.engine.erector ∧ (s.returnLost f).engine.erectorCommand =
    s.engine.erectorCommand ∧ (s.returnLost f).console.watch = s.console.watch ∧ (s.returnLost f).console.records =
    s.console.records := by
  unfold returnLost
  dsimp only
  (repeat' split) <;> simp

@[simp] theorem settleFrame_fields (contenders : List Key) (s : State) :
    (s.settleFrame contenders).link.transmitting = s.link.transmitting ∧ (s.settleFrame contenders).engine.state =
    s.engine.state ∧ (s.settleFrame contenders).engine.seated = s.engine.seated ∧ (s.settleFrame
    contenders).engine.attempt = s.engine.attempt ∧ (s.settleFrame contenders).engine.zoneMembers =
    s.engine.zoneMembers ∧ (s.settleFrame contenders).engine.answered = s.engine.answered ∧ (s.settleFrame
    contenders).engine.retry = s.engine.retry ∧ (s.settleFrame contenders).engine.limit = s.engine.limit ∧
    (s.settleFrame contenders).engine.stopping = s.engine.stopping ∧ (s.settleFrame contenders).engine.placed =
    s.engine.placed ∧ (s.settleFrame contenders).engine.lastRefusal = s.engine.lastRefusal ∧ (s.settleFrame
    contenders).engine.seatRetries = s.engine.seatRetries ∧ (s.settleFrame contenders).engine.zoneRefusals =
    s.engine.zoneRefusals ∧ (s.settleFrame contenders).engine.fault = s.engine.fault ∧ (s.settleFrame
    contenders).engine.erector = s.engine.erector ∧ (s.settleFrame contenders).engine.erectorCommand =
    s.engine.erectorCommand ∧ (s.settleFrame contenders).console.watch = s.console.watch ∧ (s.settleFrame
    contenders).console.records = s.console.records := by
  unfold settleFrame
  (repeat' split) <;> simp

@[simp] theorem closeCleared_fields (before : Bool) (s : State) :
    (s.closeCleared before).link.onWire = s.link.onWire ∧ (s.closeCleared before).link.transmitting =
    s.link.transmitting ∧ (s.closeCleared before).engine.stopping = s.engine.stopping ∧ (s.closeCleared
    before).engine.placed = s.engine.placed ∧ (s.closeCleared before).engine.lastRefusal = s.engine.lastRefusal ∧
    (s.closeCleared before).engine.seatRetries = s.engine.seatRetries ∧ (s.closeCleared before).engine.zoneRefusals =
    s.engine.zoneRefusals ∧ (s.closeCleared before).engine.erector = s.engine.erector ∧ (s.closeCleared
    before).engine.erectorCommand = s.engine.erectorCommand ∧ (s.closeCleared before).console.watch = s.console.watch
    ∧ (s.closeCleared before).console.records = s.console.records := by
  unfold closeCleared
  split <;> simp

@[simp] theorem reportSent_fields (f : TxFrame) (s : State) :
    (s.reportSent f).link.onWire = s.link.onWire ∧ (s.reportSent f).link.transmitting = s.link.transmitting ∧
    (s.reportSent f).engine.state = s.engine.state ∧ (s.reportSent f).engine.seated = s.engine.seated ∧ (s.reportSent
    f).engine.attempt = s.engine.attempt ∧ (s.reportSent f).engine.zoneMembers = s.engine.zoneMembers ∧ (s.reportSent
    f).engine.answered = s.engine.answered ∧ (s.reportSent f).engine.retry = s.engine.retry ∧ (s.reportSent
    f).engine.limit = s.engine.limit ∧ (s.reportSent f).engine.stopping = s.engine.stopping ∧ (s.reportSent
    f).engine.placed = s.engine.placed ∧ (s.reportSent f).engine.lastRefusal = s.engine.lastRefusal ∧ (s.reportSent
    f).engine.seatRetries = s.engine.seatRetries ∧ (s.reportSent f).engine.zoneRefusals = s.engine.zoneRefusals ∧
    (s.reportSent f).engine.fault = s.engine.fault ∧ (s.reportSent f).engine.erector = s.engine.erector ∧
    (s.reportSent f).engine.erectorCommand = s.engine.erectorCommand ∧ (s.reportSent f).console.watch =
    s.console.watch ∧ (s.reportSent f).console.records = s.console.records := by
  unfold reportSent
  (repeat' split) <;> simp

@[simp] theorem heardBack_fields (w : WireFrame) (s : State) :
    (s.heardBack w).link.transmitting = s.link.transmitting ∧ (s.heardBack w).machine.beaconTimer =
    s.machine.beaconTimer ∧ (s.heardBack w).thrust.setpoint = s.thrust.setpoint ∧ (s.heardBack w).drive.setpoint =
    s.drive.setpoint ∧ (s.heardBack w).plans.opened = s.plans.opened ∧ (s.heardBack w).muck.faceRestrained =
    s.muck.faceRestrained ∧ (s.heardBack w).muck.faceLow = s.muck.faceLow ∧ (s.heardBack w).muck.queue = s.muck.queue
    ∧ (s.heardBack w).muck.lastIndexed = s.muck.lastIndexed ∧ (s.heardBack w).muck.muckRestrained =
    s.muck.muckRestrained ∧ (s.heardBack w).muck.spill = s.muck.spill ∧ (s.heardBack w).channels.cylinders =
    s.channels.cylinders ∧ (s.heardBack w).channels.drives = s.channels.drives ∧ (s.heardBack w).channels.linePressure
    = s.channels.linePressure ∧ (s.heardBack w).channels.screwFault = s.channels.screwFault ∧ (s.heardBack
    w).channels.face = s.channels.face ∧ (s.heardBack w).channels.erectorFault = s.channels.erectorFault ∧
    (s.heardBack w).console.watch = s.console.watch := by
  simp [heardBack]

@[simp] theorem wireEnds_fields (f : TxFrame) (e : Ending) (s : State) :
    (s.wireEnds f e).link.transmitting = s.link.transmitting ∧ (s.wireEnds f e).engine.stopping = s.engine.stopping ∧
    (s.wireEnds f e).engine.placed = s.engine.placed ∧ (s.wireEnds f e).engine.lastRefusal = s.engine.lastRefusal ∧
    (s.wireEnds f e).engine.seatRetries = s.engine.seatRetries ∧ (s.wireEnds f e).engine.zoneRefusals =
    s.engine.zoneRefusals ∧ (s.wireEnds f e).engine.erector = s.engine.erector ∧ (s.wireEnds f
    e).engine.erectorCommand = s.engine.erectorCommand ∧ (s.wireEnds f e).console.watch = s.console.watch ∧
    (s.wireEnds f e).console.records = s.console.records := by
  simp [wireEnds]

@[simp] theorem inheritFailures_fields (n : Nat) (s : State) :
    (s.inheritFailures n).link.onWire = s.link.onWire ∧ (s.inheritFailures n).link.transmitting = s.link.transmitting
    ∧ (s.inheritFailures n).link.nextAge = s.link.nextAge := by
  simp [inheritFailures]

@[simp] theorem discardFailed_fields (f : TxFrame) (n : Nat) (s : State) :
    (s.discardFailed f n).link.transmitting = s.link.transmitting ∧ (s.discardFailed f n).engine.placed =
    s.engine.placed ∧ (s.discardFailed f n).engine.lastRefusal = s.engine.lastRefusal ∧ (s.discardFailed f
    n).engine.seatRetries = s.engine.seatRetries ∧ (s.discardFailed f n).engine.zoneRefusals = s.engine.zoneRefusals ∧
    (s.discardFailed f n).console.watch = s.console.watch ∧ (s.discardFailed f n).console.records = s.console.records
    := by
  unfold discardFailed
  dsimp only
  split <;> simp

@[simp] theorem transmissionFailed_fields (w : WireFrame) (s : State) :
    (s.transmissionFailed w).node.number = s.node.number ∧ (s.transmissionFailed w).node.config = s.node.config ∧
    (s.transmissionFailed w).node.digest = s.node.digest ∧ (s.transmissionFailed w).node.lastRejection =
    s.node.lastRejection ∧ (s.transmissionFailed w).node.firstMembership = s.node.firstMembership ∧
    (s.transmissionFailed w).machine.previous = s.machine.previous ∧ (s.transmissionFailed w).machine.view =
    s.machine.view ∧ (s.transmissionFailed w).machine.ring = s.machine.ring ∧ (s.transmissionFailed
    w).machine.beaconTimer = s.machine.beaconTimer ∧ (s.transmissionFailed w).thrust.sectorAdvance =
    s.thrust.sectorAdvance ∧ (s.transmissionFailed w).thrust.credited = s.thrust.credited ∧ (s.transmissionFailed
    w).thrust.setpoint = s.thrust.setpoint ∧ (s.transmissionFailed w).thrust.strokeReached = s.thrust.strokeReached ∧
    (s.transmissionFailed w).thrust.restraints = s.thrust.restraints ∧ (s.transmissionFailed w).drive.setpoint =
    s.drive.setpoint ∧ (s.transmissionFailed w).drive.guard = s.drive.guard ∧ (s.transmissionFailed w).plans.opened =
    s.plans.opened ∧ (s.transmissionFailed w).engine.placed = s.engine.placed ∧ (s.transmissionFailed
    w).engine.lastRefusal = s.engine.lastRefusal ∧ (s.transmissionFailed w).engine.seatRetries = s.engine.seatRetries
    ∧ (s.transmissionFailed w).engine.zoneRefusals = s.engine.zoneRefusals ∧ (s.transmissionFailed w).grout.ports =
    s.grout.ports ∧ (s.transmissionFailed w).grout.restrained = s.grout.restrained ∧ (s.transmissionFailed
    w).muck.faceRestrained = s.muck.faceRestrained ∧ (s.transmissionFailed w).muck.faceLow = s.muck.faceLow ∧
    (s.transmissionFailed w).muck.queue = s.muck.queue ∧ (s.transmissionFailed w).muck.lastIndexed =
    s.muck.lastIndexed ∧ (s.transmissionFailed w).muck.muckRestrained = s.muck.muckRestrained ∧ (s.transmissionFailed
    w).muck.spill = s.muck.spill ∧ (s.transmissionFailed w).muck.weighed = s.muck.weighed ∧ (s.transmissionFailed
    w).muck.carried = s.muck.carried ∧ (s.transmissionFailed w).muck.uncarried = s.muck.uncarried ∧
    (s.transmissionFailed w).muck.excused = s.muck.excused ∧ (s.transmissionFailed w).muck.indexed = s.muck.indexed ∧
    (s.transmissionFailed w).muck.machineAdvance = s.muck.machineAdvance ∧ (s.transmissionFailed w).muck.overdig =
    s.muck.overdig ∧ (s.transmissionFailed w).console.watch = s.console.watch ∧ (s.transmissionFailed
    w).console.records = s.console.records := by
  unfold transmissionFailed
  dsimp only
  (repeat' split) <;> simp

@[simp] theorem failWire_fields (s : State) :
    s.failWire.node.number = s.node.number ∧ s.failWire.node.config = s.node.config ∧ s.failWire.node.digest =
    s.node.digest ∧ s.failWire.node.lastRejection = s.node.lastRejection ∧ s.failWire.node.firstMembership =
    s.node.firstMembership ∧ s.failWire.machine.previous = s.machine.previous ∧ s.failWire.machine.view =
    s.machine.view ∧ s.failWire.machine.ring = s.machine.ring ∧ s.failWire.machine.beaconTimer = s.machine.beaconTimer
    ∧ s.failWire.thrust.sectorAdvance = s.thrust.sectorAdvance ∧ s.failWire.thrust.credited = s.thrust.credited ∧
    s.failWire.thrust.setpoint = s.thrust.setpoint ∧ s.failWire.thrust.strokeReached = s.thrust.strokeReached ∧
    s.failWire.thrust.restraints = s.thrust.restraints ∧ s.failWire.drive.setpoint = s.drive.setpoint ∧
    s.failWire.drive.guard = s.drive.guard ∧ s.failWire.plans.opened = s.plans.opened ∧ s.failWire.engine.placed =
    s.engine.placed ∧ s.failWire.engine.lastRefusal = s.engine.lastRefusal ∧ s.failWire.engine.seatRetries =
    s.engine.seatRetries ∧ s.failWire.engine.zoneRefusals = s.engine.zoneRefusals ∧ s.failWire.grout.ports =
    s.grout.ports ∧ s.failWire.grout.restrained = s.grout.restrained ∧ s.failWire.muck.faceRestrained =
    s.muck.faceRestrained ∧ s.failWire.muck.faceLow = s.muck.faceLow ∧ s.failWire.muck.queue = s.muck.queue ∧
    s.failWire.muck.lastIndexed = s.muck.lastIndexed ∧ s.failWire.muck.muckRestrained = s.muck.muckRestrained ∧
    s.failWire.muck.spill = s.muck.spill ∧ s.failWire.muck.weighed = s.muck.weighed ∧ s.failWire.muck.carried =
    s.muck.carried ∧ s.failWire.muck.uncarried = s.muck.uncarried ∧ s.failWire.muck.excused = s.muck.excused ∧
    s.failWire.muck.indexed = s.muck.indexed ∧ s.failWire.muck.machineAdvance = s.muck.machineAdvance ∧
    s.failWire.muck.overdig = s.muck.overdig ∧ s.failWire.console.watch = s.console.watch ∧ s.failWire.console.records
    = s.console.records := by
  unfold failWire
  split <;> simp

end Sys2Proof.Machine.State
end

