-- ==== Sys2Proof/Laws/TimeFields.lean ====
section
/-! SUPPORT. For each operation of Machine/Time.lean, the fields it leaves as they are in the parts of State it may change. -/

namespace Sys2Proof.Machine.State

@[simp] theorem tick_fields (s : State) :
    s.tick.node.number = s.node.number ∧ s.tick.node.state = s.node.state ∧ s.tick.node.cause = s.node.cause ∧
    s.tick.node.furtherFaults = s.node.furtherFaults ∧ s.tick.node.config = s.node.config ∧ s.tick.node.digest =
    s.node.digest ∧ s.tick.node.collection = s.node.collection ∧ s.tick.node.lastRejection = s.node.lastRejection ∧
    s.tick.node.firstMembership = s.node.firstMembership ∧ s.tick.machine.phase = s.machine.phase ∧
    s.tick.machine.current = s.machine.current ∧ s.tick.machine.previous = s.machine.previous ∧
    s.tick.machine.lastFailure = s.machine.lastFailure ∧ s.tick.machine.ring = s.machine.ring ∧ s.tick.drive.drives =
    s.drive.drives ∧ s.tick.drive.setpoint = s.drive.setpoint ∧ s.tick.engine.state = s.engine.state ∧
    s.tick.engine.seated = s.engine.seated ∧ s.tick.engine.attempt = s.engine.attempt ∧ s.tick.engine.zoneMembers =
    s.engine.zoneMembers ∧ s.tick.engine.answered = s.engine.answered ∧ s.tick.engine.retry = s.engine.retry ∧
    s.tick.engine.stopping = s.engine.stopping ∧ s.tick.engine.closePending = s.engine.closePending ∧
    s.tick.engine.requeue = s.engine.requeue ∧ s.tick.engine.placed = s.engine.placed ∧ s.tick.engine.lastRefusal =
    s.engine.lastRefusal ∧ s.tick.engine.seatRetries = s.engine.seatRetries ∧ s.tick.engine.zoneRefusals =
    s.engine.zoneRefusals ∧ s.tick.engine.fault = s.engine.fault ∧ s.tick.engine.erector = s.engine.erector ∧
    s.tick.engine.erectorCommand = s.engine.erectorCommand ∧ s.tick.grout.ports = s.grout.ports ∧ s.tick.grout.pointer
    = s.grout.pointer ∧ s.tick.grout.pump = s.grout.pump ∧ s.tick.grout.restrained = s.grout.restrained := by
  unfold tick
  dsimp only
  (repeat' split) <;> simp

end Sys2Proof.Machine.State
end

