-- ==== Sys2Proof/Laws/Shared.lean ====
section
/-! SUPPORT. What the shared operations do, said once: reception of accepted frames, queuing, notices and counters kept,
holds, faults, doses, stages, and the update of one record among several. -/

namespace Sys2Proof.Machine

/-- An accepted frame of a peer reaches its block. -/
theorem receive_of_hearsPeer {s : State} {a b f} (h : s.HearsPeer a b) : s.receive .node a b f = f s := by
  unfold State.HearsPeer at h; simp [State.receive, h]

/-- An accepted frame of a console station reaches its block. -/
theorem receive_of_hearsConsole {s : State} {a b f} (h : s.HearsConsole a b) : s.receive .console a b f = f s := by
  unfold State.HearsConsole at h; simp [State.receive, h]

/-- An accepted frame both may send reaches its block. -/
theorem receive_of_hearsAny {s : State} {a b f} (h : s.HearsAny a b) : s.receive .both a b f = f s := by
  unfold State.HearsAny at h; simp [State.receive, h]

/-- An accepted COMMAND reaches its service. -/
theorem receiveCommand_of_hearsConsole {s : State} {a b f args} (h : s.HearsConsole a b) : s.receiveCommand f a b args = f a (b != 0) args s := by
  unfold State.receiveCommand; exact receive_of_hearsConsole h

/-- No time passes in 0 ms. -/
theorem passTime_zero (s : State) : s.passTime 0 = s := by
  rcases s with ⟨l,n,m,th,dr,pl,en,gr,mu,ch,ov,co,fi,pe⟩
  rcases n with ⟨⟩; rcases m with ⟨⟩; rcases dr with ⟨_,_,g⟩; rcases g with ⟨⟩; rcases en; rcases gr
  have e : ∀ limit t, advanceUp limit 0 t = t := by intro limit t; unfold advanceUp; omega
  have e' : ∀ limit, advanceUp limit 0 = id := by intro l; funext t; exact e l t
  have v : ∀ e : ViewEntry, ({ e with since := e.since.map id } : ViewEntry) = e := by intro e; cases e; simp
  simp [State.passTime, e', State.setDose, e]
  split <;> rfl

/-- RING_CLOSED, the one kind whose ending changes the engine (R129). -/
def isClosing : Body → Bool
  | .ringClosed _ => true
  | _ => false

theorem frameEnded_engine {f : TxFrame} (e : Ending) (s : State) (hb : isClosing f.frame.body = false) :
    (s.frameEnded f e).engine = s.engine := by
  unfold State.frameEnded; split <;> dsimp only <;> split <;> simp_all [isClosing]

theorem admitFrame_engine {f : TxFrame} (s : State) (hb : isClosing f.frame.body = false) :
    (s.admitFrame f).engine = s.engine := by
  unfold State.admitFrame; split
  · exact frameEnded_engine _ _ hb
  · split
    · rw [frameEnded_engine _ _ hb]; simp
    · simp

/-- Queuing a frame other than HOLD and RING_CLOSED leaves the engine. -/
theorem queueTagged_engine {b : Body} (t tag) (s : State) (hb : isClosing b = false) (hh : isHold b = false) :
    (s.queueTagged t b tag).engine = s.engine := by
  unfold State.queueTagged; simp [hh]; rw [admitFrame_engine _ (by simpa [State.newFrame] using hb)]; simp

@[simp] theorem answer_engine (st ad sv e) (s : State) : (s.answer st ad sv e).engine = s.engine := by
  unfold State.answer State.answerWith; split
  · exact queueTagged_engine _ _ _ rfl rfl
  · rfl

@[simp] theorem answerWith_engine (st ad sv e a b) (s : State) : (s.answerWith st ad sv e a b).engine = s.engine := by
  unfold State.answerWith; split
  · exact queueTagged_engine _ _ _ rfl rfl
  · rfl

@[simp] theorem restrain_engine (r) (s : State) : (s.restrain r).engine = s.engine := by
  unfold State.restrain State.queueFrame; rw [queueTagged_engine _ _ _ rfl rfl]; simp

@[simp] theorem release_engine (r) (s : State) : (s.release r).engine = s.engine := by
  unfold State.release State.queueFrame; rw [queueTagged_engine _ _ _ rfl rfl]; simp

theorem mem_insertTx_self (f : TxFrame) (q : List TxFrame) : f ∈ insertTx f q := by
  induction q with
  | nil => simp [insertTx]
  | cons g r ih => unfold insertTx; split <;> simp [ih]

theorem mem_insertTx (f x : TxFrame) (q : List TxFrame) : x ∈ insertTx f q ↔ x = f ∨ x ∈ q := by
  induction q with
  | nil => simp [insertTx]
  | cons g r ih => unfold insertTx; split <;> simp [ih]; tauto

/-- What queuing a frame does when it finds a place. -/
theorem queueFrame_of_hasPlace (x : State) (body : Body) (h : x.HasPlace) (hh : isHold body = false) :
    x.queueFrame body = x.setLink { x.link with queue := insertTx (x.newFrame 0 body .plain) x.link.queue, nextAge := x.link.nextAge + 1 } := by
  obtain ⟨h1, h2⟩ := h
  have h3 : ¬ (Config.txqPlaces ≤ x.stepAge.link.held) := Nat.not_le.mpr h2
  have h4 : x.stepAge.link.transmitting = true := h1
  simp only [State.queueFrame, State.queueTagged, hh, State.admitFrame, h4, h3]
  rfl

theorem queueFrame_holds (x : State) (body : Body) (h : x.HasPlace) (hh : isHold body = false) :
    ∃ q ∈ (x.queueFrame body).link.queue, q.frame.body = body := by
  rw [queueFrame_of_hasPlace x body h hh]
  exact ⟨_, mem_insertTx_self _ _, rfl⟩

/-- No notice flag is cleared. -/
def NoticesKept (s t : State) : Prop := ∀ n, s.noticed n = true → t.noticed n = true

theorem NoticesKept.refl {s : State} : NoticesKept s s := fun _ h => h

theorem NoticesKept.trans {a b c : State} (h : NoticesKept a b) (g : NoticesKept b c) : NoticesKept a c := fun n x => g n (h n x)

theorem NoticesKept.of {a b : State} (h : b.console.notices = a.console.notices) : NoticesKept a b := by
  intro n; unfold State.noticed; rw [h]; exact id

theorem notify_noticed (s : State) (n) : (s.notify n).noticed n = true := by
  cases n <;> simp [State.noticed, noticeMask, noticeBit]

theorem NoticesKept_notify (s : State) (n) : NoticesKept s (s.notify n) := by
  intro m; simp only [State.noticed, State.notify_eq, State.setConsole_console, BitVec.getLsbD_or]; simp +contextual

theorem NoticesKept_count (s : State) (f) : NoticesKept s (s.count f) := NoticesKept.of rfl

theorem NoticesKept_drop (s : State) : NoticesKept s s.countDrop := (NoticesKept_count _ _).trans (NoticesKept_notify _ _)

theorem NoticesKept_ended (f e) (s : State) : NoticesKept s (s.frameEnded f e) := by
  apply NoticesKept.of; unfold State.frameEnded; split <;> dsimp only <;> split <;> first | rfl | (split <;> rfl)

theorem NoticesKept_admit (f) (s : State) : NoticesKept s (s.admitFrame f) := by
  unfold State.admitFrame; split
  · exact NoticesKept_ended _ _ _
  · split
    · exact (NoticesKept_drop _).trans (NoticesKept_ended _ _ _)
    · exact NoticesKept.of rfl

theorem NoticesKept.pre {a a' b : State} (g : NoticesKept a' b) (h : a'.console.notices = a.console.notices) : NoticesKept a b := (NoticesKept.of h).trans g

theorem NoticesKept_retry (s : State) : NoticesKept s s.retryRingClosed := by
  unfold State.retryRingClosed; split
  · exact NoticesKept.refl
  · exact NoticesKept.pre (NoticesKept_admit _ _) (by simp [State.stepAge])

theorem NoticesKept_admitHold (f) (s : State) : NoticesKept s (s.admitHold f) := by
  unfold State.admitHold; split
  · split
    · exact (NoticesKept_drop _).trans (NoticesKept_ended _ _ _)
    · exact NoticesKept.pre (((NoticesKept_drop _).trans (NoticesKept_ended _ _ _)).trans (NoticesKept_retry _)) (by simp)
  · exact NoticesKept_admit _ _

theorem NoticesKept_queue (t b g) (s : State) : NoticesKept s (s.queueTagged t b g) := by
  unfold State.queueTagged; dsimp only; split
  · exact NoticesKept.pre (NoticesKept_admitHold _ _) (by simp [State.stepAge])
  · exact NoticesKept.pre (NoticesKept_admit _ _) (by simp [State.stepAge])

theorem NoticesKept_framesEnded (fs e) (s : State) : NoticesKept s (s.framesEnded fs e) := by
  unfold State.framesEnded; induction fs generalizing s with
  | nil => exact NoticesKept.refl
  | cons x xs ih => exact (NoticesKept_ended _ _ _).trans (ih _)

theorem NoticesKept_removeZone (s : State) : NoticesKept s s.removeZoneFrames := by
  unfold State.removeZoneFrames; dsimp only; split
  · exact NoticesKept.of (by simp)
  · exact NoticesKept.pre ((NoticesKept_framesEnded _ _ _).trans (NoticesKept_retry _)) (by simp)

theorem NoticesKept_handHold (b g) (s : State) : NoticesKept s (s.handEntryToHold b g) := by
  refine (NoticesKept_removeZone s).trans ?_
  apply NoticesKept.of
  unfold State.handEntryToHold; dsimp only; split <;> simp

theorem NoticesKept_failRound (st r) (s : State) : NoticesKept s (s.failRound st r) := by
  unfold State.failRound; split
  · exact NoticesKept.refl
  · exact NoticesKept.pre ((NoticesKept_notify _ _).trans (NoticesKept_count _ _)) (by simp)

theorem NoticesKept_stop (s : State) : NoticesKept s s.stopDose := NoticesKept.of (by simp)

theorem NoticesKept_impose (c) (s : State) (al) : NoticesKept s (s.imposeHold c al) := by
  refine (NoticesKept_failRound s.own .held s).trans ?_
  unfold State.imposeHold; dsimp only
  generalize State.failRound s.own .held s = u
  split
  · have h : ∀ n g, NoticesKept u (if (State.raises n g || al) = true then State.queueFrame (.hold c g) (State.countHold c u.own n g u) else State.countHold c u.own n g u) := by
      intro n g; split
      · exact NoticesKept.pre (NoticesKept_queue _ _ _ _) (by simp)
      · exact NoticesKept.of (by simp)
    split
    · exact NoticesKept.trans (h _ _) (NoticesKept_stop _)
    · exact h _ _
  · exact NoticesKept.pre ((NoticesKept_queue _ _ _ _).trans (NoticesKept_handHold _ _ _)) (by rfl)
  · exact NoticesKept.pre ((NoticesKept_queue _ _ _ _).trans (NoticesKept_handHold _ _ _)) (by rfl)

theorem NoticesKept_takeHold (c se g) (s : State) : NoticesKept s (s.takeHold c se g) := by
  refine (NoticesKept_failRound c .held s).trans ?_
  unfold State.takeHold; dsimp only
  generalize State.failRound c .held s = u
  split
  · split
    · exact NoticesKept.of (by simp)
    · exact NoticesKept.of (by simp)
  · exact NoticesKept.pre (NoticesKept_handHold _ _ _) (by simp)
  · exact NoticesKept.pre (NoticesKept_handHold _ _ _) (by simp)

@[simp] theorem failRound_phase (st r) (s : State) : (s.failRound st r).machine.phase = s.machine.phase := by
  unfold State.failRound; split <;> simp

@[simp] theorem setMachine_own (s : State) (x) : (s.setMachine x).own = s.own := rfl

/-- The phase unit after a hold the node decides. -/
theorem imposeHold_machine (c) (s : State) (al) : (s.imposeHold c al).machine =
    match s.machine.phase with
    | .hold now => ((s.failRound s.own .held).countHold c s.own now (causeGrade c .soft)).machine
    | _ => ((s.failRound s.own .held).openHold c s.own (causeGrade c .soft)).machine := by
  unfold State.imposeHold; dsimp only
  have ho : (State.failRound s.own .held s).own = s.own := by simp [State.own]
  rcases hp : s.machine.phase with now | _ | _ <;> simp only [failRound_phase, hp, ho]
  · by_cases h1 : State.raises now (causeGrade c .soft) = true <;> simp [h1]
    cases al <;> simp
  · simp
  · simp

theorem imposeHold_phase_hard (c) (s : State) (al) (h : causeGrade c .soft = .hard) : (s.imposeHold c al).machine.phase = .hold .hard := by
  rw [imposeHold_machine]; rcases hp : s.machine.phase with now | _ | _ <;> simp [State.countHold, State.openHold, h]

theorem imposeHold_inHold (c) (s : State) (al) : (s.imposeHold c al).inHold = true := by
  unfold State.inHold; rw [imposeHold_machine]; rcases hp : s.machine.phase with now | _ | _ <;> simp [State.countHold, State.openHold]

@[simp] theorem imposeHold_round (c) (s : State) (al) : (s.imposeHold c al).machine.round = none := by
  rw [imposeHold_machine]; rcases hp : s.machine.phase with now | _ | _ <;> simp [State.countHold, State.openHold, State.failRound] <;> split <;> simp_all

theorem imposeHold_keepsRecords (c) (s : State) (al) : s.KeepsRecords (s.imposeHold c al) := by
  unfold State.KeepsRecords; simp

/-- The phase unit after a HOLD frame. -/
theorem takeHold_machine (c se g) (s : State) : (s.takeHold c se g).machine =
    match s.machine.phase with
    | .hold now => ((s.failRound c .held).countHold se c now (causeGrade se g)).machine
    | _ => ((s.failRound c .held).openHold se c (causeGrade se g)).machine := by
  unfold State.takeHold; dsimp only
  rcases hp : s.machine.phase with now | _ | _ <;> simp only [failRound_phase, hp]
  · by_cases h1 : State.raises now (causeGrade se g) = true <;> simp [h1]
  · simp
  · simp

/-- Queuing a frame other than HOLD and RING_CLOSED changes the link interface and the console record alone. -/
theorem queueTagged_only (x : State) (d b tag) (h1 : isClosing b = false) (h2 : isHold b = false) :
    x.queueTagged d b tag = (x.setLink (x.queueTagged d b tag).link).setConsole (x.queueTagged d b tag).console := by
  have e := queueTagged_engine d tag x h1 h2
  have f := State.queueTagged_frame d b tag x
  generalize State.queueTagged d b tag x = y at *
  rcases y with ⟨⟩
  simp at e f
  simp [State.setLink, State.setConsole]
  tauto

theorem queueFrame_only (x : State) (b) (h1 : isClosing b = false) (h2 : isHold b = false) :
    x.queueFrame b = (x.setLink (x.queueFrame b).link).setConsole (x.queueFrame b).console := queueTagged_only x 0 b .plain h1 h2

theorem onlyEngine_iff (s t : State) : s.OnlyEngine t ↔ (t.node = s.node ∧ t.machine = s.machine ∧ t.thrust = s.thrust ∧ t.drive = s.drive ∧ t.plans = s.plans ∧ t.grout = s.grout ∧ t.muck = s.muck ∧ t.channels = s.channels ∧ t.overrides = s.overrides ∧ t.freeIndex = s.freeIndex ∧ t.pending = s.pending) := by
  unfold State.OnlyEngine
  constructor
  · intro h; rw [h]; simp
  · rintro ⟨h1, h2, h3, h4, h5, h6, h7, h8, h9, h10, h11⟩
    rcases t with ⟨⟩
    simp at h1 h2 h3 h4 h5 h6 h7 h8 h9 h10 h11
    simp [State.setLink, State.setConsole, State.setEngine, *]

/-- What issuing a stage for a step held does: the frame, and the engine record of R122. -/
theorem issueStage_effect (k) (s : State) (p st) (h : s.currentStep = some (p, st)) :
    s.OnlyEngine (s.issueStage k) ∧ (s.issueStage k).engine = { s.engine with
      attempt := if 255 ≤ s.engine.attempt then 1 else s.engine.attempt + 1
      zoneMembers := s.zoneMembersOf st.position, answered := [], limit := some 20000
      state := match k with | .clear => .clearing | .seat => .reseating } := by
  refine ⟨?_, ?_⟩
  · rw [onlyEngine_iff]; unfold State.issueStage; rw [h]; simp
  · unfold State.issueStage; rw [h]; dsimp only
    have : ∀ k' s' at', isClosing (State.stageRequest s' k' st at') = false ∧ isHold (State.stageRequest s' k' st at') = false := by
      intro k' _ _; cases k' <;> exact ⟨rfl, rfl⟩
    simp only [State.setEngine_engine, State.queueFrame]
    rw [queueTagged_engine _ _ _ (this _ _ _).1 (this _ _ _).2]
    cases k <;> simp [Config.stageLimit]

/-- Every counter but the TXQ drops is kept. -/
def CountersKept (s t : State) : Prop := { t.console.counters with txqDrops := 0 } = { s.console.counters with txqDrops := 0 }

theorem CountersKept.trans {a b c : State} (h : CountersKept a b) (g : CountersKept b c) : CountersKept a c := Eq.trans g h

theorem CountersKept.of {a b : State} (h : b.console.counters = a.console.counters) : CountersKept a b := by unfold CountersKept; rw [h]

theorem CountersKept.pre {a a' b : State} (g : CountersKept a' b) (h : a'.console.counters = a.console.counters) : CountersKept a b := (CountersKept.of h).trans g

theorem CountersKept_drop (s : State) : CountersKept s s.countDrop := by simp [CountersKept]

theorem CountersKept_ended (f e) (s : State) : CountersKept s (s.frameEnded f e) := by
  apply CountersKept.of; unfold State.frameEnded; split <;> dsimp only <;> split <;> first | rfl | (split <;> rfl)

theorem CountersKept_admit (f) (s : State) : CountersKept s (s.admitFrame f) := by
  unfold State.admitFrame; split
  · exact CountersKept_ended _ _ _
  · split
    · exact (CountersKept_drop _).trans (CountersKept_ended _ _ _)
    · exact CountersKept.of rfl

theorem CountersKept_retry (s : State) : CountersKept s s.retryRingClosed := by
  unfold State.retryRingClosed; split
  · exact CountersKept.of rfl
  · exact CountersKept.pre (CountersKept_admit _ _) (by simp [State.stepAge])

theorem CountersKept_admitHold (f) (s : State) : CountersKept s (s.admitHold f) := by
  unfold State.admitHold; split
  · split
    · exact (CountersKept_drop _).trans (CountersKept_ended _ _ _)
    · exact CountersKept.pre (((CountersKept_drop _).trans (CountersKept_ended _ _ _)).trans (CountersKept_retry _)) (by simp)
  · exact CountersKept_admit _ _

theorem CountersKept_queue (t b g) (s : State) : CountersKept s (s.queueTagged t b g) := by
  unfold State.queueTagged; dsimp only; split
  · exact CountersKept.pre (CountersKept_admitHold _ _) (by simp [State.stepAge])
  · exact CountersKept.pre (CountersKept_admit _ _) (by simp [State.stepAge])

theorem CountersKept_framesEnded (fs e) (s : State) : CountersKept s (s.framesEnded fs e) := by
  unfold State.framesEnded; induction fs generalizing s with
  | nil => exact CountersKept.of rfl
  | cons x xs ih => exact (CountersKept_ended _ _ _).trans (ih _)

theorem CountersKept_removeZone (s : State) : CountersKept s s.removeZoneFrames := by
  unfold State.removeZoneFrames; dsimp only; split
  · exact CountersKept.of (by simp)
  · exact CountersKept.pre ((CountersKept_framesEnded _ _ _).trans (CountersKept_retry _)) (by simp)

theorem CountersKept_handHold (b g) (s : State) : CountersKept s (s.handEntryToHold b g) := by
  refine (CountersKept_removeZone s).trans ?_
  apply CountersKept.of
  unfold State.handEntryToHold; dsimp only; split <;> simp

theorem CountersKept_testGrout (s : State) : CountersKept s s.testGrout := by
  unfold State.testGrout; split
  · exact CountersKept.of rfl
  · split
    · unfold State.restrain; exact CountersKept.pre (CountersKept_queue _ _ _ _) (by simp)
    · split
      · unfold State.release; exact CountersKept.pre (CountersKept_queue _ _ _ _) (by simp)
      · exact CountersKept.of rfl

theorem find_update {α : Type} (num : α → Nat) (xs : List α) (f : α → α) (hf : ∀ p, num (f p) = num p) (n m : Nat) :
    (xs.map fun p => if num p = n then f p else p).find? (fun p => num p == m) = (xs.find? (fun p => num p == m)).map (fun p => if num p = n then f p else p) := by
  induction xs with
  | nil => rfl
  | cons p ps ih => 
    simp only [List.map_cons, List.find?_cons]
    have : num (if num p = n then f p else p) = num p := by split <;> simp [hf]
    rw [this]; split <;> simp_all

theorem find_number {α : Type} {num : α → Nat} {xs : List α} {m p} (h : xs.find? (fun p => num p == m) = some p) : num p = m := by
  have := List.find?_some h; simpa using this

/-- A record not changed among several, found by its number. -/
theorem find_update_ne {α : Type} (num : α → Nat) (xs : List α) (f : α → α) (hf : ∀ p, num (f p) = num p) (n m : Nat) (h : m ≠ n) :
    (xs.map fun p => if num p = n then f p else p).find? (fun p => num p == m) = xs.find? (fun p => num p == m) := by
  rw [find_update num xs f hf]; rcases hh : xs.find? (fun p => num p == m) with _ | p
  · rfl
  · have := find_number hh; simp; intro h2; omega

/-- The record changed among several, found by its number. -/
theorem find_update_eq {α : Type} (num : α → Nat) (xs : List α) (f : α → α) (hf : ∀ p, num (f p) = num p) (n : Nat) :
    (xs.map fun p => if num p = n then f p else p).find? (fun p => num p == n) = (xs.find? (fun p => num p == n)).map f := by
  rw [find_update num xs f hf]; rcases hh : xs.find? (fun p => num p == n) with _ | p
  · rfl
  · have := find_number hh; simp [this]

theorem updatePort_ne (s : State) (f : Port → Port) (hf : ∀ p, (f p).number = p.number) (n m) (h : m ≠ n) : (s.updatePort n f).port? m = s.port? m := find_update_ne Port.number _ f hf n m h

theorem updatePort_eq (s : State) (f : Port → Port) (hf : ∀ p, (f p).number = p.number) (n) : (s.updatePort n f).port? n = (s.port? n).map f := find_update_eq Port.number _ f hf n

theorem updateCylinder_ne (s : State) (f : Cylinder → Cylinder) (hf : ∀ p, (f p).number = p.number) (n m) (h : m ≠ n) : (s.updateCylinder n f).cylinder? m = s.cylinder? m := find_update_ne Cylinder.number _ f hf n m h

theorem updateCylinder_eq (s : State) (f : Cylinder → Cylinder) (hf : ∀ p, (f p).number = p.number) (n) : (s.updateCylinder n f).cylinder? n = (s.cylinder? n).map f := find_update_eq Cylinder.number _ f hf n

theorem updateDrive_ne (s : State) (f : Drive → Drive) (hf : ∀ p, (f p).number = p.number) (n m) (h : m ≠ n) : (s.updateDrive n f).drive? m = s.drive? m := find_update_ne Drive.number _ f hf n m h

theorem updateDrive_eq (s : State) (f : Drive → Drive) (hf : ∀ p, (f p).number = p.number) (n) : (s.updateDrive n f).drive? n = (s.drive? n).map f := find_update_eq Drive.number _ f hf n

theorem updateEntry_ne (s : State) (f : ViewEntry → ViewEntry) (hf : ∀ p, (f p).member = p.member) (n m) (h : m ≠ n) : (s.updateEntry n f).entry? m = s.entry? m := find_update_ne ViewEntry.member _ f hf n m h

theorem updateEntry_eq (s : State) (f : ViewEntry → ViewEntry) (hf : ∀ p, (f p).member = p.member) (n) : (s.updateEntry n f).entry? n = (s.entry? n).map f := find_update_eq ViewEntry.member _ f hf n

theorem endDose_idle (e) (s : State) (h : s.doseInFlight = false) : s.endDose e = s := by
  unfold State.endDose; unfold State.doseInFlight at h; split
  · rename_i d hd; rw [hd] at h; simp at h; rw [if_neg]; cases hh : d.ending <;> simp_all
  · rfl

theorem stopDose_idle (s : State) (h : s.doseInFlight = false) : s.stopDose = s := endDose_idle _ _ h

theorem doseInFlight_congr {s t : State} (h : t.grout = s.grout) : t.doseInFlight = s.doseInFlight := by simp [State.doseInFlight, h]

theorem handEntryToHold_grout_idle (b g) (s : State) (h : s.doseInFlight = false) : (s.handEntryToHold b g).grout = s.grout := by
  unfold State.handEntryToHold; dsimp only; split
  · simp only [State.commandScrew_frame, State.engineEntersHold_frame]
    rw [stopDose_idle]
    · simp
    · rw [doseInFlight_congr (s := s) (by simp)]; exact h
  · simp

theorem imposeHold_grout_idle (c) (s : State) (al) (h : s.doseInFlight = false) : (s.imposeHold c al).grout = s.grout := by
  unfold State.imposeHold; dsimp only; simp only [failRound_phase]
  rcases s.machine.phase with now | _ | _ <;> simp only
  · have : ∀ x : State, x.grout = s.grout → x.stopDose.grout = s.grout := by
      intro x hx; rw [stopDose_idle]; exact hx; rw [doseInFlight_congr hx]; exact h
    have h2 : ∀ n g u, (if (State.raises n g || al) = true then State.queueFrame (.hold c g) (State.countHold c u n g (State.failRound s.own .held s)) else State.countHold c u n g (State.failRound s.own .held s)).grout = s.grout := by
      intro n g u; split <;> simp
    split
    · exact this _ (h2 _ _ _)
    · exact h2 _ _ _
  · rw [handEntryToHold_grout_idle]; · simp
    rw [doseInFlight_congr (s := s) (by simp)]; exact h
  · rw [handEntryToHold_grout_idle]; · simp
    rw [doseInFlight_congr (s := s) (by simp)]; exact h

theorem stopDose_ends (s : State) : s.stopDose.doseInFlight = false := by
  unfold State.stopDose State.endDose
  rcases hd : s.grout.dose with _ | d
  · simp [State.doseInFlight, hd]
  · cases hh : d.ending <;> simp [State.doseInFlight, hd, hh]

/-- Outside BORE, or at a node that is not MEMBER, no drive runs after the test of R84. -/
theorem testDrives_drivesStop (s : State) (h : s.machine.phase ≠ .bore ∨ s.node.state ≠ .member) : s.testDrives.DrivesStop := by
  have : ∀ d, s.runCondition d = false := by
    intro d; unfold State.runCondition; rcases h with h | h <;> simp [h]
  unfold State.DrivesStop State.testDrives
  simp
  intro d hd
  unfold State.testDrive; rw [this]
  cases h : d.state <;> simp [h]

theorem blocksEnterFaulted_grout_idle (s : State) (h : s.doseInFlight = false) : s.blocksEnterFaulted.grout = s.grout := by
  unfold State.blocksEnterFaulted; dsimp only
  simp only [State.commandScrew_frame]
  have : ∀ x : State, x.grout = s.grout → x.stopDose.grout = s.grout := by
      intro x hx; rw [stopDose_idle]; exact hx; rw [doseInFlight_congr hx]; exact h
  split
  · simp only [State.haltErector_frame]; apply this; simp
  · apply this; simp

theorem takeFault_grout_idle (c) (s : State) (h : s.doseInFlight = false) : (s.takeFault c).grout = s.grout := by
  have key : ∀ x : State, x.grout = s.grout → (x.imposeHold .nodeFault).blocksEnterFaulted.grout = s.grout := by
    intro x hx
    rw [blocksEnterFaulted_grout_idle, imposeHold_grout_idle, hx]
    · rw [doseInFlight_congr hx]; exact h
    · rw [doseInFlight_congr (imposeHold_grout_idle _ _ _ (by rw [doseInFlight_congr hx]; exact h)), doseInFlight_congr hx]; exact h
  unfold State.takeFault; split
  · simp
  · simp
  · exact key _ (by simp)
  · exact key _ (by simp)

theorem NoticesKept_blocks (s : State) : NoticesKept s s.blocksEnterFaulted := by
  apply NoticesKept.of; unfold State.blocksEnterFaulted; dsimp only; split <;> simp

/-- What a fault does at a JOINING or MEMBER node (R26). -/
theorem takeFault_effect (c) (s : State) (h : s.node.state = .joining ∨ s.node.state = .member) :
    (s.takeFault c).node = { s.node with state := .faulted, cause := some c, listen := none }
    ∧ (s.takeFault c).noticed .nodeFault = true ∧ (s.takeFault c).machine.phase = .hold .hard ∧ (s.takeFault c).machine.round = none
    ∧ (s.takeFault c).DrivesStop ∧ (s.takeFault c).doseInFlight = false
    ∧ (∀ d ∈ (s.takeFault c).thrust.cylinders, d.state ≠ .retracting ∧ d.state ≠ .reseating)
    ∧ (s.ownsErector = true → (s.takeFault c).engine.erector = .halted) ∧ (s.ownsMuck = true → (s.takeFault c).muck.screw = .stop) := by
  have e : s.takeFault c = (State.imposeHold .nodeFault (State.notify .nodeFault (s.setNode { s.node with state := .faulted, cause := some c, listen := none }))).blocksEnterFaulted := by
    unfold State.takeFault; rcases h with h | h <;> simp [h]
  rw [e]
  have hn := notify_noticed (s.setNode { s.node with state := .faulted, cause := some c, listen := none }) .nodeFault
  have hnode : (State.notify .nodeFault (s.setNode { s.node with state := .faulted, cause := some c, listen := none })).node = { s.node with state := .faulted, cause := some c, listen := none } := by simp
  generalize State.notify .nodeFault (s.setNode { s.node with state := .faulted, cause := some c, listen := none }) = u at *
  have hoE : s.ownsErector = u.ownsErector := by simp [State.ownsErector, State.configured, State.isErectorOwner, State.memberSection?, State.cfg, State.own, hnode]
  have hoM : s.ownsMuck = u.ownsMuck := by simp [State.ownsMuck, State.configured, State.isMuckOwner, State.memberSection?, State.cfg, State.own, hnode]
  have hv := imposeHold_phase_hard .nodeFault u false rfl
  have hr := imposeHold_round .nodeFault u false
  have hnn := NoticesKept_impose .nodeFault u false _ hn
  have hnv : (State.imposeHold .nodeFault u false).node = u.node := by simp
  have hE : (State.imposeHold .nodeFault u false).ownsErector = u.ownsErector := by simp [State.ownsErector, State.configured, State.isErectorOwner, State.memberSection?, State.cfg, State.own]
  have hM : (State.imposeHold .nodeFault u false).ownsMuck = u.ownsMuck := by simp [State.ownsMuck, State.configured, State.isMuckOwner, State.memberSection?, State.cfg, State.own]
  generalize State.imposeHold .nodeFault u false = v at *
  refine ⟨by simp [hnv, hnode], NoticesKept_blocks _ _ hnn, by simp [hv], by simp [hr], ?_, ?_, ?_, ?_, ?_⟩
  · have := testDrives_drivesStop v (Or.inr (by simp [hnv, hnode]))
    unfold State.DrivesStop at *
    have hd : v.blocksEnterFaulted.drive = v.testDrives.drive := by
      unfold State.blocksEnterFaulted; dsimp only; split <;> simp
    rw [hd]; exact this
  · unfold State.blocksEnterFaulted; dsimp only
    rw [doseInFlight_congr (s := v.testDrives.thrustEntersFaulted.stopDose) (by split <;> simp)]
    exact stopDose_ends _
  · have hd : v.blocksEnterFaulted.thrust = v.thrustEntersFaulted.thrust := by
      unfold State.blocksEnterFaulted; dsimp only; split <;> simp [State.thrustEntersFaulted]
    rw [hd]; unfold State.thrustEntersFaulted; simp
    intro x hx; split <;> simp_all
  · intro ho
    unfold State.blocksEnterFaulted; dsimp only
    rw [if_pos]
    · simp [State.haltErector]
    · rw [← ho, hoE, ← hE]; simp [State.ownsErector, State.configured, State.isErectorOwner, State.memberSection?, State.cfg, State.own]
  · intro ho
    unfold State.blocksEnterFaulted; dsimp only
    have hx : ∀ x : State, x.node = v.node → x.commandScrew.muck.screw = .stop := by
      intro x hx
      have : x.ownsMuck = true := by rw [← ho, hoM, ← hM]; simp [State.ownsMuck, State.configured, State.isMuckOwner, State.memberSection?, State.cfg, State.own, hx]
      unfold State.commandScrew; rw [if_pos this]; simp [hx, hnv, hnode]
    apply hx
    split <;> simp

theorem handEntryToHold_drive (b g) (s : State) : (s.handEntryToHold b g).drive = s.removeZoneFrames.testDrives.drive := by
  unfold State.handEntryToHold; dsimp only; split <;> simp

theorem handEntryToHold_drivesStop (b g) (s : State) (h : s.machine.phase ≠ .bore) : (s.handEntryToHold b g).DrivesStop := by
  have := testDrives_drivesStop s.removeZoneFrames (Or.inl (by simpa using h))
  unfold State.DrivesStop at *; rw [handEntryToHold_drive]; exact this

theorem handEntryToHold_thrust (b g) (s : State) : (s.handEntryToHold b g).thrust = (s.removeZoneFrames.testDrives.thrustEntersHold b).thrust := by
  unfold State.handEntryToHold; dsimp only; split <;> simp

theorem handEntryToHold_zone (b g) (s : State) : (s.handEntryToHold b g).thrust.zone = none := by
  rw [handEntryToHold_thrust]; simp [State.thrustEntersHold]

theorem handEntryToHold_noneAdvancing (g) (s : State) : ∀ c ∈ (s.handEntryToHold true g).thrust.cylinders, c.state ≠ .advancing := by
  rw [handEntryToHold_thrust]; simp [State.thrustEntersHold]
  intro c hc; split
  · simp
  · split
    · simp
    · assumption

theorem handEntryToHold_doseStopped (b) (s : State) : (s.handEntryToHold b .hard).doseInFlight = false := by
  unfold State.handEntryToHold; dsimp only
  rw [if_pos rfl]
  rw [doseInFlight_congr (s := (s.removeZoneFrames.testDrives.thrustEntersHold b).stopDose) (by simp)]
  exact stopDose_ends _

theorem failRound_some (st r x) (s : State) (h : s.machine.round = some x) : s.failRound st r = ((s.setMachine { s.machine with round := none, lastFailure := some ⟨x.target, st, r⟩ }).notify
      .voteFailed).count fun c => { c with failedVotes := c.failedVotes + 1 } := by
  unfold State.failRound; rw [h]

theorem failRound_none (st r) (s : State) (h : s.machine.round = none) : s.failRound st r = s := by
  unfold State.failRound; rw [h]

/-- The phase unit after a round fails (R53). -/
theorem failRound_machine (st r) (s : State) : (s.failRound st r).machine = { s.machine with
   round := none, lastFailure := match s.machine.round with | some x => some ⟨x.target, st, r⟩ | none => s.machine.lastFailure } := by
  unfold State.failRound; split
  · rename_i h; rw [h]; simp; rw [← h]
  · rename_i h; rw [h]; simp

theorem CountersKept_takeHold_inner (c se g) (s : State) : CountersKept (s.failRound c .held) (s.takeHold c se g) := by
  unfold State.takeHold; dsimp only
  generalize State.failRound c .held s = u
  split
  · split
    · exact CountersKept.of (by simp)
    · exact CountersKept.of (by simp)
  · exact CountersKept.pre (CountersKept_handHold _ _ _) (by simp)
  · exact CountersKept.pre (CountersKept_handHold _ _ _) (by simp)

end Sys2Proof.Machine
end

