-- ==== Sys2Proof/Laws/Statements.lean ====
section
/-! SUPPORT. The operations said in the words of the statements: the conditions of R73 and R123, the test for the head
step (R121, R109), and how a frame reaches the node's blocks (R9, R11). -/

namespace Sys2Proof.Machine

/-! ### Conditions -/

/-- The check of a zone request is R73's. -/
theorem zoneTaken_iff (s : State) (sender : Nat) (z : ZoneRequest) :
    s.zoneTaken sender z = true ↔ s.TakesZone sender z := by
  have zone : (!(s.zoneCylinders z.position).isEmpty) = true ↔ s.HasZone z.position := by
    simp [State.zoneCylinders, State.inZone, State.HasZone]
    constructor
    · rintro ⟨c, hc, h, e⟩; exact ⟨h, c, hc, e⟩
    · rintro ⟨h, c, hc, e⟩; exact ⟨c, hc, h, e⟩
  unfold State.zoneTaken State.TakesZone
  rw [Bool.and_eq_true, zone]
  simp [and_assoc]

theorem zoneRepeats_iff (s : State) (z : ZoneRequest) : s.zoneRepeats z = true ↔ s.RepeatsZone z := by
  unfold State.zoneRepeats State.RepeatsZone
  cases s.thrust.zone <;> simp [and_assoc]

/-- The check of an answer is R123's. -/
theorem answerFits_iff (s : State) (sender : Nat) (f : Nat × Nat × Nat) :
    s.answerFits sender f = true ↔ s.TakesAnswer sender f := by
  unfold State.answerFits State.TakesAnswer
  rcases s.currentStep with _ | ⟨p, st⟩ <;> simp [and_assoc]

/-! ### The head step -/

/-- Everything the test for the head step can do. -/
theorem takeHeadStep_taken (s : State) : s.HeadStepTaken s.takeHeadStep := by
  refine ⟨?_, ?_⟩
  · intro h
    unfold State.takeHeadStep; split
    · rename_i c
      rcases h with h | h | h | h | h
      · exact absurd c.1 h
      · exact absurd c.2.1 h
      · exact absurd c.2.2.1 h
      · simp [c.2.2.2] at h
      · rw [h]
    · rfl
  · intro p st h1 h2 h3 h4 h5
    have faulted : ∀ reason, s.EngineFaulted reason p st (s.engineFaults reason p st) := fun reason =>
      ⟨by simp [State.engineFaults], notify_noticed _ _⟩
    have only : ∀ reason, s.OnlyEngine (s.engineFaults reason p st) := fun reason => by
      rw [onlyEngine_iff]; simp [State.engineFaults]
    have e : s.takeHeadStep = (s.stepCheck p st).elim
        ((s.setEngine { s.engine with seated := some false, retry := 0 }).issueStage .clear)
        (fun reason => s.engineFaults reason p st) := by
      unfold State.takeHeadStep; rw [if_pos ⟨h1, h2, h3, h4⟩, h5]; cases c : s.stepCheck p st <;> simp only [c, Option.elim]
    have held : (s.setEngine { s.engine with seated := some false, retry := 0 }).currentStep = some (p, st) := h5
    obtain ⟨i1, i2⟩ := issueStage_effect .clear _ p st held
    have run : s.OnlyEngine ((s.setEngine { s.engine with seated := some false, retry := 0 }).issueStage .clear) := by
      rw [onlyEngine_iff]; simp
    have members : (s.setEngine { s.engine with seated := some false, retry := 0 }).zoneMembersOf st.position
        = s.zoneMembersOf st.position := rfl
    refine ⟨?_, ?_, ?_⟩
    · rw [e]; cases s.stepCheck p st
      · exact run
      · exact only _
    · intro hp
      have c : s.stepCheck p st = some .placed := by simp [State.stepCheck, hp]
      rw [e, c]; exact faulted _
    · intro hp
      refine ⟨?_, ?_, ?_⟩
      · intro hk hi
        have c : s.stepCheck p st = some .keyEarly := by simp [State.stepCheck, hp, hk, hi]
        rw [e, c]; exact faulted _
      · intro hk hi
        have c : s.stepCheck p st = some .keyMissing := by simp [State.stepCheck, hp, hk, hi]
        rw [e, c]; exact faulted _
      · intro hk hs
        have c : s.stepCheck p st = none := by
          unfold State.stepCheck
          rw [if_neg (by simpa using hp), if_neg (fun h => absurd h.2 (by have := hk h.1; omega)),
            if_neg (fun h => hs h.1 h.2)]
        rw [e, c, Option.elim_none]
        refine ⟨by rw [i2, members]; rfl, ?_⟩
        intro place
        unfold State.issueStage; rw [held]
        obtain ⟨q, m, b⟩ := queueFrame_holds (((s.setEngine { s.engine with seated := some false, retry := 0 }).setEngine
          { (s.setEngine { s.engine with seated := some false, retry := 0 }).engine with
            attempt := s.nextAttempt, zoneMembers := s.zoneMembersOf st.position, answered := [], state := .clearing }))
          (.zoneClear (zoneBytes s.machine.ring st.position s.nextAttempt)) place rfl
        exact ⟨q, m, b⟩

/-! ### Frames that reach the node's blocks -/

/-- An own frame heard back is delivered and leaves the wire, when its delivery leaves no RING_CLOSED waiting and does not
clear close pending. -/
theorem heardBack_settled (s : State) (w : WireFrame) (tag : w.tx.tag = .plain)
    (body : isClosing w.tx.frame.body = false)
    (requeue : ((s.setWire none).deliverOwn w.tx.frame.body).engine.requeue = none)
    (closing : s.engine.closePending = true →
      ((s.setWire none).deliverOwn w.tx.frame.body).engine.closePending = true) :
    s.heardBack w = (s.setWire none).deliverOwn w.tx.frame.body := by
  generalize hv : (s.setWire none).deliverOwn w.tx.frame.body = v at *
  have sent : v.reportSent w.tx = v := by
    unfold State.reportSent; rw [tag]
    cases h : w.tx.frame.body <;> simp_all [isClosing]
  unfold State.heardBack
  dsimp only
  rw [hv, sent]
  have same : State.closeCleared s.engine.closePending v = v := by
    unfold State.closeCleared; split
    · rename_i h; simp only [Bool.and_eq_true] at h; rw [closing h.1] at h; simp at h
    · rfl
  rw [same]
  unfold State.retryRingClosed; rw [requeue]

/-- An own frame heard back reaches the loopback check as it was sent. -/
theorem exec_loopback_same {s : State} {w : WireFrame} (h : s.link.onWire = some w) (won : w.won = true) :
    exec (.loopbackCheck .same) s = .next (s.heardBack w) := by
  unfold exec execLoopbackCheck; simp [h, won, State.checkLoopback]

end Sys2Proof.Machine
end

