-- ==== Sys2Proof/Laws/Closing.lean ====
section
/-! SUPPORT. What the close of a ring waits for, kept by the operations a frame of another kind brings about, and so how an
own frame heard back is settled (R9, R129). -/

namespace Sys2Proof.Machine

/-! ### No RING_CLOSED waiting, none made to wait -/

/-- The youngest frame of urgency 2 or 3 is no RING_CLOSED (R6). -/
theorem youngestLow_not_closing {q : List TxFrame} {v : TxFrame} (h : youngestLow q = some v) :
    isClosing v.frame.body = false := by
  have low : ∀ q v, youngestLow q = some v → 2 ≤ urgency v.frame.body := by
    intro q; induction q with
    | nil => intro v h; simp [youngestLow] at h
    | cons g rest ih =>
      intro v h
      unfold youngestLow at h
      split at h
      · split at h
        · cases h; assumption
        · cases h
      · rename_i y hy
        split at h
        · rename_i c; cases h; simp at c; exact c.1
        · cases h; exact ih _ hy
  have := low q v h
  cases hb : v.frame.body <;> simp_all [isClosing, urgency]

/-- With no RING_CLOSED waiting, a frame that is none changes nothing of the engine, a HOLD that evicts another
included. -/
theorem queueTagged_engine_of_none (t : Station) (b : Body) (tag : TxTag) (s : State) (hr : s.engine.requeue = none)
    (hb : isClosing b = false) : (s.queueTagged t b tag).engine = s.engine := by
  by_cases hh : isHold b = false
  · exact queueTagged_engine _ _ _ hb hh
  · unfold State.queueTagged; simp only [hh]
    have ha : ∀ x : State, ((x.stepAge).admitFrame (x.newFrame t b tag)).engine = x.engine := fun x => by
      rw [admitFrame_engine _ (by simpa [State.newFrame] using hb)]; rfl
    simp only [Bool.not_eq_false] at hh
    simp only [if_true]
    unfold State.admitHold; split
    · split
      · rw [frameEnded_engine _ _ (by simpa [State.newFrame] using hb)]; simp
      · rename_i v hv
        have e : ∀ x : State, x.engine = s.engine → (x.frameEnded v .evicted).retryRingClosed.engine = s.engine := by
          intro x hx
          have hf := frameEnded_engine .evicted x (youngestLow_not_closing hv)
          unfold State.retryRingClosed; rw [hf, hx, hr]; simp [hf, hx]
        exact e _ (by simp [State.stepAge])
    · exact ha s

/-- What the close of a ring waits for: close pending and the RING_CLOSED to be queued again (R129). -/
def State.closing (s : State) : Bool × Option Nat := (s.engine.closePending, s.engine.requeue)

theorem framesEnded_engine (fs : List TxFrame) (e : Ending) (s : State)
    (h : ∀ f ∈ fs, isClosing f.frame.body = false) : (s.framesEnded fs e).engine = s.engine := by
  unfold State.framesEnded
  induction fs generalizing s with
  | nil => rfl
  | cons x xs ih =>
    rw [List.foldl_cons, ih _ (fun f hf => h f (List.mem_cons_of_mem _ hf)), frameEnded_engine _ _ (h x (by simp))]

theorem removeZoneFrames_engine (s : State) (hr : s.engine.requeue = none) : s.removeZoneFrames.engine = s.engine := by
  have e : ∀ x : State, x.engine = s.engine →
      (x.framesEnded (s.link.queue.filter fun f => isZoneRequest f.frame.body) .removed).retryRingClosed.engine
        = s.engine := by
    intro x hx
    have hf := framesEnded_engine (s.link.queue.filter fun f => isZoneRequest f.frame.body) .removed x (by
      intro f hf; have := (List.mem_filter.mp hf).2; cases hb : f.frame.body <;> simp_all [isClosing, isZoneRequest])
    unfold State.retryRingClosed; rw [hf, hx, hr]; simp [hf, hx]
  unfold State.removeZoneFrames; dsimp only; split
  · simp
  · exact e _ (by simp)

theorem engineEntersHold_closing (s : State) : s.engineEntersHold.closing = s.closing := by
  simp [State.closing]

theorem handEntryToHold_closing (b : Bool) (g : Grade) (s : State) (hr : s.engine.requeue = none) :
    (s.handEntryToHold b g).closing = s.closing := by
  have e := removeZoneFrames_engine s hr
  unfold State.handEntryToHold
  simp only [State.closing]
  split <;> simp [e]

/-- A hold leaves what the close of a ring waits for. -/
theorem imposeHold_closing (c : HoldCause) (s : State) (always : Bool) (hr : s.engine.requeue = none) :
    (s.imposeHold c always).closing = s.closing := by
  have fe : (s.failRound s.own .held).engine = s.engine := by simp
  have st : ∀ x : State, x.engine = s.engine → x.closing = s.closing := fun x hx => by unfold State.closing; rw [hx]
  unfold State.imposeHold
  dsimp only
  generalize s.failRound s.own .held = u at fe
  have q : ∀ (x : State) (b : Body), x.engine = u.engine → isClosing b = false → (x.queueFrame b).engine = s.engine := by
    intro x b hx hb; unfold State.queueFrame
    rw [queueTagged_engine_of_none _ _ _ _ (by rw [hx, fe]; exact hr) hb, hx, fe]
  split
  · generalize hv : u.countHold c u.own _ _ = v
    have hve : v.engine = u.engine := by rw [← hv]; rfl
    have hq := q v (.hold c (causeGrade c .soft)) hve rfl
    split <;> split
    · exact st _ (by simp [hq])
    · exact st _ (by simp [hve, fe])
    · exact st _ hq
    · exact st _ (by rw [hve, fe])
  all_goals
    have h2 := q (u.openHold c u.own (causeGrade c .soft)) (.hold c (causeGrade c .soft)) rfl rfl
    rw [handEntryToHold_closing _ _ _ (by rw [h2]; exact hr)]
    exact st _ h2

theorem closing_of_engine {s t : State} (h : t.engine = s.engine) : t.closing = s.closing := by
  unfold State.closing; rw [h]

theorem queueFrame_closing (b : Body) (s : State) (hr : s.engine.requeue = none) (hb : isClosing b = false) :
    (s.queueFrame b).closing = s.closing := closing_of_engine (queueTagged_engine_of_none _ _ _ _ hr hb)

theorem requeue_of_closing {s t : State} (h : t.closing = s.closing) :
    t.engine.requeue = s.engine.requeue :=
  congrArg Prod.snd h

theorem closePending_of_closing {s t : State} (h : t.closing = s.closing) :
    t.engine.closePending = s.engine.closePending :=
  congrArg Prod.fst h

theorem evaluateOverdig_closing (s : State) (hr : s.engine.requeue = none) : s.evaluateOverdig.closing = s.closing := by
  unfold State.evaluateOverdig; split
  · exact imposeHold_closing _ _ _ hr
  · split <;> rfl

theorem updateMachineAdvance_closing (s : State) (hr : s.engine.requeue = none) :
    s.updateMachineAdvance.closing = s.closing := by
  unfold State.updateMachineAdvance; split
  · exact evaluateOverdig_closing _ hr
  · rfl

theorem testStrokeEnd_closing (s : State) (hr : s.engine.requeue = none) : s.testStrokeEnd.closing = s.closing := by
  unfold State.testStrokeEnd; split
  · exact imposeHold_closing _ _ _ hr
  · rfl

theorem groutIncrement_closing (d : Nat) (s : State) (hr : s.engine.requeue = none) :
    (s.groutIncrement d).closing = s.closing := by
  have e : ∀ x : State, x.testGrout.engine = x.engine := fun x => by
    unfold State.testGrout; split
    · rfl
    · split
      · simp
      · split <;> simp
  unfold State.groutIncrement; dsimp only
  split
  · have h := imposeHold_closing .shortfall (s.setPorts (s.grout.ports.map fun p =>
      { p with owed := min owedCap (p.owed + d * s.portFactor p.number) })).testGrout false (by rw [e]; exact hr)
    refine (closing_of_engine (by simp)).trans (h.trans (closing_of_engine ?_))
    rw [e]; rfl
  · refine closing_of_engine ?_
    simp [e]

theorem recomputeAdvance_closing (s : State) (hr : s.engine.requeue = none) : s.recomputeAdvance.closing = s.closing := by
  have c : ∀ x : State, x.engine.requeue = none → x.creditAdvance.closing = x.closing := by
    intro x hx; unfold State.creditAdvance; split
    · exact groutIncrement_closing _ _ hx
    · rfl
  have st : ∀ x : State, x.testSteer.testStrokeReached.engine = x.engine := by intro x; simp
  unfold State.recomputeAdvance; split
  · dsimp only
    have h0 := c (s.setThrust { s.thrust with sectorAdvance := s.computedAdvance }) hr
    have h1 : State.closing
        (s.setThrust { s.thrust with sectorAdvance := s.computedAdvance }).creditAdvance.testSteer.testStrokeReached
        = s.closing := (closing_of_engine (st _)).trans h0
    split
    · exact h1
    · have h2 := testStrokeEnd_closing _ ((requeue_of_closing h1).trans hr)
      exact (updateMachineAdvance_closing _ ((requeue_of_closing (h2.trans h1)).trans hr)).trans (h2.trans h1)
  · rfl

theorem handEntryToBore_closing (s : State) (hr : s.engine.requeue = none) : s.handEntryToBore.closing = s.closing := by
  have d : s.driveEntersBore.closing = s.closing := by
    unfold State.driveEntersBore; dsimp only; split
    · exact (imposeHold_closing _ _ _ (by simpa using hr)).trans (closing_of_engine (by simp))
    · exact closing_of_engine (by simp)
  have t : (s.driveEntersBore.whilePhase .bore State.thrustEntersBore).closing = s.closing := by
    unfold State.whilePhase; split
    · unfold State.thrustEntersBore; dsimp only
      generalize hv : State.mapCylinders _ _ = v
      have e : v.closing = s.driveEntersBore.closing := by rw [← hv]; rfl
      exact (recomputeAdvance_closing _ ((requeue_of_closing (e.trans d)).trans hr)).trans (e.trans d)
    · exact d
  unfold State.handEntryToBore
  exact (closing_of_engine (by simp)).trans t

theorem issueStage_closing (k : ZoneKind) (s : State) : (s.issueStage k).closing = s.closing := by
  rcases h : s.currentStep with _ | ⟨p, st⟩
  · unfold State.issueStage; rw [h]
  · unfold State.closing; rw [(issueStage_effect k s p st h).2]

theorem takeHeadStep_closing (s : State) : s.takeHeadStep.closing = s.closing := by
  unfold State.takeHeadStep; split
  · split
    · rfl
    · split
      · simp [State.closing, State.engineFaults]
      · exact issueStage_closing _ _
  · rfl

theorem handEntryToBuild_closing (s : State) : s.handEntryToBuild.closing = s.closing := by
  have e : ∀ x : State, x.engineEntersBuild.closing = x.closing := by
    intro x; unfold State.engineEntersBuild; split
    · exact issueStage_closing _ _
    · exact takeHeadStep_closing _
    all_goals rfl
  unfold State.handEntryToBuild
  have c : s.testDrives.testDose.engineEntersBuild.commandScrew.closing
      = s.testDrives.testDose.engineEntersBuild.closing := closing_of_engine (by simp)
  rw [c, e]
  exact closing_of_engine (by simp)

theorem recordVote_closing (n : Nat) (t : VoteTarget) (a : VoteAnswer) (s : State) (hr : s.engine.requeue = none) :
    (s.recordVote n t a).closing = s.closing := by
  unfold State.recordVote; split
  · rfl
  · split
    · dsimp only; split
      · exact closing_of_engine (by simp)
      · split
        · unfold State.succeedRound; dsimp only; split
          · exact handEntryToBore_closing _ hr
          · exact handEntryToBuild_closing _
        · rfl
    · rfl

/-- What a frame that reaches the node's blocks does: the block takes it. -/
theorem exec_reaches {row : Station → Station → Instr} {body : Body} {i : Instr} {sender : Nat} {s u : State}
    (take : Nat → State → State) (h : s.Reaches row body i sender u)
    (row_exec : ∀ station target, s.HearsPeer station target → exec (row station target) s = .next (take station.toNat s))
    (own : ∀ v : State, v.configured = true → v.isMember v.own = true → v.deliverOwn body = take v.own v)
    (notClosing : isClosing body = false)
    (kept : u.engine.requeue = none → (take sender u).closing = u.closing) :
    exec i s = .next (take sender u) := by
  rcases h with ⟨a, b, rfl, h, rfl, rfl⟩ | ⟨w, rfl, hw, won, rfl, tag, hc, hm, hr, rfl, rfl⟩
  · exact row_exec a b h
  · rw [exec_loopback_same hw won]
    have d : (s.setWire none).deliverOwn w.tx.frame.body = take s.own (s.setWire none) := own _ hc hm
    have k := kept hr
    rw [heardBack_settled s w tag notClosing (by rw [d]; exact (requeue_of_closing k).trans hr)
      (fun c => by rw [d]; exact (closePending_of_closing k).trans c), d]

end Sys2Proof.Machine
end

