-- ==== Sys2Proof/Laws/Cylinders.lean ====
section
/-! SUPPORT. Cylinders and the restraint set in the words of the statements: what a forced state and CLEAR_FAULT make of a
cylinder, the test of the zone request in flight, several frames queued, and the restraint set rebuilt (R185, R186, R62, R76,
R188, R81). -/

namespace Sys2Proof.Machine

/-! ### Cylinders, in the words of the statements -/

/-- What FORCE_BEAR makes of its cylinder (R185). -/
theorem forceBear_forced (s : State) (c : Cylinder) : s.CylinderForced .forceBear c (s.forceBear c) := by
  refine ⟨fun _ => ?_, fun h => nomatch h⟩
  unfold State.forceBear
  cases h : c.state <;> by_cases g : s.node.state = .faulted <;> simp [g]

/-- What FORCE_CLEAR makes of its cylinder (R186). -/
theorem forceClear_forced (s : State) (c : Cylinder) : s.CylinderForced .forceClear c (s.forceClear c) := by
  refine ⟨fun h => (nomatch h), fun _ => ?_⟩
  unfold State.forceClear
  cases h : c.state <;> by_cases g : s.node.state = .faulted <;> simp [g]

/-- What CLEAR_FAULT makes of a cylinder, where it captures no origin (R62, R190). -/
theorem clearedCylinder_cleared (s : State) (c : Cylinder)
    (h : ¬s.node.firstMembership = true) :
    s.CylinderCleared c (if c.state = .failed then s.clearedCylinder c
      else if s.node.state = .faulted ∧ c.state = .parked ∧ s.forced .cylinder c.number = some .forceClear then
        { c with state := .retracting }
      else c) := by
  unfold State.CylinderCleared
  rw [if_neg h]
  by_cases f : c.state = .failed
  · rw [if_pos f]
    unfold State.clearedCylinder State.rebuiltCylinder State.contact; dsimp only
    generalize s.cylReport c.number = r
    generalize s.forced .cylinder c.number = p
    cases q : r.fault
    · by_cases k : s.cfg.contactPressure ≤ r.pressure.toNat
      · rcases p with _ | p
        · simp [k, f, q]
        · cases p <;> simp [k, f, q]
      · rcases p with _ | p
        · simp [k, Nat.lt_of_not_le k, f, q]
        · cases p <;> simp [k, Nat.lt_of_not_le k, f, q]
    · simp [f, q]
  · rw [if_neg f]
    split <;> simp_all

/-- Pinned against a request, in the words of the statements (R188). -/
theorem pinnedAgainst_iff (s : State) (k : ZoneKind) (c : Cylinder) : s.pinnedAgainst k c = true ↔ s.AgainstZone k c := by
  unfold State.pinnedAgainst State.AgainstZone State.ZoneDone
  cases k <;> simp [not_or] <;> tauto

/-- Completing a request, in the words of the statements (R76). -/
theorem completes_iff (k : ZoneKind) (c : Cylinder) : State.completes k c = true ↔ State.ZoneDone k c := by
  unfold State.completes State.ZoneDone
  cases k <;> simp

/-- The test of the request in flight, in the words of the statements (R188, R76). -/
theorem testZone_effect (s : State) (z : ZoneRequest) (h : s.thrust.zone = some z) :
    ((∃ d ∈ s.zoneCylinders z.position, s.AgainstZone z.kind d) → s.testZone = (s.setZone none).queueRefusal z .pinned)
    ∧ ((∀ d ∈ s.zoneCylinders z.position, ¬s.AgainstZone z.kind d) →
      ((∀ d ∈ s.zoneCylinders z.position, State.ZoneDone z.kind d) → s.testZone = (s.setZone none).queueAnswer z)
      ∧ ((∃ d ∈ s.zoneCylinders z.position, ¬State.ZoneDone z.kind d) → s.testZone = s)) := by
  simp only [← pinnedAgainst_iff, ← completes_iff]
  unfold State.testZone; rw [h]; dsimp only
  refine ⟨fun a => by rw [if_pos (by simpa using a)], fun a => ?_⟩
  rw [if_neg (by simpa using a)]
  exact ⟨fun b => by rw [if_pos (by simpa using b)], fun b => by rw [if_neg (by simpa using b)]⟩

/-! ### Several frames queued, and the restraint set rebuilt -/

/-- A frame put in its place makes the queue one longer. -/
theorem length_insertTx (f : TxFrame) (q : List TxFrame) : (insertTx f q).length = q.length + 1 := by
  induction q with
  | nil => rfl
  | cons g r ih => unfold insertTx; split <;> simp [ih]

/-- Frames that all find a place stand in the queue beside those pending (R4). -/
theorem queueFrames_holds (bs : List Body) : ∀ s : State, s.link.transmitting = true → s.link.held + bs.length ≤ 16 →
    (∀ b ∈ bs, isHold b = false) →
    (s.queueFrames bs).link.transmitting = true ∧ (s.queueFrames bs).link.held = s.link.held + bs.length
    ∧ (∀ q ∈ s.link.queue, q ∈ (s.queueFrames bs).link.queue)
    ∧ ∀ b ∈ bs, ∃ q ∈ (s.queueFrames bs).link.queue, q.frame.body = b := by
  induction bs with
  | nil => intro s t _ _; exact ⟨t, rfl, fun q h => h, fun b h => absurd h (by simp)⟩
  | cons b bs ih =>
    intro s t room nh
    simp only [List.length_cons] at room ⊢
    have place : s.HasPlace := ⟨t, by omega⟩
    have e := queueFrame_of_hasPlace s b place (nh b (by simp))
    have held : (s.queueFrame b).link.held = s.link.held + 1 := by
      rw [e]; cases w : s.link.onWire <;> simp [LinkUnit.held, length_insertTx, w]
    have t' : (s.queueFrame b).link.transmitting = true := by rw [e]; exact t
    obtain ⟨i1, i2, i3, i4⟩ := ih (s.queueFrame b) t' (by omega) fun x h => nh x (by simp [h])
    have same : s.queueFrames (b :: bs) = (s.queueFrame b).queueFrames bs := rfl
    rw [same]
    refine ⟨i1, by omega, fun q h => i3 q ?_, fun x h => ?_⟩
    · rw [e]; exact (mem_insertTx _ _ _).mpr (.inr h)
    · rcases List.mem_cons.mp h with rfl | h
      · exact ⟨_, i3 _ (by rw [e]; exact mem_insertTx_self _ _), rfl⟩
      · exact i4 x h

/-- The order of the restraint set tells entries apart (R77). -/
theorem restraintRank_inj {e g : Nat × RestraintReason} (h : restraintRank e = restraintRank g) : e = g := by
  obtain ⟨a, r⟩ := e; obtain ⟨b, q⟩ := g
  unfold restraintRank at h
  cases r <;> cases q <;> simp [restraintCode] at h ⊢ <;> omega

/-- An entry added in its place (R77). -/
theorem mem_insertRestraint (x e : Nat × RestraintReason) (l) : x ∈ insertRestraint e l ↔ x = e ∨ x ∈ l := by
  induction l with
  | nil => simp [insertRestraint]
  | cons g l ih =>
    unfold insertRestraint
    split
    · simp
    · split
      · rename_i h; rw [restraintRank_inj h]; simp
      · simp [ih]; tauto

/-- Own entries added for several reasons (R81). -/
theorem mem_addOwn (x : Nat × RestraintReason) (rs) : ∀ s : State,
    x ∈ (s.addOwn rs).thrust.restraints ↔ x ∈ s.thrust.restraints ∨ x.1 = s.own ∧ x.2 ∈ rs := by
  induction rs with
  | nil => intro s; simp [State.addOwn]
  | cons r rs ih =>
    intro s
    have e : s.addOwn (r :: rs) = (s.addRestraint s.own r).addOwn rs := rfl
    have o : (s.addRestraint s.own r).own = s.own := rfl
    have m : x ∈ (s.addRestraint s.own r).thrust.restraints ↔ x = (s.own, r) ∨ x ∈ s.thrust.restraints :=
      mem_insertRestraint _ _ _
    rw [e, ih, o, m]
    obtain ⟨a, b⟩ := x
    simp only [Prod.mk.injEq, List.mem_cons]
    tauto

/-- The restraint set after its rebuilding holds the own entries of the units that restrain and no other (R81). -/
theorem mem_restartRestraints (x : Nat × RestraintReason) (s : State) :
    x ∈ s.restartRestraints.thrust.restraints ↔ x.1 = s.own ∧ s.unitRestrains x.2 = true := by
  have e : s.restartRestraints.thrust.restraints = ((s.setThrust { s.thrust with restraints := [] }).addOwn
      ([RestraintReason.grout, .muck, .torque, .face].filter s.unitRestrains)).thrust.restraints := by
    unfold State.restartRestraints; dsimp only
    simp only [(State.queueFrames_frame _ _).2.2.1]
    rfl
  rw [e, mem_addOwn]
  have o : (s.setThrust { s.thrust with restraints := [] }).own = s.own := rfl
  rw [o]
  obtain ⟨a, b⟩ := x
  cases b <;> simp [State.setThrust]

end Sys2Proof.Machine
end

