-- ==== Sys2Proof/Laws/PerInstr.lean ====
section
/-! SUPPORT. One lemma for each command: the frame of a well-formed command has a payload that fits its length field. -/

namespace Sys2Proof.Laws.FrameWf

/-- A well-formed command that is a received frame carries a well-formed payload (R2). -/
def Statement (i : Instr) : Prop := ∀ f, i.frame? = some f → i.wf = true → f.body.wf = true

theorem coldReset (straps : BitVec 3) : Statement (.coldReset straps) := by
  intro f h; cases h

theorem badFrame (received : List Byte) : Statement (.badFrame received) := by
  intro f h; cases h

theorem arbitration (event : ArbitrationEvent) (contenders : List Key) :
    Statement (.arbitration event contenders) := by
  intro f h; cases h

theorem loopbackCheck (heard : Heard) : Statement (.loopbackCheck heard) := by
  intro f h; cases h

theorem hold (sender target : Station) (cause : HoldCause) (grade : Grade) :
    Statement (.hold sender target cause grade) := by
  intro f h hw; cases h; exact hw

theorem propose (sender target : Station) (phase : VoteTarget) : Statement (.propose sender target phase) := by
  intro f h hw; cases h; exact hw

theorem vote (sender target : Station) (phase : VoteTarget) (answer : VoteAnswer) :
    Statement (.vote sender target phase answer) := by
  intro f h hw; cases h; exact hw

theorem beacon (sender target : Station) (contents : Beacon) : Statement (.beacon sender target contents) := by
  intro f h hw; cases h; exact hw

theorem beaconPeriod : Statement .beaconPeriod := by
  intro f h; cases h

theorem silenceExpiry (peer : Nat) : Statement (.silenceExpiry peer) := by
  intro f h; cases h

theorem listenWindowEnd : Statement .listenWindowEnd := by
  intro f h; cases h

theorem voteWindowExpiry : Statement .voteWindowExpiry := by
  intro f h; cases h

theorem restrain (sender target : Station) (payload : List Byte) : Statement (.restrain sender target payload) := by
  intro f h hw; cases h; exact hw

theorem release (sender target : Station) (payload : List Byte) : Statement (.release sender target payload) := by
  intro f h hw; cases h; exact hw

theorem zoneClear (sender target : Station) (payload : List Byte) : Statement (.zoneClear sender target payload) := by
  intro f h hw; cases h; exact hw

theorem zoneSeat (sender target : Station) (payload : List Byte) : Statement (.zoneSeat sender target payload) := by
  intro f h hw; cases h; exact hw

theorem zoneCleared (sender target : Station) (payload : List Byte) :
    Statement (.zoneCleared sender target payload) := by
  intro f h hw; cases h; exact hw

theorem zoneHeld (sender target : Station) (payload : List Byte) : Statement (.zoneHeld sender target payload) := by
  intro f h hw; cases h; exact hw

theorem zoneRefused (sender target : Station) (payload : List Byte) :
    Statement (.zoneRefused sender target payload) := by
  intro f h hw; cases h; exact hw

theorem ringClosed (sender target : Station) (payload : List Byte) :
    Statement (.ringClosed sender target payload) := by
  intro f h hw; cases h; exact hw

theorem configure (sender target : Station) (payload : List Byte) : Statement (.configure sender target payload) := by
  intro f h hw; cases h; exact hw

theorem setpoint (sender target : Station) (payload : List Byte) : Statement (.setpoint sender target payload) := by
  intro f h hw; cases h; exact hw

theorem ringSet (sender target : Station) (payload : List Byte) : Statement (.ringSet sender target payload) := by
  intro f h hw; cases h; exact hw

theorem restart (sender target : Station) : Statement (.restart sender target) := by
  intro f h hw; cases h; exact hw

theorem read (sender target : Station) (args : List Byte) : Statement (.read sender target args) := by
  intro f h hw; cases h; exact hw

theorem watchSet (sender target : Station) (args : List Byte) : Statement (.watchSet sender target args) := by
  intro f h hw; cases h; exact hw

theorem watchRead (sender target : Station) (args : List Byte) : Statement (.watchRead sender target args) := by
  intro f h hw; cases h; exact hw

theorem notices (sender target : Station) (args : List Byte) : Statement (.notices sender target args) := by
  intro f h hw; cases h; exact hw

theorem echo (sender target : Station) (args : List Byte) : Statement (.echo sender target args) := by
  intro f h hw; cases h; exact hw

theorem unknownServiceCode (sender target : Station) (service : Byte) (args : List Byte) :
    Statement (.unknownServiceCode sender target service args) := by
  intro f h hw
  cases h
  exact (Bool.and_eq_true _ _ ▸ hw).2

theorem reply (sender target : Station) (payload : List Byte) : Statement (.reply sender target payload) := by
  intro f h hw; cases h; exact hw

theorem clearFault (sender target : Station) (args : List Byte) : Statement (.clearFault sender target args) := by
  intro f h hw; cases h; exact hw

theorem guardOn (sender target : Station) (args : List Byte) : Statement (.guardOn sender target args) := by
  intro f h hw; cases h; exact hw

theorem guardOff (sender target : Station) (args : List Byte) : Statement (.guardOff sender target args) := by
  intro f h hw; cases h; exact hw

theorem guardLevel (sender target : Station) (args : List Byte) : Statement (.guardLevel sender target args) := by
  intro f h hw; cases h; exact hw

theorem guardProbe (sender target : Station) (args : List Byte) : Statement (.guardProbe sender target args) := by
  intro f h hw; cases h; exact hw

theorem guardReset (sender target : Station) (args : List Byte) : Statement (.guardReset sender target args) := by
  intro f h hw; cases h; exact hw

theorem sampleTimerExpiry : Statement .sampleTimerExpiry := by
  intro f h; cases h

theorem probeEnd : Statement .probeEnd := by
  intro f h; cases h

theorem override (sender target : Station) (args : List Byte) : Statement (.override sender target args) := by
  intro f h hw; cases h; exact hw

theorem overrideCancel (sender target : Station) (args : List Byte) :
    Statement (.overrideCancel sender target args) := by
  intro f h hw; cases h; exact hw

theorem planOpen (sender target : Station) (args : List Byte) : Statement (.planOpen sender target args) := by
  intro f h hw; cases h; exact hw

theorem planStep (sender target : Station) (args : List Byte) : Statement (.planStep sender target args) := by
  intro f h hw; cases h; exact hw

theorem planClose (sender target : Station) (args : List Byte) : Statement (.planClose sender target args) := by
  intro f h hw; cases h; exact hw

theorem planAbort (sender target : Station) (args : List Byte) : Statement (.planAbort sender target args) := by
  intro f h hw; cases h; exact hw

theorem planStop (sender target : Station) (args : List Byte) : Statement (.planStop sender target args) := by
  intro f h hw; cases h; exact hw

theorem planFlush (sender target : Station) (args : List Byte) : Statement (.planFlush sender target args) := by
  intro f h hw; cases h; exact hw

theorem planEnable (sender target : Station) (args : List Byte) : Statement (.planEnable sender target args) := by
  intro f h hw; cases h; exact hw

theorem planResume (sender target : Station) (args : List Byte) : Statement (.planResume sender target args) := by
  intro f h hw; cases h; exact hw

theorem stageLimitExpiry : Statement .stageLimitExpiry := by
  intro f h; cases h

theorem placementLimitExpiry : Statement .placementLimitExpiry := by
  intro f h; cases h

theorem seated : Statement .seated := by
  intro f h; cases h

theorem seatFail : Statement .seatFail := by
  intro f h; cases h

theorem erectorFaultIndication (present : Bool) : Statement (.erectorFaultIndication present) := by
  intro f h; cases h

theorem cylinderReport (cylinder : Nat) (stroke pressure : Half) (fault retracted : Bool) :
    Statement (.cylinderReport cylinder stroke pressure fault retracted) := by
  intro f h; cases h

theorem driveReport (drive : Nat) (speed torque : Half) (fault : Bool) :
    Statement (.driveReport drive speed torque fault) := by
  intro f h; cases h

theorem strokeReport : Statement .strokeReport := by
  intro f h; cases h

theorem linePressure (kPa : Half) : Statement (.linePressure kPa) := by
  intro f h; cases h

theorem pumpAtRest (atRest : Bool) : Statement (.pumpAtRest atRest) := by
  intro f h; cases h

theorem doseLimitExpiry : Statement .doseLimitExpiry := by
  intro f h; cases h

theorem unblock (sender target : Station) (args : List Byte) : Statement (.unblock sender target args) := by
  intro f h hw; cases h; exact hw

theorem screwReport (fault : Bool) : Statement (.screwReport fault) := by
  intro f h; cases h

theorem facePressureReport (kPa : Half) : Statement (.facePressureReport kPa) := by
  intro f h; cases h

theorem beltScaleReport (kg : Half) : Statement (.beltScaleReport kg) := by
  intro f h; cases h

theorem trainArrive (sender target : Station) (args : List Byte) : Statement (.trainArrive sender target args) := by
  intro f h hw; cases h; exact hw

theorem carIndexed (sender target : Station) (args : List Byte) : Statement (.carIndexed sender target args) := by
  intro f h hw; cases h; exact hw

theorem overdigExcuse (sender target : Station) (args : List Byte) :
    Statement (.overdigExcuse sender target args) := by
  intro f h hw; cases h; exact hw

end Sys2Proof.Laws.FrameWf
end

