-- ==== Sys2Proof/Laws/Settled.lean ====
section
/-! SUPPORT. The sector advance recomputed in BORE, said in the words of the statements: it is the least gain, what it credits,
and the steer pause and stroke reached as they settle (R66 to R71), whichever of the tests after it holds the machine. -/

namespace Sys2Proof.Machine

/-! ### Holds and the thrust unit -/

theorem thrustEntersHold_thrust_congr (b) {s t : State} (h : t.thrust = s.thrust) (g : t.overrides = s.overrides) :
    (t.thrustEntersHold b).thrust = (s.thrustEntersHold b).thrust := by
  simp [State.thrustEntersHold, State.mapCylinders, State.setCylinders, State.cylPinned, State.pinned,
    State.override?, h, g]

/-- What a hold does to the thrust unit (R61): from BORE or BUILD its entry to HOLD, in HOLD nothing. -/
theorem imposeHold_thrust (c) (s : State) (al) : (s.imposeHold c al).thrust =
    match s.machine.phase with
    | .hold _ => s.thrust
    | .bore => (s.thrustEntersHold true).thrust
    | .build => (s.thrustEntersHold false).thrust := by
  unfold State.imposeHold; dsimp only
  rcases hp : s.machine.phase with now | _ | _ <;> simp only [failRound_phase, hp]
  · by_cases h1 : State.raises now (causeGrade c .soft) = true <;> simp [h1]
    cases al <;> simp
  · rw [handEntryToHold_thrust]; exact thrustEntersHold_thrust_congr _ (by simp) (by simp)
  · rw [handEntryToHold_thrust]; exact thrustEntersHold_thrust_congr _ (by simp) (by simp)

/-! ### Gains -/

/-- The gains of the cylinders that count for the sector advance (R66). -/
def State.gains (s : State) : List Nat := s.usableCylinders.map Cylinder.gain

/-- A move that keeps each cylinder's number and gain, and fails or mends none, keeps the gains. -/
theorem gains_mapCylinders (s : State) (f : Cylinder → Cylinder)
    (h : ∀ c, (f c).number = c.number ∧ (f c).gain = c.gain ∧ ((f c).state = .failed ↔ c.state = .failed)) :
    (s.mapCylinders f).gains = s.gains := by
  unfold State.gains State.usableCylinders
  have pin : ∀ c, (s.mapCylinders f).cylPinned c = s.cylPinned c := fun c => by
    simp [State.cylPinned, State.pinned, State.override?]
  have e : ∀ cs : List Cylinder,
      ((cs.map f).filter fun c => c.state != .failed && !(s.mapCylinders f).cylPinned c).map Cylinder.gain
        = (cs.filter fun c => c.state != .failed && !s.cylPinned c).map Cylinder.gain := by
    intro cs
    simp only [pin]
    have p : ∀ c, ((f c).state != .failed && !s.cylPinned (f c)) = (c.state != .failed && !s.cylPinned c) := fun c => by
      have : s.cylPinned (f c) = s.cylPinned c := by simp [State.cylPinned, (h c).1]
      rw [this]; congr 1; rw [Bool.eq_iff_iff]; simp [(h c).2.2]
    induction cs with
    | nil => rfl
    | cons c cs ih =>
      simp only [List.map_cons, List.filter_cons, p]
      split <;> simp [ih, (h c).2.1]
  exact e _

theorem gains_congr {s t : State} (h : t.thrust.cylinders = s.thrust.cylinders) (g : t.overrides = s.overrides) :
    t.gains = s.gains := by
  simp [State.gains, State.usableCylinders, State.cylPinned, State.pinned, State.override?, h, g]

/-- The least over a list that is not empty is in it and below each of it. -/
theorem leastOver_spec (gs : List Nat) : ∀ g, leastOver g gs ∈ g :: gs ∧ ∀ x ∈ g :: gs, leastOver g gs ≤ x := by
  induction gs with
  | nil => simp [leastOver]
  | cons a gs ih =>
    intro g
    have e : leastOver g (a :: gs) = leastOver (min g a) gs := rfl
    obtain ⟨m, l⟩ := ih (min g a)
    rw [e]
    have := l (min g a) (by simp)
    refine ⟨?_, ?_⟩
    · rcases List.mem_cons.mp m with m | m
      · rw [m]; rcases Nat.le_total g a with h | h <;> simp [h]
      · simp [m]
    · intro x hx
      rcases List.mem_cons.mp hx with rfl | hx
      · omega
      · rcases List.mem_cons.mp hx with rfl | hx
        · omega
        · exact l x (by simp [hx])

/-- A sector advance that is the computed one over the gains of `t` is the least (R66). -/
theorem advanceIsLeast_of {s t u : State} (g : t.gains = u.gains) (k : u.thrust.sectorAdvance = s.thrust.sectorAdvance)
    (e : t.thrust.sectorAdvance = u.computedAdvance) : s.AdvanceIsLeast t := by
  unfold State.computedAdvance at e
  change t.thrust.sectorAdvance = (match u.gains with
    | [] => u.thrust.sectorAdvance
    | g :: gs => leastOver g gs) at e
  rw [← g] at e
  have mem : ∀ x, x ∈ t.gains ↔ ∃ c ∈ t.usableCylinders, c.gain = x := fun x => by simp [State.gains]
  have nil : t.gains = [] ↔ t.usableCylinders = [] := by simp [State.gains]
  unfold State.AdvanceIsLeast
  rcases hg : t.gains with _ | ⟨a, as⟩
  · rw [hg] at e
    have n := nil.mp hg
    simp [n, e, k]
  · rw [hg] at e
    have n : t.usableCylinders ≠ [] := fun h => by rw [nil.mpr h] at hg; cases hg
    obtain ⟨m, l⟩ := leastOver_spec as a
    have e : t.thrust.sectorAdvance = leastOver a as := e
    rw [← hg] at m l
    refine ⟨fun c hc => ?_, fun _ => ?_, fun h => absurd h n⟩
    · rw [e]; exact l _ ((mem _).mpr ⟨c, hc, rfl⟩)
    · obtain ⟨c, hc, e2⟩ := (mem _).mp m
      exact ⟨c, hc, by rw [e, e2]⟩

/-! ### The settled advance -/

/-- What a test after the sector advance may do to the thrust unit and the phase: nothing, or a hold. -/
structure MayHold (s t : State) : Prop where
  advance : t.thrust.sectorAdvance = s.thrust.sectorAdvance
  credited : t.thrust.credited = s.thrust.credited
  reached : t.thrust.strokeReached = s.thrust.strokeReached
  gains : t.gains = s.gains
  inHold : t.machine.phase = s.machine.phase ∨ t.inHold = true
  still : t.machine.phase = .bore → s.machine.phase = .bore ∧ t.thrust.cylinders = s.thrust.cylinders
    ∧ t.thrust.steerPause = s.thrust.steerPause ∧ t.machine = s.machine
  stopped : t.machine.phase ≠ .bore → (s.machine.phase = .bore ∨ s.thrust.steerPause = false
    ∧ ∀ c ∈ s.thrust.cylinders, c.state ≠ .advancing) →
    t.thrust.steerPause = false ∧ ∀ c ∈ t.thrust.cylinders, c.state ≠ .advancing

/-- What changes none of the fields named is one. -/
theorem MayHold.of_same {s t : State} (h : t.machine = s.machine) (g : t.overrides = s.overrides)
    (c : t.thrust.cylinders = s.thrust.cylinders) (a : t.thrust.sectorAdvance = s.thrust.sectorAdvance)
    (r : t.thrust.credited = s.thrust.credited) (k : t.thrust.strokeReached = s.thrust.strokeReached)
    (p : t.thrust.steerPause = s.thrust.steerPause) : MayHold s t where
  advance := a
  credited := r
  reached := k
  gains := gains_congr c g
  inHold := .inl (by rw [h])
  still := fun e => ⟨by rw [← h]; exact e, c, p, h⟩
  stopped := fun e x => by
    rcases x with x | x
    · exact absurd (by rw [h]; exact x) e
    · rw [p, c]; exact x

theorem MayHold.trans {s t u : State} (a : MayHold s t) (b : MayHold t u) : MayHold s u where
  advance := b.advance.trans a.advance
  credited := b.credited.trans a.credited
  reached := b.reached.trans a.reached
  gains := b.gains.trans a.gains
  inHold := by
    rcases b.inHold with h | h
    · rcases a.inHold with g | g
      · exact .inl (h.trans g)
      · exact .inr (by unfold State.inHold at *; rw [h]; exact g)
    · exact .inr h
  still := fun e => by
    obtain ⟨b1, b2, b3, b4⟩ := b.still e
    obtain ⟨a1, a2, a3, a4⟩ := a.still b1
    exact ⟨a1, b2.trans a2, b3.trans a3, b4.trans a4⟩
  stopped := fun e x => b.stopped e (by
    by_cases h : t.machine.phase = .bore
    · exact .inl h
    · exact .inr (a.stopped h x))

/-- A hold from BORE, or taken in HOLD, is one. -/
theorem MayHold.imposeHold (c) (s : State) (al) (h : s.machine.phase ≠ .build) : MayHold s (s.imposeHold c al) := by
  have th := imposeHold_thrust c s al
  have ov : (s.imposeHold c al).overrides = s.overrides := by simp
  have inh := imposeHold_inHold c s al
  have nb : (s.imposeHold c al).machine.phase ≠ .bore := fun e => by simp [State.inHold, e] at inh
  rcases hp : s.machine.phase with now | _ | _
  · rw [hp] at th
    exact {
      advance := by rw [th]
      credited := by rw [th]
      reached := by rw [th]
      gains := gains_congr (by rw [th]) ov
      inHold := .inr inh
      still := fun e => absurd e nb
      stopped := fun _ x => by rw [th]; exact x.resolve_left (by simp [hp]) }
  · rw [hp] at th
    exact {
      advance := by rw [th]; simp
      credited := by rw [th]; simp
      reached := by rw [th]; simp
      gains := by
        refine (gains_congr (s := s.thrustEntersHold true) (by rw [th]) (by simp)).trans ?_
        unfold State.thrustEntersHold; dsimp only
        refine (gains_congr (s := s.mapCylinders _) rfl rfl).trans (gains_mapCylinders s _ fun c => ?_)
        split
        · rename_i q; simp [Cylinder.gain, q.1]
        · split
          · rename_i q; rcases q.1 with q | q <;> simp [Cylinder.gain, q]
          · simp
      inHold := .inr inh
      still := fun e => absurd e nb
      stopped := fun _ _ => by
        rw [th]; refine ⟨by simp [State.thrustEntersHold], ?_⟩
        simp only [State.thrustEntersHold, State.mapCylinders, State.setCylinders]
        intro c hc
        simp at hc
        obtain ⟨a, _, rfl⟩ := hc
        split
        · simp
        · split
          · simp
          · rename_i q _; simpa using q }
  · exact absurd hp h

theorem MayHold.testDose (s : State) : MayHold s s.testDose :=
  .of_same (by simp) (by simp) (by simp) (by simp) (by simp) (by simp) (by simp)

/-- It enters no BUILD. -/
theorem MayHold.not_build {s t : State} (a : MayHold s t) (h : s.machine.phase ≠ .build) : t.machine.phase ≠ .build := by
  rcases a.inHold with g | g
  · rw [g]; exact h
  · intro e; simp [State.inHold, e] at g

theorem MayHold.groutIncrement (d) (s : State) (h : s.machine.phase ≠ .build) : MayHold s (s.groutIncrement d) := by
  unfold State.groutIncrement; dsimp only
  generalize hv : State.testGrout _ = v
  have a : MayHold s v := by
    rw [← hv]
    exact .of_same (by simp) (by simp) (by simp) (by simp) (by simp) (by simp) (by simp)
  split
  · exact (a.trans (.imposeHold _ _ _ (MayHold.not_build a h))).trans (.testDose _)
  · exact a.trans (.testDose _)

theorem MayHold.testStrokeEnd (s : State) (h : s.machine.phase ≠ .build) : MayHold s s.testStrokeEnd := by
  unfold State.testStrokeEnd; split
  · exact .imposeHold _ _ _ h
  · exact .of_same rfl rfl rfl rfl rfl rfl rfl

theorem MayHold.updateMachineAdvance (s : State) (h : s.machine.phase ≠ .build) : MayHold s s.updateMachineAdvance := by
  have same : ∀ x, MayHold s (s.setMuck x) := fun x => .of_same rfl rfl rfl rfl rfl rfl rfl
  unfold State.updateMachineAdvance State.evaluateOverdig; dsimp only
  split
  · split
    · exact (same _).trans (.imposeHold _ _ _ h)
    · split <;> exact same _
  · exact .of_same rfl rfl rfl rfl rfl rfl rfl

/-- The ports after a grout increment (R143). -/
theorem groutIncrement_ports (d) (s : State) : (s.groutIncrement d).grout.ports
    = s.grout.ports.map fun p => { p with owed := min 4294967295 (p.owed + d * s.portFactor p.number) } := by
  unfold State.groutIncrement; dsimp only
  split <;> simp [owedCap]

/-- The credited advance and the ports' debt after the credit (R67, R143), and what else may change. -/
theorem creditAdvance_effect (s : State) (h : s.machine.phase ≠ .build) :
    s.creditAdvance.thrust.credited = max s.thrust.credited s.thrust.sectorAdvance
    ∧ s.creditAdvance.grout.ports = (if s.thrust.credited < s.thrust.sectorAdvance
      then s.grout.ports.map fun p => { p with
        owed := min 4294967295 (p.owed + (s.thrust.sectorAdvance - s.thrust.credited) * s.portFactor p.number) }
      else s.grout.ports)
    ∧ MayHold (s.setThrust { s.thrust with credited := max s.thrust.credited s.thrust.sectorAdvance }) s.creditAdvance := by
  unfold State.creditAdvance
  split
  · rename_i lt
    have e : max s.thrust.credited s.thrust.sectorAdvance = s.thrust.sectorAdvance := by omega
    rw [e]
    have m := MayHold.groutIncrement (s.thrust.sectorAdvance - s.thrust.credited)
      (s.setThrust { s.thrust with credited := s.thrust.sectorAdvance }) h
    exact ⟨m.credited, groutIncrement_ports _ _, m⟩
  · rename_i lt
    have e : max s.thrust.credited s.thrust.sectorAdvance = s.thrust.credited := by omega
    rw [e]; exact ⟨rfl, rfl, .of_same rfl rfl rfl rfl rfl rfl rfl⟩

theorem testSteer_idle (s : State) (h : s.machine.phase ≠ .bore) : s.testSteer = s := by
  unfold State.testSteer; rw [if_neg h]

theorem testStrokeReached_idle (s : State) (h : s.machine.phase ≠ .bore) : s.testStrokeReached = s := by
  unfold State.testStrokeReached; rw [if_neg fun x => h x.1]

/-- The steer pause after its test in BORE (R70). -/
theorem testSteer_effect (s : State) (h : s.machine.phase = .bore) : s.testSteer = s.setThrust { s.thrust with
    steerPause := if s.cfg.steerLimit < s.thrust.sectorAdvance - s.slowestAdvance then true
      else if 2 * (s.thrust.sectorAdvance - s.slowestAdvance) ≤ s.cfg.steerLimit then false else s.thrust.steerPause } := by
  unfold State.testSteer; dsimp only; rw [if_pos h]; (repeat' split) <;> rfl

/-- Stroke reached after its test in BORE, and the cylinders it stops (R71). -/
theorem testStrokeReached_effect (s : State) (h : s.machine.phase = .bore) :
    s.testStrokeReached.thrust.strokeReached = (s.thrust.strokeReached || decide (s.cfg.strokeTarget ≤ s.thrust.sectorAdvance))
    ∧ s.testStrokeReached.thrust.cylinders = (s.thrust.cylinders.map fun c =>
        if c.state = .advancing ∧ s.testStrokeReached.thrust.strokeReached = true ∧ s.thrust.strokeReached = false then
          { c with state := .bearing }
        else c) ∧ s.testStrokeReached.gains = s.gains := by
  unfold State.testStrokeReached; split
  · rename_i c; obtain ⟨_, c2, c3⟩ := c
    refine ⟨by simp [State.mapCylinders, State.setCylinders, c2], by simp [State.mapCylinders, State.setCylinders, c3], ?_⟩
    refine (gains_mapCylinders _ _ fun c => ?_).trans rfl
    split
    · rename_i q; simp [Cylinder.gain, q]
    · simp
  · rename_i c
    have : s.thrust.strokeReached = true ∨ ¬ s.cfg.strokeTarget ≤ s.thrust.sectorAdvance := by
      by_contra x; rw [not_or, not_not] at x; exact c ⟨h, x.2, by simpa using x.1⟩
    refine ⟨?_, ?_, rfl⟩
    · rcases this with t | t <;> simp [t]
    · cases r : s.thrust.strokeReached <;> simp

/-- The recomputation of the sector advance in BORE, as the statements say it; while BORE stands, only stroke reached has
moved a cylinder, and the phase unit is as it was. -/
theorem recomputeAdvance_settled (s : State) (h : s.machine.phase = .bore) :
    s.AdvanceSettled s.recomputeAdvance
    ∧ (s.recomputeAdvance.machine.phase = .bore → s.recomputeAdvance.machine = s.machine
      ∧ s.recomputeAdvance.thrust.cylinders = s.thrust.cylinders.map fun c =>
        if c.state = .advancing ∧ s.recomputeAdvance.thrust.strokeReached = true ∧ s.thrust.strokeReached = false then
          { c with state := .bearing }
        else c) := by
  have node : s.recomputeAdvance.node = s.node := by simp
  have ovr : s.recomputeAdvance.overrides = s.overrides := by simp
  have view : s.recomputeAdvance.machine.view = s.machine.view := by simp
  obtain ⟨c1, c2, c3⟩ := creditAdvance_effect (s.setThrust { s.thrust with sectorAdvance := s.computedAdvance }) (by simp [h])
  simp only [State.setThrust_thrust] at c1 c2 c3
  obtain ⟨w, wn, wp, wc, wm, e, m⟩ : ∃ w : State, w.node = s.node ∧ w.grout.ports = (if s.thrust.credited < s.computedAdvance
        then s.grout.ports.map fun p => { p with
          owed := min 4294967295 (p.owed + (s.computedAdvance - s.thrust.credited) * s.portFactor p.number) }
        else s.grout.ports)
      ∧ w.thrust.credited = max s.thrust.credited s.computedAdvance
      ∧ MayHold (s.setThrust { s.thrust with
          sectorAdvance := s.computedAdvance, credited := max s.thrust.credited s.computedAdvance }) w
      ∧ s.recomputeAdvance.grout.ports = w.grout.ports ∧ MayHold w.testSteer.testStrokeReached s.recomputeAdvance := by
    refine ⟨_, by simp, c2, c1, c3, ?_, ?_⟩
    · unfold State.recomputeAdvance; rw [if_pos h]; dsimp only; split <;> simp
    · have nb := MayHold.not_build c3 (by simp [h])
      generalize hv : State.creditAdvance _ = v at nb
      have ny : v.testSteer.testStrokeReached.machine.phase ≠ .build := by simpa using nb
      unfold State.recomputeAdvance; rw [if_pos h]; dsimp only; rw [hv]; split
      · exact .of_same rfl rfl rfl rfl rfl rfl rfl
      · have a := MayHold.testStrokeEnd _ ny
        exact a.trans (.updateMachineAdvance _ (MayHold.not_build a ny))
  generalize s.recomputeAdvance = t at *
  clear c1 c2 c3
  have wa : w.thrust.sectorAdvance = s.computedAdvance := wm.advance
  have wr : w.thrust.strokeReached = s.thrust.strokeReached := wm.reached
  have wg : w.gains = s.gains := wm.gains
  have ports : t.grout.ports = _ := e.trans wp
  have cfg : ∀ {a b : State}, b.node = a.node → b.cfg = a.cfg := fun h => by simp [State.cfg, h]
  -- what the advance, the credit and the ports of `t` are, once `t` is known to keep those of `w`
  have settle : ∀ (ta : t.thrust.sectorAdvance = w.thrust.sectorAdvance) (tc : t.thrust.credited = w.thrust.credited)
      (tg : t.gains = w.gains), s.AdvanceIsLeast t ∧ t.thrust.credited = max s.thrust.credited t.thrust.sectorAdvance
      ∧ (t.thrust.sectorAdvance ≤ s.thrust.credited → t.grout.ports = s.grout.ports)
      ∧ (s.thrust.credited < t.thrust.sectorAdvance → t.grout.ports = s.grout.ports.map fun p => { p with
        owed := min 4294967295 (p.owed + (t.thrust.sectorAdvance - s.thrust.credited) * s.portFactor p.number) }) := by
    intro ta tc tg
    rw [ta, tc, wa, wc]
    refine ⟨advanceIsLeast_of (u := s) (tg.trans wg) rfl (ta.trans wa), rfl, fun q => ?_, fun q => ?_⟩
    · rw [ports, if_neg (by omega)]
    · rw [ports, if_pos q]
  by_cases hw : w.machine.phase = .bore
  · obtain ⟨_, w2, w3, w4⟩ := wm.still hw
    have w4 : w.machine = s.machine := w4
    have st := testSteer_effect w hw
    generalize hx : w.testSteer = x at *
    have xb : x.machine.phase = .bore := by rw [st]; exact hw
    have xc : x.thrust.cylinders = s.thrust.cylinders := by rw [st]; exact w2
    obtain ⟨r1, r2, r3⟩ := testStrokeReached_effect x xb
    have ya : x.testStrokeReached.thrust.sectorAdvance = w.thrust.sectorAdvance := by simp [st]
    have yc : x.testStrokeReached.thrust.credited = w.thrust.credited := by simp [st]
    have yp : x.testStrokeReached.thrust.steerPause = x.thrust.steerPause := by simp
    have ym : x.testStrokeReached.machine = s.machine := by rw [State.testStrokeReached_frame x |>.2.2.1]; rw [st]; exact w4
    have yg : x.testStrokeReached.gains = w.gains := r3.trans (by rw [st]; rfl)
    have xr : x.thrust.strokeReached = s.thrust.strokeReached := by rw [st]; exact wr
    have xa : x.thrust.sectorAdvance = w.thrust.sectorAdvance := by rw [st]; rfl
    have xn : x.cfg = s.cfg := cfg (by rw [st]; exact wn)
    rw [xc, xr] at r2
    rw [xr, xa, xn] at r1
    generalize x.testStrokeReached = y at *
    obtain ⟨s1, s2, s3, s4⟩ := settle (m.advance.trans ya) (m.credited.trans yc) (m.gains.trans yg)
    refine ⟨⟨s1, s2, s3, s4, fun tb => ?_, fun tb => m.stopped tb (.inl (by rw [ym]; exact h))⟩, fun tb => ?_⟩
    · obtain ⟨_, m2, m3, m4⟩ := m.still tb
      refine ⟨by rw [m.reached, r1, m.advance, ya], ?_⟩
      have sl : t.slowestAdvance = w.slowestAdvance := by
        simp [State.slowestAdvance, State.peerBeacons, State.own, node, wn, view, w4, m.advance, ya]
      rw [m3, yp, st, sl, m.advance, ya, ← cfg wn]
      simp only [State.setThrust_thrust]
      have : w.thrust.steerPause = s.thrust.steerPause := w3
      rw [this]
    · obtain ⟨_, m2, m3, m4⟩ := m.still tb
      exact ⟨m4.trans ym, by rw [m2, r2, m.reached]⟩
  · rw [testSteer_idle w hw, testStrokeReached_idle w hw] at m
    obtain ⟨s1, s2, s3, s4⟩ := settle m.advance m.credited m.gains
    have tb : t.machine.phase ≠ .bore := fun e => hw (m.still e).1
    exact ⟨⟨s1, s2, s3, s4, fun e => absurd e tb, fun _ => m.stopped tb (.inr (wm.stopped hw (.inl h)))⟩, fun e => absurd e tb⟩

end Sys2Proof.Machine
end

