-- ==== Sys2Proof/Tests/Slice0.lean ====
section
/-! SUPPORT. Tests: the checks of WellFormed, and for each statement concrete states that meet its hypotheses, with what
the command then does. -/

namespace Sys2Proof.Tests
section
open Sys2Proof Sys2Proof.Machine
set_option Elab.async false

/-! ### WellFormed: an ill-formed command for each check -/

theorem test_wf_payload_too_long : (Instr.restrain 2 0 (List.replicate 25 1)).wf = false := by decide
theorem test_wf_payload_fits : (Instr.restrain 2 0 (List.replicate 24 1)).wf = true := by decide
theorem test_wf_args_too_long : (Instr.echo 14 1 (List.replicate 24 1)).wf = false := by decide
theorem test_wf_args_fit : (Instr.echo 14 1 (List.replicate 23 1)).wf = true := by decide
theorem test_wf_known_code_is_no_unknown_service : (Instr.unknownServiceCode 14 1 0x37 []).wf = false := by decide
theorem test_wf_unknown_service : (Instr.unknownServiceCode 14 1 0x38 []).wf = true := by decide
theorem test_wf_peer : (Instr.silenceExpiry 0).wf = false ∧ (Instr.silenceExpiry 9).wf = false
    ∧ (Instr.silenceExpiry 1).wf = true ∧ (Instr.silenceExpiry 8).wf = true := by decide
theorem test_wf_cylinder : (Instr.cylinderReport 0 0 0 false false).wf = false
    ∧ (Instr.cylinderReport 7 0 0 false false).wf = false ∧ (Instr.cylinderReport 6 0 0 false false).wf = true := by decide
theorem test_wf_drive : (Instr.driveReport 0 0 0 false).wf = false ∧ (Instr.driveReport 5 0 0 false).wf = false
    ∧ (Instr.driveReport 4 0 0 false).wf = true := by decide

/-! ### States -/

/-- The state a command leaves, when it gives a next state. -/
def after (i : Instr) (s : State) : Option State :=
  match exec i s with
  | .next t => some t
  | .fault _ | .refused _ => none

/-- The state a step leaves. -/
def stepped (s : State) : Option State :=
  match step s with
  | .next t => some t
  | .fault _ | .refused _ => none

/-- The member section of node 1, which is muck owner and erector owner. -/
def section1 : MemberSection := ⟨2, 4, 5, 1, 2, [0, 4, 5, 3, 2], [100, 60, 60, 60, 60], 1, 1, [1, 2, 3, 4]⟩

/-- The member section of node 2. -/
def section2 : MemberSection := ⟨0, 2, 0, 0, 0, [], [], 0, 0, [5, 5]⟩

def config : Configuration :=
  { members := [1, 2], positions := 5, hMin := 1, strokeTarget := 1500, steerLimit := 20, creepSpeed := 8
    ratedTorque := 8000, guardIndex := 5, doseStrokes := 8, strokeVolume := 500, cutPressure := 600
    shortfallOff := 12, shortfallOn := 20, shortfallHold := 40, massPerMm := 200, overdigAllowance := 3000
    spillLimit := 2000, pMin := 100, pRelease := 200, pHigh := 300, contactPressure := 1000
    reseatPressure := 18000, startRing := 118, sections := [section1, section2] }

/-- A beacon of node 2 in the phase given. -/
def peerBeacon (p : PhaseCode) : Beacon :=
  { nodeState := .member, phase := p, grade := none, roundOpen := false, noticePending := false, guardMode := false
    steerPause := false, strokeReached := false, headCar := false, grout := false, muck := false, torqueHigh := false
    face := false, ring := 118, digest := 0xABCD, advance := 0, torque := 0, shortfall := 0, engine := 0 }

def entry2 : ViewEntry := ⟨2, .present, some (peerBeacon .hold), some 0, 0⟩

def cylinder (n : Nat) (st : CylState) : Cylinder := ⟨n, st, 100, 2000, false, some 100, none⟩

/-- Node 1, MEMBER, in HOLD SOFT: four cylinders BEARING, two drives STOPPED, five ports, an empty store, no car. -/
def member : State :=
  let s := State.coldReset 0
  let s := s.setNode { s.node with
    state := .member, config := some config, digest := some 0xABCD, firstMembership := false }
  let s := s.setMachine { s.machine with phase := .hold .soft, view := [⟨1, .present, none, none, 0⟩, entry2], ring := 118 }
  let s := s.setCylinders [cylinder 1 .bearing, cylinder 2 .bearing, cylinder 3 .bearing, cylinder 4 .bearing]
  let s := s.setDrive { s.drive with
    drives := [⟨1, .stopped, 0, 0, false⟩, ⟨2, .stopped, 0, 0, false⟩], guard := { s.drive.guard with level := some 5 } }
  let s := s.setGrout { s.grout with
    ports := [1, 2, 3, 4, 5].map (fun n => ⟨n, .opened, 0, 0, 0⟩), pointer := some 2 }
  let s := s.setEngine { s.engine with state := .idle, erector := .ready }
  (s.addRestraint 1 .muck).setMuck { s.muck with muckRestrained := true }

/-- The same in BORE: cylinders ADVANCING, drives RUNNING, the screw on. -/
def boring : State :=
  let s := member.setPhase .bore
  let s := s.mapCylinders fun c => { c with state := .advancing }
  let s := s.setDrives [⟨1, .running, 20, 3000, false⟩, ⟨2, .starting, 0, 0, false⟩]
  s.setMuck { s.muck with screw := .run }

/-- A step of position 2, and one that closes the ring. -/
def step1 : PlanStep := ⟨1, 2, .standard, 90, some 20000⟩
def keyStep : PlanStep := ⟨2, 5, .key, 0, none⟩

/-- A closed plan that holds these steps. -/
def planOf (steps : List PlanStep) : Plan := ⟨7, 14, some 2, steps⟩

/-- In BUILD, the engine in a stage of a step. -/
def building (stage : EngineState) (seated : Bool) (st : PlanStep) : State :=
  let s := member.setPhase .build
  let s := s.setPlans { closed := [planOf [st]], opened := none }
  s.setEngine { s.engine with
    state := stage, seated := some seated, attempt := 4, zoneMembers := [1, 2], answered := [1], limit := some 0 }

/-- Node 1 waiting for a configuration. -/
def fresh : State := State.coldReset 0

/-- A frame of the node in its transmit queue. -/
def pendingFrame (body : Body) (age : Nat) : TxFrame := ⟨⟨1, 0, body⟩, .plain, age, 0, false⟩

/-- The node with these frames pending. -/
def queued (fs : List TxFrame) : State := member.setLink { member.link with queue := fs, nextAge := 20 }

/-- The node with a frame on the wire. -/
def onWire (f : TxFrame) (won : Bool) (fs : List TxFrame) : State := (queued fs).setWire (some ⟨f, won⟩)

/-- Sixteen pending frames. -/
def fullQueue : State := queued ((List.range 16).map fun n => pendingFrame (.restrain [1]) n)

/-- The node with its transmitter stopped. -/
def silent : State := member.setLink { member.link with transmitting := false }

/-- The node's own frame of this body heard back matching reaches its blocks (R9). -/
def heard (body : Body) (s : State) : State := s.setWire (some ⟨pendingFrame body 3, true⟩)

theorem own_reaches (row : Station → Station → Instr) (body : Body) (s : State) (h1 : s.configured = true)
    (h2 : s.isMember s.own = true) (h3 : s.engine.requeue = none) :
    (heard body s).Reaches row body (.loopbackCheck .same) s.own ((heard body s).setWire none) :=
  Or.inr ⟨_, rfl, rfl, rfl, rfl, rfl, h1, h2, h3, rfl, rfl⟩

theorem peer_reaches (row : Station → Station → Instr) (body : Body) (s : State) (station target : Station)
    (h : s.HearsPeer station target) : s.Reaches row body (row station target) station.toNat s :=
  Or.inl ⟨station, target, rfl, h, rfl, rfl⟩

def voteFrame : TxFrame := pendingFrame (.vote .bore .ready) 3
def beaconFrame (age : Nat) : TxFrame := pendingFrame (.beacon (peerBeacon .hold)) age

/-! ### Commands and time -/

theorem test_front_command : (member.setPending [.seated, .seatFail]).pending = .seated :: [.seatFail]
    ∧ stepped (member.setPending [.seated, .seatFail]) = some (member.setPending [.seatFail]) := by decide +kernel

theorem test_tick : member.pending = []
    ∧ (stepped (member.setMachine { member.machine with beaconTimer := 49 })).map (·.pending) = some [.beaconPeriod]
    ∧ (stepped member).map (·.machine.beaconTimer) = some 1 := by decide +kernel

theorem test_expiry_of_no_timer : State.isExpiry .probeEnd ∧ member.timerLeft .probeEnd = none
    ∧ after .probeEnd member = some member := ⟨by simp [State.isExpiry], by decide +kernel, by decide +kernel⟩

theorem test_expiry_passes_time : State.isExpiry (.silenceExpiry 2) ∧ member.timerLeft (.silenceExpiry 2) = some 150
    ∧ member.timerLeft .beaconPeriod = some 50
    ∧ after .beaconPeriod member = after .beaconPeriod (member.passTime 50) :=
  ⟨Or.inl ⟨2, rfl⟩, by decide +kernel, by decide +kernel, by decide +kernel⟩

theorem test_command_keeps_number : (∀ straps, Instr.seated ≠ .coldReset straps)
    ∧ (after .seated boring).map (·.node.number) = some 1 := ⟨by simp, by decide +kernel⟩

theorem test_cold_reset : after (.coldReset 7) boring = some (State.coldReset 7) ∧ (State.coldReset 7).node.number = 8
    ∧ State.reset.node.number = 1 := by decide +kernel

/-! ### The shield link -/

theorem test_filter_ignores : (Instr.echo 14 3 []).frame? = some ⟨14, 3, .command 5 []⟩ ∧ (Instr.echo 14 3 []).wf = true
    ∧ member.reaches 3 = false ∧ after (.echo 14 3 []) member = some member
    ∧ fresh.reaches 0 = true ∧ fresh.configured = false ∧ isConsole 2 = false
    ∧ after (.vote 2 0 .bore .ready) fresh = some fresh := by decide +kernel

theorem test_filter_counts_foreign : member.reaches 0 = true ∧ member.configured = true
    ∧ member.isMember 3 = false ∧ isConsole 3 = false
    ∧ (after (.vote 3 0 .bore .ready) member).map (·.console.counters.foreignSender) = some 1
    ∧ member.mayBeSentBy (sentBy (.propose .bore)) 2 = false
    ∧ (after (.propose 2 0 .bore) member).map (·.console.counters.foreignSender) = some 1
    ∧ (after (.vote 1 0 .bore .ready) member).map (·.console.counters.foreignSender) = some 1 := by decide +kernel

theorem test_filter_delivers : member.reaches 1 = true ∧ member.isMember 2 = true
    ∧ member.mayBeSentBy (sentBy (.vote .bore .ready)) 2 = true ∧ (2 : Station).toNat ≠ member.own
    ∧ after (.vote 2 1 .bore .ready) member = some (member.deliver ⟨2, 1, .vote .bore .ready⟩) := by decide +kernel

theorem test_bad_bytes : parseFrame [0, 0] = none
    ∧ (after (.badFrame [0, 0]) member).map (·.console.counters.badCheck) = some 1 := by decide +kernel

theorem test_check : crc [0x31, 0x32, 0x33, 0x34, 0x35, 0x36, 0x37, 0x38, 0x39] = 0x29B1 := by decide +kernel

/-- A HOLD of node 2, cause FACE_LOW HARD, byte for byte from Table 1-3, is read as that frame. -/
theorem test_hold_bytes : encodeFrame ⟨2, 0, .hold .faceLow .hard⟩ = [0x08, 0x00, 0x01, 0x02, 0x09, 0x02]
      ++ bytes16 (crc [0x08, 0x00, 0x01, 0x02, 0x09, 0x02]).toNat
    ∧ parseFrame (encodeFrame ⟨2, 0, .hold .faceLow .hard⟩) = some ⟨2, 0, .hold .faceLow .hard⟩ := by decide +kernel

theorem test_frame_bytes : (Body.command 0x30 (List.replicate 23 9)).wf = true
    ∧ parseFrame (encodeFrame ⟨15, 4, .command 0x30 (List.replicate 23 9)⟩)
      = some ⟨15, 4, .command 0x30 (List.replicate 23 9)⟩
    ∧ parseFrame (encodeFrame ⟨2, 0, .beacon (peerBeacon .build)⟩) = some ⟨2, 0, .beacon (peerBeacon .build)⟩ := by
  decide +kernel

theorem test_received_bytes : after (.badFrame (encodeFrame ⟨2, 0, .hold .faceLow .hard⟩)) member
    = after (.hold 2 0 .faceLow .hard) member := by decide +kernel

theorem queued_ordered : (queued [voteFrame]).LinkOrdered :=
  ⟨by decide, by decide, by decide, by decide, (by intro w h; cases h), (by intro h; cases h)⟩

theorem test_arbitration_won : (queued [voteFrame]).link.onWire = none ∧ (queued [voteFrame]).link.transmitting = true
    ∧ (queued [voteFrame]).link.queue = voteFrame :: [] ∧ (∀ k ∈ [frameKey voteFrame.frame], frameKey voteFrame.frame ≤ k)
    ∧ (after (.arbitration .whole [frameKey voteFrame.frame]) (queued [voteFrame])).map (·.link.onWire)
      = some (some ⟨voteFrame, true⟩) := by decide +kernel

theorem test_arbitration_lost : (∃ k ∈ [(0x02 : Key)], k < frameKey voteFrame.frame)
    ∧ after (.arbitration .whole [0x02]) (queued [voteFrame]) = some (queued [voteFrame]) := by decide +kernel

theorem test_arbitration_idle : member.link.queue = [] ∧ silent.link.transmitting = false
    ∧ after (.arbitration .whole []) member = some member ∧ after (.arbitration .start []) silent = some silent := by
  decide +kernel

theorem test_settle : (onWire voteFrame false []).link.onWire = some ⟨voteFrame, false⟩
    ∧ after (.arbitration .whole []) (onWire voteFrame false []) = some (onWire voteFrame false [])
    ∧ after (.arbitration .settle [0x11]) (onWire voteFrame false []) = some (onWire voteFrame true [])
    ∧ after (.arbitration .settle []) (onWire voteFrame true []) = some (onWire voteFrame true [])
    ∧ isBeacon voteFrame.frame.body = false
    ∧ after (.arbitration .settle [0x10]) (onWire voteFrame false []) = some (queued [voteFrame]) := by decide +kernel

/-- The older beacon lost: it takes the newer one's contents in its own place, and the newer one is withdrawn (R5). -/
theorem test_settle_beacon : (onWire (beaconFrame 3) false [beaconFrame 5]).pendingBeacon = some (beaconFrame 5)
    ∧ (beaconFrame 5).tag = .plain ∧ (onWire (beaconFrame 3) false [beaconFrame 5]).engine.requeue = none
    ∧ after (.arbitration .settle [0x10]) (onWire (beaconFrame 3) false [beaconFrame 5]) = some (queued [beaconFrame 3]) := by
  decide +kernel

theorem test_loopback_of_nothing : member.link.onWire = none ∧ after (.loopbackCheck .same) member = some member
    ∧ after (.loopbackCheck .nothing) (onWire voteFrame false []) = some (onWire voteFrame false []) := by decide +kernel

theorem test_loopback_same :
    after (.loopbackCheck .same) (onWire (pendingFrame (.restrain [1]) 3) true []) = some (queued [])
    ∧ (onWire (pendingFrame (.restrain [1]) 3) true []).engine.requeue = none
    ∧ after (.loopbackCheck (.bytes (encodeFrame ⟨1, 0, .restrain [1]⟩))) (onWire (pendingFrame (.restrain [1]) 3) true [])
      = some (queued []) := by decide +kernel

/-- An own BEACON heard back is the node's last beacon (R30). -/
theorem test_loopback_beacon : member.configured = true ∧ member.isMember member.own = true
    ∧ (after (.loopbackCheck .same) (onWire (beaconFrame 3) true [])).map (fun t => ((t.entry? 1).map (·.last), t.link.onWire))
      = some (some (some (peerBeacon .hold)), none) := by decide +kernel

/-- A data reply in flight. -/
def replying : State := member.setConsole { member.console with dataReply := some ⟨14, 1, 1, 2, [some 0]⟩ }

/-- A part of a data reply on the wire. -/
def partOnWire (discard : Bool) : Option WireFrame := some ⟨⟨⟨1, 14, .reply [1, 0, 0, 1, 2]⟩, .dataPart, 3, 0, discard⟩, true⟩

/-- The next part, the end after the last part, and the end of a part not SENT (R195). -/
theorem test_loopback_data_reply :
    (after (.loopbackCheck .same) (replying.setWire (partOnWire false))).map
        (fun t => (t.link.queue.map (·.frame.body), t.console.dataReply))
      = some ([.reply ([1, 0, 0, 2, 2] ++ bytes32 0)], some ⟨14, 1, 2, 2, []⟩)
    ∧ (after (.loopbackCheck .same) ((replying.setConsole { member.console with
        dataReply := some ⟨14, 1, 2, 2, []⟩ }).setWire (partOnWire false))).map (·.console.dataReply) = some none
    ∧ (after (.loopbackCheck .nothing) (replying.setWire (partOnWire true))).map
        (fun t => (t.link.queue, t.console.dataReply)) = some ([], none) := by decide +kernel

/-- A NOTICES reply SENT clears the flags it reported and no other (R197). -/
theorem test_loopback_notices :
    (after (.loopbackCheck .same) ((onWire ⟨⟨1, 14, .reply [4, 0, 0, 1, 1, 0, 0, 0, 1]⟩, .notices 1, 3, 0, false⟩ true []).setConsole
      { member.console with notices := 3 })).map (·.console.notices) = some 2 := by decide +kernel

theorem test_loopback_failed : (onWire voteFrame true []).link.onWire = some ⟨voteFrame, true⟩
    ∧ voteFrame.discard = false ∧ voteFrame.failures < 2
    ∧ after (.loopbackCheck .nothing) (onWire voteFrame true []) = some (queued [{ voteFrame with failures := 1 }])
    ∧ (after (.loopbackCheck (.bytes [0])) (onWire voteFrame true [])).map (·.console.counters.badCheck) = some 1 := by
  decide +kernel

/-- A beacon that fails hands its failure count to the newer pending one, one marked for discard too (R5). -/
theorem test_loopback_beacon_superseded :
    (onWire { beaconFrame 3 with failures := 1 } true [beaconFrame 5]).pendingBeacon.isSome = true
    ∧ after (.loopbackCheck .nothing) (onWire { beaconFrame 3 with failures := 1 } true [beaconFrame 5])
      = some (queued [{ beaconFrame 5 with failures := 2 }])
    ∧ after (.loopbackCheck .nothing) (onWire { beaconFrame 3 with failures := 1, discard := true } true [beaconFrame 5])
      = some (queued [{ beaconFrame 5 with failures := 2 }])
    ∧ after (.loopbackCheck .nothing) (onWire { beaconFrame 3 with failures := 2, discard := true } true [beaconFrame 5])
      = some (queued [beaconFrame 5]) := by decide +kernel

/-- A frame marked for discard ends at its failure, the first or the third (R7, log 9). -/
theorem test_loopback_discarded :
    after (.loopbackCheck .nothing) (onWire { voteFrame with discard := true } true [beaconFrame 5])
      = some (queued [beaconFrame 5])
    ∧ after (.loopbackCheck .nothing) (onWire { voteFrame with discard := true, failures := 2 } true [beaconFrame 5])
      = some (queued [beaconFrame 5]) := by decide +kernel

/-- The third failure: LINK fault (R10). -/
theorem test_loopback_third_failure :
    ((after (.loopbackCheck .nothing) (onWire { voteFrame with failures := 2 } true [beaconFrame 5])).map
      fun t => (t.node.state, t.node.cause, t.link.transmitting, t.link.queue, t.machine.phase))
      = some (.faulted, some .link, false, [], .hold .hard)
    ∧ (after (.loopbackCheck .nothing) ((onWire { voteFrame with failures := 2 } true []).setNode
        { member.node with state := .faulted, cause := some .pump })).map
        (fun t => (t.node.cause, t.node.furtherFaults, t.link.transmitting))
      = some (some .pump, 1, false) := by decide +kernel

theorem test_answers : member.HasPlace ∧ fullQueue.link.transmitting = true ∧ 16 ≤ fullQueue.link.held
    ∧ (fullQueue.answer 14 true .echo .done).console.counters.txqDrops = 1 ∧ silent.link.transmitting = false
    ∧ (silent.answer 14 true .echo .done).link.queue = []
    ∧ (member.answer 14 true .echo .done).link.queue.map (·.frame) = [⟨1, 14, .reply [5, 0, 0, 1, 1]⟩] := by
  decide +kernel

/-! ### Machine phase and membership -/

theorem test_hold_unconfigured : fresh.HearsAny 14 0 ∧ fresh.configured = false
    ∧ after (.hold 14 0 .console .hard) fresh = some fresh := by decide +kernel

theorem test_hold_from_bore : boring.HearsAny 2 0 ∧ boring.configured = true ∧ boring.inHold = false
    ∧ ((after (.hold 2 0 .faceLow .hard) boring).map fun t => (t.machine.phase, t.machine.current, t.drive.drives.map (·.state)))
      = some (.hold .hard, some ⟨.faceLow, 2, 118, .hard, 0⟩, [.stopping, .stopping])
    ∧ (after (.hold 2 0 .faceLow .hard) boring).map (·.thrust.cylinders.map (·.state))
      = some [.bearing, .bearing, .bearing, .bearing] := by decide +kernel

theorem test_hold_in_hold : member.machine.phase = .hold .soft ∧ member.machine.current = none
    ∧ (after (.hold 2 0 .jam .hard) member).map (fun t => (t.machine.phase, t.machine.current, t.link))
      = some (.hold .hard, some ⟨.jam, 2, 118, .hard, 0⟩, member.link) := by decide +kernel

/-- A round of node 1 and node 2. -/
def votes (one two : Option VoteAnswer) (p : VoteTarget) : State :=
  member.setRound (some ⟨p, 0, [(1, one), (2, two)]⟩)

theorem test_hold_counts_and_fails_the_round :
    (after (.hold 14 0 .console .soft) ((votes none none .bore).setMachine { (votes none none .bore).machine with
      current := some ⟨.jam, 2, 118, .soft, 255⟩ })).map (fun t => (t.machine.current, t.machine.lastFailure, t.machine.round))
      = some (some ⟨.jam, 2, 118, .soft, 255⟩, some ⟨.bore, 14, .held⟩, none) := by decide +kernel

theorem test_propose : member.HearsConsole 14 0 ∧ member.machine.round = none
    ∧ (after (.propose 14 0 .bore) member).map (fun t => (t.machine.round, t.link.queue.map (·.frame.body)))
      = some (some ⟨.bore, 200, [(1, none), (2, none)]⟩, [.vote .bore (.refuse .noCar)])
    ∧ fresh.HearsConsole 14 0 ∧ after (.propose 14 0 .bore) fresh = some fresh
    ∧ (after (.propose 14 0 .build) (votes none none .bore)).map (·.console.counters.discardedProposals) = some 1 := by
  decide +kernel

theorem test_readiness : boring.inHold = false ∧ boring.readiness .build = .refuse .phase
    ∧ member.inHold = true ∧ (member.setNode { member.node with state := .joining }).readiness .bore = .refuse .joining
    ∧ (member.setNode { member.node with state := .faulted }).readiness .bore = .refuse .faulted
    ∧ (member.setMuck { member.muck with queue := [⟨1, 1000, 999, .due⟩] }).readiness .bore = .ready
    ∧ member.readiness .build = .refuse .strokeShort
    ∧ (((building .suspended false step1).setMachine member.machine).setThrust
        { member.thrust with sectorAdvance := 1500 }).readiness .build = .ready := by decide +kernel

/-- STROKE_DONE fails by the stroke reached flag (R71) and by the sector advance (Table 3-5), each alone (log 41). -/
theorem test_stroke_done :
    let s := member.setMuck { member.muck with queue := [⟨1, 1000, 999, .due⟩] }
    (s.setThrust { s.thrust with strokeReached := true, sectorAdvance := 1499 }).readiness .bore = .refuse .strokeDone
    ∧ (s.setThrust { s.thrust with sectorAdvance := 1500 }).readiness .bore = .refuse .strokeDone
    ∧ (s.setThrust { s.thrust with sectorAdvance := 1499 }).readiness .bore = .ready := by decide +kernel

theorem test_vote_refused : (votes none none .bore).HearsPeer 2 0
    ∧ (votes none none .bore).machine.round = some ⟨.bore, 0, [(1, none), (2, none)]⟩
    ∧ ((2 : Station).toNat, none) ∈ [((1 : Nat), (none : Option VoteAnswer)), (2, none)]
    ∧ (after (.vote 2 0 .bore (.refuse .jam)) (votes none none .bore)).map (fun t => (t.machine.round, t.machine.lastFailure))
      = some (none, some ⟨.bore, 2, .refused .jam⟩) := by decide +kernel

theorem test_vote_recorded : (∃ v ∈ [((1 : Nat), (none : Option VoteAnswer)), (2, none)], v ≠ ((2 : Station).toNat, none)
      ∧ v.2 ≠ some .ready)
    ∧ after (.vote 2 0 .bore .ready) (votes none none .bore) = some (votes none (some .ready) .bore) := by decide +kernel

theorem test_vote_completes :
    (∀ v ∈ [((1 : Nat), some VoteAnswer.ready), (2, none)], v = ((2 : Station).toNat, none) ∨ v.2 = some .ready)
    ∧ (after (.vote 2 0 .build .ready) (votes (some .ready) none .build)).map (·.machine.phase) = some .build
    ∧ (after (.vote 2 0 .bore .ready) (votes (some .ready) none .bore)).map
        (fun t => (t.machine.phase, t.drive.drives.map (·.state), t.muck.screw))
      = some (.bore, [.starting, .starting], .run) := by decide +kernel

/-- The last READY takes a FAULTED node out of HOLD, its drives stopped (log 44). -/
theorem test_vote_completes_at_faulted :
    let s := votes (some .ready) none .bore
    (after (.vote 2 0 .bore .ready) (s.setNode { s.node with state := .faulted })).map
        (fun t => (t.node.state, t.machine.phase, t.drive.drives.map (·.state))) = some (.faulted, .bore, [.stopped, .stopped]) := by
  decide +kernel

/-- Entry to BORE with cylinders BEARING, BEARING and pinned, CLEAR, and CLEAR and pinned, at these strokes. -/
def entering (strokes : List Half) (ds : List Drive) : State :=
  let s := (votes (some .ready) none .bore).setOverrides [⟨.cylinder, 2, .forceBear⟩, ⟨.cylinder, 4, .forceClear⟩, ⟨.drive, 2, .off⟩]
  (s.setCylinders (([(1, .bearing), (2, .bearing), (3, .clear), (4, .clear)].zip strokes).map fun c =>
    { cylinder c.1.1 c.1.2 with stroke := c.2 })).setDrives ds

/-- Entry to BORE (R60, R84): fit drives start, unpinned cylinders advance or are reseated; nothing brings a hold. -/
theorem test_bore_entered :
    (after (.vote 2 0 .bore .ready) (entering [100, 100, 100, 100] [⟨1, .stopped, 0, 0, false⟩, ⟨2, .stopped, 0, 0, false⟩])).map
        (fun t => (t.machine.phase, t.drive.drives.map (·.state), t.thrust.cylinders.map (·.state), t.thrust.cylinders.map (·.reseatTarget)))
      = some (.bore, [.starting, .stopped], [.advancing, .bearing, .reseating, .clear], [none, none, some 18000, none])
    ∧ (entering [100, 100, 100, 100] []).thrust.sectorAdvance = 0 := by decide +kernel

/-- The stroke target is met at entry: no cylinder advances (R71); with every peer at the target the stroke's end holds. -/
theorem test_bore_entered_at_the_target :
    (after (.vote 2 0 .bore .ready) ((entering [1600, 100, 1650, 100] []).setGrout { member.grout with ports := [] })).map
        (fun t => (t.machine.phase, t.thrust.strokeReached, t.thrust.sectorAdvance, t.thrust.cylinders.map (·.state)))
      = some (.bore, true, 1500, [.bearing, .bearing, .reseating, .clear])
    ∧ (after (.vote 2 0 .bore .ready) (entering [1600, 100, 1650, 100] [])).map (fun t => (t.machine.phase, t.machine.current))
      = some (.hold .soft, some ⟨.shortfall, 1, 118, .soft, 0⟩) := by decide +kernel

/-- A drive TRIPPED since the vote holds the machine, and the drive beside it ends STOPPING (R85, log 14). -/
theorem test_bore_tripped :
    (after (.vote 2 0 .bore .ready) (entering [100, 100, 100, 100] [⟨1, .stopped, 0, 0, false⟩, ⟨3, .tripped, 0, 0, true⟩])).map
        (fun t => (t.machine.phase, t.machine.current, t.drive.drives.map (·.state), t.thrust.cylinders.map (·.state)))
      = some (.hold .hard, some ⟨.driveTrip, 1, 118, .hard, 0⟩, [.stopping, .tripped], [.bearing, .bearing, .clear, .clear])
    ∧ (entering [] [⟨3, .tripped, 0, 0, true⟩]).HasPlace
    ∧ (after (.vote 2 0 .bore .ready) (entering [] [⟨3, .tripped, 0, 0, true⟩])).map (·.link.queue.map (·.frame.body))
      = some [.hold .driveTrip .hard] := by decide +kernel

theorem test_vote_ignored : ((2 : Station).toNat, none) ∉ [((1 : Nat), (none : Option VoteAnswer)), (2, some .ready)]
    ∧ after (.vote 2 0 .bore .ready) (votes none (some .ready) .bore) = some (votes none (some .ready) .bore)
    ∧ after (.vote 2 0 .build .ready) (votes none none .bore) = some (votes none none .bore)
    ∧ after (.vote 2 0 .bore .ready) member = some member := by decide +kernel

/-- The own VOTE heard back, and a VOTE of a peer, decide the round alike. -/
theorem test_vote_heard_back : (votes none none .bore).configured = true
    ∧ (votes none none .bore).isMember (votes none none .bore).own = true ∧ (votes none none .bore).engine.requeue = none
    ∧ after (.loopbackCheck .same) (heard (.vote .bore .ready) (votes none none .bore))
      = some ((votes (some .ready) none .bore).setWire none)
    ∧ (after (.loopbackCheck .same) (heard (.vote .bore .ready) (votes none (some .ready) .bore))).map (·.machine.phase)
      = some .bore
    ∧ (after (.loopbackCheck .same) (heard (.vote .bore (.refuse .jam)) (votes none none .bore))).map (·.machine.lastFailure)
      = some (some ⟨.bore, 1, .refused .jam⟩) := by decide +kernel

/-- An open round of the node lists its members, and a READY comes as a frame or as the own one heard back. -/
theorem test_round_lists_members : (votes (some .ready) none .build).RoundListsMembers
    ∧ ((votes (some .ready) none .build).setPending [.vote 2 0 .build .ready]).BringsReady 2 .build
    ∧ ((heard (.vote .build .ready) (votes none (some .ready) .build)).setPending [.loopbackCheck .same]).BringsReady 1 .build := by
  refine ⟨⟨by decide +kernel, ?_⟩, ⟨_, _, rfl, Or.inl ⟨⟨2, 0, .vote .build .ready⟩, rfl, rfl, Or.inl rfl⟩⟩,
    ⟨_, _, rfl, Or.inr ⟨.same, _, rfl, rfl, rfl, by decide +kernel⟩⟩⟩
  intro r h
  have e : r = ⟨.build, 0, [(1, some .ready), (2, none)]⟩ := (Option.some.inj h).symm
  subst e
  decide +kernel

/-- The premises of leaving HOLD, met by a step. -/
theorem test_hold_left : (votes (some .ready) none .build).inHold = true
    ∧ (votes (some .ready) none .build).membersInOrder = [1, 2]
    ∧ (stepped ((votes (some .ready) none .build).setPending [.vote 2 0 .build .ready])).map (·.inHold) = some false := by
  decide +kernel

/-- The view's entry of node 2. -/
def withEntry (e : ViewEntry) : State := member.setView [⟨1, .present, none, none, 0⟩, e]

theorem test_beacon_agrees : member.HearsPeer 2 0 ∧ member.entry? (2 : Station).toNat = some entry2
    ∧ some (peerBeacon .hold).digest = member.node.digest ∧ (peerBeacon .hold).phase = member.phaseCode
    ∧ (peerBeacon .hold).ring.toNat = member.machine.ring
    ∧ (after (.beacon 2 0 { peerBeacon .hold with muck := true }) (withEntry ⟨2, .silent, none, none, 1⟩)).map
        (fun t => (t.entry? 2, t.restrainedBy 2))
      = some (some ⟨2, .present, some { peerBeacon .hold with muck := true }, some 0, 0⟩, (false, true, false, false)) := by
  decide +kernel

theorem test_beacon_discord : (peerBeacon .bore).phase ≠ member.phaseCode
    ∧ (after (.beacon 2 0 (peerBeacon .bore)) member).map (·.entry? 2)
      = some (some ⟨2, .present, some (peerBeacon .bore), some 0, 1⟩)
    ∧ (after (.beacon 2 0 (peerBeacon .bore)) (withEntry { entry2 with strikes := 1 })).map
        (fun t => ((t.entry? 2).map (·.strikes), t.machine.phase, t.noticed .discord))
      = some (some 0, .hold .hard, true)
    ∧ (after (.beacon 2 0 { peerBeacon .bore with nodeState := .joining }) (withEntry { entry2 with strikes := 1 })).map
        (fun t => (t.entry? 2).map (·.strikes)) = some (some 0) := by decide +kernel

theorem test_beacon_alien : some (0x1111 : Half) ≠ member.node.digest
    ∧ (after (.beacon 2 0 { peerBeacon .hold with digest := 0x1111 }) (member.addRestraint 2 .grout)).map
        (fun t => (t.entry? 2, t.restrainedBy 2, t.machine.phase))
      = some (some ⟨2, .alien, none, some 0, 0⟩, (false, false, false, false), .hold .hard) := by decide +kernel

theorem test_beacon_period : fresh.configured = false ∧ after .beaconPeriod fresh = some fresh
    ∧ (member.setMachine { member.machine with beaconTimer := 50 }).machine.beaconTimer = 50
    ∧ member.HasPlace ∧ member.pendingBeacon = none
    ∧ (after .beaconPeriod (member.setMachine { member.machine with beaconTimer := 50 })).map
        (fun t => (t.machine.beaconTimer, t.link.queue.map (·.frame.body)))
      = some (0, [.beacon member.beaconContents])
    ∧ (queued [beaconFrame 3]).pendingBeacon = some (beaconFrame 3)
    ∧ (after .beaconPeriod (queued [beaconFrame 3])).map (·.link.queue)
      = some [pendingFrame (.beacon member.beaconContents) 3] := by decide +kernel

theorem test_vote_window : member.machine.round = none ∧ after .voteWindowExpiry member = some member
    ∧ (votes (some .ready) none .bore).machine.round = some ⟨.bore, 0, [(1, some .ready), (2, none)]⟩
    ∧ (after .voteWindowExpiry (votes (some .ready) none .bore)).map (fun t => (t.machine.lastFailure, t.noticed .voteFailed))
      = some (some ⟨.bore, 2, .noVote⟩, true)
    ∧ State.missingVoter ⟨.bore, 0, [(1, none), (2, none)]⟩ = 1 := by decide +kernel

theorem test_silence : member.entry? 2 = some entry2 ∧ (withEntry { entry2 with since := some 150 }).entry? 2
      = some { entry2 with since := some 150 } ∧ 2 ≠ member.own
    ∧ after (.silenceExpiry 1) member = some member
    ∧ after (.silenceExpiry 2) (withEntry { entry2 with since := none }) = some (withEntry { entry2 with since := none })
    ∧ (after (.silenceExpiry 2) (withEntry { entry2 with since := some 150 })).map
        (fun t => (t.entry? 2, t.machine.phase, t.noticed .peerSilent))
      = some (some ⟨2, .silent, none, none, 0⟩, .hold .hard, true) := by decide +kernel

/-- Node 1 at the end of its listen window. -/
def listening (e : ViewEntry) (first : Bool) : State :=
  (withEntry e).setNode { member.node with state := .joining, listen := some 150, firstMembership := first }

theorem test_listen_window : member.node.state ≠ .joining ∧ after .listenWindowEnd member = some member
    ∧ (listening { entry2 with last := none } true).memberPeerRings = []
    ∧ (after .listenWindowEnd (listening { entry2 with last := none } true)).map
        (fun t => (t.node.state, t.machine.ring, t.thrust.cylinders.map (·.origin)))
      = some (.member, 118, [some 100, some 100, some 100, some 100])
    ∧ (listening { entry2 with last := some { peerBeacon .hold with ring := 120 } } false).memberPeerRings = [120]
    ∧ (after .listenWindowEnd (listening { entry2 with last := some { peerBeacon .hold with ring := 120 } } false)).map
        (fun t => (t.node.state, t.machine.ring)) = some (.member, 120) := by decide +kernel

theorem test_listen_window_disagrees :
    (∃ m ∈ [118, 120], ∃ n ∈ [118, 120], m ≠ n)
    ∧ ((listening entry2 true).setView [⟨1, .present, none, none, 0⟩, entry2,
        ⟨3, .present, some { peerBeacon .hold with ring := 120 }, some 0, 0⟩]).memberPeerRings = [118, 120]
    ∧ (after .listenWindowEnd ((listening entry2 true).setView [⟨1, .present, none, none, 0⟩, entry2,
        ⟨3, .present, some { peerBeacon .hold with ring := 120 }, some 0, 0⟩])).map
        (fun t => (t.node.state, t.node.listen, t.noticed .ringMismatch)) = some (.joining, some 0, true) := by decide +kernel

/-! ### Thrust -/

theorem test_restraint_frames : member.peerPresent (2 : Station).toNat = true
    ∧ (after (.restrain 2 0 [4]) member).map (·.thrust.restraints) = some [(1, .muck), (2, .face)]
    ∧ (after (.release 2 0 [4]) (member.addRestraint 2 .face)).map (·.thrust.restraints) = some [(1, .muck)]
    ∧ (withEntry { entry2 with presence := .silent }).peerPresent 2 = false
    ∧ after (.restrain 2 0 [4]) (withEntry { entry2 with presence := .silent })
      = some (withEntry { entry2 with presence := .silent })
    ∧ after (.restrain 2 0 [5]) member = some member ∧ after (.release 2 0 []) member = some member := by decide +kernel

/-- In BUILD, node 1 erector owner too, so that its own request reaches it at loopback; node 2 stands for the owner in a
frame of the link when its section has the flag. -/
def zoneState (cs : List Cylinder) : State :=
  let s := (member.setPhase .build).setCylinders cs
  s.setNode { s.node with config := some { config with sections :=
    [{ section1 with erectorOwner := 0 }, { section2 with erectorOwner := 1 }] } }

def fourBearing : List Cylinder := [cylinder 1 .bearing, cylinder 2 .bearing, cylinder 3 .bearing, cylinder 4 .bearing]

/-- ZONE_CLEAR(118, 2, 7) and ZONE_SEAT(118, 2, 7) at 18,000 kPa. -/
def clearBytes : List Byte := [0, 118, 2, 7]
def seatBytes : List Byte := [0, 118, 2, 7, 0x46, 0x50]
def clearRequest : ZoneRequest := ⟨.clear, 118, 2, 7, 0⟩
def seatRequest : ZoneRequest := ⟨.seat, 118, 2, 7, 18000⟩

theorem test_zone_clear_ignored : ((zoneState fourBearing).HearsPeer 2 0 ∧ zoneClearOf [1] = none
    ∧ after (.zoneClear 2 0 [1]) (zoneState fourBearing) = some (zoneState fourBearing)
    ∧ zoneClearOf clearBytes = some clearRequest ∧ after (.zoneClear 2 0 clearBytes) member = some member)
    ∧ ¬member.TakesZone 2 clearRequest ∧ ((zoneState fourBearing).setZone (some clearRequest)).RepeatsZone clearRequest
    ∧ after (.zoneClear 2 0 clearBytes) ((zoneState fourBearing).setZone (some clearRequest))
      = some ((zoneState fourBearing).setZone (some clearRequest)) :=
  ⟨by decide +kernel, fun h => absurd ((zoneTaken_iff _ _ _).mpr h) (by decide +kernel),
    (zoneRepeats_iff _ _).mp (by decide +kernel), by decide +kernel⟩

theorem test_zone_request_fits : (zoneState fourBearing).TakesZone 2 clearRequest
    ∧ ¬(zoneState fourBearing).RepeatsZone clearRequest ∧ (zoneState [cylinder 2 .clear]).TakesZone 2 seatRequest
    ∧ ¬(zoneState [cylinder 2 .clear]).RepeatsZone seatRequest :=
  ⟨(zoneTaken_iff _ _ _).mp (by decide +kernel), fun h => absurd ((zoneRepeats_iff _ _).mpr h) (by decide +kernel),
    (zoneTaken_iff _ _ _).mp (by decide +kernel), fun h => absurd ((zoneRepeats_iff _ _).mpr h) (by decide +kernel)⟩

/-- The erector owner's own request, heard back, is taken at its own zone (R130). -/
theorem test_zone_own : (member.setPhase .build).TakesZone 1 clearRequest
    ∧ (after (.loopbackCheck .same) (heard (.zoneClear clearBytes) (member.setPhase .build))).map
        (fun t => (t.thrust.zone, t.thrust.cylinders.map (·.state), t.link.onWire))
      = some (some clearRequest, [.bearing, .retracting, .bearing, .bearing], none)
    ∧ (after (.loopbackCheck .same) (heard (.zoneSeat seatBytes)
        ((member.setPhase .build).setCylinders [cylinder 2 .clear]))).map (·.thrust.zone) = some (some seatRequest) :=
  ⟨(zoneTaken_iff _ _ _).mp (by decide +kernel), by decide +kernel, by decide +kernel⟩

theorem test_zone_clear_taken :
    (∀ c ∈ (zoneState fourBearing).zoneCylinders 2, (zoneState fourBearing).cylPinned c = true → c.state ≠ .bearing)
    ∧ (zoneState fourBearing).retractionPermitted ((zoneState fourBearing).zoneCylinders 2) = true
    ∧ (after (.zoneClear 2 0 clearBytes) (zoneState fourBearing)).map
        (fun t => (t.thrust.zone, t.thrust.cylinders.map (·.state)))
      = some (some clearRequest, [.bearing, .retracting, .bearing, .bearing]) := by decide +kernel

theorem test_zone_clear_refused :
    (zoneState [cylinder 2 .bearing]).retractionPermitted ((zoneState [cylinder 2 .bearing]).zoneCylinders 2) = false
    ∧ (after (.zoneClear 2 0 clearBytes) (zoneState [cylinder 2 .bearing])).map (·.link.queue.map (·.frame.body))
      = some [.zoneRefused [0, 118, 2, 7, 2]]
    ∧ (∃ c ∈ ((zoneState fourBearing).setOverrides [⟨.cylinder, 2, .forceBear⟩]).zoneCylinders 2,
        ((zoneState fourBearing).setOverrides [⟨.cylinder, 2, .forceBear⟩]).cylPinned c = true ∧ c.state = .bearing)
    ∧ (after (.zoneClear 2 0 clearBytes) ((zoneState fourBearing).setOverrides [⟨.cylinder, 2, .forceBear⟩])).map
        (·.link.queue.map (·.frame.body)) = some [.zoneRefused [0, 118, 2, 7, 1]] := by decide +kernel

theorem test_zone_clear_answered_at_once :
    (after (.zoneClear 2 0 clearBytes) (zoneState [cylinder 1 .bearing, cylinder 2 .clear])).map
        (fun t => (t.thrust.zone, t.link.queue.map (·.frame.body))) = some (none, [.zoneCleared clearBytes]) := by
  decide +kernel

theorem test_zone_seat : zoneSeatOf seatBytes = some seatRequest ∧ zoneSeatOf clearBytes = none
    ∧ zoneSeatOf [0, 118, 2, 7, 3, 0xE7] = none ∧ (zoneSeatOf [0, 118, 2, 7, 3, 0xE8]).isSome = true
    ∧ after (.zoneSeat 2 0 clearBytes) (zoneState fourBearing) = some (zoneState fourBearing)
    ∧ after (.zoneSeat 2 0 [0, 118, 2, 7, 3, 0xE7]) (zoneState [cylinder 2 .clear]) = some (zoneState [cylinder 2 .clear])
    ∧ after (.zoneSeat 2 0 [0, 118, 2, 7, 0x88, 0xB9]) (zoneState [cylinder 2 .clear]) = some (zoneState [cylinder 2 .clear])
    ∧ (after (.zoneSeat 2 0 [0, 118, 2, 7, 0x88, 0xB8]) (zoneState [cylinder 2 .clear])).map (·.thrust.zone.map (·.pressure))
      = some (some 35000)
    ∧ (after (.zoneSeat 2 0 seatBytes) (zoneState [cylinder 2 .clear])).map (fun t => (t.thrust.zone, t.thrust.cylinders))
      = some (some seatRequest, [{ cylinder 2 .reseating with reseatTarget := some 18000 }]) := by decide +kernel

theorem test_zone_seat_refused : ∃ c ∈ ((zoneState [cylinder 2 .clear]).setOverrides [⟨.cylinder, 2, .forceClear⟩]).zoneCylinders 2,
    ((zoneState [cylinder 2 .clear]).setOverrides [⟨.cylinder, 2, .forceClear⟩]).cylPinned c = true ∧ c.state = .clear := by
  decide +kernel

theorem test_zone_tested :
    ((zoneState [cylinder 2 .clear]).setZone (some clearRequest)).thrust.zone = some clearRequest
    ∧ (((zoneState [cylinder 2 .clear]).setZone (some clearRequest)).testZone).thrust.zone = none
    ∧ ((zoneState [cylinder 2 .retracting]).setZone (some clearRequest)).testZone
      = (zoneState [cylinder 2 .retracting]).setZone (some clearRequest)
    ∧ ((((zoneState [cylinder 2 .retracting]).setZone (some clearRequest)).setOverrides
        [⟨.cylinder, 2, .forceBear⟩]).testZone).link.queue.map (·.frame.body) = [.zoneRefused [0, 118, 2, 7, 1]] := by
  decide +kernel

theorem test_bearing_minimum : (after (.override 14 1 [1, 1, 2]) member).map (·.bearingCount) = some 3
    ∧ (after (.override 14 1 [1, 1, 2]) (member.setCylinders [cylinder 1 .bearing])).map
        (fun t => (t.bearingCount, t.link.queue.map (·.frame.body))) = some (1, [.reply [0x20, 5, 2, 1, 1]]) := by decide +kernel

theorem test_setpoint : member.HearsConsole 14 0 ∧ ([0, 120, 2, 89] : List Byte).length = 4
    ∧ (after (.setpoint 14 0 [0, 120, 2, 89]) member).map (fun t => (t.thrust.setpoint, t.drive.setpoint)) = some (120, 0)
    ∧ (after (.setpoint 14 0 [0, 121, 2, 88]) member).map (fun t => (t.thrust.setpoint, t.drive.setpoint)) = some (0, 600)
    ∧ after (.setpoint 14 0 [0, 120, 2]) member = some member := by decide +kernel

theorem test_advance_speed :
    let s := boring.setThrust { boring.thrust with setpoint := 40 }
    s.cylinder? 1 = some (cylinder 1 .advancing) ∧ s.standsStill = false ∧ s.cylCommand 1 = .extend 8
    ∧ (s.setThrust { s.thrust with restraints := [] }).cylCommand 1 = .extend 40
    ∧ (s.setThrust { s.thrust with steerPause := true }).cylCommand 1 = .extend 0
    ∧ (s.setThrust { s.thrust with strokeReached := true }).cylCommand 1 = .extend 0
    ∧ (s.setNode { s.node with state := .faulted }).cylCommand 1 = .holdStill := by decide +kernel

theorem test_cylinder_report : member.cylinder? 6 = none ∧ member.cylinder? 1 = some (cylinder 1 .bearing)
    ∧ (after (.cylinderReport 6 5 6 false false) member).map (·.channels.cylinders[5]?) = some (some ⟨5, 6, false, false⟩)
    ∧ (after (.cylinderReport 1 130 2500 true false) member).map (fun t => (t.cylinder? 1, t.noticed .cylFault))
      = some (some ⟨1, .failed, 130, 2500, true, some 100, none⟩, true)
    ∧ (after (.cylinderReport 2 130 2500 false true) (zoneState [cylinder 2 .retracting])).map
        (fun t => (t.cylinder? 2).map (·.state)) = some (some .clear) := by decide +kernel

theorem test_cylinder_report_reseated :
    (after (.cylinderReport 2 130 18000 false false) (zoneState [{ cylinder 2 .reseating with reseatTarget := some 18000 }])).map
        (fun t => (t.cylinder? 2).map (·.state)) = some (some .bearing)
    ∧ (after (.cylinderReport 1 100 2000 true false) (boring.setCylinders [cylinder 1 .advancing])).map (·.machine.phase)
      = some (.hold .hard) := by decide +kernel

/-- A request in flight at a report (R58 step 6): of a cylinder of its zone, answered when that completes it, refused with a
pin against it, in flight otherwise; of another cylinder, left alone; ended by a hold in BORE. -/
theorem test_zone_at_report :
    let s := fun st kind => (zoneState [cylinder 1 .bearing, cylinder 2 st]).setZone (some (⟨kind, 118, 2, 7, 18000⟩ : ZoneRequest))
    let left := fun (t : State) => (t.thrust.zone.isSome, t.link.queue.map (·.frame.body))
    (after (.cylinderReport 2 90 0 false true) (s .retracting .clear)).map left = some (false, [.zoneCleared [0, 118, 2, 7]])
    ∧ (after (.cylinderReport 2 90 0 false false) (s .retracting .clear)).map left = some (true, [])
    ∧ (after (.cylinderReport 2 90 0 true false) (s .reseating .seat)).map left = some (false, [.zoneHeld [0, 118, 2, 7]])
    ∧ (after (.cylinderReport 1 90 0 false true) (s .retracting .clear)).map left = some (true, [])
    ∧ (after (.cylinderReport 2 90 0 false false) ((s .retracting .clear).setOverrides [⟨.cylinder, 2, .forceBear⟩])).map left
      = some (false, [.zoneRefused [0, 118, 2, 7, 1]])
    ∧ (after (.cylinderReport 1 90 0 true false) ((boring.setCylinders [cylinder 1 .advancing]).setZone (some clearRequest))).map
        (fun t => (t.machine.phase, t.thrust.zone)) = some (.hold .hard, none)
    ∧ (s .retracting .clear).HasPlace := by decide +kernel

/-- In BORE with one cylinder, its origin at 100 mm, the sector and credited advance given. -/
def advancing (st : CylState) (advance credited : Nat) : State :=
  let s := boring.setCylinders [{ cylinder 1 st with reseatTarget := if st = .reseating then some 18000 else none }]
  s.setThrust { s.thrust with sectorAdvance := advance, credited := credited }

/-- What a report without a fault leaves of the advance and of the ports. -/
def reported (stroke : Half) (s : State) : Option (List Nat × Bool) :=
  (after (.cylinderReport 1 stroke 2000 false false) s).map fun t =>
    ([t.thrust.sectorAdvance, t.thrust.credited] ++ t.grout.ports.map (·.owed), t.grout.restrained)

/-- The advance rises, falls below what is credited, or has no cylinder to count; the ports are owed each rise (R66, R67,
R143, R158). -/
theorem test_report_advances :
    reported 158 (advancing .advancing 0 0) = some ([58, 58, 5800, 3480, 3480, 3480, 3480], false)
    ∧ reported 159 (advancing .advancing 0 0) = some ([59, 59, 5900, 3540, 3540, 3540, 3540], true)
    ∧ reported 101 ((advancing .advancing 0 0).setGrout { member.grout with restrained := true })
      = some ([1, 1, 100, 60, 60, 60, 60], false)
    ∧ reported 158 (advancing .advancing 60 60) = some ([58, 60, 0, 0, 0, 0, 0], false)
    ∧ reported 158 ((advancing .advancing 60 60).setOverrides [⟨.cylinder, 1, .forceBear⟩])
      = some ([60, 60, 0, 0, 0, 0, 0], false) := by decide +kernel

/-- The SHORTFALL hold at 40 L, and none one millimetre below (R159). -/
theorem test_report_shortfall :
    (after (.cylinderReport 1 217 2000 false false) (advancing .advancing 0 0)).map (fun t => (t.shortfallL, t.inHold))
      = some (39, false)
    ∧ (after (.cylinderReport 1 218 2000 false false) (advancing .advancing 0 0)).map
        (fun t => (t.shortfallL, t.machine.current.map (·.cause), t.thrust.strokeReached, t.thrust.steerPause))
      = some (40, some .shortfall, false, false) := by decide +kernel

/-- The steer pause is set above the limit, cleared at half of it, and stays between (R70). -/
theorem test_report_steer :
    let paused := fun (stroke : Half) (before : Bool) =>
      let s := advancing .advancing 0 100
      (after (.cylinderReport 1 stroke 2000 false false) (s.setThrust { s.thrust with steerPause := before })).map
        (·.thrust.steerPause)
    paused 121 false = some true ∧ paused 120 false = some false ∧ paused 120 true = some true ∧ paused 111 true = some true
    ∧ paused 110 true = some false := by decide +kernel

/-- Stroke reached at the stroke target, and the stroke's end when every peer is there too (R71, R72). -/
theorem test_report_stroke :
    (after (.cylinderReport 1 1599 2000 false false) (advancing .advancing 1490 1500)).map
        (fun t => (t.thrust.strokeReached, t.thrust.cylinders.map (·.state), t.inHold)) = some (false, [.advancing], false)
    ∧ (after (.cylinderReport 1 1600 2000 false false) (advancing .advancing 1490 1500)).map
        (fun t => (t.thrust.strokeReached, t.thrust.cylinders.map (·.state), t.inHold)) = some (true, [.bearing], false)
    ∧ (after (.cylinderReport 1 1600 2000 false false) ((advancing .advancing 1490 1500).setView [⟨1, .present, none, none, 0⟩,
        { entry2 with last := some { peerBeacon .bore with advance := 1500 } }])).map
        (fun t => (t.thrust.strokeReached, t.machine.current.map (·.cause))) = some (true, some .strokeEnd) := by decide +kernel

/-- Steps 3 and 4 of one report in BORE (R58, R60). -/
theorem test_report_reseats :
    let moved := fun (pressure : Half) (retracted : Bool) (s : State) =>
      ((after (.cylinderReport 1 100 pressure false retracted) s).map (·.thrust.cylinders)).map fun cs =>
        cs.map fun c => (c.state, c.reseatTarget)
    let pinned := fun (s : State) => s.setOverrides [⟨.cylinder, 1, .forceBear⟩]
    let reached := fun (s : State) => s.setThrust { s.thrust with strokeReached := true }
    [moved 17999 true (advancing .retracting 0 0), moved 18000 true (advancing .retracting 0 0),
      moved 18000 true (pinned (advancing .retracting 0 0)), moved 18000 true (advancing .clear 0 0)]
      = [some [(.reseating, some 18000)], some [(.advancing, none)], some [(.clear, none)], some [(.clear, none)]]
    ∧ [moved 17999 false (advancing .reseating 0 0), moved 18000 false (advancing .reseating 0 0),
      moved 18000 false (reached (advancing .reseating 0 0)), moved 18000 false (pinned (advancing .reseating 0 0))]
      = [some [(.reseating, some 18000)], some [(.advancing, none)], some [(.bearing, none)], some [(.bearing, none)]] := by
  decide +kernel

/-! ### Ring building -/

def clearing : State := building .clearing false step1
def reseating (st : PlanStep) : State := building .reseating true st

theorem test_zone_answer_ignored : (member.HearsPeer 2 0 ∧ zoneFields [0, 118, 2, 4] = some (118, 2, 4)
    ∧ after (.zoneCleared 2 0 [0, 118, 2, 4]) member = some member
    ∧ clearing.engine.state ≠ .reseating ∧ after (.zoneHeld 2 0 [0, 118, 2, 4]) clearing = some clearing
    ∧ after (.zoneCleared 2 0 [0, 118, 2, 5]) clearing = some clearing
    ∧ after (.zoneCleared 2 0 [0, 118, 2, 4, 0]) clearing = some clearing)
    ∧ ¬member.TakesAnswer 2 (118, 2, 4) ∧ ¬clearing.TakesAnswer 2 (118, 2, 5) :=
  ⟨by decide +kernel, fun h => absurd ((answerFits_iff _ _ _).mpr h) (by decide +kernel),
    fun h => absurd ((answerFits_iff _ _ _).mpr h) (by decide +kernel)⟩

/-- A CLEARING stage that waits for two members. -/
def clearingNone : State := clearing.setEngine { clearing.engine with answered := [] }

theorem test_zone_answer_fits : clearingNone.TakesAnswer 2 (118, 2, 4) ∧ clearing.TakesAnswer 2 (118, 2, 4)
    ∧ (reseating step1).TakesAnswer 2 (118, 2, 4) :=
  ⟨(answerFits_iff _ _ _).mp (by decide +kernel), (answerFits_iff _ _ _).mp (by decide +kernel),
    (answerFits_iff _ _ _).mp (by decide +kernel)⟩

theorem test_zone_answer_counted :
    (1 ∈ clearingNone.engine.zoneMembers ∧ 1 ≠ (2 : Station).toNat ∧ 1 ∉ clearingNone.engine.answered)
    ∧ (after (.zoneCleared 2 0 [0, 118, 2, 4]) clearingNone).map (fun t => (t.engine.state, t.engine.answered))
      = some (.clearing, [2]) := by decide +kernel

theorem test_zone_answers_complete : clearing.currentStep = some (planOf [step1], step1)
    ∧ (∀ m ∈ clearing.engine.zoneMembers, m = (2 : Station).toNat ∨ m ∈ clearing.engine.answered)
    ∧ clearing.node.state = .member
    ∧ (after (.zoneCleared 2 0 [0, 118, 2, 4]) clearing).map
        (fun t => (t.engine.state, t.engine.erectorCommand, t.engine.limit))
      = some (.placing, .place 2 .standard 90, some 120000) := by decide +kernel

/-- A step done, others behind it in the store or none. -/
def doneBefore (rest : List PlanStep) : State := (reseating step1).setPlans { closed := [planOf (step1 :: rest)], opened := none }

/-- After a STANDARD step: no step left, the key step taken, the key missing, the stopping flag set (R109, R113, R121,
R127). -/
theorem test_step_done :
    (after (.zoneHeld 2 0 [0, 118, 2, 4]) (reseating step1)).map (fun t => (t.engine.state, t.engine.seated, t.plans.closed))
      = some (.idle, none, [])
    ∧ (after (.zoneHeld 2 0 [0, 118, 2, 4]) (doneBefore [keyStep])).map
        (fun t => (t.engine.state, t.engine.attempt, t.plans.closed, t.link.queue.map (·.frame.body)))
      = some (.clearing, 5, [planOf [keyStep]], [.zoneClear [0, 118, 5, 5]])
    ∧ (after (.zoneHeld 2 0 [0, 118, 2, 4]) (doneBefore [⟨2, 3, .standard, 0, none⟩])).map
        (fun t => (t.engine.state, t.engine.fault)) = some (.faulted, some ⟨.keyMissing, 7, 2, 3⟩)
    ∧ (after (.zoneHeld 2 0 [0, 118, 2, 4]) ((doneBefore [keyStep]).setEngine { (reseating step1).engine with
        stopping := true })).map (fun t => (t.engine.state, t.engine.stopping)) = some (.disabled, false) := by decide +kernel

/-- The erector owner's own answers and refusal, heard back, are taken as a peer's (R130). -/
theorem test_zone_answer_own :
    let waiting := fun (s : State) => s.setEngine { s.engine with answered := [2] }
    (after (.loopbackCheck .same) (heard (.zoneCleared [0, 118, 2, 4]) (waiting clearing))).map (·.engine.state) = some .placing
    ∧ (after (.loopbackCheck .same) (heard (.zoneHeld [0, 118, 2, 4]) (waiting (reseating step1)))).map (·.engine.state)
      = some .idle
    ∧ (after (.loopbackCheck .same) (heard (.zoneRefused [0, 118, 2, 4, 1]) (waiting clearing))).map
        (fun t => (t.engine.state, t.engine.lastRefusal.map (·.member))) = some (.stalled, some 1) := by decide +kernel

/-- The key step held, its ring's other positions placed or not. -/
def keyState (placed : List Nat) : State := (reseating keyStep).setEngine { (reseating keyStep).engine with placed := placed }

theorem test_ring_done : (keyState [1, 2, 3, 4, 5]).ringFull = true ∧ (keyState [1, 2, 3, 4, 5]).HasPlace
    ∧ (after (.zoneHeld 2 0 [0, 118, 5, 4]) (keyState [1, 2, 3, 4, 5])).map
        (fun t => (t.engine.state, t.engine.closePending, t.link.queue.map (·.frame.body)))
      = some (.idle, true, [.ringClosed [0, 119]])
    ∧ (keyState [1, 2, 5]).ringFull = false
    ∧ (after (.zoneHeld 2 0 [0, 118, 5, 4]) (keyState [1, 2, 5])).map (fun t => (t.engine.state, t.engine.fault))
      = some (.faulted, some ⟨.incomplete, 7, 2, 5⟩) := by decide +kernel

theorem test_zone_refused : zoneRefusedOf [1] = none ∧ zoneRefusedOf [0, 118, 2, 4, 2] = some (118, 2, 4, .minimum)
    ∧ zoneRefusedOf [0, 118, 2, 4, 3] = none
    ∧ after (.zoneRefused 2 0 [0, 118, 2, 4, 2]) member = some member
    ∧ clearing.engine.stopping = false
    ∧ (after (.zoneRefused 2 0 [0, 118, 2, 4, 2]) clearing).map (fun t => (t.engine.state, t.engine.lastRefusal))
      = some (.stalled, some ⟨2, .minimum, 2, .clear, 4⟩)
    ∧ (after (.zoneRefused 2 0 [0, 118, 2, 4, 1]) ((reseating step1).setEngine { (reseating step1).engine with stopping := true })).map
        (fun t => (t.engine.state, t.plans.closed)) = some (.disabled, []) := by decide +kernel

/-- A placement in hand. -/
def placing (retry : Nat) : State :=
  let s := building .placing false step1
  s.setEngine { s.engine with erector := .placing, erectorCommand := .place 2 .standard 90, retry := retry }

theorem test_seated : member.engine.erector ≠ .placing ∧ after .seated member = some member
    ∧ (placing 0).ownsErector = true ∧ (placing 0).currentStep = some (planOf [step1], step1)
    ∧ (after .seated (placing 0)).map
        (fun t => (t.engine.state, t.engine.placed, t.engine.attempt, t.link.queue.map (·.frame.body)))
      = some (.reseating, [2], 5, [.zoneSeat [0, 118, 2, 5, 0x4E, 0x20]]) := by decide +kernel

theorem test_attempt_after_255 :
    (after .seated ((placing 0).setEngine { (placing 0).engine with attempt := 255 })).map (·.engine.attempt) = some 1 := by
  decide +kernel

theorem test_seat_fail : after .seatFail member = some member ∧ (placing 1).engine.retry < 2
    ∧ (placing 1).engine.state = .placing ∧ (placing 1).engine.limit = some 0
    ∧ (after .seatFail (placing 1)).map (fun t => (t.engine.retry, t.engine.erector, t.engine.limit))
      = some (2, .placing, some 120000)
    ∧ (placing 2).machine.phase = .build
    ∧ (after .seatFail (placing 2)).map (fun t => (t.engine.state, t.engine.erectorCommand, t.machine.phase))
      = some (.suspended, .halt, .hold .hard) := by decide +kernel

theorem test_placement_limit : after .placementLimitExpiry member = some member
    ∧ (after .placementLimitExpiry (placing 1)).map (·.engine.retry) = some 2
    ∧ (after .placementLimitExpiry (placing 2)).map (fun t => (t.engine.state, t.machine.current.map (·.cause)))
      = some (.suspended, some .seatFail) := by decide +kernel

theorem test_stage_limit : after .stageLimitExpiry member = some member ∧ clearing.engine.limit = some 0
    ∧ clearing.machine.phase = .build
    ∧ (after .stageLimitExpiry clearing).map (fun t => (t.engine.state, t.engine.seated, t.machine.current.map (·.cause)))
      = some (.suspended, some false, some .zoneTimeout)
    ∧ (after .stageLimitExpiry (reseating step1)).map (·.engine.seated) = some (some true) := by decide +kernel

/-- Node 2 as erector owner, seen from node 1, with something in every account. -/
def closing : State :=
  let s := zoneState fourBearing
  let s := s.setPorts (s.grout.ports.map fun p => { p with owed := 9000, delivered := 4000 })
  s.setThrust { s.thrust with sectorAdvance := 1500, credited := 1500, strokeReached := true }

theorem test_ring_closed : closing.HearsPeer 2 0 ∧ closing.isErectorOwner (2 : Station).toNat = true
    ∧ closing.nextRing = 119 ∧ ringOf [0, 119] = some 119 ∧ closing.ownsErector = false ∧ closing.ownsMuck = true
    ∧ (after (.ringClosed 2 0 [0, 119]) closing).map
        (fun t => (t.machine.ring, t.thrust.sectorAdvance, t.grout.ports.map (fun p => (p.owed, p.delivered)), t.console.records.length))
      = some (119, 0, [(5000, 0), (5000, 0), (5000, 0), (5000, 0), (5000, 0)], 1)
    ∧ after (.ringClosed 2 0 [0, 120]) closing = some closing ∧ member.isErectorOwner 2 = false
    ∧ after (.ringClosed 2 0 [0, 119]) member = some member
    ∧ (member.setRing 65000).nextRing = 1 := by decide +kernel

/-- At the erector owner: its own RING_CLOSED heard back closes the ring, and a stale one only ends (R129, R137, R139). -/
theorem test_ring_closed_own :
    let s := building .idle false keyStep
    let s := s.setEngine { s.engine with
      seated := none, placed := [1, 2, 3, 4, 5], seatRetries := 3, zoneRefusals := 2, closePending := true }
    (after (.loopbackCheck .same) (heard (.ringClosed [0, 119]) s)).map
        (fun t => (t.machine.ring, t.machine.current, t.engine.placed, t.engine.closePending))
      = some (119, some ⟨.ringDone, 1, 119, .soft, 0⟩, [], false)
    ∧ (after (.loopbackCheck .same) (heard (.ringClosed [0, 119]) s)).map
        (fun t => (t.console.records.map (·.statistics), t.link.queue.map (·.frame.body)))
      = some ([some ⟨3, 2⟩], [.hold .ringDone .soft])
    ∧ (after (.loopbackCheck .same) (heard (.ringClosed [0, 118]) (s.setEngine { s.engine with placed := [2] }))).map
        (fun t => (t.machine.ring, t.engine.closePending, t.engine.state)) = some (118, false, .clearing) := by decide +kernel

theorem test_ring_set : member.HearsConsole 14 0 ∧ ringOf [0, 0] = some 0 ∧ after (.ringSet 14 0 [0, 0]) member = some member
    ∧ ringOf [0xFD, 0xE8] = some 65000 ∧ after (.ringSet 14 0 [0xFD, 0xE9]) member = some member
    ∧ boring.inHold = false ∧ after (.ringSet 14 0 [0, 5]) boring = some boring
    ∧ fresh.configured = false ∧ after (.ringSet 14 0 [0, 5]) fresh = some fresh
    ∧ (after (.ringSet 14 0 [0xFD, 0xE8]) member).map (·.machine.ring) = some 65000
    ∧ (after (.ringSet 14 0 [0, 1]) ((building .stalled true step1).setPhase (.hold .soft))).map
        (fun t => (t.machine.ring, t.engine.state, t.plans.closed)) = some (1, .disabled, [])
    ∧ after (.ringSet 14 0 [0, 5]) (closing.setPhase (.hold .hard)) = some ((closing.setPhase (.hold .hard)).setRing 5) := by
  decide +kernel

theorem test_erector_fault : member.ownsErector = true ∧ member.channels.erectorFault = false
    ∧ (after (.erectorFaultIndication true) boring).map
        (fun t => (t.node.state, t.node.cause, t.machine.phase)) = some (.faulted, some .erector, .hold .hard)
    ∧ (after (.erectorFaultIndication true) boring).map
        (fun t => (t.drive.drives.map (·.state), t.engine.erector, t.muck.screw))
      = some ([.stopping, .stopping], .halted, .stop)
    ∧ after (.erectorFaultIndication false) member = some (member.setChannels { member.channels with erectorFault := false }) := by
  decide +kernel

theorem test_screw_fault : member.ownsMuck = true
    ∧ (after (.screwReport true) member).map (fun t => (t.node.cause, t.channels.screwFault)) = some (some .screw, true)
    ∧ (after (.screwReport true) (member.setNode { member.node with state := .faulted })).map (·.node.furtherFaults) = some 1
    ∧ fresh.ownsMuck = false ∧ (after (.screwReport true) fresh).map (·.node.state) = some .unconfigured := by decide +kernel

/-! ### Configuration and resets -/

/-- A number as `w` bytes, high byte first. -/
def numberBytes (w n : Nat) : List Byte := (List.range w).map fun i => byteOf (n / 256 ^ (w - 1 - i))

def sectionBytes (m : MemberSection) : List Byte :=
  [m.drives, m.cylinders, m.ports, m.priority, m.chainStart].flatMap (numberBytes 1) ++ m.nextPort.flatMap (numberBytes 1)
  ++ m.factors.flatMap (numberBytes 2) ++ [m.muckOwner, m.erectorOwner].flatMap (numberBytes 1)
  ++ m.zones.flatMap (numberBytes 1)

/-- The content of `config` from Table 2-3. -/
def content : List Byte :=
  [2, 1, 2, 5, 1] ++ numberBytes 2 1500 ++ [20, 8] ++ numberBytes 2 8000 ++ [5, 8]
  ++ [500, 600, 12, 20, 40, 200, 3000, 2000, 100, 200, 300, 1000, 18000, 118].flatMap (numberBytes 2)
  ++ sectionBytes section1 ++ sectionBytes section2

/-- The content in parts of 20 bytes. -/
def part (k : Nat) : List Byte := (content.drop (20 * (k - 1))).take 20

/-- Node 1 with the parts before the last of `n` held. -/
def collected (n : Nat) : State :=
  fresh.setNode { fresh.node with collection := some ⟨14, n, (List.range (n - 1)).map fun i => part (i + 1)⟩ }

theorem test_content : content.length = 76 ∧ readConfiguration content = some config := by decide +kernel

theorem test_configure_parts : fresh.HearsConsole 14 0 ∧ fresh.node.state = .unconfigured ∧ member.node.state ≠ .unconfigured
    ∧ after (.configure 14 0 (1 :: 4 :: part 1)) member = some member
    ∧ (after (.configure 14 0 [1, 1]) fresh).map (·.noticed .configOrder) = some true
    ∧ (after (.configure 14 0 (1 :: 32 :: part 1)) fresh).map (·.node.collection) = some (some ⟨14, 32, [part 1]⟩)
    ∧ (after (.configure 14 0 (1 :: 33 :: part 1)) fresh).map (fun t => (t.node.collection, t.noticed .configOrder))
      = some (none, true)
    ∧ (collected 2).node.collection = some ⟨14, 2, [part 1]⟩
    ∧ (after (.configure 14 0 (3 :: 4 :: part 2)) (collected 3)).map (fun t => t.noticed .configOrder) = some true
    ∧ after (.configure 14 0 (1 :: 2 :: part 1)) (collected 2) = some (collected 2)
    ∧ (after (.configure 15 0 (1 :: 2 :: part 1)) (collected 2)).map (fun t => (t.node.collection, t.noticed .configOrder))
      = some (some ⟨15, 2, [part 1]⟩, true) := by decide +kernel

theorem test_configure_next_part :
    (after (.configure 14 0 (2 :: 4 :: part 2)) (fresh.setNode { fresh.node with collection := some ⟨14, 4, [part 1]⟩ })).map
      (·.node.collection) = some (some ⟨14, 4, [part 1, part 2]⟩) := by decide +kernel

theorem test_validation_stores :
    (readConfiguration ([part 1, part 2, part 3] ++ [part 4]).flatten = some config
      ∧ rejection fresh.own fresh.freeIndex config = none ∧ fresh.channels.screwFault = false)
    ∧ (after (.configure 14 0 (4 :: 4 :: part 4)) (collected 4)).map
        (fun t => (t.node.state, t.node.config, t.machine.ring, t.thrust.cylinders.length, t.drive.drives.length, t.grout.ports.length))
      = some (.joining, some config, 118, 4, 2, 5) := by decide +kernel

theorem test_validation_rejects :
    readConfiguration ([part 1] ++ [[0]]).flatten = none
    ∧ (after (.configure 14 0 [2, 2, 0]) (collected 2)).map
        (fun t => (t.node.state, t.node.lastRejection.map (·.reason), t.noticed .configRejected))
      = some (.unconfigured, some .length, true)
    ∧ rejection 1 0 { config with positions := 10 } = some ⟨.range, some 3, none⟩
    ∧ rejection 3 0 config = some ⟨.notMember, none, some 3⟩
    ∧ rejection 1 0 { config with sections := [{ section1 with muckOwner := 0 }, section2] } = some ⟨.muckOwner, none, none⟩
    ∧ (rejection 1 0 { config with sections := [{ section1 with nextPort := [0, 3, 2, 5, 4] }, section2] }).map (·.reason)
      = some .chain := by decide +kernel

/-- A part 1 of 1, of an empty collection or out of turn (log 38), starts validation. -/
theorem test_validation_of_one_part :
    (fresh.LastPart 14 1 1 [0] [] fresh)
    ∧ (collected 2).LastPart 15 1 1 [0] [] (((collected 2).setNode { fresh.node with collection := none }).notify .configOrder)
    ∧ (after (.configure 14 0 (1 :: 1 :: content)) fresh).map (fun t => (t.node.state, t.node.config, t.noticed .configOrder))
      = some (.joining, some config, false)
    ∧ (after (.configure 15 0 (1 :: 1 :: [0])) (collected 2)).map
        (fun t => (t.node.collection, t.node.lastRejection.map (·.reason), t.noticed .configOrder, t.noticed .configRejected))
      = some (none, some .length, true, true) :=
  ⟨Or.inr (Or.inl ⟨rfl, rfl, rfl, rfl, rfl⟩), Or.inr (Or.inr ⟨_, rfl, rfl, rfl, rfl, Or.inl (by decide), rfl⟩),
    by decide +kernel, by decide +kernel⟩

/-- Of several members that fail, the first in the listed order is named, all its items before the next member's
(logs 6, 24). -/
theorem test_first_failing_member :
    rangeFailure { config with sections := [{ section1 with factors := [0, 1, 1, 1, 1] }, { section2 with drives := 5 }] }
      = some (31, some 1)
    ∧ chainFailure { config with
        members := [2, 1], sections := [{ section2 with chainStart := 1 }, { section1 with chainStart := 0 }] } = some 2 := by
  decide +kernel

theorem test_restart : fresh.HearsConsole 14 0 ∧ after (.restart 14 0) fresh = some fresh ∧ boring.HearsConsole 14 0
    ∧ boring.configured = true
    ∧ (after (.restart 14 0) boring).map
        (fun t => (t.node.state, t.node.listen, t.machine.phase, t.engine.state, t.link.queue.map (fun f => urgency f.frame.body)))
      = some (.joining, some 0, .hold .soft, .disabled, [0, 2]) := by decide +kernel

/-- A dose in flight at port 3. -/
def dosing (credited : Nat) : State :=
  member.setGrout { member.grout with
    ports := member.grout.ports.map (fun p => { p with owed := 5000, cuts := 1 })
    pump := .dosing, dose := some ⟨3, credited, 30000, none⟩, pointer := some 3 }

/-- Channel reports: cylinder 1 in contact, cylinder 2 not, cylinder 3 a fault; drive 1 turning, drive 2 a fault. -/
def channelReports : Channels := { member.channels with
  cylinders := [⟨300, 1000, false, false⟩, ⟨310, 999, false, false⟩, ⟨320, 2000, true, false⟩, ⟨330, 2000, false, false⟩]
  drives := [⟨5, 0, false⟩, ⟨0, 0, true⟩, ⟨0, 0, false⟩], pumpAtRest := some false }

/-- Warm restart rebuilds cylinders that are not FAILED and the restraint set, stops the dose and clears the pump (R63, R81,
R161). -/
theorem test_restart_rebuilds :
    let s := (boring.setChannels channelReports).setCylinders
      [cylinder 1 .retracting, cylinder 2 .advancing, cylinder 3 .bearing, cylinder 4 .failed]
    let s := ((s.addRestraint 1 .torque).addRestraint 2 .face).setGrout (dosing 0).grout
    let s := s.setMuck { s.muck with faceRestrained := true }
    (after (.restart 14 0) s).map (fun t => (t.thrust.cylinders.map (·.state), t.thrust.restraints))
      = some ([.bearing, .parked, .failed, .failed], [(1, .muck), (1, .face)])
    ∧ (after (.restart 14 0) s).map (fun t => (t.link.queue.map (·.frame.body)).take 3)
      = some [.hold .restart .soft, .release [3], .restrain [4]]
    ∧ (after (.restart 14 0) s).map (fun t => (t.grout.dose, t.grout.pump, t.grout.pointer))
      = some (some ⟨3, 0, 30000, some .stopped⟩, .idle, some 3)
    ∧ (after (.restart 14 0) s).map (·.machine.current) = some (some ⟨.restart, 1, 118, .soft, 0⟩)
    ∧ (s.grout.pump = .dosing ∧ s.doseInFlight = true) := by decide +kernel

/-- In HOLD the restart is counted, the grade stays and an open round fails HELD (R54). -/
theorem test_restart_in_hold :
    let s := (votes none none .bore).setMachine { (votes none none .bore).machine with
      phase := .hold .hard, current := some ⟨.jam, 2, 118, .hard, 255⟩ }
    (after (.restart 14 0) s).map (fun t => (t.machine.phase, t.machine.current, t.machine.lastFailure))
      = some (.hold .hard, some ⟨.jam, 2, 118, .hard, 255⟩, some ⟨.bore, 1, .held⟩)
    ∧ (after (.restart 14 0) member).map (·.machine.current) = some (some ⟨.restart, 1, 118, .soft, 0⟩) := by decide +kernel

/-- A FAULTED node in HOLD HARD. -/
def faulted : State :=
  let s := member.setNode { member.node with state := .faulted, cause := some .pump, furtherFaults := 2 }
  let s := (s.setPhase (.hold .hard)).setCylinders [cylinder 1 .failed, cylinder 2 .parked]
  (s.setGrout { s.grout with pump := .failed }).setLink { s.link with transmitting := false }

theorem test_clear_fault : faulted.HearsConsole 14 1 ∧ faulted.inHold = true ∧ faulted.configured = true
    ∧ faulted.channels.screwFault = false ∧ faulted.channels.erectorFault = false
    ∧ (after (.clearFault 14 1 []) faulted).map
        (fun t => (t.node.state, t.node.cause, t.node.furtherFaults)) = some (.member, none, 0)
    ∧ (after (.clearFault 14 1 []) faulted).map
        (fun t => (t.grout.pump, t.link.transmitting, t.thrust.cylinders.map (·.state)))
      = some (.idle, true, [.parked, .parked])
    ∧ (after (.clearFault 14 1 []) boring).map (·.link.queue.map (·.frame.body)) = some [.reply [6, 4, 0, 1, 1]]
    ∧ (after (.clearFault 14 1 [0]) faulted).map (·.node.state) = some .faulted
    ∧ (after (.clearFault 14 1 []) fresh).map (·.link.queue.map (·.frame.body)) = some [.reply [6, 4, 0, 1, 1]]
    ∧ (after (.clearFault 14 1 []) (fresh.setNode { fresh.node with state := .faulted, cause := some .link })).map
        (fun t => (t.node.state, t.node.cause)) = some (.unconfigured, none) := by decide +kernel

/-- CLEAR_FAULT rebuilds FAILED cylinders, each in the state its pin or its contact gives, and TRIPPED drives; the node's
leaving FAULTED has a PARKED cylinder pinned FORCE_CLEAR retract; its first membership captures the origin (R62, R87). -/
theorem test_clear_fault_rebuilds :
    let s := (faulted.setChannels channelReports).setCylinders
      [cylinder 1 .failed, cylinder 2 .failed, cylinder 3 .failed, cylinder 4 .parked]
    let s := s.setDrives [⟨1, .tripped, 0, 0, true⟩, ⟨2, .tripped, 0, 0, true⟩, ⟨3, .tripped, 0, 0, true⟩]
    let states := fun (t : State) => t.thrust.cylinders.map (fun c => (c.state, c.reseatTarget))
    (after (.clearFault 14 1 []) s).map states = some [(.bearing, none), (.parked, none), (.failed, none), (.parked, none)]
    ∧ (after (.clearFault 14 1 []) (s.setOverrides [⟨.cylinder, 1, .forceClear⟩, ⟨.cylinder, 2, .forceBear⟩,
        ⟨.cylinder, 3, .forceBear⟩, ⟨.cylinder, 4, .forceClear⟩])).map states
      = some [(.retracting, none), (.reseating, some 18000), (.failed, none), (.retracting, none)]
    ∧ (after (.clearFault 14 1 []) s).map (fun t => (t.drive.drives.map (·.state), t.link.queue.map (·.frame.body)))
      = some ([.stopping, .tripped, .stopped], [.reply [6, 0, 0, 1, 1]])
    ∧ (after (.clearFault 14 1 []) ((s.setNode { s.node with firstMembership := true }).setThrust
        { s.thrust with sectorAdvance := 5, credited := 6 })).map
        (fun t => (t.thrust.sectorAdvance, t.thrust.credited, t.thrust.cylinders.map (·.origin)))
      = some (0, 0, [some 100, some 100, some 100, some 100])
    ∧ s.node.firstMembership = false
    ∧ (after (.clearFault 14 1 []) (s.setChannels { channelReports with screwFault := true })).map
        (fun t => (t.node.state, t.node.cause)) = some (.faulted, some .screw)
    ∧ (after (.clearFault 14 1 []) (s.setChannels { channelReports with screwFault := true, erectorFault := true })).map
        (fun t => (t.node.state, t.node.cause)) = some (.faulted, some .erector) := by decide +kernel

/-- A JOINING node with the first-membership flag set. -/
def joiningFirst : State :=
  let s := member.setNode { member.node with state := .joining, firstMembership := true }
  (s.setThrust { s.thrust with sectorAdvance := 5, credited := 6, strokeReached := true }).setCylinders
    [{ cylinder 1 .bearing with stroke := 170 }]

/-- CLEAR_FAULT there captures the origin and keeps the flag (R62, log 43). -/
theorem test_clear_fault_joining : (after (.clearFault 14 1 []) joiningFirst).map (·.node) = some joiningFirst.node
    ∧ (after (.clearFault 14 1 []) joiningFirst).map
        (fun t => (t.thrust.sectorAdvance, t.thrust.credited, t.thrust.strokeReached, t.thrust.cylinders.map (·.origin)))
      = some (0, 0, false, [some 170]) := by decide +kernel

/-! ### Console services -/

theorem test_read : member.HearsConsole 14 1 ∧ member.HearsConsole 14 0 ∧ after (.read 14 0 [1, 0, 1]) member = some member
    ∧ readClassOf 13 = none ∧ (after (.read 14 1 [13, 0, 1]) member).map (·.link.queue.map (·.frame.body))
      = some [.reply [1, 3, 0, 1, 1]]
    ∧ readClassOf 1 = some .cyl ∧ replying.console.dataReply.isSome = true
    ∧ (after (.read 14 1 [1, 0, 1]) replying).map (·.link.queue.map (·.frame.body)) = some [.reply [1, 1, 0, 1, 1]]
    ∧ (after (.read 14 1 [1, 0, 1]) fresh).map (·.link.queue.map (·.frame.body)) = some [.reply [1, 4, 0, 1, 1]]
    ∧ member.itemExists .cyl 5 = false
    ∧ (after (.read 14 1 [1, 4, 2]) member).map (·.link.queue.map (·.frame.body)) = some [.reply [1, 2, 0, 1, 1]] := by
  decide +kernel

/-- READ of the sector advance and its companions: five values, two parts (R194, R195). -/
theorem test_read_values : member.itemExists .cyl 0 = true
    ∧ (after (.read 14 1 [1, 0, 1]) closing).map (fun t => (t.link.queue.map (·.frame.body), t.console.dataReply))
      = some ([.reply ([1, 0, 0, 1, 2] ++ bytes32 1500 ++ bytes32 1500 ++ bytes32 0 ++ bytes32 2)],
        some ⟨14, 1, 1, 2, [some 1]⟩)
    ∧ (beaconValues (peerBeacon .hold)).length = 19 := by decide +kernel

theorem test_watch_set : State.watchItemsOf [1, 1, 3] = some [⟨1, 1, 3⟩] ∧ (∀ w ∈ [(⟨1, 1, 3⟩ : WatchItem)], State.watchClass w ≠ none)
    ∧ member.watchExists ⟨1, 1, 3⟩ = true ∧ member.watchExists ⟨1, 1, 12⟩ = false
    ∧ after (.watchSet 14 0 [1, 1, 1, 3]) member = some member
    ∧ (after (.watchSet 14 1 [2, 1, 1, 3]) member).map (·.console.watch) = some [⟨1, 1, 3⟩]
    ∧ (after (.watchSet 14 1 [1, 1, 1, 12]) member).map (·.link.queue.map (·.frame.body)) = some [.reply [2, 2, 0, 1, 1]]
    ∧ (after (.watchSet 14 1 [3, 1, 1, 3]) member).map (·.link.queue.map (·.frame.body)) = some [.reply [2, 3, 0, 1, 1]]
    ∧ (after (.watchSet 14 1 []) member).map (·.link.queue.map (·.frame.body)) = some [.reply [2, 3, 0, 1, 1]]
    ∧ (after (.watchSet 14 1 [1, 1, 1, 3]) replying).map (·.link.queue.map (·.frame.body)) = some [.reply [2, 1, 0, 1, 1]]
    ∧ (after (.watchSet 14 1 [1, 1, 1, 3]) fresh).map (·.link.queue.map (·.frame.body)) = some [.reply [2, 4, 0, 1, 1]] := by
  decide +kernel

/-- Seven items fit a frame and eight do not; a list of 16 items is full (R196). -/
theorem test_watch_bounds :
    let item : List Byte := [1, 1, 3]
    let held := fun n => member.setConsole { member.console with watch := List.replicate n ⟨1, 1, 3⟩ }
    (after (.watchSet 14 1 (1 :: (List.replicate 7 item).flatten)) member).map (·.console.watch.length) = some 7
    ∧ (after (.watchSet 14 1 (1 :: (List.replicate 8 item).flatten)) member).map (·.link.queue.map (·.frame.body))
      = some [.reply [2, 3, 0, 1, 1]]
    ∧ (after (.watchSet 14 1 (2 :: (List.replicate 7 item).flatten)) (held 9)).map (·.console.watch.length) = some 16
    ∧ (after (.watchSet 14 1 (2 :: (List.replicate 7 item).flatten)) (held 10)).map
        (fun t => (t.console.watch.length, t.link.queue.map (·.frame.body))) = some (10, [.reply [2, 2, 0, 1, 1]]) := by
  decide +kernel

theorem test_watch_read : after (.watchRead 14 0 []) member = some member
    ∧ (after (.watchRead 14 1 []) (member.setConsole { member.console with watch := [⟨1, 1, 3⟩] })).map
        (·.link.queue.map (·.frame.body)) = some [.reply ([3, 0, 0, 1, 1] ++ bytes32 100)]
    ∧ (after (.watchRead 14 1 [0]) member).map (·.link.queue.map (·.frame.body)) = some [.reply [3, 3, 0, 1, 1]]
    ∧ (after (.watchRead 14 1 []) replying).map (·.link.queue.map (·.frame.body)) = some [.reply [3, 1, 0, 1, 1]]
    ∧ (after (.watchRead 14 1 []) fresh).map (·.link.queue.map (·.frame.body)) = some [.reply [3, 4, 0, 1, 1]] := by
  decide +kernel

theorem test_notices : after (.notices 14 0 []) member = some member
    ∧ (after (.notices 14 1 []) (member.notify .configOrder)).map (·.link.queue.map (·.frame.body))
      = some [.reply [4, 0, 0, 1, 1, 0, 0, 0, 1]] := by decide +kernel

theorem test_reply_and_unknown : member.HearsPeer 2 1 ∧ after (.reply 2 1 [1]) member = some member
    ∧ knownServiceCodes.contains 0x60 = false ∧ after (.unknownServiceCode 14 0 0x60 []) member = some member
    ∧ (after (.unknownServiceCode 14 1 0x60 []) fresh).map (·.link.queue.map (·.frame.body))
      = some [.reply [0x60, 3, 0, 1, 1]] := by decide +kernel

theorem test_echo : after (.echo 14 0 [7]) member = some member
    ∧ (after (.echo 14 1 (List.replicate 19 7)) fresh).map (·.link.queue.map (·.frame.body))
      = some [.reply ([5, 0, 0, 1, 1] ++ List.replicate 19 7)]
    ∧ (after (.echo 14 1 (List.replicate 20 7)) replying).map (·.link.queue.map (·.frame.body))
      = some [.reply [5, 3, 0, 1, 1]] ∧ isHold (.reply [5, 3, 0, 1, 1]) = false := by decide +kernel

/-! ### Drives and torque guard -/

theorem test_drive_report : member.drive? 4 = none ∧ (boring.drive? 2).map (·.state) = some .starting
    ∧ (after (.driveReport 4 7 8 false) member).map (·.channels.drives[3]?) = some (some ⟨7, 8, false⟩)
    ∧ (after (.driveReport 2 7 5000 false) boring).map (fun t => (t.drive? 2, t.drive.guard.previous))
      = some (some ⟨2, .running, 7, 5000, false⟩, some 100)
    ∧ (after (.driveReport 2 7 5000 false) boring).map (·.drive.guard.latch) = some true
    ∧ (after (.driveReport 1 0 0 true) boring).map (fun t => (t.drive.drives.map (·.state), t.machine.phase))
      = some ([.tripped, .stopping], .hold .hard)
    ∧ (after (.driveReport 1 0 0 true) member).map (fun t => ((t.drive? 1).map (·.state), t.machine.phase))
      = some (some .tripped, .hold .soft) := by decide +kernel

theorem test_drive_report_stops :
    (after (.driveReport 1 0 0 false) (member.setDrives [⟨1, .stopping, 20, 0, false⟩])).map (·.drive.drives.map (·.state))
      = some [.stopped]
    ∧ (after (.driveReport 1 0 6000 true) boring).map (fun t => (t.drive.guard, t.totalPercent))
      = some (boring.drive.guard, 75) := by decide +kernel

/-- Guard flags and timer as given. -/
def guarded (manual latch : Bool) (probe : Option Probe) (stalls : Nat) : State :=
  let s := member.setGuard { member.drive.guard with
    manual := manual, latch := latch, timer := some 500, probe := probe, stalls := stalls }
  s.addRestraint 1 .torque

theorem test_guard_on : fresh.configured = false ∧ member.drive.guard.mode = false ∧ member.HasPlace
    ∧ (after (.guardOn 14 1 []) fresh).map (·.link.queue.map (·.frame.body)) = some [.reply [0x10, 4, 0, 1, 1]]
    ∧ (after (.guardOn 14 1 [0]) member).map (·.link.queue.map (·.frame.body)) = some [.reply [0x10, 3, 0, 1, 1]]
    ∧ (after (.guardOn 14 0 []) member).map
        (fun t => (t.drive.guard.timer, t.drive.guard.probe)) = some (some 0, some ⟨0, 0⟩)
    ∧ (after (.guardOn 14 0 []) member).map (fun t => (t.thrust.restraints, t.link.queue.map (·.frame.body)))
      = some ([(1, .muck), (1, .torque)], [.restrain [3]])
    ∧ ((true || (guarded false true none 0).drive.guard.latch) = (guarded false true none 0).drive.guard.mode) := by
  decide +kernel

theorem test_guard_off : (guarded true false none 0).drive.guard.manual = true
    ∧ (guarded true false none 0).drive.guard.latch = false
    ∧ (after (.guardOff 14 0 []) (guarded true false none 0)).map
        (fun t => (t.drive.guard.timer, t.thrust.restraints, t.link.queue.map (·.frame.body)))
      = some (none, [(1, .muck)], [.release [3]])
    ∧ (after (.guardOff 14 0 []) (guarded true true none 0)).map (·.drive.guard.timer) = some (some 500) := by decide +kernel

theorem test_guard_level : (after (.guardLevel 14 0 [7]) member).map (·.drive.guard.level) = some (some 7)
    ∧ (after (.guardLevel 14 1 [8]) member).map (·.link.queue.map (·.frame.body)) = some [.reply [0x12, 2, 0, 1, 1]]
    ∧ (after (.guardLevel 14 1 []) member).map (·.link.queue.map (·.frame.body)) = some [.reply [0x12, 3, 0, 1, 1]]
    ∧ (after (.guardLevel 14 1 [7]) fresh).map (·.link.queue.map (·.frame.body)) = some [.reply [0x12, 4, 0, 1, 1]] := by
  decide +kernel

theorem test_guard_probe : member.drive.guard.probe = none
    ∧ (after (.guardProbe 14 0 []) member).map (·.drive.guard.probe) = some (some ⟨0, 0⟩)
    ∧ (guarded true false (some ⟨5, 0⟩) 0).drive.guard.probe.isSome = true
    ∧ (after (.guardProbe 14 1 []) (guarded true false (some ⟨5, 0⟩) 0)).map (·.link.queue.map (·.frame.body))
      = some [.reply [0x13, 1, 0, 1, 1]]
    ∧ (after (.guardProbe 14 1 [1]) member).map (·.link.queue.map (·.frame.body)) = some [.reply [0x13, 3, 0, 1, 1]] := by
  decide +kernel

theorem test_guard_reset :
    (after (.guardReset 14 0 []) ((guarded false false none 2).setGuard
      { (guarded false false none 2).drive.guard with jam := true })).map (fun t => (t.drive.guard.jam, t.drive.guard.stalls))
      = some (false, 0)
    ∧ boring.inHold = false
    ∧ (after (.guardReset 14 1 []) boring).map (·.link.queue.map (·.frame.body)) = some [.reply [0x14, 4, 0, 1, 1]] := by
  decide +kernel

theorem test_sample_timer : member.drive.guard.timer = none ∧ after .sampleTimerExpiry member = some member
    ∧ (guarded true false none 0).drive.guard.timer = some 500
    ∧ (after .sampleTimerExpiry (guarded true false none 0)).map (fun t => (t.drive.guard.timer, t.drive.guard.probe))
      = some (some 0, some ⟨0, 0⟩) := by decide +kernel

theorem test_probe_end : after .probeEnd member = some member
    ∧ (guarded true false (some ⟨100, 11400⟩) 2).drive.guard.probe = some ⟨100, 11400⟩
    ∧ (after .probeEnd (guarded true false (some ⟨100, 11400⟩) 2)).map (fun t => (t.drive.guard.last, t.drive.guard.stalls))
      = some (some ⟨true, 114, 95⟩, 0)
    ∧ (after .probeEnd (guarded false true (some ⟨100, 9499⟩) 0)).map
        (fun t => (t.drive.guard.last, t.drive.guard.latch, t.drive.guard.timer, t.thrust.restraints))
      = some (some ⟨false, 94, 95⟩, false, none, [(1, .muck)]) := by decide +kernel

theorem test_probe_end_stalls :
    (after .probeEnd (guarded true false (some ⟨100, 11500⟩) 1)).map (fun t => (t.drive.guard.stalls, t.drive.guard.jam))
      = some (2, false)
    ∧ (after .probeEnd (guarded true false (some ⟨100, 11500⟩) 2)).map
        (fun t => (t.drive.guard.stalls, t.drive.guard.jam, t.machine.phase)) = some (0, true, .hold .hard) := by decide +kernel

/-! ### Overrides -/

theorem test_override_checks : (after (.override 14 1 [1, 1, 1]) fresh).map (·.link.queue.map (·.frame.body))
      = some [.reply [0x20, 4, 0, 1, 1]] ∧ after (.override 14 0 [1, 1, 1]) member = some member
    ∧ (after (.override 14 1 [1, 1]) member).map (·.link.queue.map (·.frame.body)) = some [.reply [0x20, 3, 0, 1, 1]]
    ∧ itemKindOf 4 = none ∧ itemKindOf 1 = some .cylinder ∧ forcedOf .cylinder 3 = none
    ∧ (after (.override 14 1 [1, 1, 3]) member).map (·.link.queue.map (·.frame.body)) = some [.reply [0x20, 3, 0, 1, 1]]
    ∧ member.fitted .cylinder = 4
    ∧ (after (.override 14 1 [1, 5, 1]) member).map (·.link.queue.map (·.frame.body)) = some [.reply [0x20, 2, 0, 1, 1]]
    ∧ ((zoneState fourBearing).setZone (some clearRequest)).heldByZone .cylinder 2 = true
    ∧ (after (.override 14 1 [1, 2, 1]) ((zoneState fourBearing).setZone (some clearRequest))).map
        (·.link.queue.map (·.frame.body)) = some [.reply [0x20, 1, 0, 1, 1]] := by decide +kernel

theorem test_override_taken : member.heldByZone .cylinder 1 = false
    ∧ (after (.override 14 1 [1, 1, 2]) member).map (fun t => (t.overrides, t.thrust.cylinders.map (·.state)))
      = some ([⟨.cylinder, 1, .forceClear⟩], [.retracting, .bearing, .bearing, .bearing])
    ∧ (after (.override 14 1 [1, 1, 1]) (member.setCylinders [cylinder 1 .parked])).map (·.thrust.cylinders)
      = some [{ cylinder 1 .reseating with reseatTarget := some 18000 }]
    ∧ (after (.override 14 1 [3, 1, 4]) boring).map (·.drive.drives.map (·.state)) = some [.stopping, .starting] := by
  decide +kernel

theorem test_override_shuts_a_port : (dosing 0).grout.dose.map (·.port) = some 3
    ∧ (after (.override 14 1 [2, 3, 3]) (dosing 0)).map (fun t => (t.grout.pump, t.grout.dose.map (·.port)))
      = some (.dosing, some 1)
    ∧ (after (.override 14 1 [2, 3, 3]) ((dosing 0).setChannels { member.channels with pumpAtRest := some false })).map
        (fun t => (t.grout.pump, t.grout.dose)) = some (.idle, some ⟨3, 0, 30000, some .shut⟩) := by decide +kernel

theorem test_override_cancel_checks :
    (after (.overrideCancel 14 1 []) fresh).map (·.link.queue.map (·.frame.body)) = some [.reply [0x21, 4, 0, 1, 1]]
    ∧ (after (.overrideCancel 14 1 [1]) member).map (·.link.queue.map (·.frame.body)) = some [.reply [0x21, 3, 0, 1, 1]]
    ∧ (after (.overrideCancel 14 1 [0, 1]) member).map (·.link.queue.map (·.frame.body)) = some [.reply [0x21, 3, 0, 1, 1]]
    ∧ (after (.overrideCancel 14 1 [1, 5]) member).map (·.link.queue.map (·.frame.body)) = some [.reply [0x21, 2, 0, 1, 1]]
    ∧ (after (.overrideCancel 14 1 [1, 2]) ((zoneState fourBearing).setZone (some clearRequest))).map
        (·.link.queue.map (·.frame.body)) = some [.reply [0x21, 1, 0, 1, 1]]
    ∧ (after (.overrideCancel 14 1 []) (((zoneState fourBearing).setZone (some clearRequest)).setOverrides
        [⟨.cylinder, 2, .forceBear⟩])).map (·.link.queue.map (·.frame.body)) = some [.reply [0x21, 1, 0, 1, 1]] := by
  decide +kernel

theorem test_override_cancelled :
    (after (.overrideCancel 14 0 []) (boring.setOverrides [⟨.drive, 1, .off⟩, ⟨.port, 2, .shut⟩])).map (·.overrides) = some []
    ∧ (boring.setOverrides [⟨.drive, 1, .off⟩]).override? .drive 1 ≠ none
    ∧ (after (.overrideCancel 14 0 [3, 1]) ((boring.setOverrides [⟨.drive, 1, .off⟩]).setDrives [⟨1, .stopping, 5, 0, false⟩])).map
        (·.drive.drives.map (·.state)) = some [.starting]
    ∧ after (.overrideCancel 14 0 [3, 1]) boring = some boring
    ∧ (after (.overrideCancel 14 0 [2, 3]) ((dosing 0).setOverrides [⟨.port, 3, .shut⟩])).map
        (fun t => (t.port? 3).map (·.cuts)) = some (some 0) := by decide +kernel

/-- An entry is replaced in its place, and a new one added at the tail (R183). -/
theorem test_override_table :
    (after (.override 14 1 [1, 1, 1]) (member.setOverrides [⟨.cylinder, 1, .forceClear⟩, ⟨.drive, 1, .off⟩])).map (·.overrides)
      = some [⟨.cylinder, 1, .forceBear⟩, ⟨.drive, 1, .off⟩]
    ∧ (after (.override 14 1 [1, 1, 1]) (member.setOverrides [⟨.drive, 1, .off⟩])).map (·.overrides)
      = some [⟨.drive, 1, .off⟩, ⟨.cylinder, 1, .forceBear⟩] := by decide +kernel

/-- The states and reseat targets a forced state of code `f` leaves of cylinder 2, BEARING, ADVANCING, RETRACTING, CLEAR,
PARKED, RESEATING or FAILED before. -/
def forcedFrom (f : Byte) (s : State) : List (Option (CylState × Option Nat)) :=
  [CylState.bearing, .advancing, .retracting, .clear, .parked, .reseating, .failed].map fun st =>
    (after (.override 14 1 [1, 2, f]) (s.setCylinders [cylinder 1 .bearing,
      { cylinder 2 st with reseatTarget := if st = .reseating then some 5000 else none }])).bind
        fun t => (t.cylinder? 2).map fun c => (c.state, c.reseatTarget)

/-- The rows of R185 and R186, and what they say of a FAULTED node. -/
theorem test_forced_states :
    forcedFrom 1 member = [some (.bearing, none), some (.bearing, none), some (.reseating, some 18000),
        some (.reseating, some 18000), some (.reseating, some 18000), some (.reseating, some 5000), some (.failed, none)]
    ∧ forcedFrom 2 member = [some (.retracting, none), some (.retracting, none), some (.retracting, none), some (.clear, none),
        some (.retracting, none), some (.retracting, none), some (.failed, none)]
    ∧ forcedFrom 1 faulted = [some (.bearing, none), some (.bearing, none), some (.retracting, none), some (.clear, none),
        some (.parked, none), some (.reseating, some 5000), some (.failed, none)]
    ∧ forcedFrom 2 faulted = [some (.parked, none), some (.parked, none), some (.retracting, none), some (.clear, none),
        some (.parked, none), some (.parked, none), some (.failed, none)] := by decide +kernel

/-- In BORE, cylinders pinned FORCE_BEAR and BEARING, FORCE_CLEAR and CLEAR, FORCE_CLEAR and RETRACTING, the last free. -/
def pinning (p : Phase) : State :=
  let s := (boring.setPhase p).setOverrides
    [⟨.cylinder, 1, .forceBear⟩, ⟨.port, 3, .shut⟩, ⟨.cylinder, 2, .forceClear⟩, ⟨.cylinder, 3, .forceClear⟩, ⟨.drive, 1, .off⟩]
  let s := s.setCylinders [cylinder 1 .bearing, cylinder 2 .clear, cylinder 3 .retracting, cylinder 4 .bearing]
  (s.setDrives [⟨1, .stopping, 5, 0, false⟩]).setPorts [⟨3, .blocked, 9, 4, 2⟩]

/-- FORCE_BEAR and FORCE_CLEAR in BORE (R185, R186), the sector advance over the cylinders left (R66). -/
theorem test_override_in_bore : (pinning .bore).heldByZone .cylinder 4 = false
    ∧ (after (.override 14 1 [1, 4, 1]) (pinning .bore)).map (fun t => (t.machine.phase, t.thrust.cylinders.map (·.state)))
      = some (.bore, [.bearing, .clear, .retracting, .bearing])
    ∧ (after (.override 14 1 [1, 1, 2]) boring).map (fun t => (t.machine.phase, t.thrust.cylinders.map (·.state)))
      = some (.bore, [.retracting, .advancing, .advancing, .advancing]) := by decide +kernel

/-- Each entry removed returns its item (R190), in BORE and outside it. -/
theorem test_override_cancelled_all :
    (after (.overrideCancel 14 1 []) (pinning .bore)).map
        (fun t => (t.machine.phase, t.thrust.cylinders.map (·.state), t.drive.drives.map (·.state), t.grout.ports))
      = some (.bore, [.advancing, .reseating, .retracting, .bearing], [.starting], [⟨3, .opened, 9, 4, 0⟩])
    ∧ (after (.overrideCancel 14 1 []) (pinning (.hold .soft))).map
        (fun t => (t.thrust == (pinning (.hold .soft)).thrust, t.drive.drives.map (·.state), t.grout.ports))
      = some (true, [.stopping], [⟨3, .opened, 9, 4, 0⟩]) := by decide +kernel

theorem test_override_cancelled_cylinder :
    (after (.overrideCancel 14 1 [1, 1]) (pinning .bore)).map (fun t => t.thrust.cylinders.map (·.state))
      = some [.advancing, .clear, .retracting, .bearing]
    ∧ (after (.overrideCancel 14 1 [1, 2]) (pinning .bore)).map (fun t => t.thrust.cylinders.map (·.state))
      = some [.bearing, .reseating, .retracting, .bearing]
    ∧ (after (.overrideCancel 14 1 [1, 3]) (pinning .bore)).map (fun t => t.thrust.cylinders.map (·.state))
      = some [.bearing, .clear, .retracting, .bearing]
    ∧ (after (.overrideCancel 14 1 [1, 2]) (pinning (.hold .soft))).map (fun t => t.thrust.cylinders.map (·.state))
      = some [.bearing, .clear, .retracting, .bearing]
    ∧ (pinning .bore).override? .cylinder 1 ≠ none := by decide +kernel

/-! ### Plan store -/

/-- A plan of console 14 open with these steps. -/
def uploading (steps : List PlanStep) : State := member.setPlans { closed := [], opened := some ⟨9, 14, none, steps⟩ }

theorem test_plan_open : member.ownsErector = true ∧ member.plans.opened = none
    ∧ (after (.planOpen 14 1 [9]) member).map (·.plans) = some ⟨[], some ⟨9, 14, none, []⟩⟩
    ∧ (after (.planOpen 14 1 [0]) member).map (·.link.queue.map (·.frame.body)) = some [.reply [0x30, 2, 0, 1, 1]]
    ∧ (after (.planOpen 14 1 []) member).map (·.link.queue.map (·.frame.body)) = some [.reply [0x30, 3, 0, 1, 1]]
    ∧ after (.planOpen 14 0 [9]) member = some member ∧ closing.ownsErector = false
    ∧ (after (.planOpen 14 1 [9]) closing).map (·.link.queue.map (·.frame.body)) = some [.reply [0x30, 4, 0, 1, 1]] := by
  decide +kernel

/-- The replies of R102 at a FAULTED engine and with a plan open: its repeat, another identifier, a plan with a step. -/
theorem test_plan_open_again :
    (after (.planOpen 14 1 [9]) (member.setEngine { member.engine with state := .faulted })).map (·.link.queue.map (·.frame.body))
      = some [.reply [0x30, 4, 0, 1, 1]]
    ∧ (after (.planOpen 14 1 [9]) (uploading [])).map (fun t => (t.plans, t.link.queue.map (·.frame.body)))
      = some ((uploading []).plans, [.reply [0x30, 0, 0, 1, 1]])
    ∧ (after (.planOpen 14 1 [8]) (uploading [])).map (·.link.queue.map (·.frame.body)) = some [.reply [0x30, 1, 0, 1, 1]]
    ∧ (after (.planOpen 15 1 [9]) (uploading [])).map (·.link.queue.map (·.frame.body)) = some [.reply [0x30, 1, 0, 1, 1]]
    ∧ (after (.planOpen 14 1 [9]) (uploading [step1])).map (·.link.queue.map (·.frame.body))
      = some [.reply [0x30, 1, 0, 1, 1]] := by decide +kernel

/-- R103 step 5 at the ends of its ranges: index, position, rotation and reseat pressure; the length. -/
theorem test_plan_step_form :
    let kept := fun (args : List Byte) (steps : List PlanStep) =>
      (after (.planStep 14 1 args) (uploading steps)).map (fun t => t.plans.opened.map (·.steps.length))
    kept [1, 5, 1, 1, 0x67] [] = some (some 1) ∧ kept [1, 5, 1, 1, 0x68] [] = some none
    ∧ kept [1, 6, 1, 0, 0] [] = some none ∧ kept [1, 0, 1, 0, 0] [] = some none ∧ kept [1, 1, 2, 0, 0] [] = some (some 1)
    ∧ kept [2, 1, 1, 0, 0] [] = some none ∧ kept [9, 1, 1, 0, 0] (List.replicate 8 step1) = some (some 9)
    ∧ kept [10, 1, 1, 0, 0] (List.replicate 9 step1) = some none
    ∧ kept [1, 1, 1, 0, 0, 3, 0xE8] [] = some (some 1) ∧ kept [1, 1, 1, 0, 0, 3, 0xE7] [] = some none
    ∧ kept [1, 1, 1, 0, 0, 0x88, 0xB8] [] = some (some 1) ∧ kept [1, 1, 1, 0, 0, 0x88, 0xB9] [] = some none
    ∧ kept [1, 1, 1, 0, 0, 3] [] = some none := by decide +kernel

theorem test_plan_step : planStepOf [1, 2, 1, 0, 90, 0x4E, 0x20] = some step1 ∧ step1.index ≤ 9 ∧ step1.rotation ≤ 359
    ∧ (uploading []).stepsHeld < 40
    ∧ (after (.planStep 14 1 [1, 2, 1, 0, 90, 0x4E, 0x20]) (uploading [])).map (·.plans.opened)
      = some (some ⟨9, 14, none, [step1]⟩)
    ∧ (after (.planStep 14 1 [1, 2, 1, 0, 90, 0x4E, 0x20]) (uploading [step1])).map (·.link.queue.map (·.frame.body))
      = some [.reply [0x31, 0, 0, 1, 1]]
    ∧ (after (.planStep 15 1 [1, 2, 1, 0, 90]) (uploading [])).map (·.link.queue.map (·.frame.body))
      = some [.reply [0x31, 1, 0, 1, 1]]
    ∧ (after (.planStep 14 1 [1, 2, 1, 0, 90]) member).map (·.link.queue.map (·.frame.body)) = some [.reply [0x31, 4, 0, 1, 1]]
    ∧ planStepOf [1, 2, 3, 0, 90] = none ∧ (after (.planStep 14 1 [1, 2, 3, 0, 90]) (uploading [])).map (·.plans.opened)
      = some none := by decide +kernel

/-- Four closed plans of nine steps and an open one of four: 40 steps held. -/
def fullStore : State :=
  member.setPlans {
    closed := List.replicate 4 ⟨7, 14, some 9, List.replicate 9 step1⟩
    opened := some ⟨9, 14, none, List.replicate 4 step1⟩ }

theorem test_plan_store_full : fullStore.stepsHeld = 40 ∧ fullStore.plans.closed.length = 4
    ∧ (after (.planStep 14 1 [5, 2, 1, 0, 90]) fullStore).map (fun t => (t.plans.opened, t.console.counters.uploadOverflows))
      = some (none, 1)
    ∧ (after (.planOpen 14 1 [9]) (fullStore.setPlans { fullStore.plans with opened := none })).map
        (·.link.queue.map (·.frame.body)) = some [.reply [0x30, 2, 0, 1, 1]] := by decide +kernel

theorem test_plan_close : member.headStep = none ∧ member.engine.state = .idle
    ∧ (after (.planClose 14 1 [1]) ((uploading [step1]).setEngine { member.engine with state := .disabled })).map
        (·.plans) = some ⟨[⟨9, 14, some 1, [step1]⟩], none⟩
    ∧ (after (.planClose 14 1 [2]) (uploading [step1])).map (·.plans) = some ⟨[], none⟩
    ∧ (after (.planClose 15 1 [1]) (uploading [step1])).map (·.link.queue.map (·.frame.body))
      = some [.reply [0x32, 1, 0, 1, 1]]
    ∧ (after (.planClose 14 1 [1]) member).map (·.link.queue.map (·.frame.body)) = some [.reply [0x32, 4, 0, 1, 1]] := by
  decide +kernel

/-- PLAN_CLOSE that makes a head step at an IDLE engine in BUILD, and one behind a plan that holds steps (R105, R121). -/
theorem test_plan_close_takes :
    let s := (uploading [⟨1, 2, .standard, 90, some 20000⟩, keyStep]).setPhase .build
    s.headStep = none
    ∧ (after (.planClose 14 1 [2]) s).map (fun t => (t.engine.state, t.engine.seated, t.link.queue.map (·.frame.body)))
      = some (.clearing, some false, [.zoneClear [0, 118, 2, 1], .reply [0x32, 0, 0, 1, 1]])
    ∧ (after (.planClose 14 1 [2]) (s.setPlans { s.plans with closed := [planOf [keyStep]] })).map
        (fun t => (t.engine.state, t.plans.closed.length)) = some (.idle, 2)
    ∧ (after (.planClose 14 1 [0]) s).map (·.plans.opened) = some none
    ∧ (after (.planClose 14 1 [10]) s).map (·.plans.opened) = some none := by decide +kernel

theorem test_plan_abort : (after (.planAbort 15 1 []) (uploading [step1])).map (·.plans) = some ⟨[], none⟩
    ∧ (after (.planAbort 15 1 []) member).map (·.link.queue.map (·.frame.body)) = some [.reply [0x33, 0, 0, 1, 1]]
    ∧ (after (.planAbort 14 1 [1]) member).map (·.link.queue.map (·.frame.body)) = some [.reply [0x33, 3, 0, 1, 1]] := by
  decide +kernel

theorem test_plan_flush :
    (after (.planFlush 14 1 []) (fullStore.setEngine { member.engine with state := .disabled })).map (·.plans) = some ⟨[], none⟩
    ∧ (after (.planFlush 14 1 []) fullStore).map (·.link.queue.map (·.frame.body)) = some [.reply [0x35, 4, 0, 1, 1]] := by
  decide +kernel

theorem test_plan_stop : (after (.planStop 14 1 []) member).map (·.engine.state) = some .disabled
    ∧ (after (.planStop 14 1 []) clearing).map (fun t => (t.engine.state, t.engine.stopping)) = some (.clearing, true)
    ∧ (after (.planStop 14 1 []) (building .stalled true step1)).map (fun t => (t.engine.state, t.plans.closed))
      = some (.disabled, []) := by decide +kernel

theorem test_plan_enable :
    (after (.planEnable 14 1 []) (member.setEngine { member.engine with state := .disabled })).map (·.engine.state) = some .idle
    ∧ (after (.planEnable 14 1 []) (clearing.setEngine { clearing.engine with state := .disabled, seated := none })).map
        (fun t => (t.engine.state, t.engine.attempt, t.engine.zoneMembers)) = some (.clearing, 5, [1])
    ∧ (after (.planEnable 14 1 []) (clearing.setEngine { clearing.engine with stopping := true })).map (·.engine.stopping)
      = some false
    ∧ (after (.planEnable 14 1 []) clearing).map (·.link.queue.map (·.frame.body)) = some [.reply [0x36, 4, 0, 1, 1]] := by
  decide +kernel

theorem test_plan_resume : (building .stalled true step1).currentStep = some (planOf [step1], step1)
    ∧ (after (.planResume 14 1 []) (building .stalled true step1)).map (fun t => (t.engine.state, t.engine.attempt))
      = some (.reseating, 5)
    ∧ (after (.planResume 14 1 []) ((building .stalled false step1).setPhase (.hold .soft))).map
        (fun t => (t.engine.state, t.engine.zoneMembers)) = some (.suspended, [1, 2])
    ∧ (after (.planResume 14 1 []) member).map (·.link.queue.map (·.frame.body)) = some [.reply [0x37, 4, 0, 1, 1]] := by
  decide +kernel

/-! ### Grout -/

theorem test_stroke : member.grout.dose = none ∧ after .strokeReport member = some member
    ∧ (dosing 8).cfg.doseStrokes ≤ 8 ∧ after .strokeReport (dosing 8) = some (dosing 8)
    ∧ (after .strokeReport (dosing 6)).map (fun t => (t.grout.dose.map (·.credited), (t.port? 3).map (·.delivered)))
      = some (some 7, some 500) := by decide +kernel

theorem test_stroke_completes : (after .strokeReport (dosing 7)).map
      (fun t => (t.grout.dose.map (·.ending), t.grout.pump, t.grout.pointer))
      = some (some (some .complete), .idle, some 5)
    ∧ (after .strokeReport (dosing 7)).map (fun t => ((t.port? 3).map (·.cuts), t.console.counters.dosesCompleted))
      = some (some 0, 1) := by decide +kernel

/-- A raise of the grade from SOFT to HARD stops the dose in flight (R154). -/
theorem test_raise_stops_the_dose :
    (after (.hold 2 0 .jam .hard) (dosing 2)).map (fun t => (t.grout.pump, t.grout.dose, t.grout.pointer))
      = some (.idle, some ⟨3, 2, 30000, some .stopped⟩, some 3)
    ∧ (after (.hold 2 0 .shortfall .soft) (dosing 2)).map (·.grout) = some (dosing 2).grout := by decide +kernel

/-- A late stroke of a dose that ended LIMIT, its pump FAILED, is credited (R151, R155). -/
theorem test_late_stroke :
    let s := (dosing 3).setGrout { (dosing 3).grout with pump := .failed, dose := some ⟨3, 3, 30000, some .limit⟩ }
    (after .strokeReport s).map (fun t => (t.grout.dose, t.grout.pump, (t.port? 3).map (·.delivered)))
      = some (some ⟨3, 4, 30000, some .limit⟩, .failed, some 500)
    ∧ (dosing 7).DosingIffInFlight := by
  refine ⟨by decide +kernel, ?_⟩
  unfold State.DosingIffInFlight; decide

theorem test_line_pressure : member.doseInFlight = false
    ∧ after (.linePressure 900) member = some (member.setChannels { member.channels with linePressure := some 900 })
    ∧ (after (.linePressure 600) (dosing 0)).map (·.grout) = some (dosing 0).grout
    ∧ (after (.linePressure 601) (dosing 0)).map (fun t => (t.grout.pump, t.port? 3, t.noticed .portBlocked))
      = some (.idle, some ⟨3, .blocked, 5000, 0, 2⟩, true) := by decide +kernel

theorem test_dose_limit : after .doseLimitExpiry member = some member
    ∧ (dosing 0).grout.dose = some ⟨3, 0, 30000, none⟩
    ∧ (after .doseLimitExpiry (dosing 0)).map (fun t => (t.grout.pump, t.grout.pointer, t.node.cause, t.machine.phase))
      = some (.failed, some 3, some .pump, .hold .hard)
    ∧ (after .doseLimitExpiry ((dosing 0).setGrout { (dosing 0).grout with pointer := some 2 })).map (·.grout.pointer)
      = some (some 3) := by decide +kernel

/-- A HARD hold stops a dose at a chain port the scan had come to past other ports: the pointer is at that port (R149). -/
theorem test_dose_stopped :
    let s := ((dosing 2).setGrout { (dosing 2).grout with pointer := some 2 }).setPhase .bore
    (after (.hold 2 0 .faceLow .hard) s).map (fun t => (t.grout.pump, t.grout.pointer, t.grout.dose.map (·.ending)))
      = some (.idle, some 3, some (some .stopped))
    ∧ (after (.hold 2 0 .console .soft) s).map (fun t => (t.grout.pump, t.grout.pointer)) = some (.dosing, some 2) := by
  decide +kernel

/-- Entry to BORE that the thrust unit's SOFT hold ends still tests for a dose (R146). -/
theorem test_dose_at_entry :
    let s := (votes (some .ready) none .bore).setPhase (.hold .hard)
    let s := s.setPorts (s.grout.ports.map fun p => { p with owed := 4000 })
    let s := s.setThrust { s.thrust with sectorAdvance := 1, cylinders := [{ cylinder 1 .bearing with stroke := 1600 }], credited := 1500 }
    let s := s.setView [⟨1, .present, none, none, 0⟩, { entry2 with last := some { peerBeacon .hold with advance := 1500 } }]
    (after (.vote 2 0 .bore .ready) s).map (fun t => (t.machine.phase, t.grout.pump)) = some (.hold .soft, .dosing) := by
  decide +kernel

/-- Ports owed enough for a dose, the pump idle. -/
def owing (ports : List Nat) : State :=
  member.setGrout { member.grout with
    ports := [1, 2, 3, 4, 5].map (fun n => ⟨n, .opened, if ports.contains n then 4000 else 3999, 0, 0⟩), pointer := some 3 }

theorem test_dose_selection : (owing [1, 5]).doseCondition = true ∧ (owing [1, 5]).selectPort = some 1
    ∧ (owing [2, 4, 5]).selectPort = some 5 ∧ (owing []).selectPort = none
    ∧ (after (.pumpAtRest true) (owing [2, 4])).map (fun t => (t.grout.dose, t.grout.pump, t.channels.pumpAtRest))
      = some (some ⟨2, 0, 0, none⟩, .dosing, some false)
    ∧ (after (.pumpAtRest false) (owing [2])).map (·.grout.pump) = some .idle := by decide +kernel

/-- The chain is scanned from the pointer, past ports that are not eligible and round to the first (R148); a channel that
never reported is at rest still after a dose (R145). -/
theorem test_dose_chain :
    let at_ := fun (pointer : Option Nat) (ports : List Nat) =>
      (owing ports).setGrout { (owing ports).grout with pointer := pointer }
    (List.range 4).map ((owing []).chainPort 2) = [2, 4, 3, 5] ∧ (at_ (some 2) [3]).selectPort = some 3
    ∧ (at_ (some 2) [5, 3]).selectPort = some 3 ∧ (at_ (some 5) [3]).selectPort = some 3
    ∧ (at_ none [3]).selectPort = none ∧ (at_ (some 0) [3]).selectPort = none
    ∧ (at_ none [1]).selectPort = some 1
    ∧ member.channels.pumpAtRest = none
    ∧ ((owing [2]).testDose.grout.pump, (owing [2]).testDose.channels.pumpAtRest) = (.dosing, none) := by decide +kernel

theorem test_unblock : (after (.unblock 14 1 [3]) boring).map (·.link.queue.map (·.frame.body))
      = some [.reply [0x40, 4, 0, 1, 1]]
    ∧ (after (.unblock 14 1 []) member).map (·.link.queue.map (·.frame.body)) = some [.reply [0x40, 3, 0, 1, 1]]
    ∧ (after (.unblock 14 1 [6]) member).map (·.link.queue.map (·.frame.body)) = some [.reply [0x40, 2, 0, 1, 1]]
    ∧ (after (.unblock 14 1 [5]) (member.setPorts [⟨5, .blocked, 0, 0, 2⟩])).map (·.grout.ports)
      = some [⟨5, .opened, 0, 0, 0⟩] := by decide +kernel

/-! ### Muck and face pressure -/

theorem test_face_pressure : closing.ownsMuck = true
    ∧ (after (.facePressureReport 301) member).map (fun t => (t.muck.faceRestrained, t.thrust.restraints))
      = some (true, [(1, .muck), (1, .face)])
    ∧ (after (.facePressureReport 200) ((member.setMuck { member.muck with faceRestrained := true }).addRestraint 1 .face)).map
        (fun t => (t.muck.faceRestrained, t.thrust.restraints)) = some (false, [(1, .muck)])
    ∧ (after (.facePressureReport 201) ((member.setMuck { member.muck with faceRestrained := true }).addRestraint 1 .face)).map
        (·.muck.faceRestrained) = some true
    ∧ (after (.facePressureReport 300) member).map (·.muck.faceRestrained) = some false
    ∧ (after (.facePressureReport 99) member).map (fun t => (t.muck.faceLow, t.machine.phase)) = some (true, .hold .hard)
    ∧ (after (.facePressureReport 100) member).map (fun t => (t.muck.faceLow, t.machine.phase)) = some (false, .hold .soft)
    ∧ after (.facePressureReport 9) fresh = some (fresh.setChannels { fresh.channels with face := some 9 }) := by
  decide +kernel

/-- A head car with room for 60 kg, and the spill run given. -/
def carting (spill : Nat) : State :=
  (member.setMuck { member.muck with
    muckRestrained := false, queue := [⟨4, 1000, 940, .filling⟩, ⟨5, 1000, 0, .queued⟩], spill := spill
    lastIndexed := some 3 }).removeRestraint 1 .muck

theorem test_belt : after (.beltScaleReport 0) (carting 0) = some (carting 0) ∧ (carting 0).credit 100 = 60
    ∧ (after (.beltScaleReport 100) (carting 1959)).map (fun t => (t.muck.queue.map (·.fill), t.muck.carried, t.muck.uncarried))
      = some ([1000, 0], 60, 40)
    ∧ (after (.beltScaleReport 100) (carting 1959)).map (fun t => (t.muck.spill, t.inHold, t.noticed .indexDue))
      = some (1999, true, true)
    ∧ (after (.beltScaleReport 100) ((carting 1960).setPhase .bore)).map (·.inHold) = some true
    ∧ (after (.beltScaleReport 100) ((carting 1959).setPhase .bore)).map (·.inHold) = some false := by decide +kernel

/-- Overdig comes to stand above the allowance and holds the machine, and is cleared at it (R179). -/
theorem test_belt_overdig :
    let s := ((carting 0).setMuck { (carting 0).muck with weighed := 2990 }).setPhase .bore
    (after (.beltScaleReport 10) s).map (fun t => (t.muck.overdig, t.inHold)) = some (false, false)
    ∧ (after (.beltScaleReport 11) s).map (fun t => (t.muck.overdig, t.machine.current))
      = some (true, some ⟨.overdig, 1, 118, .soft, 0⟩)
    ∧ (after (.beltScaleReport 10) (s.setMuck { s.muck with overdig := true })).map (fun t => (t.muck.overdig, t.inHold))
      = some (false, false)
    ∧ (after (.beltScaleReport 10) s).map (fun t => t.muck.queue.map (·.state)) = some [.due, .queued] := by decide +kernel

theorem test_train_arrive :
    (after (.trainArrive 14 1 [3, 0xE8, 8, 9]) member).map (fun t => (t.muck.queue, t.muck.muckRestrained))
      = some ([⟨8, 1000, 0, .filling⟩, ⟨9, 1000, 0, .queued⟩], false)
    ∧ (after (.trainArrive 14 1 [3, 0xE7, 8]) member).map (·.link.queue.map (·.frame.body)) = some [.reply [0x50, 2, 0, 1, 1]]
    ∧ (after (.trainArrive 14 1 [3, 0xE8, 8, 8]) member).map (·.link.queue.map (·.frame.body))
      = some [.reply [0x50, 3, 0, 1, 1]]
    ∧ (after (.trainArrive 14 1 [3, 0xE8]) member).map (·.link.queue.map (·.frame.body)) = some [.reply [0x50, 3, 0, 1, 1]]
    ∧ (after (.trainArrive 14 1 [3, 0xE8, 4]) (carting 0)).map (·.link.queue.map (·.frame.body))
      = some [.reply [0x50, 3, 0, 1, 1]]
    ∧ after (.trainArrive 14 0 [3, 0xE8, 8]) member = some member
    ∧ (after (.trainArrive 14 1 [3, 0xE8, 8]) fresh).map (·.link.queue.map (·.frame.body)) = some [.reply [0x50, 4, 0, 1, 1]] := by
  decide +kernel

theorem test_car_indexed :
    (after (.carIndexed 14 1 [4]) (carting 7)).map (fun t => (t.muck.queue, t.muck.lastIndexed, t.muck.spill))
      = some ([⟨5, 1000, 0, .filling⟩], some 4, 0)
    ∧ (after (.carIndexed 14 1 [3]) (carting 7)).map (·.link.queue.map (·.frame.body)) = some [.reply [0x51, 0, 0, 1, 1]]
    ∧ (after (.carIndexed 14 1 [6]) (carting 7)).map (·.link.queue.map (·.frame.body)) = some [.reply [0x51, 3, 0, 1, 1]]
    ∧ (after (.carIndexed 14 1 [6]) member).map (·.link.queue.map (·.frame.body)) = some [.reply [0x51, 4, 0, 1, 1]]
    ∧ (after (.carIndexed 14 1 []) member).map (·.link.queue.map (·.frame.body)) = some [.reply [0x51, 3, 0, 1, 1]] := by
  decide +kernel

/-- 3,100 kg weighed with no advance: an excess of 100 kg. -/
def overdug : State := member.setMuck { member.muck with weighed := 3100, overdig := true }

theorem test_overdig_excuse : overdug.excess = 100
    ∧ (after (.overdigExcuse 14 1 []) overdug).map (fun t => (t.muck.excused, t.muck.overdig)) = some (100, false)
    ∧ member.excess ≤ 0 ∧ (after (.overdigExcuse 14 1 []) member).map (·.muck.excused) = some 0
    ∧ (after (.overdigExcuse 14 1 [1]) member).map (·.link.queue.map (·.frame.body)) = some [.reply [0x52, 3, 0, 1, 1]]
    ∧ (after (.overdigExcuse 14 1 []) boring).map (·.link.queue.map (·.frame.body)) = some [.reply [0x52, 4, 0, 1, 1]] := by
  decide +kernel

theorem test_muck_restraint : member.testMuck = member ∧ (carting 0).testMuck = carting 0
    ∧ (((carting 0).setMuck { (carting 0).muck with queue := [] }).testMuck).thrust.restraints = [(1, .muck)]
    ∧ ((member.setMuck { member.muck with queue := [⟨4, 1000, 0, .filling⟩] }).testMuck).thrust.restraints = [] := by
  decide +kernel

/-! ### The properties kept, met by states other than the reset state, with a step from them -/

theorem test_kept_link : (queued [voteFrame]).LinkOrdered ∧ (stepped (queued [voteFrame])).isSome = true :=
  ⟨queued_ordered, by decide +kernel⟩

theorem test_kept_restraints : member.RestraintsOrdered ∧ member.OwnRestraintsFollow ∧ 1 ≤ member.own ∧ member.own ≤ 8 := by
  refine ⟨by unfold State.RestraintsOrdered; decide +kernel, ⟨?_, ?_, ?_⟩, by decide +kernel, by decide +kernel⟩
  · intro r; cases r <;> decide +kernel
  · intro h; exact absurd h (by decide +kernel)
  · intro h; exact absurd h (by decide +kernel)

theorem test_kept_drives : boring.DrivesRunInBore ∧ (stepped boring).isSome = true :=
  ⟨by unfold State.DrivesRunInBore; decide +kernel, by decide +kernel⟩

theorem test_kept_store : clearing.StepHeldByState ∧ clearing.StoreBounded :=
  ⟨by unfold State.StepHeldByState; decide +kernel, by unfold State.StoreBounded; decide +kernel⟩

theorem test_kept_grout : (dosing 0).DosingIffInFlight ∧ (dosing 0).DeliveredWithinOwed := by
  refine ⟨by unfold State.DosingIffInFlight; decide +kernel, by decide +kernel, by decide +kernel, ?_⟩
  intro d h
  have e : d = ⟨3, 0, 30000, none⟩ := (Option.some.inj h).symm
  subst e
  decide +kernel

theorem test_kept_train : (carting 0).TrainOrdered := by unfold State.TrainOrdered; decide +kernel

theorem test_kept_configuration : member.ConfigurationPassed := by
  intro c h
  have e : c = config := (Option.some.inj h).symm
  subst e
  decide +kernel

end
end Sys2Proof.Tests
end

section
/-! PROOFS. RESTRAIN and RELEASE frames of a peer (R79), and the advance speed the cylinder channels are commanded (R69). -/

namespace Sys2Proof.Machine

/-! ### Restraint frames (R79) -/

/-- The layout of Table 4-4: a payload names a reason exactly when it is that reason's one code byte. -/
theorem restraintOf_eq_some_iff (payload : List Byte) (r : RestraintReason) :
    restraintOf payload = some r ↔ payload = [restraintCode r] := by
  constructor
  · intro h
    match payload with
    | [] => exact nomatch h
    | [b] =>
      have code := List.find?_some (p := fun q => restraintCode q == b) h
      rw [eq_of_beq code]
    | _ :: _ :: _ => exact nomatch h
  · rintro rfl
    cases r <;> decide

theorem restraintOf_eq_none {payload : List Byte} (h : ∀ r, payload ≠ [restraintCode r]) : restraintOf payload = none :=
  Option.eq_none_iff_forall_ne_some.mpr fun r e => h r ((restraintOf_eq_some_iff payload r).mp e)

theorem exec_restrain_of_hearsPeer {s : State} {sender target : Station} (h : s.HearsPeer sender target)
    (payload : List Byte) : exec (.restrain sender target payload) s = .next (s.takeRestrain sender payload) :=
  congrArg Host.Outcome.next (receive_of_hearsPeer h)

theorem exec_release_of_hearsPeer {s : State} {sender target : Station} (h : s.HearsPeer sender target)
    (payload : List Byte) : exec (.release sender target payload) s = .next (s.takeRelease sender payload) :=
  congrArg Host.Outcome.next (receive_of_hearsPeer h)

namespace State

theorem takeRestrain_of_present {s : State} {sender : Station} (h : s.peerPresent sender.toNat = true)
    (r : RestraintReason) : s.takeRestrain sender [restraintCode r] = s.addRestraint sender.toNat r := by
  have reason := (restraintOf_eq_some_iff _ r).mpr rfl
  simp only [takeRestrain, reason, h, if_true]

theorem takeRelease_of_present {s : State} {sender : Station} (h : s.peerPresent sender.toNat = true)
    (r : RestraintReason) : s.takeRelease sender [restraintCode r] = s.removeRestraint sender.toNat r := by
  have reason := (restraintOf_eq_some_iff _ r).mpr rfl
  simp only [takeRelease, reason, h, if_true]

/-- A frame of a peer that is not PRESENT, or of wrong form, is ignored and not counted. -/
theorem restraintFrame_ignored {s : State} {sender : Station} {payload : List Byte}
    (h : s.peerPresent sender.toNat = false ∨ ∀ r, payload ≠ [restraintCode r]) :
    s.takeRestrain sender payload = s ∧ s.takeRelease sender payload = s := by
  unfold takeRestrain takeRelease
  obtain absent | form := h
  · cases restraintOf payload <;> simp [absent]
  · simp [restraintOf_eq_none form]

theorem mem_addRestraint (x : Nat × RestraintReason) (source : Nat) (r : RestraintReason) (s : State) :
    x ∈ (s.addRestraint source r).thrust.restraints ↔ x ∈ s.thrust.restraints ∨ x = (source, r) :=
  (mem_insertRestraint x (source, r) s.thrust.restraints).trans or_comm

theorem mem_removeRestraint (x : Nat × RestraintReason) (source : Nat) (r : RestraintReason) (s : State) :
    x ∈ (s.removeRestraint source r).thrust.restraints ↔ x ∈ s.thrust.restraints ∧ x ≠ (source, r) := by
  simp

/-! ### The advance speed (R69) -/

/-- Where a restraint stands, the speed is 0 or a minimum with the creep speed, by each row of Table R69. -/
theorem advanceSpeed_le_creepSpeed {s : State} (h : s.thrust.restraints ≠ []) : s.advanceSpeed ≤ s.cfg.creepSpeed := by
  unfold advanceSpeed
  split
  · exact Nat.zero_le _
  split
  · exact Nat.zero_le _
  rw [if_neg (by simpa using h)]
  exact Nat.min_le_right _ _

/-- A channel is held still where the node stands still (R57). -/
theorem cylCommand_of_standsStill {s : State} (h : s.standsStill = true) (n : Nat) : s.cylCommand n = .holdStill := by
  unfold cylCommand
  split
  · rfl
  · exact if_pos h

/-- ADVANCING cylinders, and no others, are commanded an advance speed, and all of them the one speed of the node
(Table 4-2, R57). -/
theorem cylCommand_eq_extend_iff (s : State) (n v : Nat) : s.cylCommand n = .extend v ↔
    s.standsStill = false ∧ v = s.advanceSpeed ∧ ∃ c, s.cylinder? n = some c ∧ c.state = .advancing := by
  cases still : s.standsStill with
  | true => simp [cylCommand_of_standsStill still]
  | false =>
    unfold cylCommand cylinder?
    cases s.thrust.cylinders.find? (fun c => c.number == n) with
    | none => simp
    | some c => cases state : c.state <;> simp [still, state, eq_comm]

end State

end Sys2Proof.Machine

section
open Sys2Proof Sys2Proof.Machine

/-- Settles O17: the frame reaches the thrust unit, where its payload names one reason or none. -/
theorem restraintFramesTaken : Obligations.RestraintFramesTaken := by
  intro sender target payload s heard
  rw [exec_restrain_of_hearsPeer heard, exec_release_of_hearsPeer heard]
  constructor
  · rintro r present rfl
    rw [State.takeRestrain_of_present present, State.takeRelease_of_present present]
    exact ⟨_, _, rfl, rfl, rfl, fun x => State.mem_addRestraint x _ r s, rfl, fun x => State.mem_removeRestraint x _ r s⟩
  · intro ignored
    obtain ⟨adds, removes⟩ := State.restraintFrame_ignored ignored
    rw [adds, removes]
    exact ⟨rfl, rfl⟩

/-- Settles O22: only an ADVANCING cylinder is commanded an advance speed, the one of Table R69, and each row of that
table that can apply while a restraint stands is bounded by the creep speed. -/
theorem advanceSpeedCommanded : Obligations.AdvanceSpeedCommanded := by
  intro s n
  refine ⟨fun c found advancing moves => ?_, fun v restrained commanded => ?_, fun c v found reseating commanded => ?_,
    fun still => State.cylCommand_of_standsStill still n⟩
  · have commanded : s.cylCommand n = .extend s.advanceSpeed :=
      (State.cylCommand_eq_extend_iff s n _).mpr ⟨moves, rfl, c, found, advancing⟩
    rw [commanded]
    refine ⟨fun pause => ?_, fun pause reached => ?_, fun pause reached restrained => ?_, fun pause reached free => ?_⟩
    · simp [State.advanceSpeed, pause]
    · simp [State.advanceSpeed, pause, reached]
    · simp [State.advanceSpeed, pause, reached, restrained]
    · simp [State.advanceSpeed, pause, reached, free]
  · obtain ⟨-, rfl, -⟩ := (State.cylCommand_eq_extend_iff s n v).mp commanded
    exact State.advanceSpeed_le_creepSpeed restrained
  · obtain ⟨-, -, d, found', advancing⟩ := (State.cylCommand_eq_extend_iff s n v).mp commanded
    obtain rfl : c = d := Option.some.inj (found.symm.trans found')
    exact nomatch reseating.symm.trans advancing

end
end

section
/-! PROOFS. The plan services at the erector owner: how a plan service reaches its block, and what PLAN_ABORT and
PLAN_FLUSH make of the store (R101, R106, R114). -/

namespace Sys2Proof.Machine

/-! ### What the filter and the owner's flag depend on -/

/-- The filter reads the node record alone (R11): a console station heard before is heard after any change of other parts. -/
theorem hearsConsole_of_node_eq {s t : State} {sender target : Station} (node : t.node = s.node)
    (h : s.HearsConsole sender target) : t.HearsConsole sender target := by
  have same : t.filterVerdict .console sender target = s.filterVerdict .console sender target := by
    unfold State.filterVerdict State.reaches State.mayBeSentBy State.isMember State.configured State.cfg State.own
    rw [node]
  exact same.trans h

theorem ownsErector_of_node_eq {s t : State} (node : t.node = s.node) : t.ownsErector = s.ownsErector := by
  simp only [State.ownsErector, State.isErectorOwner, State.memberSection?, State.configured, State.cfg, State.own, node]

/-! ### How a plan service reaches its block (R101) -/

theorem receiveCommand_planService {s : State} {sender target : Station} (heard : s.HearsConsole sender target)
    (owner : s.ownsErector = true) (addressed : target ≠ 0) (service : Service)
    (take : Station → List Byte → State → State) (args : List Byte) :
    s.receiveCommand (State.planService service take) sender target args = take sender args s := by
  rw [receiveCommand_of_hearsConsole heard, bne_iff_ne.mpr addressed]
  simp [State.planService, owner]

theorem receiveCommand_planServiceBare {s : State} {sender target : Station} (heard : s.HearsConsole sender target)
    (owner : s.ownsErector = true) (addressed : target ≠ 0) (service : Service) (take : Station → State → State) :
    s.receiveCommand (State.planServiceBare service take) sender target [] = take sender s :=
  receiveCommand_planService heard owner addressed service _ []

/-! ### The services, heard at the erector owner -/

section
variable {s : State} {sender target : Station} (heard : s.HearsConsole sender target) (owner : s.ownsErector = true)
  (addressed : target ≠ 0)
include heard owner addressed

theorem exec_planAbort_of_owner : exec (.planAbort sender target []) s
    = .next ((s.setPlans ⟨s.plans.closed, none⟩).answer sender true .planAbort .done) :=
  congrArg Host.Outcome.next (receiveCommand_planServiceBare heard owner addressed _ _)

theorem exec_planFlush_of_owner : exec (.planFlush sender target []) s
    = .next (if s.engine.state = .disabled then (s.setPlans ⟨[], none⟩).answer sender true .planFlush .done
        else s.answer sender true .planFlush .state) :=
  congrArg Host.Outcome.next (receiveCommand_planServiceBare heard owner addressed _ _)

/-- Without an open plan a step is answered STATE, whatever its arguments (R103). -/
theorem exec_planStep_of_notOpen (closed : s.plans.opened = none) (args : List Byte) :
    exec (.planStep sender target args) s = .next (s.answer sender true .planStep .state) := by
  refine congrArg Host.Outcome.next ((receiveCommand_planService heard owner addressed _ _ args).trans ?_)
  dsimp only
  rw [closed]
  exact ite_self _

end

theorem stepsHeld_of_empty {s : State} (h : s.plans = ⟨[], none⟩) : s.stepsHeld = 0 := by
  simp [State.stepsHeld, h]

/-- An open plan discarded where none is open leaves the state as it is. -/
theorem setPlans_closed_of_notOpen {s : State} (h : s.plans.opened = none) : s.setPlans ⟨s.plans.closed, none⟩ = s := by
  rw [← h]
  exact State.setPlans_self s

end Sys2Proof.Machine

section
open Sys2Proof Sys2Proof.Machine

/-- Settles O45: each service is its one update of the store and a reply, which leaves every part but the link and the
console; the node record stays, so a PLAN_STEP after PLAN_FLUSH is still heard by the erector owner and finds no plan. -/
theorem planAbortAndFlush : Obligations.PlanAbortAndFlush := by
  constructor
  · intro sender target s heard owner addressed
    have abort := exec_planAbort_of_owner heard owner addressed
    refine ⟨abort, fun notOpen => ?_, fun t next => ?_⟩
    · rw [abort, setPlans_closed_of_notOpen notOpen]
    · obtain rfl := Host.Outcome.next.inj (abort.symm.trans next)
      simp
  · intro sender target s heard owner addressed
    have flush := exec_planFlush_of_owner heard owner addressed
    refine ⟨fun disabled => ?_, fun other => ?_, fun t next => ?_⟩
    · rw [flush, if_pos disabled]
    · rw [flush, if_neg other]
    · obtain rfl := Host.Outcome.next.inj (flush.symm.trans next)
      by_cases disabled : s.engine.state = .disabled
      · rw [if_pos disabled]
        generalize reply : (s.setPlans ⟨[], none⟩).answer sender true .planFlush .done = t
        have node : t.node = s.node := by simp [← reply]
        have empty : t.plans = ⟨[], none⟩ := by simp [← reply]
        refine ⟨by simp [← reply], by simp [← reply], fun _ => ⟨empty, stepsHeld_of_empty empty, fun args => ?_⟩⟩
        exact exec_planStep_of_notOpen (hearsConsole_of_node_eq node heard)
          ((ownsErector_of_node_eq node).trans owner) addressed (by rw [empty]) args
      · rw [if_neg disabled]
        exact ⟨by simp, by simp, fun h => absurd h disabled⟩

end
end

section
/-! PROOFS. The console service ECHO (R199): what it answers by the number of argument bytes, and what queuing its reply
changes of the node. -/

namespace Sys2Proof.Machine

theorem exec_echo_of_hearsConsole {s : State} {sender target : Station} (heard : s.HearsConsole sender target)
    (args : List Byte) : exec (.echo sender target args) s = .next (s.serveEcho sender (target != 0) args) :=
  congrArg Host.Outcome.next (receiveCommand_of_hearsConsole heard)

namespace State

/-- A broadcast service is not answered (R192). -/
theorem answerWith_broadcast (station : Station) (service : Byte) (e : EndCode) (tail : List Byte) (tag : TxTag)
    (s : State) : s.answerWith station false service e tail tag = s := rfl

/-- An addressed service is answered in one frame, part 1 of 1 (Table 11-2). -/
theorem answerWith_addressed (station : Station) (service : Byte) (e : EndCode) (tail : List Byte) (tag : TxTag)
    (s : State) : s.answerWith station true service e tail tag
      = s.queueTagged station (.reply ([service, endCode e, detailCode e, 1, 1] ++ tail)) tag := rfl

theorem serveEcho_broadcast (station : Station) (args : List Byte) (s : State) : s.serveEcho station false args = s := by
  unfold serveEcho
  split
  · exact answerWith_broadcast ..
  · exact answerWith_broadcast ..

theorem serveEcho_of_fits {args : List Byte} (fits : args.length ≤ 19) (station : Station) (s : State) :
    s.serveEcho station true args = s.queueTagged station (.reply ([5, 0, 0, 1, 1] ++ args)) .plain :=
  (if_pos fits).trans (answerWith_addressed ..)

theorem serveEcho_of_tooLong {args : List Byte} (long : 19 < args.length) (station : Station) (s : State) :
    s.serveEcho station true args = s.queueTagged station (.reply [5, 3, 0, 1, 1]) .plain :=
  (if_neg (Nat.not_le.mpr long)).trans (answerWith_addressed ..)

/-- A frame other than HOLD, to any station and with any tag, that finds a place changes the queue and the next age
alone (R4). -/
theorem queueTagged_of_hasPlace {s : State} (place : s.HasPlace) (target : Station) {body : Body}
    (notHold : isHold body = false) (tag : TxTag) : s.queueTagged target body tag = s.setLink { s.link with
      queue := insertTx (s.newFrame target body tag) s.link.queue, nextAge := s.link.nextAge + 1 } := by
  obtain ⟨transmitting, room⟩ := place
  have runs : s.stepAge.link.transmitting = true := transmitting
  have free : ¬ Config.txqPlaces ≤ s.stepAge.link.held := Nat.not_le.mpr room
  simp only [queueTagged, notHold, admitFrame, runs, free]
  rfl

end State

end Sys2Proof.Machine

section
open Sys2Proof Sys2Proof.Machine

/-- Settles O37: an accepted ECHO is its service, whose answer is by the number of argument bytes and depends on no part of
the state; the reply is no HOLD frame, so where the queue has a place it is only placed there. -/
theorem echoAnswered : Obligations.EchoAnswered := by
  intro sender target args s heard
  rw [exec_echo_of_hearsConsole heard]
  refine ⟨fun broadcast => ?_, fun addressed fits => ?_, fun addressed long => ?_, fun body place notHold => ?_⟩
  · rw [broadcast]
    exact congrArg Host.Outcome.next (State.serveEcho_broadcast sender args s)
  · rw [bne_iff_ne.mpr addressed, State.serveEcho_of_fits fits]
  · rw [bne_iff_ne.mpr addressed, State.serveEcho_of_tooLong long]
  · exact State.queueTagged_of_hasPlace place sender notHold .plain

end
end

section
/-! PROOFS. The properties kept, in one relation. What the operations of the node's blocks keep, and the updates of one unit (the state
operations' frames read as this relation). -/

-- In one thread: each proof that waits for those before it would keep a thread of its own.
set_option Elab.async false

namespace Sys2Proof.Machine

/-- What the operations of the node's blocks keep, the drives and the restraint set apart: the command queue, the node number
and the configuration, the phase while it is not HOLD, and the properties of the units. -/
structure State.KeepsCore (s t : State) : Prop where
  pending : t.pending = s.pending
  number : t.node.number = s.node.number
  config : t.node.config = s.node.config
  hold : t.inHold = false → t.machine.phase = s.machine.phase
  rounds : s.RoundListsMembers → t.RoundListsMembers
  held : s.StepHeldByState → t.StepHeldByState
  store : s.StoreBounded → t.StoreBounded
  grout : s.DosingIffInFlight ∧ s.DeliveredWithinOwed → t.DosingIffInFlight ∧ t.DeliveredWithinOwed
  train : s.TrainOrdered → t.TrainOrdered

/-- The restraint set apart: while a unit's restraint flag and its own entry change. -/
structure State.KeepsUnits (s t : State) : Prop extends s.KeepsCore t where
  drives : s.DrivesRunInBore → t.DrivesRunInBore

/-- The drives apart: while the phase or the node state changes and the run condition is yet to be tested. -/
structure State.KeepsStill (s t : State) : Prop extends s.KeepsCore t where
  ordered : s.RestraintsOrdered → t.RestraintsOrdered
  own : s.OwnRestraintsFollow → t.OwnRestraintsFollow

/-- What every operation of the node's blocks keeps, the storing of a configuration and the end of a round apart. -/
structure State.Keeps (s t : State) : Prop extends s.KeepsUnits t where
  ordered : s.RestraintsOrdered → t.RestraintsOrdered
  own : s.OwnRestraintsFollow → t.OwnRestraintsFollow

theorem State.KeepsCore.trans {s t u : State} (a : s.KeepsCore t) (b : t.KeepsCore u) : s.KeepsCore u where
  pending := b.pending.trans a.pending
  number := b.number.trans a.number
  config := b.config.trans a.config
  hold left := by
    have same := b.hold left
    have tLeft : t.inHold = false := by
      unfold State.inHold at left ⊢
      rwa [same] at left
    exact same.trans (a.hold tLeft)
  rounds := b.rounds ∘ a.rounds
  held := b.held ∘ a.held
  store := b.store ∘ a.store
  grout := b.grout ∘ a.grout
  train := b.train ∘ a.train

theorem State.KeepsUnits.trans {s t u : State} (a : s.KeepsUnits t) (b : t.KeepsUnits u) : s.KeepsUnits u :=
  ⟨a.toKeepsCore.trans b.toKeepsCore, b.drives ∘ a.drives⟩

theorem State.Keeps.still {s t : State} (a : s.Keeps t) : s.KeepsStill t := ⟨a.toKeepsCore, a.ordered, a.own⟩

theorem State.KeepsStill.trans {s t u : State} (a : s.KeepsStill t) (b : t.KeepsStill u) : s.KeepsStill u :=
  ⟨a.toKeepsCore.trans b.toKeepsCore, b.ordered ∘ a.ordered, b.own ∘ a.own⟩

theorem State.KeepsStill.keeps {s t : State} (a : s.KeepsStill t) (drives : s.DrivesRunInBore → t.DrivesRunInBore) : s.Keeps t :=
  ⟨⟨a.toKeepsCore, drives⟩, a.ordered, a.own⟩

namespace State

/-- The phase unit may enter HOLD, and leave the list of an open round. -/
theorem KeepsStill.setMachine {s : State} {x : PhaseUnit} (hold : (s.setMachine x).inHold = false → x.phase = s.machine.phase)
    (rounds : s.RoundListsMembers → (s.setMachine x).RoundListsMembers) : s.KeepsStill (s.setMachine x) :=
  ⟨⟨rfl, rfl, rfl, hold, rounds, id, id, id, id⟩, id, id⟩

/-- The node state may change, to UNCONFIGURED at a node without a configuration. -/
theorem KeepsStill.setNode {s : State} {x : NodeRecord} (number : x.number = s.node.number) (config : x.config = s.node.config)
    (unconfigured : x.state = .unconfigured → s.node.state = .unconfigured ∨ s.configured = false) :
    s.KeepsStill (s.setNode x) := by
  have conf : (s.setNode x).configured = s.configured := by simp [State.configured, config]
  have members : (s.setNode x).membersInOrder = s.membersInOrder := by
    have : (s.setNode x).isMember = s.isMember := by funext n; simp [State.isMember, State.cfg, config]
    simp [State.membersInOrder, this]
  have un : (s.node.state = .unconfigured → s.configured = false) →
      (s.setNode x).node.state = .unconfigured → (s.setNode x).configured = false := fun h e =>
    conf.trans ((unconfigured e).elim h id)
  have restrains : ∀ r, (s.setNode x).restrains r = s.restrains r := fun r => by simp [State.restrains, State.own, number]
  refine ⟨⟨rfl, number, config, fun _ => rfl, fun ⟨h, lists⟩ => ⟨un h, fun r hr => ?_⟩, id, id,
    fun ⟨dosing, nodup, ports, dose⟩ => ⟨dosing, nodup, ports, fun d hd p hp e => ?_⟩, id⟩, id,
    fun ⟨h, no, h'⟩ => ⟨fun r => (restrains r).trans (h r), fun c => no (conf.symm.trans c), un h'⟩⟩
  · rw [conf, members]
    exact lists r hr
  · have := dose d hd p hp e
    simpa [State.cfg, config] using this

end State

namespace State.Keeps

theorem refl (s : State) : s.Keeps s := ⟨⟨⟨rfl, rfl, rfl, fun _ => rfl, id, id, id, id, id⟩, id⟩, id, id⟩

theorem trans {s t u : State} (a : s.Keeps t) (b : t.Keeps u) : s.Keeps u :=
  ⟨a.toKeepsUnits.trans b.toKeepsUnits, b.ordered ∘ a.ordered, b.own ∘ a.own⟩

/-! ### Updates of one unit -/

section
variable (s : State)

theorem setLink (x : LinkUnit) : s.Keeps (s.setLink x) := ⟨⟨⟨rfl, rfl, rfl, fun _ => rfl, id, id, id, id, id⟩, id⟩, id, id⟩

theorem setConsole (x : ConsoleUnit) : s.Keeps (s.setConsole x) :=
  ⟨⟨⟨rfl, rfl, rfl, fun _ => rfl, id, id, id, id, id⟩, id⟩, id, id⟩

theorem setChannels (x : Channels) : s.Keeps (s.setChannels x) :=
  ⟨⟨⟨rfl, rfl, rfl, fun _ => rfl, id, id, id, id, id⟩, id⟩, id, id⟩

theorem setFreeIndex (x : Nat) : s.Keeps (s.setFreeIndex x) :=
  ⟨⟨⟨rfl, rfl, rfl, fun _ => rfl, id, id, id, id, id⟩, id⟩, id, id⟩

variable {s}

theorem setPlans {x : PlanStore} (bounded : s.StoreBounded → (s.setPlans x).StoreBounded) : s.Keeps (s.setPlans x) :=
  ⟨⟨⟨rfl, rfl, rfl, fun _ => rfl, id, id, bounded, id, id⟩, id⟩, id, id⟩

theorem setEngine {x : Engine} (held : s.StepHeldByState → (s.setEngine x).StepHeldByState) : s.Keeps (s.setEngine x) :=
  ⟨⟨⟨rfl, rfl, rfl, fun _ => rfl, id, held, id, id, id⟩, id⟩, id, id⟩

/-- The engine may change all but its state and the step it holds. -/
theorem setEngine_same {x : Engine} (state : x.state = s.engine.state := by rfl)
    (seated : x.seated = s.engine.seated := by rfl) : s.Keeps (s.setEngine x) :=
  setEngine fun h => by simpa [State.StepHeldByState, state, seated] using h

theorem setThrust {x : ThrustUnit} (ordered : s.RestraintsOrdered → (s.setThrust x).RestraintsOrdered)
    (own : ∀ r, (s.setThrust x).restrains r = s.restrains r) : s.Keeps (s.setThrust x) :=
  ⟨⟨⟨rfl, rfl, rfl, fun _ => rfl, id, id, id, id, id⟩, id⟩, ordered,
    fun ⟨h, no, un⟩ => ⟨fun r => (own r).trans (h r), no, un⟩⟩

/-- The thrust unit may change all but the restraint set. -/
theorem setThrust_same {x : ThrustUnit} (same : x.restraints = s.thrust.restraints := by rfl) :
    s.Keeps (s.setThrust x) :=
  setThrust (fun h => by simpa [State.RestraintsOrdered, same] using h) fun r => by simp [State.restrains, State.own, same]

theorem setDrive {x : DriveUnit} (drives : s.DrivesRunInBore → (s.setDrive x).DrivesRunInBore)
    (mode : x.guard.mode = s.drive.guard.mode := by rfl) : s.Keeps (s.setDrive x) :=
  have same : ∀ r, (s.setDrive x).unitRestrains r = s.unitRestrains r := fun r => by cases r <;> simp [State.unitRestrains, mode]
  ⟨⟨⟨rfl, rfl, rfl, fun _ => rfl, id, id, id, id, id⟩, drives⟩, id,
    fun ⟨h, no, un⟩ => ⟨fun r => (h r).trans (same r).symm, fun c r => (same r).trans (no c r), un⟩⟩

/-- The guard may change all but guard mode. -/
theorem setGuard {g : Guard} (mode : g.mode = s.drive.guard.mode := by rfl) : s.Keeps (s.setGuard g) := setDrive id mode

theorem setDrives {ds : List Drive} (drives : s.DrivesRunInBore → (s.setDrives ds).DrivesRunInBore) :
    s.Keeps (s.setDrives ds) := setDrive drives rfl

theorem setOverrides {x : List OverrideEntry} (drives : s.DrivesRunInBore → (s.setOverrides x).DrivesRunInBore) :
    s.Keeps (s.setOverrides x) :=
  ⟨⟨⟨rfl, rfl, rfl, fun _ => rfl, id, id, id, id, id⟩, drives⟩, id, id⟩

theorem setGrout {x : GroutUnit} (grout : s.DosingIffInFlight ∧ s.DeliveredWithinOwed →
      (s.setGrout x).DosingIffInFlight ∧ (s.setGrout x).DeliveredWithinOwed)
    (restrained : x.restrained = s.grout.restrained := by rfl) : s.Keeps (s.setGrout x) :=
  have same : ∀ r, (s.setGrout x).unitRestrains r = s.unitRestrains r := fun r => by
    cases r <;> simp [State.unitRestrains, restrained]
  ⟨⟨⟨rfl, rfl, rfl, fun _ => rfl, id, id, id, grout, id⟩, id⟩, id,
    fun ⟨h, no, un⟩ => ⟨fun r => (h r).trans (same r).symm, fun c r => (same r).trans (no c r), un⟩⟩

theorem setMuck {x : MuckUnit} (train : s.TrainOrdered → (s.setMuck x).TrainOrdered)
    (muck : x.muckRestrained = s.muck.muckRestrained := by rfl)
    (face : x.faceRestrained = s.muck.faceRestrained := by rfl) : s.Keeps (s.setMuck x) :=
  have same : ∀ r, (s.setMuck x).unitRestrains r = s.unitRestrains r := fun r => by
    cases r <;> simp [State.unitRestrains, muck, face]
  ⟨⟨⟨rfl, rfl, rfl, fun _ => rfl, id, id, id, id, train⟩, id⟩, id,
    fun ⟨h, no, un⟩ => ⟨fun r => (h r).trans (same r).symm, fun c r => (same r).trans (no c r), un⟩⟩

/-- The muck unit may change all but the queue and its two restraint flags. -/
theorem setMuck_same {x : MuckUnit} (muck : x.muckRestrained = s.muck.muckRestrained := by rfl)
    (face : x.faceRestrained = s.muck.faceRestrained := by rfl) (queue : x.queue = s.muck.queue := by rfl) :
    s.Keeps (s.setMuck x) :=
  setMuck (fun h => by simpa [State.TrainOrdered, queue] using h) muck face

theorem setMachine {x : PhaseUnit} (hold : (s.setMachine x).inHold = false → x.phase = s.machine.phase)
    (rounds : s.RoundListsMembers → (s.setMachine x).RoundListsMembers)
    (drives : s.DrivesRunInBore → (s.setMachine x).DrivesRunInBore) : s.Keeps (s.setMachine x) :=
  (KeepsStill.setMachine hold rounds).keeps drives

/-- The phase unit may change all but the phase, and close the round or keep its list. -/
theorem setMachine_same {x : PhaseUnit} (phase : x.phase = s.machine.phase)
    (round : ∀ r, x.round = some r → ∃ r', s.machine.round = some r' ∧ r.votes.map (·.1) = r'.votes.map (·.1)) :
    s.Keeps (s.setMachine x) := by
  refine setMachine (fun _ => phase) (fun ⟨un, lists⟩ => ⟨un, fun r hr => ?_⟩) fun h => ?_
  · obtain ⟨r', hr', votes⟩ := round r hr
    obtain ⟨conf, list⟩ := lists r' hr'
    exact ⟨conf, votes.trans list⟩
  · intro d hd run
    obtain ⟨bore, rest⟩ := h d hd run
    exact ⟨phase.trans bore, rest⟩

theorem setNode {x : NodeRecord} (number : x.number = s.node.number) (config : x.config = s.node.config)
    (unconfigured : x.state = .unconfigured → s.node.state = .unconfigured ∨ s.configured = false)
    (drives : s.DrivesRunInBore → (s.setNode x).DrivesRunInBore) : s.Keeps (s.setNode x) :=
  (KeepsStill.setNode number config unconfigured).keeps drives

/-- The node record may change all but its number, its configuration and its state. -/
theorem setNode_same {x : NodeRecord} (number : x.number = s.node.number := by rfl)
    (config : x.config = s.node.config := by rfl) (state : x.state = s.node.state := by rfl) : s.Keeps (s.setNode x) :=
  setNode number config (fun h => .inl (state.symm.trans h)) fun h d hd run => by
    obtain ⟨bore, member, unpinned⟩ := h d hd run
    exact ⟨bore, state.trans member, unpinned⟩

end

end State.Keeps

end Sys2Proof.Machine
end

section
/-! PROOFS. The properties kept, by the shield link, the console and the shared operations of the units. -/

-- In one thread: each proof that waits for those before it would keep a thread of its own.
set_option Elab.async false

namespace Sys2Proof.Machine
namespace State.Keeps

section
variable (s : State)

/-! ### Link interface and console -/

theorem notify (n : Notice) : s.Keeps (s.notify n) := setConsole s _

theorem count (f : Counters → Counters) : s.Keeps (s.count f) := setConsole s _

theorem countDrop : s.Keeps s.countDrop := (count s _).trans (notify _ _)

theorem setQueue (q : List TxFrame) : s.Keeps (s.setQueue q) := setLink s _

theorem setWire (w : Option WireFrame) : s.Keeps (s.setWire w) := setLink s _

theorem stepAge : s.Keeps s.stepAge := setLink s _

theorem frameEnded (f : TxFrame) (e : Ending) : s.Keeps (s.frameEnded f e) := by
  unfold State.frameEnded
  cases f.tag with
  | dataPart =>
    refine (setConsole s { s.console with dataReply := none }).trans ?_
    dsimp only
    split
    · split <;> exact setEngine_same
    · exact refl _
  | plain | notices =>
    dsimp only
    split
    · split <;> exact setEngine_same
    · exact refl _

theorem framesEnded (fs : List TxFrame) (e : Ending) : s.Keeps (s.framesEnded fs e) := by
  unfold State.framesEnded
  induction fs generalizing s with
  | nil => exact refl s
  | cons f fs ih => exact (frameEnded s f e).trans (ih _)

theorem admitFrame (f : TxFrame) : s.Keeps (s.admitFrame f) := by
  unfold State.admitFrame
  split
  · exact frameEnded s f _
  · split
    · exact (countDrop s).trans (frameEnded _ f _)
    · exact setQueue s _

theorem retryRingClosed : s.Keeps s.retryRingClosed := by
  unfold State.retryRingClosed
  split
  · exact refl s
  · exact ((setEngine_same (s := s)).trans (stepAge _)).trans (admitFrame _ _)

theorem admitHold (f : TxFrame) : s.Keeps (s.admitHold f) := by
  unfold State.admitHold
  split
  · split
    · exact (countDrop s).trans (frameEnded _ f _)
    · exact (((setQueue s _).trans (countDrop _)).trans (frameEnded _ _ _)).trans (retryRingClosed _)
  · exact admitFrame s f

theorem queueTagged (target : Station) (body : Body) (tag : TxTag) : s.Keeps (s.queueTagged target body tag) := by
  unfold State.queueTagged
  dsimp only
  split
  · exact (stepAge s).trans (admitHold _ _)
  · exact (stepAge s).trans (admitFrame _ _)

theorem queueFrame (body : Body) : s.Keeps (s.queueFrame body) := queueTagged s _ _ _

theorem queueFrames (bs : List Body) : s.Keeps (s.queueFrames bs) := by
  unfold State.queueFrames
  induction bs generalizing s with
  | nil => exact refl s
  | cons b bs ih => exact (queueFrame s b).trans (ih _)

theorem queueBeacon : s.Keeps s.queueBeacon := by
  unfold State.queueBeacon
  dsimp only
  split
  · exact setQueue s _
  · exact queueFrame s _

theorem removeZoneFrames : s.Keeps s.removeZoneFrames := by
  have cleared : ∀ w q, s.Keeps ((s.setWire w).setQueue q) := fun w q => (setWire s w).trans (setQueue _ q)
  unfold State.removeZoneFrames
  dsimp only
  split
  · exact cleared _ _
  · exact ((cleared _ _).trans (framesEnded _ _ _)).trans (retryRingClosed _)

theorem answerWith (station : Station) (addressed : Bool) (service : Byte) (e : EndCode) (tail : List Byte) (tag : TxTag) :
    s.Keeps (s.answerWith station addressed service e tail tag) := by
  unfold State.answerWith
  split
  · exact queueTagged s _ _ _
  · exact refl s

theorem answer (station : Station) (addressed : Bool) (service : Service) (e : EndCode) :
    s.Keeps (s.answer station addressed service e) := answerWith s _ _ _ _ _ _

/-! ### Units -/

theorem mapCylinders (f : Cylinder → Cylinder) : s.Keeps (s.mapCylinders f) := setThrust_same

theorem updateCylinder (n : Nat) (f : Cylinder → Cylinder) : s.Keeps (s.updateCylinder n f) := mapCylinders s _

theorem thrustEntersHold (fromBore : Bool) : s.Keeps (s.thrustEntersHold fromBore) :=
  (mapCylinders s _).trans (setThrust_same)

theorem thrustEntersFaulted : s.Keeps s.thrustEntersFaulted := mapCylinders s _

end

/-- A drive that runs after the test of R84 meets the run condition. -/
theorem testDrive_runs {s : State} {d : Drive} (h : (s.testDrive d).state = .starting ∨ (s.testDrive d).state = .running) :
    s.runCondition d = true := by
  by_contra no
  revert h
  unfold State.testDrive
  cases e : d.state <;> simp [no, e]

theorem runCondition_iff {s : State} {d : Drive} : s.runCondition d = true ↔
    s.machine.phase = .bore ∧ s.node.state = .member ∧ s.pinned .drive d.number = false ∧ d.state ≠ .tripped := by
  simp [State.runCondition, and_assoc]

@[simp] theorem testDrive_number (s : State) (d : Drive) : (s.testDrive d).number = d.number := by
  unfold State.testDrive
  repeat' split
  all_goals rfl

/-- After the test of every drive the drives run where they may, whatever they did before. -/
theorem testDrives_drives (s : State) : s.testDrives.DrivesRunInBore := by
  intro d hd run
  simp only [State.testDrives, State.setDrives, setDrive_drive, List.mem_map] at hd
  obtain ⟨d, -, rfl⟩ := hd
  obtain ⟨bore, member, unpinned, -⟩ := runCondition_iff.mp (testDrive_runs run)
  exact ⟨bore, member, by simpa [State.testDrives, State.pinned, State.override?] using unpinned⟩

theorem testDrives (s : State) : s.Keeps s.testDrives := setDrives fun _ => testDrives_drives s

theorem updateDrive (s : State) (n : Nat) {f : Drive → Drive} (number : ∀ d, (f d).number = d.number)
    (runs : ∀ d, (f d).state = .starting ∨ (f d).state = .running →
      (d.state = .starting ∨ d.state = .running) ∨ s.runCondition d = true) : s.Keeps (s.updateDrive n f) := by
  refine setDrives fun h d' hd' run => ?_
  simp only [State.setDrives, setDrive_drive, List.mem_map] at hd'
  obtain ⟨d, hd, rfl⟩ := hd'
  have same : (if d.number = n then f d else d).number = d.number := by split <;> simp [number]
  have before : (d.state = .starting ∨ d.state = .running) ∨ s.runCondition d = true := by
    split at run
    · exact runs d run
    · exact .inl run
  rw [same]
  rcases before with ran | fit
  · exact h d hd ran
  · obtain ⟨bore, member, unpinned, -⟩ := runCondition_iff.mp fit
    exact ⟨bore, member, unpinned⟩

/-! ### Grout unit -/

theorem endDose (e : DoseEnding) (s : State) : s.Keeps (s.endDose e) := by
  unfold State.endDose
  split
  case h_2 => exact refl s
  case h_1 d hd =>
    split
    case isFalse => exact refl s
    refine setGrout fun ⟨_, nodup, ports, dose⟩ => ⟨?_, nodup, ports, ?_⟩
    · simp only [State.DosingIffInFlight, State.doseInFlight, setGrout_grout]
      split <;> simp
    · rintro d' hd' p hp port
      obtain rfl := Option.some.inj hd'
      exact dose d hd p hp port

theorem stopDose (s : State) : s.Keeps s.stopDose := endDose _ s

/-- The port a dose is tested for is eligible (R147, R148). -/
theorem selectPort_eligible {s : State} {n : Nat} (h : s.selectPort = some n) :
    ∃ p ∈ s.grout.ports, p.number = n ∧ s.eligible p = true := by
  have byNumber : ∀ n, s.eligibleNumber n = true → ∃ p ∈ s.grout.ports, p.number = n ∧ s.eligible p = true := by
    intro n h
    unfold State.eligibleNumber at h
    split at h
    · rename_i p found
      exact ⟨p, List.mem_of_find?_eq_some found, find_number found, h⟩
    · simp at h
  have scanned : ∀ fuel n m, s.scanChain fuel n = some m → s.eligibleNumber m = true := by
    intro fuel
    induction fuel with
    | zero => simp [State.scanChain]
    | succ fuel ih =>
      intro n m h
      unfold State.scanChain at h
      split at h
      · obtain rfl := Option.some.inj h
        assumption
      · exact ih _ _ h
  unfold State.selectPort at h
  split at h
  · rename_i p found
    obtain rfl := Option.some.inj h
    exact ⟨p, List.mem_of_mem_filter (List.mem_of_find?_eq_some found), rfl, List.find?_some found⟩
  · split at h
    · split at h
      · simp at h
      · exact byNumber n (scanned _ _ _ h)
    · simp at h

/-- A dose started at an eligible port is owed in full there (R147, R150). -/
theorem startDose {s : State} {p : Port} (mem : p ∈ s.grout.ports) (eligible : s.eligible p = true) :
    s.Keeps (s.startDose p.number) := by
  refine (setGrout fun ⟨_, nodup, ports, _⟩ => ⟨by simp [State.DosingIffInFlight, State.doseInFlight], nodup, ports, ?_⟩).trans
    (setChannels _ _)
  rintro d hd q hq port
  obtain rfl := Option.some.inj hd
  obtain rfl : q = p := List.inj_on_of_nodup_map nodup hq mem port
  simp only [State.eligible, Bool.and_eq_true, decide_eq_true_eq] at eligible
  exact eligible.2

theorem testDose (s : State) : s.Keeps s.testDose := by
  unfold State.testDose
  split
  · split
    · rename_i n selected
      obtain ⟨p, mem, rfl, eligible⟩ := selectPort_eligible selected
      exact startDose mem eligible
    · exact refl s
  · exact refl s

/-- Port states and cuts may change. -/
theorem updatePort (s : State) (n : Nat) {f : Port → Port} (number : ∀ p, (f p).number = p.number := by exact fun _ => rfl)
    (owed : ∀ p, (f p).owed = p.owed := by exact fun _ => rfl)
    (delivered : ∀ p, (f p).delivered = p.delivered := by exact fun _ => rfl) : s.Keeps (s.updatePort n f) := by
  have same : ∀ p, (if p.number = n then f p else p).number = p.number ∧ (if p.number = n then f p else p).owed = p.owed
      ∧ (if p.number = n then f p else p).delivered = p.delivered := by
    intro p
    split <;> simp [number, owed, delivered]
  have numbers : (s.updatePort n f).grout.ports.map (·.number) = s.grout.ports.map (·.number) := by
    simp [State.updatePort, State.setPorts, (same _).1]
  have mem : ∀ p ∈ (s.updatePort n f).grout.ports, ∃ q ∈ s.grout.ports,
      p.number = q.number ∧ p.owed = q.owed ∧ p.delivered = q.delivered := by
    intro p hp
    simp only [State.updatePort, State.setPorts, setGrout_grout, List.mem_map] at hp
    obtain ⟨q, hq, rfl⟩ := hp
    exact ⟨q, hq, same q⟩
  refine setGrout fun ⟨dosing, nodup, ports, dose⟩ => ⟨dosing, ?_, fun p hp => ?_, fun d hd p hp port => ?_⟩
  · exact (congrArg List.Nodup numbers).mpr nodup
  · obtain ⟨q, hq, -, owed, delivered⟩ := mem p hp
    rw [owed, delivered]
    exact ports q hq
  · obtain ⟨q, hq, number, owed, delivered⟩ := mem p hp
    rw [owed, delivered]
    exact dose d hd q hq (number.symm.trans port)

end State.Keeps
end Sys2Proof.Machine
end

section
/-! PROOFS. The properties kept, by the restraint set and the units that decide its own entries (R77, R78). -/

-- In one thread: each proof that waits for those before it would keep a thread of its own.
set_option Elab.async false

namespace Sys2Proof.Machine

/-! ### The restraint set -/

theorem insertRestraint_ordered (e : Nat × RestraintReason) {l : List (Nat × RestraintReason)}
    (h : l.Pairwise fun a b => restraintRank a < restraintRank b) :
    (insertRestraint e l).Pairwise fun a b => restraintRank a < restraintRank b := by
  induction l with
  | nil => simp [insertRestraint]
  | cons g rest ih =>
    obtain ⟨first, ordered⟩ := List.pairwise_cons.mp h
    unfold insertRestraint
    split
    · rename_i lt
      refine List.pairwise_cons.mpr ⟨fun x hx => ?_, h⟩
      rcases List.mem_cons.mp hx with rfl | hx
      · exact lt
      · exact lt.trans (first x hx)
    · split
      · exact h
      · refine List.pairwise_cons.mpr ⟨fun x hx => ?_, ih ordered⟩
        rcases (mem_insertRestraint x e rest).mp hx with rfl | hx
        · omega
        · exact first x hx

theorem addRestraint_ordered {s : State} (source : Nat) (r : RestraintReason) (h : s.RestraintsOrdered) :
    (s.addRestraint source r).RestraintsOrdered := insertRestraint_ordered _ h

theorem addOwn_ordered (rs : List RestraintReason) {s : State} (h : s.RestraintsOrdered) : (s.addOwn rs).RestraintsOrdered := by
  unfold State.addOwn
  induction rs generalizing s with
  | nil => exact h
  | cons r rs ih => exact ih (addRestraint_ordered _ r h)

theorem restrains_iff (s : State) (r : RestraintReason) : s.restrains r = true ↔ (s.own, r) ∈ s.thrust.restraints := by
  simp [State.restrains]

theorem restrains_addRestraint (s : State) (source : Nat) (r r' : RestraintReason) :
    (s.addRestraint source r).restrains r' = true ↔ (source = s.own ∧ r' = r) ∨ s.restrains r' = true := by
  rw [restrains_iff, restrains_iff, show (s.addRestraint source r).own = s.own from rfl]
  simp [State.addRestraint, mem_insertRestraint, eq_comm, Prod.ext_iff]

theorem restrains_removeRestraint (s : State) (source : Nat) (r r' : RestraintReason) :
    (s.removeRestraint source r).restrains r' = true ↔ s.restrains r' = true ∧ ¬(source = s.own ∧ r' = r) := by
  rw [restrains_iff, restrains_iff, show (s.removeRestraint source r).own = s.own from rfl]
  simp only [State.removeRestraint, State.setThrust_thrust, List.mem_filter, bne_iff_ne, ne_eq, Prod.mk.injEq]
  tauto

namespace State.Keeps

theorem addRestraint {s : State} {source : Nat} (peer : source ≠ s.own) (r : RestraintReason) :
    s.Keeps (s.addRestraint source r) :=
  setThrust (fun h => addRestraint_ordered source r h) fun r' => Bool.eq_iff_iff.mpr <| by
    simpa [peer] using restrains_addRestraint s source r r'

theorem removeRestraint {s : State} {source : Nat} (peer : source ≠ s.own) (r : RestraintReason) :
    s.Keeps (s.removeRestraint source r) :=
  setThrust (fun h => h.filter _) fun r' => Bool.eq_iff_iff.mpr <| by
    simpa [peer] using restrains_removeRestraint s source r r'

theorem removeSource {s : State} {source : Nat} (peer : source ≠ s.own) : s.Keeps (s.removeSource source) :=
  setThrust (fun h => h.filter _) fun r => Bool.eq_iff_iff.mpr <| by
    rw [restrains_iff, restrains_iff]
    simpa [State.own] using fun _ e => peer (Eq.symm e)

end State.Keeps

/-! ### A unit decides to restrain or to release (R78) -/

/-- One unit's flag for reason `r` changes to `flag`, and is set at a configured node only. -/
structure State.Flagged (s t : State) (r : RestraintReason) (flag : Bool) : Prop where
  units : s.KeepsUnits t
  configured : flag = true → s.configured = true
  node : t.node = s.node
  thrust : t.thrust = s.thrust
  flagged : t.unitRestrains r = flag
  others : ∀ r', r' ≠ r → t.unitRestrains r' = s.unitRestrains r'

namespace State.Flagged

theorem grout {s : State} {flag : Bool} (configured : flag = true → s.configured = true) :
    s.Flagged (s.setGrout { s.grout with restrained := flag }) .grout flag :=
  ⟨⟨⟨rfl, rfl, rfl, fun _ => rfl, id, id, id, id, id⟩, id⟩, configured, rfl, rfl, rfl,
    fun
      | .muck, _ => rfl
      | .torque, _ => rfl
      | .face, _ => rfl
      | .grout, other => absurd rfl other⟩

theorem muck {s : State} {flag : Bool} (configured : flag = true → s.configured = true) :
    s.Flagged (s.setMuck { s.muck with muckRestrained := flag }) .muck flag :=
  ⟨⟨⟨rfl, rfl, rfl, fun _ => rfl, id, id, id, id, id⟩, id⟩, configured, rfl, rfl, rfl,
    fun
      | .grout, _ => rfl
      | .torque, _ => rfl
      | .face, _ => rfl
      | .muck, other => absurd rfl other⟩

theorem face {s : State} {flag : Bool} (configured : flag = true → s.configured = true) :
    s.Flagged (s.setMuck { s.muck with faceRestrained := flag }) .face flag :=
  ⟨⟨⟨rfl, rfl, rfl, fun _ => rfl, id, id, id, id, id⟩, id⟩, configured, rfl, rfl, rfl,
    fun
      | .grout, _ => rfl
      | .muck, _ => rfl
      | .torque, _ => rfl
      | .face, other => absurd rfl other⟩

theorem guard {s : State} {g : Guard} (configured : g.mode = true → s.configured = true) :
    s.Flagged (s.setGuard g) .torque g.mode :=
  ⟨⟨⟨rfl, rfl, rfl, fun _ => rfl, id, id, id, id, id⟩, id⟩, configured, rfl, rfl, rfl,
    fun
      | .grout, _ => rfl
      | .muck, _ => rfl
      | .face, _ => rfl
      | .torque, other => absurd rfl other⟩

/-- The entry follows the flag: the own entries are the units' again. -/
theorem keeps {s t u : State} {r : RestraintReason} {flag : Bool} (f : s.Flagged t r flag) (units : t.KeepsUnits u)
    (node : u.node = t.node) (same : ∀ r', u.unitRestrains r' = t.unitRestrains r')
    (ordered : t.RestraintsOrdered → u.RestraintsOrdered)
    (entries : ∀ r', u.restrains r' = if r' = r then flag else t.restrains r') : s.Keeps u := by
  refine ⟨f.units.trans units, fun h => ordered (show t.thrust.restraints.Pairwise _ by rwa [f.thrust]), ?_⟩
  rintro ⟨follow, none, unconfigured⟩
  have conf : u.configured = s.configured := by simp [State.configured, node, f.node]
  have before : ∀ r', t.restrains r' = s.restrains r' := fun r' => by simp [State.restrains, State.own, f.node, f.thrust]
  have now : ∀ r', u.unitRestrains r' = if r' = r then flag else s.unitRestrains r' := by
    intro r'
    rw [same]
    split
    · rename_i e
      exact e ▸ f.flagged
    · exact f.others r' ‹_›
  refine ⟨fun r' => ?_, fun no r' => ?_, fun state => conf.trans (unconfigured (by rwa [node, f.node] at state))⟩
  · rw [entries, now, before, follow]
  · have free := none (conf.symm.trans no) r'
    have unset : flag = false := Bool.eq_false_iff.mpr fun h =>
      absurd (f.configured h) (by simp [← conf, no])
    rw [now, free, unset, ite_self]

variable {s t : State} {r : RestraintReason}

theorem notify {flag : Bool} (f : s.Flagged t r flag) (n : Notice) : s.Flagged (t.notify n) r flag :=
  ⟨f.units.trans (Keeps.notify t n).toKeepsUnits, f.configured, f.node, f.thrust, by cases r <;> exact f.flagged,
    fun r' other => by cases r' <;> exact f.others _ other⟩

theorem setThrust_units (s : State) (x : ThrustUnit) : s.KeepsUnits (s.setThrust x) :=
  ⟨⟨rfl, rfl, rfl, fun _ => rfl, id, id, id, id, id⟩, id⟩

theorem restrain (f : s.Flagged t r true) : s.Keeps (t.restrain r) := by
  have queued := Keeps.queueFrame (t.addRestraint t.own r) (.restrain [restraintCode r])
  refine f.keeps ((setThrust_units t _).trans queued.toKeepsUnits) (by simp) (fun r' => ?_)
    (queued.ordered ∘ addRestraint_ordered _ _) fun r' => Bool.eq_iff_iff.mpr ?_
  · cases r' <;> simp [State.unitRestrains]
  · have same : (t.restrain r).restrains r' = (t.addRestraint t.own r).restrains r' := by
      simp [State.restrain, State.restrains, State.own]
    rw [same, restrains_addRestraint]
    split <;> simp_all

theorem release (f : s.Flagged t r false) : s.Keeps (t.release r) := by
  have queued := Keeps.queueFrame (t.removeRestraint t.own r) (.release [restraintCode r])
  refine f.keeps ((setThrust_units t _).trans queued.toKeepsUnits) (by simp) (fun r' => ?_)
    (fun h => queued.ordered (h.filter _)) fun r' => Bool.eq_iff_iff.mpr ?_
  · cases r' <;> simp [State.unitRestrains]
  · have same : (t.release r).restrains r' = (t.removeRestraint t.own r).restrains r' := by
      simp [State.release, State.restrains, State.own]
    rw [same, restrains_removeRestraint]
    split <;> simp_all

end State.Flagged

namespace State.Keeps

theorem testGrout (s : State) : s.Keeps s.testGrout := by
  unfold State.testGrout
  split
  · exact refl s
  · rename_i configured
    split
    · exact (State.Flagged.grout fun _ => by simpa using configured).restrain
    · split
      · exact (State.Flagged.grout (by simp)).release
      · exact refl s

theorem testMuck {s : State} (configured : s.configured = true) : s.Keeps s.testMuck := by
  unfold State.testMuck
  split
  · exact (State.Flagged.muck fun _ => configured).restrain
  · split
    · exact (State.Flagged.muck (by simp)).release
    · exact refl s

theorem testFaceHigh {s : State} (kPa : Half) (configured : s.configured = true) : s.Keeps (s.testFaceHigh kPa) := by
  unfold State.testFaceHigh
  split
  · exact (State.Flagged.face fun _ => configured).restrain
  · split
    · exact (State.Flagged.face (by simp)).release
    · exact refl s

theorem startProbe (s : State) : s.Keeps s.startProbe := by
  unfold State.startProbe
  split
  · exact refl s
  · exact setGuard

/-- Guard mode begins at a configured node; where it ends, and where it goes on, any node will do. -/
theorem setGuardFlags {s : State} {manual latch : Bool}
    (configured : (manual || latch) = true → s.drive.guard.mode = true ∨ s.configured = true) :
    s.Keeps (s.setGuardFlags manual latch) := by
  have flagged : ∀ flag, (manual || latch) = flag → (flag = true → s.configured = true) →
      s.Flagged (s.setGuard { s.drive.guard with manual := manual, latch := latch }) .torque flag := by
    rintro _ rfl conf
    exact State.Flagged.guard (g := { s.drive.guard with manual := manual, latch := latch }) conf
  unfold State.setGuardFlags
  dsimp only
  split
  · rename_i begins
    simp only [Bool.and_eq_true, Bool.not_eq_true'] at begins
    obtain ⟨off, on⟩ := begins
    have begun := (flagged true on fun _ => (configured on).resolve_left (by simp [off])).notify .guardEntered
    exact (begun.restrain.trans setGuard).trans (startProbe _)
  · split
    · rename_i ends
      simp only [Bool.and_eq_true, Bool.not_eq_true'] at ends
      exact (flagged false ends.2 (by simp)).release.trans setGuard
    · rename_i noBegin noEnd
      refine setGuard ?_
      simp only [Bool.and_eq_true, Bool.not_eq_true', not_and, Bool.not_eq_false] at noBegin noEnd
      cases before : s.drive.guard.mode
      · exact Bool.eq_false_iff.mpr (noBegin before)
      · exact noEnd before

end State.Keeps
end Sys2Proof.Machine
end

section
/-! PROOFS. The properties kept, by the engine, the holds and the faults (Chapters 3, 6 and 7). -/

-- In one thread: each proof that waits for those before it would keep a thread of its own.
set_option Elab.async false

namespace Sys2Proof.Machine
namespace State.Keeps

/-! ### Plan store and engine -/

/-- A store with no more plans, and no more steps in them, is bounded as before. -/
theorem setPlans_fewer {s : State} {x : PlanStore} (closed : x.closed.length ≤ s.plans.closed.length)
    (opened : x.opened.isSome = true → s.plans.opened.isSome = true) (steps : (s.setPlans x).stepsHeld ≤ s.stepsHeld) :
    s.Keeps (s.setPlans x) :=
  setPlans fun ⟨four, three, forty⟩ => ⟨closed.trans four, fun h => closed.trans (three (opened h)), steps.trans forty⟩

theorem popHeadStep (s : State) : s.Keeps s.popHeadStep := by
  unfold State.popHeadStep
  split
  case h_2 => exact refl s
  case h_1 p rest closed =>
    split
    · rename_i st st' more steps
      refine setPlans_fewer (by simp [closed]) id ?_
      simp [State.stepsHeld, closed, steps]
    · refine setPlans_fewer (by simp [closed]) id ?_
      simp [State.stepsHeld, closed]

/-- A state of Table 6-4 that holds a step. -/
def HoldsStep (e : EngineState) : Prop := e ∈ [EngineState.clearing, .placing, .reseating, .suspended, .stalled]

theorem setEngine_dropped {s : State} {x : Engine} (state : ¬HoldsStep x.state) (seated : x.seated = none) :
    s.Keeps (s.setEngine x) :=
  setEngine fun _ => by
    simp only [State.StepHeldByState, State.setEngine_engine, seated]
    exact ⟨by simp, fun h => absurd h state⟩

/-- The engine moves among the states that hold a step, or among those that hold none. -/
theorem setEngine_moves {s : State} {x : Engine} (state : HoldsStep x.state ↔ HoldsStep s.engine.state)
    (seated : x.seated.isSome = s.engine.seated.isSome) : s.Keeps (s.setEngine x) :=
  setEngine fun h => by
    simp only [State.StepHeldByState, State.setEngine_engine, seated]
    exact h.trans state.symm

theorem haltErector (s : State) : s.Keeps s.haltErector := setEngine_same

theorem commandPlace (s : State) : s.Keeps s.commandPlace := by
  unfold State.commandPlace
  split
  · split
    · exact setEngine_same
    · exact refl s
  · exact refl s

theorem dropStep (s : State) : s.Keeps s.dropStep := by
  unfold State.dropStep
  dsimp only
  split
  · exact (popHeadStep s).trans (setEngine_dropped (by simp [HoldsStep]) rfl)
  · exact setEngine_dropped (by simp [HoldsStep]) rfl

/-- The engine is SUSPENDED, and DISABLED by the stopping flag (R133, R113). -/
theorem suspends {s : State} (holds : HoldsStep s.engine.state) (retry : Nat) : s.Keeps (
    let t := s.setEngine { s.engine with
      state := .suspended, zoneMembers := [], answered := [], limit := none, retry := retry }
    if t.engine.stopping then t.dropStep else t) := by
  have moved : ∀ retry, s.Keeps (s.setEngine { s.engine with
      state := .suspended, zoneMembers := [], answered := [], limit := none, retry := retry }) := fun _ =>
    setEngine_moves ⟨fun _ => holds, fun _ => by simp [HoldsStep]⟩ rfl
  dsimp only
  split
  · exact (moved retry).trans (dropStep _)
  · exact moved retry

theorem engineEntersHold (s : State) : s.Keeps s.engineEntersHold := by
  have halted : s.Keeps (if s.engine.state = .placing then s.haltErector else s) := by
    split
    · exact haltErector s
    · exact refl s
  have state : (if s.engine.state = .placing then s.haltErector else s).engine.state = s.engine.state := by
    split <;> rfl
  unfold State.engineEntersHold
  split
  case h_1 h | h_2 h | h_3 h => exact halted.trans (suspends (by rw [state]; simp [HoldsStep, h]) _)
  all_goals exact refl s

theorem engineFaults (reason : EngineFaultReason) (p : Plan) (st : PlanStep) (s : State) :
    s.Keeps (s.engineFaults reason p st) := (setEngine_dropped (by simp [HoldsStep]) rfl).trans (notify _ _)

/-- A stage issued for a step that is held, or taken just then (R122). -/
theorem issueStage_of_current {s : State} {x : Engine} {p : Plan} {st : PlanStep} (k : ZoneKind)
    (current : (s.setEngine x).currentStep = some (p, st)) : s.Keeps ((s.setEngine x).issueStage k) := by
  have seated : x.seated.isSome = true := by
    unfold State.currentStep at current
    split at current
    · assumption
    · simp at current
  have issued : ∀ y : Engine, y.seated = x.seated → (y.state = .clearing ∨ y.state = .reseating) →
      s.Keeps (s.setEngine y) := fun y held state => setEngine fun _ => by
    simp only [State.StepHeldByState, State.setEngine_engine, held, seated, true_iff]
    rcases state with h | h <;> simp [h]
  unfold State.issueStage
  rw [current]
  refine ((issued _ ?seated ?state).trans (queueFrame _ _)).trans setEngine_same
  case seated => rfl
  case state =>
    cases k
    · exact .inl rfl
    · exact .inr rfl

theorem issueStage (k : ZoneKind) (s : State) : s.Keeps (s.issueStage k) := by
  cases current : s.currentStep with
  | none =>
    unfold State.issueStage
    rw [current]
    exact refl s
  | some held => exact issueStage_of_current (x := s.engine) k current

theorem resumeStage (s : State) : s.Keeps s.resumeStage := (setEngine_same (s := s)).trans (issueStage _ _)

/-- An engine that takes a step issues its CLEARING stage at once (R121, R122). -/
theorem takeHeadStep (s : State) : s.Keeps s.takeHeadStep := by
  unfold State.takeHeadStep
  split
  case isFalse => exact refl s
  rename_i idle
  split
  · exact refl s
  · rename_i p st head
    split
    · exact engineFaults _ _ _ s
    · exact issueStage_of_current .clear (p := p) (st := st) head

theorem engineEntersBuild (s : State) : s.Keeps s.engineEntersBuild := by
  unfold State.engineEntersBuild
  split
  case h_1 => exact resumeStage s
  case h_2 => exact takeHeadStep s
  all_goals exact refl s

/-! ### Holds and faults -/

theorem commandScrew (s : State) : s.Keeps s.commandScrew := by
  unfold State.commandScrew
  split
  · exact setMuck_same
  · exact refl s

theorem setRound_none (s : State) (f : Option RoundFailure) :
    s.Keeps (s.setMachine { s.machine with round := none, lastFailure := f }) :=
  setMachine_same rfl (by simp)

theorem failRound (station : Nat) (reason : FailReason) (s : State) : s.Keeps (s.failRound station reason) := by
  unfold State.failRound
  split
  · exact refl s
  · exact ((setRound_none s _).trans (notify _ _)).trans (count _ _)

/-- Entry to HOLD tests the run condition of every drive, so that no drive need have met it before. -/
theorem handEntryToHold {s v : State} (still : s.KeepsStill v) (fromBore : Bool) (g : Grade) :
    s.Keeps (v.handEntryToHold fromBore g) := by
  have tested : s.Keeps v.removeZoneFrames.testDrives :=
    ((still.trans (removeZoneFrames v).still).trans (testDrives _).still).keeps fun _ => testDrives_drives _
  have stopped : ∀ u : State, u.Keeps (if g = .hard then u.stopDose else u) := by
    intro u
    split
    · exact stopDose u
    · exact refl u
  exact (((tested.trans (thrustEntersHold _ _)).trans (stopped _)).trans (engineEntersHold _)).trans (commandScrew _)

theorem inHold_iff {s : State} : s.inHold = true ↔ ∃ g, s.machine.phase = .hold g := by
  unfold State.inHold
  split <;> simp_all

/-- HOLD is entered or counted: the phase is HOLD after it. -/
theorem enterHold_still (s : State) {x : PhaseUnit} (g : Grade) (phase : x.phase = .hold g) (round : x.round = s.machine.round) :
    s.KeepsStill (s.setMachine x) := by
  refine KeepsStill.setMachine (fun left => ?_) fun ⟨un, lists⟩ => ⟨un, fun r hr => lists r (round.symm.trans hr)⟩
  have : (s.setMachine x).inHold = true := inHold_iff.mpr ⟨g, phase⟩
  simp [this] at left

theorem drivesStill_of_hold {s t : State} {g : Grade} (phase : s.machine.phase = .hold g) (same : t.drive = s.drive)
    (h : s.DrivesRunInBore) : t.DrivesRunInBore := by
  intro d hd run
  rw [same] at hd
  have bore := (h d hd run).1
  simp [phase] at bore

/-- The hold a node decides, after a change of the node record that leaves it to the hold to stop the drives. -/
theorem imposeHold_after {s v : State} (still : s.KeepsStill v) (machine : v.machine = s.machine) (drive : v.drive = s.drive)
    (cause : HoldCause) (always : Bool) : s.Keeps (v.imposeHold cause always) := by
  unfold State.imposeHold
  dsimp only
  have failed := still.trans (failRound v.own .held v).still
  have phase : (State.failRound v.own .held v).machine.phase = s.machine.phase := by simp [machine]
  have drives : (State.failRound v.own .held v).drive = s.drive := by simp [drive]
  generalize State.failRound v.own .held v = u at *
  split
  case h_1 now inHold =>
    have counted : u.KeepsStill (u.countHold cause u.own now (causeGrade cause .soft)) := enterHold_still u _ rfl rfl
    have queued : ∀ w : State, w.Keeps (if (State.raises now (causeGrade cause .soft) || always) = true
        then w.queueFrame (.hold cause (causeGrade cause .soft)) else w) := by
      intro w
      split
      · exact queueFrame w _
      · exact refl w
    have stopped : ∀ w : State, w.Keeps (if State.raises now (causeGrade cause .soft) = true then w.stopDose else w) := by
      intro w
      split
      · exact stopDose w
      · exact refl w
    refine (((failed.trans counted).trans (queued _).still).trans (stopped _).still).keeps
      (drivesStill_of_hold (phase.symm.trans inHold) ?_)
    rw [← drives]
    repeat' split
    all_goals simp
  case h_2 | h_3 =>
    have opened : u.KeepsStill (u.openHold cause u.own (causeGrade cause .soft)) := enterHold_still u _ rfl rfl
    exact handEntryToHold ((failed.trans opened).trans (queueFrame _ _).still) _ _

theorem imposeHold (cause : HoldCause) (s : State) (always : Bool) : s.Keeps (s.imposeHold cause always) :=
  imposeHold_after (refl s).still rfl rfl cause always

theorem takeHold (sender : Nat) (cause : HoldCause) (sent : Grade) (s : State) : s.Keeps (s.takeHold sender cause sent) := by
  unfold State.takeHold
  dsimp only
  have failed := failRound sender .held s
  refine failed.trans ?_
  generalize State.failRound sender .held s = u
  split
  case h_1 now inHold =>
    have counted : u.KeepsStill (u.countHold cause sender now (causeGrade cause sent)) := enterHold_still u _ rfl rfl
    have kept := counted.keeps (drivesStill_of_hold inHold rfl)
    split
    · exact kept.trans (stopDose _)
    · exact kept
  case h_2 | h_3 =>
    exact handEntryToHold (v := u.openHold cause sender (causeGrade cause sent)) (enterHold_still u _ rfl rfl) _ _

theorem blocksEnterFaulted (s : State) : s.Keeps s.blocksEnterFaulted := by
  have halted : ∀ u : State, u.Keeps (if u.ownsErector then u.haltErector else u) := by
    intro u
    split
    · exact haltErector u
    · exact refl u
  exact ((((testDrives s).trans (thrustEntersFaulted _)).trans (stopDose _)).trans (halted _)).trans (commandScrew _)

theorem takeFault (cause : FaultCause) (s : State) : s.Keeps (s.takeFault cause) := by
  unfold State.takeFault
  split
  case h_1 => exact setNode_same
  case h_2 unconfigured =>
    refine (setNode (by rfl) (by rfl) (by simp) fun h d hd run => ?_).trans (notify _ _)
    have member := (h d hd run).2.1
    simp [unconfigured] at member
  case h_3 | h_4 =>
    have left : s.KeepsStill ((s.setNode { s.node with state := .faulted, cause := some cause, listen := none }).notify
        .nodeFault) := (KeepsStill.setNode (by rfl) (by rfl) (by simp)).trans (notify _ _).still
    exact (imposeHold_after left rfl rfl _ _).trans (blocksEnterFaulted _)

theorem removePending (s : State) : s.Keeps s.removePending := (setQueue s _).trans (framesEnded _ _ _)

theorem linkFault (s : State) : s.Keeps s.linkFault :=
  (((setLink s _).trans (removePending _)).trans (retryRingClosed _)).trans (takeFault _ _)

end State.Keeps
end Sys2Proof.Machine
end

section
/-! PROOFS. The properties kept, by the clock, the sector advance, the view, and the phase unit but for a round's end. -/

-- In one thread: each proof that waits for those before it would keep a thread of its own.
set_option Elab.async false

namespace Sys2Proof.Machine
namespace State.Keeps

/-! ### Time -/

/-- Elapsed times of the dose record may change. -/
theorem setDose_elapsed (s : State) (f : Nat → Nat) :
    s.Keeps (s.setDose (s.grout.dose.map fun d => { d with elapsed := f d.elapsed })) := by
  refine setGrout fun ⟨dosing, nodup, ports, dose⟩ => ⟨?_, nodup, ports, fun d hd p hp port => ?_⟩
  · cases h : s.grout.dose <;> simpa [State.DosingIffInFlight, State.doseInFlight, h] using dosing
  · obtain ⟨d', hd', rfl⟩ := Option.map_eq_some_iff.mp hd
    exact dose d' hd' p hp port

theorem passTime (ms : Nat) (s : State) : s.Keeps (s.passTime ms) := by
  have round : ∀ r, (s.machine.round.map fun r => { r with remaining := r.remaining - ms }) = some r →
      ∃ r', s.machine.round = some r' ∧ r.votes.map (·.1) = r'.votes.map (·.1) := by
    intro r hr
    obtain ⟨r', hr', rfl⟩ := Option.map_eq_some_iff.mp hr
    exact ⟨r', hr', rfl⟩
  unfold State.passTime
  have dosed : ∀ u : State, u.Keeps (if u.doseInFlight then
      u.setDose (u.grout.dose.map fun d => { d with elapsed := advanceUp Config.doseLimit ms d.elapsed }) else u) := by
    intro u
    split
    · exact setDose_elapsed u _
    · exact refl u
  exact ((((setNode_same (s := s)).trans (setMachine_same (by rfl) round)).trans setGuard).trans setEngine_same).trans (dosed _)

/-! ### Advance, torque and view -/

theorem owed (s : State) (x : Port → Nat) :
    s.Keeps (s.setPorts (s.grout.ports.map fun p => { p with owed := min owedCap (p.owed + x p) })) := by
  refine setGrout fun ⟨dosing, nodup, ports, dose⟩ => ⟨dosing, ?_, fun p hp => ?_, fun d hd p hp port => ?_⟩
  · simpa [Function.comp_def] using nodup
  · obtain ⟨q, hq, rfl⟩ := List.mem_map.mp hp
    obtain ⟨within, capped⟩ := ports q hq
    dsimp only
    omega
  · obtain ⟨q, hq, rfl⟩ := List.mem_map.mp hp
    have due := dose d hd q hq port
    have capped := (ports q hq).2
    change q.delivered + (s.cfg.doseStrokes - d.credited) * s.cfg.strokeVolume ≤ min owedCap (q.owed + x q)
    omega

/-- A hold imposed on a condition. -/
theorem imposeHold_if (c : Prop) [Decidable c] (cause : HoldCause) (s : State) :
    s.Keeps (if c then s.imposeHold cause else s) := by
  split
  · exact imposeHold cause s _
  · exact refl s

theorem groutIncrement (d : Nat) (s : State) : s.Keeps (s.groutIncrement d) :=
  (((owed s _).trans (testGrout _)).trans (imposeHold_if _ _ _)).trans (testDose _)

theorem evaluateOverdig (s : State) : s.Keeps s.evaluateOverdig := by
  unfold State.evaluateOverdig
  split
  · exact (setMuck_same (s := s)).trans (imposeHold _ _ _)
  · split
    · exact setMuck_same
    · exact refl s

theorem updateMachineAdvance (s : State) : s.Keeps s.updateMachineAdvance := by
  unfold State.updateMachineAdvance
  split
  · exact (setMuck_same (s := s)).trans (evaluateOverdig _)
  · exact refl s

theorem testSteer (s : State) : s.Keeps s.testSteer := by
  unfold State.testSteer
  dsimp only
  split
  · split
    · exact setThrust_same
    · split
      · exact setThrust_same
      · exact refl s
  · exact refl s

theorem testStrokeReached (s : State) : s.Keeps s.testStrokeReached := by
  unfold State.testStrokeReached
  split
  · exact (setThrust_same (s := s)).trans (mapCylinders _ _)
  · exact refl s

theorem testStrokeEnd (s : State) : s.Keeps s.testStrokeEnd := imposeHold_if _ _ s

theorem creditAdvance (s : State) : s.Keeps s.creditAdvance := by
  unfold State.creditAdvance
  split
  · exact (setThrust_same (s := s)).trans (groutIncrement _ _)
  · exact refl s

theorem recomputeAdvance (s : State) : s.Keeps s.recomputeAdvance := by
  unfold State.recomputeAdvance
  split
  · have advanced := (((setThrust_same (s := s) (x := { s.thrust with sectorAdvance := s.computedAdvance })).trans
      (creditAdvance _)).trans (testSteer _)).trans (testStrokeReached _)
    dsimp only
    split
    · exact advanced
    · exact (advanced.trans (testStrokeEnd _)).trans (updateMachineAdvance _)
  · exact refl s

theorem captureOrigin (s : State) : s.Keeps s.captureOrigin :=
  ((((mapCylinders s _).trans setThrust_same).trans (testSteer _)).trans (testStrokeEnd _)).trans (updateMachineAdvance _)

theorem recomputeTotal (s : State) : s.Keeps s.recomputeTotal := by
  unfold State.recomputeTotal
  split
  · rename_i configured
    dsimp only
    split
    · exact (setGuardFlags fun _ => .inr configured).trans setGuard
    · exact setGuard
  · exact refl s

theorem viewChanged (s : State) : s.Keeps s.viewChanged :=
  (((recomputeTotal s).trans (testSteer _)).trans (testStrokeEnd _)).trans (updateMachineAdvance _)

theorem peerDeparts {s : State} {member : Nat} (peer : member ≠ s.own) : s.Keeps (s.peerDeparts member) := by
  unfold State.peerDeparts
  dsimp only
  split
  · exact ((removeSource peer).trans (notify _ _)).trans (imposeHold _ _ _)
  · exact removeSource peer

theorem driveEntersBore (s : State) : s.Keeps s.driveEntersBore := (testDrives s).trans (imposeHold_if _ _ _)

theorem thrustEntersBore (s : State) : s.Keeps s.thrustEntersBore := (mapCylinders s _).trans (recomputeAdvance _)

theorem handEntryToBore (s : State) : s.Keeps s.handEntryToBore := by
  have whileBore : ∀ u : State, u.Keeps (u.whilePhase .bore State.thrustEntersBore) := by
    intro u
    unfold State.whilePhase
    split
    · exact thrustEntersBore u
    · exact refl u
  exact (((driveEntersBore s).trans (whileBore _)).trans (testDose _)).trans (commandScrew _)

/-! ### Phase unit -/

theorem setView (s : State) (v : List ViewEntry) : s.Keeps (s.setView v) := setMachine_same (by rfl) fun r hr => ⟨r, hr, rfl⟩

theorem updateEntry (s : State) (member : Nat) (f : ViewEntry → ViewEntry) : s.Keeps (s.updateEntry member f) := setView s _

theorem setRing (s : State) (n : Nat) : s.Keeps (s.setRing n) := setMachine_same (by rfl) fun r hr => ⟨r, hr, rfl⟩

theorem takeHoldFrame (sender : Station) (cause : HoldCause) (sent : Grade) (s : State) :
    s.Keeps (s.takeHoldFrame sender cause sent) := by
  unfold State.takeHoldFrame
  split
  · exact takeHold _ _ _ s
  · exact refl s

theorem takePropose (t : VoteTarget) (s : State) : s.Keeps (s.takePropose t) := by
  unfold State.takePropose
  split
  · exact refl s
  · rename_i configured
    split
    · exact count s _
    · have opened : s.Keeps (s.setRound (some ⟨t, Config.voteWindow, s.membersInOrder.map (fun m => (m, none))⟩)) := by
        refine setMachine (fun _ => rfl) (fun ⟨un, _⟩ => ⟨un, fun r hr => ?_⟩) id
        obtain rfl := Option.some.inj hr
        refine ⟨show s.configured = true by simpa using configured, ?_⟩
        simp only [List.map_map, Function.comp_def, List.map_id']
        rfl
      exact opened.trans (queueFrame _ _)

theorem discordCheck (peer : Nat) (b : Beacon) (s : State) : s.Keeps (s.discordCheck peer b) := by
  unfold State.discordCheck
  split
  · exact updateEntry s _ _
  · split
    · exact refl s
    · split
      · exact updateEntry s _ _
      · split
        · split
          · exact ((updateEntry s _ _).trans (notify _ _)).trans (imposeHold _ _ _)
          · exact updateEntry s _ _
        · exact refl s

theorem reconcileOne {s : State} {peer : Nat} (other : peer ≠ s.own) (r : RestraintReason) (held : Bool) :
    s.Keeps (s.reconcileOne peer r held) := by
  unfold State.reconcileOne
  split
  · exact addRestraint other r
  · exact removeRestraint other r

theorem own_eq {s t : State} (k : s.Keeps t) : t.own = s.own := k.number

theorem reconcile {s : State} {peer : Nat} (other : peer ≠ s.own) (b : Beacon) : s.Keeps (s.reconcile peer b) := by
  unfold State.reconcile
  have step : ∀ {u : State}, s.Keeps u → ∀ r held, s.Keeps (u.reconcileOne peer r held) := fun k r held =>
    k.trans (reconcileOne (by rwa [own_eq k]) r held)
  exact step (step (step (step (refl s) _ _) _ _) _ _) _ _

theorem takeMatchingBeacon {s : State} {peer : Nat} (other : peer ≠ s.own) (b : Beacon) :
    s.Keeps (s.takeMatchingBeacon peer b) := by
  unfold State.takeMatchingBeacon
  dsimp only
  have checked := (updateEntry s peer fun e => { e with
    since := some 0, strikes := if e.presence = .present then e.strikes else 0, presence := .present, last := some b }).trans
      (discordCheck peer b _)
  exact (checked.trans (reconcile (by rwa [own_eq checked]) b)).trans (viewChanged _)

theorem takeAlienBeacon {s : State} {peer : Nat} (other : peer ≠ s.own) : s.Keeps (s.takeAlienBeacon peer) := by
  unfold State.takeAlienBeacon
  split
  · exact refl s
  · rename_i old found
    have departs : ∀ u : State, u.own = s.own → u.Keeps (if old.presence = .present then u.peerDeparts peer else u) := by
      intro u same
      split
      · exact peerDeparts (by rwa [same])
      · exact refl u
    have departed := (updateEntry s peer fun e => { e with
      since := some 0, presence := .alien, last := none, strikes := 0 }).trans (departs _ rfl)
    dsimp only
    split
    · exact departed
    · exact departed.trans (viewChanged _)

theorem takeBeacon {s : State} {sender : Station} (other : sender.toNat ≠ s.own) (b : Beacon) :
    s.Keeps (s.takeBeacon sender b) := by
  unfold State.takeBeacon
  split
  · exact takeMatchingBeacon other b
  · exact takeAlienBeacon other

theorem firstMember (s : State) : s.Keeps s.firstMember := by
  unfold State.firstMember
  split
  · exact (setNode_same (s := s)).trans (captureOrigin _)
  · exact refl s

/-- A node that becomes MEMBER runs the drives it ran before. -/
theorem setNode_member (s : State) {x : NodeRecord} (number : x.number = s.node.number) (config : x.config = s.node.config)
    (state : x.state = .member) : s.Keeps (s.setNode x) :=
  setNode number config (by simp [state]) fun h d hd run => by
    obtain ⟨bore, -, unpinned⟩ := h d hd run
    exact ⟨bore, state, unpinned⟩

theorem enterMember (s : State) : s.Keeps s.enterMember :=
  ((((setNode_member s (by rfl) (by rfl) (by rfl)).trans (firstMember _)).trans (testDrives _)).trans (commandScrew _)).trans
    (testDose _)

theorem endListen (s : State) : s.Keeps s.endListen := by
  unfold State.endListen
  split
  · exact enterMember s
  · split
    · exact (setRing s _).trans (enterMember _)
    · exact (setNode_same (s := s)).trans (notify _ _)

end State.Keeps
end Sys2Proof.Machine
end

section
/-! PROOFS. The properties kept, by the thrust unit, the drives with the guard, and the plan store's services. -/

-- In one thread: each proof that waits for those before it would keep a thread of its own.
set_option Elab.async false

namespace Sys2Proof.Machine
namespace State.Keeps

/-! ### Thrust unit -/

theorem takeRestrain {s : State} {sender : Station} (other : sender.toNat ≠ s.own) (payload : List Byte) :
    s.Keeps (s.takeRestrain sender payload) := by
  unfold State.takeRestrain
  split
  · split
    · exact addRestraint other _
    · exact refl s
  · exact refl s

theorem takeRelease {s : State} {sender : Station} (other : sender.toNat ≠ s.own) (payload : List Byte) :
    s.Keeps (s.takeRelease sender payload) := by
  unfold State.takeRelease
  split
  · split
    · exact removeRestraint other _
    · exact refl s
  · exact refl s

theorem setZone (s : State) (z : Option ZoneRequest) : s.Keeps (s.setZone z) := setThrust_same

theorem queueAnswer (z : ZoneRequest) (s : State) : s.Keeps (s.queueAnswer z) := by
  unfold State.queueAnswer
  split
  · exact queueFrame s _
  · exact queueFrame s _

theorem testZone (s : State) : s.Keeps s.testZone := by
  unfold State.testZone
  split
  · exact refl s
  · dsimp only
    split
    · exact (setZone s _).trans (queueFrame _ _)
    · split
      · exact (setZone s _).trans (queueAnswer _ _)
      · exact refl s

theorem clearZone (z : ZoneRequest) (s : State) : s.Keeps (s.clearZone z) := by
  unfold State.clearZone
  dsimp only
  split
  · exact (setZone s _).trans (queueFrame _ _)
  · split
    · exact (setZone s _).trans (queueFrame _ _)
    · exact (((setZone s _).trans (mapCylinders _ _)).trans (setZone _ _)).trans (testZone _)

theorem seatZone (z : ZoneRequest) (s : State) : s.Keeps (s.seatZone z) := by
  unfold State.seatZone
  dsimp only
  split
  · exact (setZone s _).trans (queueFrame _ _)
  · exact (((setZone s _).trans (mapCylinders _ _)).trans (setZone _ _)).trans (testZone _)

theorem takeZoneClear (sender : Nat) (payload : List Byte) (s : State) : s.Keeps (s.takeZoneClear sender payload) := by
  unfold State.takeZoneClear
  split
  · split
    · exact clearZone _ s
    · exact refl s
  · exact refl s

theorem takeZoneSeat (sender : Nat) (payload : List Byte) (s : State) : s.Keeps (s.takeZoneSeat sender payload) := by
  unfold State.takeZoneSeat
  split
  · split
    · exact seatZone _ s
    · exact refl s
  · exact refl s

theorem takeSetpoint (payload : List Byte) (s : State) : s.Keeps (s.takeSetpoint payload) := by
  have advance : ∀ v, s.Keeps (s.takeAdvanceSetpoint v) := by
    intro v
    unfold State.takeAdvanceSetpoint
    split
    · exact setThrust_same
    · exact refl s
  have cutter : ∀ (u : State) v, u.Keeps (u.takeCutterSetpoint v) := by
    intro u v
    unfold State.takeCutterSetpoint
    split
    · exact setDrive id
    · exact refl u
  unfold State.takeSetpoint
  split
  · split
    · exact (advance _).trans (cutter _ _)
    · exact refl s
  · exact refl s

theorem cylinderFault (n : Nat) (old : CylState) (s : State) : s.Keeps (s.cylinderFault n old) := by
  unfold State.cylinderFault
  split
  · exact refl s
  · exact (((updateCylinder s n _).trans (notify _ _)).trans (imposeHold_if _ _ _)).trans (recomputeAdvance _)

theorem testZone_if (c : Prop) [Decidable c] (s : State) : s.Keeps (if c then s.testZone else s) := by
  split
  · exact testZone s
  · exact refl s

theorem keepCylReport (n : Nat) (r : CylReport) (s : State) : s.Keeps (s.keepCylReport n r) := by
  unfold State.keepCylReport
  split
  · exact refl s
  · exact setChannels s _

theorem takeCylReport (n : Nat) (r : CylReport) (s : State) : s.Keeps (s.takeCylReport n r) := by
  unfold State.takeCylReport
  dsimp only
  refine (keepCylReport n r s).trans ?_
  split
  · exact refl _
  · refine ((updateCylinder _ n fun c => { c with stroke := r.stroke, pressure := r.pressure, fault := r.fault }).trans
      ?_).trans (testZone_if _ _)
    split
    · exact cylinderFault _ _ _
    · exact (updateCylinder _ n _).trans (recomputeAdvance _)

/-! ### Drive unit -/

theorem driveFault (n : Nat) (old : DriveState) (s : State) : s.Keeps (s.driveFault n old) := by
  unfold State.driveFault
  split
  · exact refl s
  · exact (updateDrive s n (f := fun d => { d with state := .tripped }) (fun _ => rfl) (by simp)).trans (imposeHold_if _ _ _)

/-- A report moves no drive to a state in which it runs, but for one that runs already (R83). -/
theorem driveMoves_runs (d : Drive) (h : (State.driveMoves d).state = .starting ∨ (State.driveMoves d).state = .running) :
    d.state = .starting ∨ d.state = .running := by
  unfold State.driveMoves at h
  split at h
  case h_1 starting => exact .inl starting
  case h_2 stopping =>
    split at h
    · simp at h
    · exact h
  all_goals exact h

theorem driveMoves_number (d : Drive) : (State.driveMoves d).number = d.number := by
  unfold State.driveMoves
  repeat' split
  all_goals rfl

theorem keepDriveReport (n : Nat) (r : DriveReport) (s : State) : s.Keeps (s.keepDriveReport n r) := by
  unfold State.keepDriveReport
  split
  · exact refl s
  · exact setChannels s _

theorem takeDriveReport (n : Nat) (r : DriveReport) (s : State) : s.Keeps (s.takeDriveReport n r) := by
  unfold State.takeDriveReport
  dsimp only
  refine (keepDriveReport n r s).trans ?_
  split
  · exact refl _
  · refine (updateDrive _ n (f := fun d => { d with speed := r.speed, torque := r.torque, fault := r.fault })
      (fun _ => rfl) fun d h => .inl h).trans ?_
    split
    · exact driveFault _ _ _
    · exact (updateDrive _ n driveMoves_number fun d h => .inl (driveMoves_runs d h)).trans (recomputeTotal _)

/-- A service a configured node takes. -/
theorem configuredOnly {service : Service} {take : State.ServiceTake} {station : Station} {addressed : Bool}
    {args : List Byte} {s : State} (h : s.configured = true → s.Keeps (take station addressed args s)) :
    s.Keeps (State.configuredOnly service take station addressed args s) := by
  unfold State.configuredOnly
  split
  · exact h ‹_›
  · exact answer s _ _ _ _

section
variable (station : Station) (addressed : Bool) (args : List Byte) (s : State)

theorem serveGuardOn : s.Keeps (s |> State.serveGuardOn station addressed args) :=
  configuredOnly fun configured => by
    split
    · exact (setGuardFlags fun _ => .inr configured).trans (answer _ _ _ _ _)
    · exact answer s _ _ _ _

theorem serveGuardOff : s.Keeps (s |> State.serveGuardOff station addressed args) :=
  configuredOnly fun configured => by
    split
    · exact (setGuardFlags fun _ => .inr configured).trans (answer _ _ _ _ _)
    · exact answer s _ _ _ _

theorem serveGuardLevel : s.Keeps (s |> State.serveGuardLevel station addressed args) :=
  configuredOnly fun _ => by
    dsimp only
    split
    · split
      · exact (setGuard (s := s)).trans (answer _ _ _ _ _)
      · exact answer s _ _ _ _
    · exact answer s _ _ _ _

theorem serveGuardProbe : s.Keeps (s |> State.serveGuardProbe station addressed args) :=
  configuredOnly fun _ => by
    split
    · exact answer s _ _ _ _
    · split
      · exact answer s _ _ _ _
      · exact (startProbe s).trans (answer _ _ _ _ _)

theorem serveGuardReset : s.Keeps (s |> State.serveGuardReset station addressed args) :=
  configuredOnly fun _ => by
    dsimp only
    split
    · exact answer s _ _ _ _
    · split
      · exact (setGuard (s := s)).trans (answer _ _ _ _ _)
      · exact answer s _ _ _ _

end

theorem takeStall (mean : Nat) (s : State) : s.Keeps (s.takeStall mean) := by
  unfold State.takeStall
  split
  · exact setGuard
  · split
    · exact setGuard
    · exact (setGuard (s := s)).trans (imposeHold _ _ _)

theorem endProbe (p : Probe) (s : State) : s.Keeps (s.endProbe p) := by
  have ends : ∀ (u : State) (isOver : Bool), u.Keeps (if (!isOver && u.drive.guard.latch) = true
      then u.setGuardFlags u.drive.guard.manual false else u) := by
    intro u isOver
    split
    · exact setGuardFlags fun h => .inl (by
        rw [Bool.or_false] at h
        simp [Guard.mode, h])
    · exact refl u
  exact (((setGuard (s := s)).trans (notify _ _)).trans (takeStall _ _)).trans (ends _ _)

/-! ### Plan services -/

theorem planService {service : Service} {take : Station → List Byte → State → State} {station : Station}
    {addressed : Bool} {args : List Byte} {s : State} (h : s.Keeps (take station args s)) :
    s.Keeps (State.planService service take station addressed args s) := by
  unfold State.planService
  split
  · exact refl s
  · split
    · exact h
    · exact answer s _ _ _ _

theorem planServiceBare {service : Service} {take : Station → State → State} {station : Station} {addressed : Bool}
    {args : List Byte} {s : State} (h : s.Keeps (take station s)) :
    s.Keeps (State.planServiceBare service take station addressed args s) :=
  planService (by
    split
    · exact h
    · exact answer s _ _ _ _)

theorem discardOpenPlan (s : State) : s.Keeps s.discardOpenPlan :=
  setPlans_fewer le_rfl (by simp) (by simp [State.stepsHeld])

theorem stopEngine (s : State) : s.Keeps s.stopEngine := by
  unfold State.stopEngine
  split
  case h_1 => exact refl s
  case h_2 h | h_3 h => exact setEngine_moves (by simp [HoldsStep, h]) rfl
  case h_4 | h_5 => exact dropStep s
  all_goals exact setEngine_same

theorem closePlan {s : State} {p : Plan} (opened : s.plans.opened = some p) (n : Nat) : s.Keeps (s.closePlan p n) := by
  have closed : s.Keeps (s.setPlans { closed := s.plans.closed ++ [{ p with closedCount := some n }], opened := none }) :=
    setPlans fun ⟨_, three, forty⟩ => by
      have := three (by simp [opened])
      refine ⟨by simp; omega, by simp, ?_⟩
      simpa [State.stepsHeld, opened] using forty
  unfold State.closePlan
  dsimp only
  split
  · exact closed.trans (takeHeadStep _)
  · exact closed

section
variable (station : Station) (addressed : Bool) (args : List Byte) (s : State)

theorem servePlanOpen : s.Keeps (s |> State.servePlanOpen station addressed args) :=
  planService (by
    dsimp only
    split
    · split
      · exact answer s _ _ _ _
      · split
        · split <;> exact answer s _ _ _ _
        · rename_i closed
          split
          · exact answer s _ _ _ _
          · rename_i room
            refine (setPlans fun ⟨four, _, forty⟩ => ⟨four, fun _ => ?_, ?_⟩).trans (answer _ _ _ _ _)
            · simp only [not_or, not_le] at room
              exact Nat.le_of_lt_succ room.2
            · simpa [State.stepsHeld, closed] using forty
    · exact answer s _ _ _ _)

theorem servePlanStep : s.Keeps (s |> State.servePlanStep station addressed args) :=
  planService (by
    dsimp only
    split
    · exact answer s _ _ _ _
    · split
      · exact answer s _ _ _ _
      · rename_i p opened
        split
        · exact answer s _ _ _ _
        · split
          · exact answer s _ _ _ _
          · split
            · exact (discardOpenPlan s).trans (answer _ _ _ _ _)
            · split
              · exact ((discardOpenPlan s).trans (count _ _)).trans (answer _ _ _ _ _)
              · rename_i room
                refine (setPlans fun ⟨four, three, _⟩ => ⟨four, fun _ => three (by simp [opened]), ?_⟩).trans
                  (answer _ _ _ _ _)
                simp only [State.stepsHeld, opened] at room ⊢
                simp
                omega)

theorem servePlanClose : s.Keeps (s |> State.servePlanClose station addressed args) :=
  planService (by
    split
    · exact answer s _ _ _ _
    · split
      · exact answer s _ _ _ _
      · rename_i p opened
        split
        · exact answer s _ _ _ _
        · split
          · split
            · exact (closePlan opened _).trans (answer _ _ _ _ _)
            · exact (discardOpenPlan s).trans (answer _ _ _ _ _)
          · exact (discardOpenPlan s).trans (answer _ _ _ _ _))

theorem servePlanAbort : s.Keeps (s |> State.servePlanAbort station addressed args) :=
  planServiceBare ((discardOpenPlan s).trans (answer _ _ _ _ _))

theorem servePlanStop : s.Keeps (s |> State.servePlanStop station addressed args) :=
  planServiceBare ((stopEngine s).trans (answer _ _ _ _ _))

theorem servePlanFlush : s.Keeps (s |> State.servePlanFlush station addressed args) :=
  planServiceBare (by
    split
    · exact (setPlans_fewer (by simp) (by simp) (by simp [State.stepsHeld])).trans (answer _ _ _ _ _)
    · exact answer s _ _ _ _)

theorem servePlanEnable : s.Keeps (s |> State.servePlanEnable station addressed args) :=
  planServiceBare (by
    dsimp only
    split
    case h_1 h =>
      exact ((setEngine_moves (by simp [HoldsStep, h]) (by rfl)).trans (takeHeadStep _)).trans (answer _ _ _ _ _)
    case h_3 | h_4 | h_5 =>
      split
      · exact (setEngine_same (s := s)).trans (answer _ _ _ _ _)
      · exact answer s _ _ _ _
    all_goals exact answer s _ _ _ _)

theorem servePlanResume : s.Keeps (s |> State.servePlanResume station addressed args) :=
  planServiceBare (by
    split
    · rename_i stalled
      refine Keeps.trans ?_ (answer _ _ _ _ _)
      unfold State.resumeEngine
      split
      · exact resumeStage s
      · exact setEngine_moves (by simp [HoldsStep, stalled]) rfl
    · exact answer s _ _ _ _)

end

end State.Keeps
end Sys2Proof.Machine
end

section
/-! PROOFS. The properties kept, by ring building and the grout unit (Chapters 7 and 8). -/

-- In one thread: each proof that waits for those before it would keep a thread of its own.
set_option Elab.async false

namespace Sys2Proof.Machine
namespace State.Keeps

/-! ### Ring building -/

theorem enterPlacing {s : State} (clearing : s.engine.state = .clearing) : s.Keeps s.enterPlacing :=
  ((setEngine_moves (by simp [HoldsStep, clearing]) (by rfl)).trans (commandPlace _)).trans setEngine_same

/-- An update of the engine and what follows it, taken as one: only the state at the end need hold its step. -/
theorem setEngine_then {s u : State} {x : Engine} (k : (s.setEngine x).Keeps u) (held : u.StepHeldByState) : s.Keeps u :=
  ⟨⟨⟨k.pending, k.number, k.config, k.hold, k.rounds, fun _ => held, k.store, k.grout, k.train⟩, k.drives⟩, k.ordered, k.own⟩

theorem heldByState_of_none {s : State} (seated : s.engine.seated = none) (state : ¬HoldsStep s.engine.state) :
    s.StepHeldByState := by
  simp only [State.StepHeldByState, seated]
  exact ⟨by simp, fun h => absurd h state⟩

/-- A step done leaves no step held (R127). -/
theorem afterStep {s : State} (seated : s.engine.seated = none) : s.Keeps s.afterStep ∧ s.afterStep.StepHeldByState := by
  have free : ¬HoldsStep (if s.engine.stopping then EngineState.disabled else .idle) := by split <;> simp [HoldsStep]
  exact ⟨setEngine_dropped free seated, heldByState_of_none seated free⟩

theorem closeRing (s : State) : s.Keeps s.closeRing := (setEngine_same (s := s)).trans (queueFrame _ _)

theorem stepDone (p : Plan) (st : PlanStep) (s : State) : s.Keeps (s.stepDone p st) := by
  unfold State.stepDone
  refine (popHeadStep s).trans ?_
  dsimp only
  generalize s.popHeadStep = u
  split
  · obtain ⟨keeps, held⟩ := afterStep
      (s := u.setEngine { u.engine with seated := none, zoneMembers := [], answered := [], limit := none }) rfl
    exact (setEngine_then keeps held).trans (takeHeadStep _)
  · split
    · have closed := closeRing
        (u.setEngine { u.engine with seated := none, zoneMembers := [], answered := [], limit := none })
      obtain ⟨keeps, held⟩ := afterStep (s := (u.setEngine
        { u.engine with seated := none, zoneMembers := [], answered := [], limit := none }).closeRing) (by simp)
      exact setEngine_then (closed.trans keeps) held
    · exact (setEngine_dropped (s := u) (x := { u.engine with
        state := .faulted, seated := none, zoneMembers := [], answered := [], limit := none
        fault := some ⟨.incomplete, p.identifier, st.index, st.position⟩ }) (by simp [HoldsStep]) rfl).trans
          ((notify _ .planFault).trans setEngine_same)

theorem countAnswer (sender : Nat) (s : State) : s.Keeps (s.countAnswer sender) := by
  unfold State.countAnswer
  have counted := setEngine_same (s := s) (x := { s.engine with answered := insertNumber sender s.engine.answered })
  dsimp only
  split
  · refine counted.trans ?_
    split
    · exact enterPlacing ‹_›
    · exact stepDone _ _ _
    · exact refl _
  · exact counted

theorem takeZoneAnswer (stage : EngineState) (sender : Nat) (payload : List Byte) (s : State) :
    s.Keeps (s.takeZoneAnswer stage sender payload) := by
  unfold State.takeZoneAnswer
  split
  · split
    · exact countAnswer _ s
    · exact refl s
  · exact refl s

theorem stallEngine {s : State} (holds : HoldsStep s.engine.state) (sender : Nat) (reason : ZoneRefusal) (position : Nat)
    (kind : ZoneKind) : s.Keeps (s.stallEngine sender reason position kind) := by
  have stalled := (setEngine_moves (s := s) (x := { s.engine with
    state := .stalled, limit := none
    lastRefusal := some ⟨sender, reason, position, kind, s.engine.attempt⟩
    zoneRefusals := s.engine.zoneRefusals + 1 }) ⟨fun _ => holds, fun _ => by simp [HoldsStep]⟩ rfl).trans
      (notify _ .zoneRefused)
  unfold State.stallEngine
  dsimp only
  split
  · exact stalled.trans (dropStep _)
  · exact stalled

theorem takeZoneRefused (sender : Nat) (payload : List Byte) (s : State) : s.Keeps (s.takeZoneRefused sender payload) := by
  unfold State.takeZoneRefused
  split
  · split
    · split
      case h_1 h | h_2 h => exact stallEngine (by simp [HoldsStep, h]) _ _ _ _
      all_goals exact refl s
    · exact refl s
  · exact refl s

theorem takeSeated (s : State) : s.Keeps s.takeSeated := by
  unfold State.takeSeated
  split
  · refine (setEngine_same (s := s) (x := { s.engine with erector := .ready })).trans ?_
    dsimp only
    split
    · rename_i placing current
      refine (setEngine fun _ => ?_).trans (issueStage _ _)
      have : s.engine.state = .placing := placing
      simp [State.StepHeldByState, State.erectorReady, this]
    · exact refl _
  · exact refl s

theorem failPlacement (s : State) : s.Keeps s.failPlacement := by
  unfold State.failPlacement
  split
  · exact ((setEngine_same (s := s)).trans (count _ _)).trans (commandPlace _)
  · exact imposeHold _ _ _

theorem takeSeatFail (s : State) : s.Keeps s.takeSeatFail := by
  unfold State.takeSeatFail
  have ready := setEngine_same (s := s) (x := { s.engine with erector := .ready })
  split
  · dsimp only
    split
    · exact ready.trans (failPlacement _)
    · exact ready
  · exact refl s

theorem takeFault_if (c : Prop) [Decidable c] (cause : FaultCause) (s : State) :
    s.Keeps (if c then s.takeFault cause else s) := by
  split
  · exact takeFault cause s
  · exact refl s

theorem takeErectorIndication (present : Bool) (s : State) : s.Keeps (s.takeErectorIndication present) :=
  (setChannels s _).trans (takeFault_if _ _ _)

theorem carryOver (s : State) : s.Keeps s.carryOver := by
  refine setGrout fun ⟨dosing, nodup, ports, dose⟩ => ⟨dosing, ?_, fun p hp => ?_, fun d hd p hp port => ?_⟩
  · simpa [Function.comp_def] using nodup
  · obtain ⟨q, hq, rfl⟩ := List.mem_map.mp hp
    obtain ⟨within, capped⟩ := ports q hq
    dsimp only [Port.gap]
    omega
  · obtain ⟨q, hq, rfl⟩ := List.mem_map.mp hp
    have due := dose d hd q hq port
    change 0 + (s.cfg.doseStrokes - d.credited) * s.cfg.strokeVolume ≤ q.owed - q.delivered
    omega

theorem closeTallies (s : State) : s.Keeps s.closeTallies := by
  unfold State.closeTallies
  split
  · exact setMuck_same
  · exact refl s

theorem closeAccounts (n : Nat) (s : State) : s.Keeps (s.closeAccounts n) :=
  (((((setConsole s _).trans (carryOver _)).trans (closeTallies _)).trans setGuard).trans (captureOrigin _)).trans (setRing _ _)

theorem ownerCloses (s : State) : s.Keeps s.ownerCloses := ((setConsole s _).trans setEngine_same).trans (imposeHold _ _ _)

theorem takeRingClosed (sender : Nat) (payload : List Byte) (s : State) : s.Keeps (s.takeRingClosed sender payload) := by
  unfold State.takeRingClosed
  split
  · split
    · dsimp only
      split
      · exact (closeAccounts _ s).trans (ownerCloses _)
      · exact closeAccounts _ s
    · exact refl s
  · exact refl s

theorem ownerRingSet (s : State) : s.Keeps s.ownerRingSet := by
  have dropped : s.Keeps (if s.engine.state = .suspended ∨ s.engine.state = .stalled then s.dropStep else s) := by
    split
    · exact dropStep s
    · exact refl s
  exact (dropped.trans setEngine_same).trans (takeHeadStep _)

theorem takeRingSet (payload : List Byte) (s : State) : s.Keeps (s.takeRingSet payload) := by
  unfold State.takeRingSet
  split
  · split
    · dsimp only
      split
      · exact (setRing s _).trans (ownerRingSet _)
      · exact setRing s _
    · exact refl s
  · exact refl s

/-! ### Grout unit -/

theorem completeDose (n : Nat) (s : State) : s.Keeps (s.completeDose n) :=
  ((endDose _ s).trans (updatePort _ n)).trans (count _ _)

/-- A stroke credited to a dose that waits for it was owed to the dose's port (R151). -/
theorem creditStroke {s : State} {d : Dose} (last : s.grout.dose = some d) (waits : d.credited < s.cfg.doseStrokes) :
    s.Keeps (s.creditStroke d) := by
  have credited : s.Keeps ((s.setDose (some { d with credited := d.credited + 1 })).updatePort d.port
      fun p => { p with delivered := p.delivered + s.cfg.strokeVolume }) := by
    refine setGrout (s := s) (x := { s.grout with
      dose := some { d with credited := d.credited + 1 }
      ports := s.grout.ports.map fun p =>
        if p.number = d.port then { p with delivered := p.delivered + s.cfg.strokeVolume } else p })
      fun ⟨dosing, nodup, ports, dose⟩ => ⟨?_, ?_, fun p hp => ?_, fun d' hd' p hp port => ?_⟩
    · simpa [State.DosingIffInFlight, State.doseInFlight, last] using dosing
    · have same : ∀ p : Port, (if p.number = d.port then { p with delivered := p.delivered + s.cfg.strokeVolume }
          else p).number = p.number := fun p => by split <;> rfl
      simpa [Function.comp_def, same] using nodup
    · obtain ⟨q, hq, rfl⟩ := List.mem_map.mp hp
      split
      · rename_i port
        have due := dose d last q hq port
        have more : s.cfg.strokeVolume ≤ (s.cfg.doseStrokes - d.credited) * s.cfg.strokeVolume :=
          Nat.le_mul_of_pos_left _ (by omega)
        exact ⟨by dsimp only; omega, (ports q hq).2⟩
      · exact ports q hq
    · obtain rfl := Option.some.inj hd'
      obtain ⟨q, hq, rfl⟩ := List.mem_map.mp hp
      have number : q.number = d.port := by
        split at port
        · assumption
        · exact port
      have due := dose d last q hq number
      rw [if_pos number]
      change q.delivered + s.cfg.strokeVolume + (s.cfg.doseStrokes - (d.credited + 1)) * s.cfg.strokeVolume ≤ q.owed
      have split : (s.cfg.doseStrokes - d.credited) * s.cfg.strokeVolume
          = s.cfg.strokeVolume + (s.cfg.doseStrokes - (d.credited + 1)) * s.cfg.strokeVolume := by
        rw [show s.cfg.doseStrokes - d.credited = s.cfg.doseStrokes - (d.credited + 1) + 1 by omega, Nat.add_mul]
        omega
      omega
  exact credited.trans (testGrout _)

theorem takeStroke (s : State) : s.Keeps s.takeStroke := by
  unfold State.takeStroke
  split
  · rename_i d last
    split
    · rename_i waits
      dsimp only
      split
      · exact (creditStroke last waits).trans (completeDose _ _)
      · exact creditStroke last waits
    · exact refl s
  · exact refl s

theorem cutDose (n : Nat) (s : State) : s.Keeps (s.cutDose n) := by
  have cut := ((endDose .cut s).trans (updatePort _ n (f := fun p => { p with cuts := p.cuts + 1 }))).trans (count _ fun c => { c with cuts := c.cuts + 1 })
  unfold State.cutDose
  dsimp only
  split
  · split
    · exact (cut.trans (updatePort _ n)).trans (notify _ _)
    · exact cut
  · exact cut

theorem takeLinePressure (kPa : Half) (s : State) : s.Keeps (s.takeLinePressure kPa) := by
  unfold State.takeLinePressure
  dsimp only
  refine (setChannels s { s.channels with linePressure := some kPa }).trans ?_
  split
  · split
    · exact cutDose _ _
    · exact refl _
  · exact refl _

theorem takeAtRest (atRest : Bool) (s : State) : s.Keeps (s.takeAtRest atRest) := by
  have tested : ∀ u : State, u.Keeps (if atRest then u.testDose else u) := by
    intro u
    split
    · exact testDose u
    · exact refl u
  exact (setChannels s _).trans (tested _)

theorem doseLimitReached (s : State) : s.Keeps s.doseLimitReached := (endDose _ s).trans (takeFault _ _)

section
variable (station : Station) (addressed : Bool) (args : List Byte) (s : State)

theorem serveUnblock : s.Keeps (s |> State.serveUnblock station addressed args) :=
  configuredOnly fun _ => by
    split
    · exact answer s _ _ _ _
    · split
      · split
        · exact answer s _ _ _ _
        · exact ((updatePort s _).trans (testDose _)).trans (answer _ _ _ _ _)
      · exact answer s _ _ _ _

end

end State.Keeps
end Sys2Proof.Machine
end

section
/-! PROOFS. The properties kept, by the muck unit (Chapter 9). -/

-- In one thread: each proof that waits for those before it would keep a thread of its own.
set_option Elab.async false

namespace Sys2Proof.Machine
namespace State.Keeps

theorem configured_of_ownsMuck {s : State} (h : s.ownsMuck = true) : s.configured = true := by
  simp only [State.ownsMuck, Bool.and_eq_true] at h
  exact h.1

theorem configured_eq {s t : State} (k : s.Keeps t) : t.configured = s.configured := by
  simp [State.configured, k.config]

/-! ### Muck unit -/

theorem takeScrewReport (fault : Bool) (s : State) : s.Keeps (s.takeScrewReport fault) :=
  (setChannels s _).trans (takeFault_if _ _ _)

theorem testFaceLow (kPa : Half) (s : State) : s.Keeps (s.testFaceLow kPa) := by
  unfold State.testFaceLow
  split
  · exact (setMuck_same (s := s)).trans (imposeHold _ _ _)
  · split
    · exact setMuck_same
    · exact refl s

theorem testFace {s : State} (configured : s.configured = true) : s.Keeps s.testFace := by
  unfold State.testFace
  split
  · exact (testFaceHigh _ configured).trans (testFaceLow _ _)
  · exact refl s

theorem takeFacePressure (kPa : Half) (s : State) : s.Keeps (s.takeFacePressure kPa) := by
  have kept := setChannels s { s.channels with face := some kPa }
  unfold State.takeFacePressure
  dsimp only
  split
  · rename_i owner
    exact kept.trans (testFace (configured_of_ownsMuck owner))
  · exact kept

theorem credit_le (s : State) (m : Nat) {c : Car} {rest : List Car} (queue : s.muck.queue = c :: rest)
    (fits : c.fill ≤ c.capacity) : c.fill + s.credit m ≤ c.capacity := by
  simp only [State.credit, queue]
  omega

/-- The train queue once the head car has taken its credit and is DUE from 95 percent on (R173, R174). -/
theorem trainOrdered_filled {s t : State} {c : Car} {rest : List Car} (queue : s.muck.queue = c :: rest) {fill : Nat}
    (fits : fill ≤ c.capacity) (filled : t.muck.queue = { c with
      fill := fill, state := if c.capacity * 95 ≤ fill * 100 then .due else .filling } :: rest) (h : s.TrainOrdered) :
    t.TrainOrdered := by
  obtain ⟨length, nodup, ranges, -, behind⟩ := h
  rw [queue] at length nodup ranges behind
  obtain ⟨one, byte, least, most, -⟩ := ranges c (by simp)
  refine ⟨by rw [filled]; exact length, by rw [filled]; exact nodup, ?_, ?_, by rw [filled]; exact behind⟩
  · rw [filled]
    intro d hd
    rcases List.mem_cons.mp hd with rfl | hd
    · exact ⟨one, byte, least, most, fits⟩
    · exact ranges d (by simp [hd])
  · rw [filled]
    rintro d hd
    obtain rfl := Option.some.inj hd
    rfl

/-- The head car of a queue in order is DUE already where R174 would make it so. -/
theorem testDue (s : State) : s.Keeps s.testDue := by
  unfold State.testDue
  split
  · rename_i c rest queue
    split
    · rename_i due
      refine (setMuck fun h => ?_).trans (notify _ _)
      have state := h.2.2.2.1 c (by simp [queue])
      rw [if_pos due.2, due.1] at state
      exact nomatch state
    · exact refl s
  · exact refl s

/-- An update of the muck unit and what follows it, taken as one: only the queue at the end need be in order. -/
theorem setMuck_then {s u : State} {x : MuckUnit} (k : (s.setMuck x).Keeps u) (train : s.TrainOrdered → u.TrainOrdered)
    (muck : x.muckRestrained = s.muck.muckRestrained := by rfl)
    (face : x.faceRestrained = s.muck.faceRestrained := by rfl) : s.Keeps u :=
  have same : ∀ r, (s.setMuck x).unitRestrains r = s.unitRestrains r := fun r => by
    cases r <;> simp [State.unitRestrains, muck, face]
  ⟨⟨⟨k.pending, k.number, k.config, k.hold, k.rounds, k.held, k.store, k.grout, train⟩, k.drives⟩, k.ordered,
    fun ⟨h, no, un⟩ => k.own ⟨fun r => (h r).trans (same r).symm, fun c r => (same r).trans (no c r), un⟩⟩

theorem testDue_queue {s : State} {c : Car} {rest : List Car} (queue : s.muck.queue = c :: rest) :
    s.testDue.muck.queue = { c with
      state := if c.state = .filling ∧ c.capacity * 95 ≤ c.fill * 100 then .due else c.state } :: rest := by
  unfold State.testDue
  rw [queue]
  dsimp only
  split
  · simp
  · exact queue

theorem weigh_testDue (m : Nat) (s : State) : s.Keeps (s.weigh m).testDue := by
  refine (setFreeIndex s (s.freeIndex + 4)).trans (setMuck_then (testDue _) fun h => ?_)
  replace h : s.TrainOrdered := h
  cases queue : s.muck.queue with
  | nil =>
    have same : (s.weigh m).testDue.muck.queue = s.muck.queue := by
      have empty : (s.weigh m).muck.queue = [] := by simp [State.weigh, queue, State.fillHead]
      unfold State.testDue
      rw [empty]
      exact empty.trans queue.symm
    simpa [State.TrainOrdered, same] using h
  | cons c rest =>
    have filled : (s.weigh m).muck.queue = { c with fill := c.fill + s.credit m } :: rest := by
      simp [State.weigh, queue, State.fillHead]
    have fits : c.fill + s.credit m ≤ c.capacity := credit_le s m queue (h.2.2.1 c (by simp [queue])).2.2.2.2
    have state := h.2.2.2.1 c (by simp [queue])
    refine trainOrdered_filled queue fits ((testDue_queue filled).trans ?_) h
    congr 2
    dsimp only
    by_cases due : c.capacity * 95 ≤ c.fill * 100
    · rw [if_pos due] at state
      have still : c.capacity * 95 ≤ (c.fill + s.credit m) * 100 := by omega
      simp [state, still]
    · rw [if_neg due] at state
      simp [state]

theorem takeIncrement (m : Nat) (s : State) : s.Keeps (s.takeIncrement m) := by
  unfold State.takeIncrement
  split
  · rename_i takes
    have weighed := weigh_testDue m s
    have configured := (configured_eq weighed).trans (configured_of_ownsMuck takes.1)
    exact ((weighed.trans (testMuck configured)).trans (imposeHold_if _ _ _)).trans (evaluateOverdig _)
  · exact refl s

theorem muckService {service : Service} {take : Station → List Byte → State → State} {station : Station}
    {addressed : Bool} {args : List Byte} {s : State} (h : s.configured = true → s.Keeps (take station args s)) :
    s.Keeps (State.muckService service take station addressed args s) := by
  unfold State.muckService
  split
  · exact refl s
  · split
    · rename_i owner
      exact h (configured_of_ownsMuck owner)
    · exact answer s _ _ _ _

/-- New cars of a train that passed the checks of R171. -/
theorem appendCars {s : State} {capacity : Nat} {numbers : List Nat} (range : 1000 ≤ capacity ∧ capacity ≤ 60000)
    (bytes : ∀ n ∈ numbers, 1 ≤ n ∧ n ≤ 255) (fresh : s.carsRepeat numbers = false)
    (room : s.muck.queue.length + numbers.length ≤ 16) :
    s.Keeps (s.appendCars (numbers.map fun n => ⟨n, capacity, 0, .queued⟩)) := by
  have distinct : numbers.Nodup ∧ ∀ n ∈ numbers, ∀ c ∈ s.muck.queue, c.number ≠ n := by
    simpa [State.carsRepeat] using fresh
  obtain ⟨distinct, others⟩ := distinct
  unfold State.appendCars
  split
  · rename_i empty
    refine setMuck fun _ => ?_
    cases numbers with
    | nil => simp [State.TrainOrdered, State.headFilling]
    | cons n rest =>
      have mem : ∀ c ∈ (⟨n, capacity, 0, .filling⟩ : Car) :: rest.map (fun n => ⟨n, capacity, 0, .queued⟩),
          1 ≤ c.number ∧ c.number ≤ 255 ∧ 1000 ≤ c.capacity ∧ c.capacity ≤ 60000 ∧ c.fill ≤ c.capacity := by
        intro c hc
        rcases List.mem_cons.mp hc with rfl | hc
        · exact ⟨(bytes n (by simp)).1, (bytes n (by simp)).2, range.1, range.2, Nat.zero_le _⟩
        · obtain ⟨k, hk, rfl⟩ := List.mem_map.mp hc
          exact ⟨(bytes k (by simp [hk])).1, (bytes k (by simp [hk])).2, range.1, range.2, Nat.zero_le _⟩
      refine ⟨?_, ?_, mem, ?_, ?_⟩
      · simp [State.headFilling] at room ⊢
        omega
      · simpa [State.headFilling, Function.comp_def] using distinct
      · rintro c hc
        obtain rfl := Option.some.inj hc
        rw [if_neg]
        simp only [not_le]
        omega
      · intro c hc
        obtain ⟨k, hk, rfl⟩ := List.mem_map.mp hc
        exact ⟨rfl, rfl⟩
  · rename_i nonempty
    obtain ⟨c, rest, queue⟩ := List.exists_cons_of_ne_nil (show s.muck.queue ≠ [] by simpa using nonempty)
    refine setMuck fun ⟨_, nodup, ranges, head, behind⟩ => ⟨?_, ?_, ?_, ?_, ?_⟩
    · simpa using room
    · simp only [State.setMuck_muck, List.map_append, List.map_map, Function.comp_def, List.map_id']
      refine List.nodup_append.mpr ⟨nodup, distinct, fun a ha b hb => ?_⟩
      obtain ⟨c, hc, rfl⟩ := List.mem_map.mp ha
      exact others b hb c hc
    · intro c hc
      rcases List.mem_append.mp hc with hc | hc
      · exact ranges c hc
      · obtain ⟨k, hk, rfl⟩ := List.mem_map.mp hc
        exact ⟨(bytes k hk).1, (bytes k hk).2, range.1, range.2, Nat.zero_le _⟩
    · simpa [queue] using head
    · intro d hd
      simp only [State.setMuck_muck, queue, List.cons_append, List.drop_one, List.tail_cons] at hd
      rcases List.mem_append.mp hd with hd | hd
      · exact behind d (by simpa [queue] using hd)
      · obtain ⟨k, hk, rfl⟩ := List.mem_map.mp hd
        exact ⟨rfl, rfl⟩

theorem indexHead {s : State} {c : Car} {rest : List Car} (queue : s.muck.queue = c :: rest) (n : Nat) :
    s.Keeps (s.indexHead n rest) := by
  refine setMuck fun ⟨length, nodup, ranges, _, behind⟩ => ?_
  rw [queue] at length nodup ranges behind
  cases rest with
  | nil => simp [State.TrainOrdered, State.headFilling]
  | cons d more =>
    obtain ⟨-, empty⟩ := behind d (by simp)
    refine ⟨?_, ?_, ?_, ?_, ?_⟩
    · simp [State.headFilling] at length ⊢
      omega
    · simpa [State.headFilling] using (List.nodup_cons.mp nodup).2
    · intro e he
      rcases List.mem_cons.mp he with rfl | he
      · exact ranges d (by simp)
      · exact ranges e (by simp [he])
    · rintro e he
      obtain rfl := Option.some.inj he
      have := (ranges d (by simp)).2.2.1
      rw [if_neg]
      simp only [not_le, empty]
      omega
    · intro e he
      exact behind e (by simp at he ⊢; exact .inr he)

section
variable (station : Station) (addressed : Bool) (args : List Byte) (s : State)

theorem trainArrives {s : State} (configured : s.configured = true) (station : Station) (capacity : Nat) {numbers : List Nat}
    (bytes : ∀ n ∈ numbers, n ≤ 255) : s.Keeps (s.trainArrives station capacity numbers) := by
  unfold State.trainArrives
  split
  · exact answer s _ _ _ _
  · rename_i inRange
    split
    · exact answer s _ _ _ _
    · rename_i fresh
      split
      · exact answer s _ _ _ _
      · rename_i room
        simp only [Bool.or_eq_true, not_or, Bool.not_eq_true, List.contains_eq_mem, decide_eq_false_iff_not] at fresh
        obtain ⟨zero, fresh⟩ := fresh
        have appended := appendCars (s := s) (capacity := capacity) (by omega)
          (fun n hn => ⟨Nat.pos_of_ne_zero (by rintro rfl; exact zero hn), bytes n hn⟩) fresh (by omega)
        exact (appended.trans (testMuck ((configured_eq appended).trans configured))).trans (answer _ _ _ _ _)

theorem serveTrainArrive : s.Keeps (s |> State.serveTrainArrive station addressed args) :=
  muckService fun configured => by
    split
    · split
      · refine trainArrives configured _ _ fun n hn => ?_
        obtain ⟨b, -, rfl⟩ := List.mem_map.mp hn
        omega
      · exact answer s _ _ _ _
    · exact answer s _ _ _ _

theorem carIndexed {s : State} (configured : s.configured = true) (station : Station) (n : Nat) :
    s.Keeps (s.carIndexed station n) := by
  have other : s.Keeps (if s.muck.lastIndexed = some n then s.answer station true .carIndexed .done
      else if s.muck.queue.isEmpty then s.answer station true .carIndexed .state
      else s.answer station true .carIndexed .format) := by
    split
    · exact answer s _ _ _ _
    · split <;> exact answer s _ _ _ _
  unfold State.carIndexed
  dsimp only
  split
  · rename_i c rest queue
    split
    · have indexed := indexHead queue n
      exact (indexed.trans (testMuck ((configured_eq indexed).trans configured))).trans (answer _ _ _ _ _)
    · exact other
  · exact other

theorem serveCarIndexed : s.Keeps (s |> State.serveCarIndexed station addressed args) :=
  muckService fun configured => by
    split
    · exact carIndexed configured _ _
    · exact answer s _ _ _ _

theorem serveOverdigExcuse : s.Keeps (s |> State.serveOverdigExcuse station addressed args) :=
  muckService fun _ => by
    split
    · exact answer s _ _ _ _
    · split
      · exact ((setMuck_same (s := s)).trans (evaluateOverdig _)).trans (answer _ _ _ _ _)
      · exact answer s _ _ _ _

end

end State.Keeps
end Sys2Proof.Machine
end

section
/-! PROOFS. The properties kept, by the override table, the console services and CLEAR_FAULT. -/

-- In one thread: each proof that waits for those before it would keep a thread of its own.
set_option Elab.async false

namespace Sys2Proof.Machine
namespace State.Keeps

/-! ### Override table -/

/-- Drives run where they may after a change of the table that pins no drive. -/
theorem setOverrides_unpins {s : State} {x : List OverrideEntry}
    (unpins : ∀ n, (s.setOverrides x).pinned .drive n = true → s.pinned .drive n = true) : s.Keeps (s.setOverrides x) :=
  setOverrides fun h d hd run => by
    obtain ⟨bore, member, unpinned⟩ := h d hd run
    refine ⟨bore, member, Bool.eq_false_iff.mpr fun pin => ?_⟩
    simp [unpins _ pin] at unpinned

theorem pinned_iff (s : State) (kind : ItemKind) (n : Nat) :
    s.pinned kind n = true ↔ ∃ e ∈ s.overrides, e.kind = kind ∧ e.number = n := by
  simp [State.pinned, State.override?]

/-- The table after an item has been pinned holds the new entry and no other new one (R183, R184). -/
theorem mem_enterOverride {s : State} {e o : OverrideEntry} (h : o ∈ (s.enterOverride e).overrides) :
    o = e ∨ (o ∈ s.overrides ∧ o.isFor e.kind e.number = false) := by
  unfold State.enterOverride at h
  split at h
  · simp only [setOverrides_overrides, List.mem_map] at h
    obtain ⟨a, ha, rfl⟩ := h
    split
    · exact .inl rfl
    · exact .inr ⟨ha, by simp_all⟩
  · rename_i none
    simp only [setOverrides_overrides, List.mem_append, List.mem_singleton] at h
    rcases h with h | rfl
    · refine .inr ⟨h, ?_⟩
      simp only [List.any_eq_true, not_exists, not_and, Bool.not_eq_true] at none
      exact none o h
    · exact .inl rfl

theorem pinned_enterOverride {s : State} {e : OverrideEntry} {kind : ItemKind} {n : Nat}
    (h : (s.enterOverride e).pinned kind n = true) : (kind = e.kind ∧ n = e.number) ∨ s.pinned kind n = true := by
  obtain ⟨o, mem, rfl, rfl⟩ := (pinned_iff _ _ _).mp h
  rcases mem_enterOverride mem with rfl | ⟨mem, -⟩
  · exact .inl ⟨rfl, rfl⟩
  · exact .inr ((pinned_iff _ _ _).mpr ⟨o, mem, rfl, rfl⟩)

theorem enterOverride {s : State} {e : OverrideEntry} (other : e.kind ≠ .drive) : s.Keeps (s.enterOverride e) := by
  have unpins : ∀ n, (s.enterOverride e).pinned .drive n = true → s.pinned .drive n = true := fun n h =>
    (pinned_enterOverride h).resolve_left fun same => other same.1.symm
  unfold State.enterOverride at unpins ⊢
  split at unpins
  · rw [if_pos ‹_›]
    exact setOverrides_unpins unpins
  · rw [if_neg ‹_›]
    exact setOverrides_unpins unpins

theorem enterOverride_still (s : State) (e : OverrideEntry) : s.KeepsStill (s.enterOverride e) := by
  unfold State.enterOverride
  split
  · exact ⟨⟨rfl, rfl, rfl, fun _ => rfl, id, id, id, id, id⟩, id, id⟩
  · exact ⟨⟨rfl, rfl, rfl, fun _ => rfl, id, id, id, id, id⟩, id, id⟩

theorem updateDrive_testDrive (s : State) (n : Nat) : s.Keeps (s.updateDrive n s.testDrive) :=
  updateDrive s n (testDrive_number s) fun _ run => .inr (testDrive_runs run)

theorem updateDrive_testDrive_still (s : State) (n : Nat) : s.KeepsStill (s.updateDrive n s.testDrive) :=
  (updateDrive_testDrive s n).still

/-- A drive pinned OFF stops; the entry and the test are one change (R187). -/
theorem pinDrive (s : State) (n : Nat) : s.Keeps (
    let t := s.enterOverride ⟨.drive, n, .off⟩
    t.updateDrive n t.testDrive) := by
  refine ((enterOverride_still s _).trans (updateDrive_testDrive_still _ _)).keeps fun h d' hd' run => ?_
  have same : (s.enterOverride ⟨.drive, n, .off⟩).drive = s.drive := by simp
  simp only [State.updateDrive, State.setDrives, setDrive_drive, List.mem_map, same] at hd'
  obtain ⟨d, hd, rfl⟩ := hd'
  split at run
  · rename_i number
    obtain ⟨bore, member, unpinned, -⟩ := runCondition_iff.mp (testDrive_runs run)
    rw [if_pos number]
    rw [testDrive_number]
    exact ⟨bore, member, unpinned⟩
  · rename_i number
    obtain ⟨bore, member, unpinned⟩ := h d hd run
    rw [if_neg number]
    refine ⟨by simpa using bore, by simpa using member, Bool.eq_false_iff.mpr fun pin => ?_⟩
    rcases pinned_enterOverride (s := s) (e := ⟨.drive, n, .off⟩) (kind := .drive) (n := d.number) pin with same | pinned
    · exact number same.2
    · simp [pinned] at unpinned

theorem cylinderPinChanged (n : Nat) (s : State) : s.Keeps (s.cylinderPinChanged n) :=
  (recomputeAdvance s).trans (testZone_if _ _)

theorem shutPort (n : Nat) (s : State) : s.Keeps (s.shutPort n) := by
  have ended : s.Keeps (match s.grout.dose with
      | some d => if d.port = n then s.endDose .shut else s
      | none => s) := by
    split
    · split
      · exact endDose _ s
      · exact refl s
    · exact refl s
  exact ended.trans (testDose _)

theorem applyForced (forced : ForcedState) (n : Nat) (s : State) : s.Keeps (s.applyForced forced n) := by
  unfold State.applyForced
  split
  · exact (updateCylinder _ _ _).trans (cylinderPinChanged _ _)
  · exact (updateCylinder _ _ _).trans (cylinderPinChanged _ _)
  · exact shutPort _ _
  · exact updateDrive_testDrive _ _

theorem pinItem {s : State} {kind : ItemKind} {f : Byte} {forced : ForcedState} (fits : forcedOf kind f = some forced)
    (n : Nat) : s.Keeps ((s.enterOverride ⟨kind, n, forced⟩).applyForced forced n) := by
  cases kind with
  | drive =>
    obtain rfl : forced = .off := by
      unfold forcedOf at fits
      dsimp only at fits
      split at fits
      · exact (Option.some.inj fits).symm
      · simp at fits
    exact pinDrive s n
  | cylinder => exact (enterOverride (e := ⟨.cylinder, n, forced⟩) (by simp)).trans (applyForced _ _ _)
  | port => exact (enterOverride (e := ⟨.port, n, forced⟩) (by simp)).trans (applyForced _ _ _)

theorem cancelEntry (e : OverrideEntry) (s : State) : s.Keeps (s.cancelEntry e) := by
  have removed : s.Keeps (s.setOverrides (s.overrides.filter fun o => !o.isFor e.kind e.number)) :=
    setOverrides_unpins fun n pin => by
      obtain ⟨o, mem, kind, number⟩ := (pinned_iff _ _ _).mp pin
      exact (pinned_iff _ _ _).mpr ⟨o, List.mem_of_mem_filter mem, kind, number⟩
  unfold State.cancelEntry
  dsimp only
  refine removed.trans ?_
  split
  · exact (updateCylinder _ _ _).trans (cylinderPinChanged _ _)
  · exact (updatePort _ _).trans (testDose _)
  · exact updateDrive_testDrive _ _

theorem cancelEntries (es : List OverrideEntry) (s : State) : s.Keeps (s.cancelEntries es) := by
  unfold State.cancelEntries
  induction es generalizing s with
  | nil => exact refl s
  | cons e es ih => exact (cancelEntry e s).trans (ih _)

section
variable (station : Station) (addressed : Bool) (args : List Byte) (s : State)

theorem serveOverride : s.Keeps (s |> State.serveOverride station addressed args) :=
  configuredOnly fun _ => by
    split
    · exact refl s
    · split
      · split
        · exact answer s _ _ _ _
        · split
          · exact answer s _ _ _ _
          · rename_i fits
            split
            · exact answer s _ _ _ _
            · split
              · exact answer s _ _ _ _
              · split
                · exact answer s _ _ _ _
                · exact (pinItem fits _).trans (answer _ _ _ _ _)
      · exact answer s _ _ _ _

theorem serveOverrideCancel : s.Keeps (s |> State.serveOverrideCancel station addressed args) :=
  configuredOnly fun _ => by
    split
    · split
      · exact answer s _ _ _ _
      · exact (cancelEntries _ s).trans (answer _ _ _ _ _)
    · split
      · exact answer s _ _ _ _
      · split
        · exact answer s _ _ _ _
        · split
          · exact answer s _ _ _ _
          · exact (cancelEntries _ s).trans (answer _ _ _ _ _)
    · exact answer s _ _ _ _

/-! ### Console service -/

theorem startDataReply (station : Station) (service : Service) (values : List Value) (s : State) :
    s.Keeps (s.startDataReply station service values) := by
  unfold State.startDataReply State.queuePart
  exact (setConsole s _).trans (queueTagged _ _ _ _)

theorem nextPart (s : State) : s.Keeps s.nextPart := by
  unfold State.nextPart
  split
  · exact refl s
  · split
    · exact (setConsole s _).trans (queueTagged _ _ _ _)
    · exact setConsole s _

theorem serveRead : s.Keeps (s |> State.serveRead station addressed args) := by
  unfold State.serveRead
  split
  · exact refl s
  · split
    · split
      · unfold State.readItems
        split
        · exact answer s _ _ _ _
        · split
          · exact answer s _ _ _ _
          · split
            · exact answer s _ _ _ _
            · exact startDataReply _ _ _ s
      · exact answer s _ _ _ _
    · exact answer s _ _ _ _

theorem serveWatchSet : s.Keeps (s |> State.serveWatchSet station addressed args) := by
  unfold State.serveWatchSet
  split
  · exact refl s
  · split
    · split
      · split
        · exact answer s _ _ _ _
        · split
          · exact answer s _ _ _ _
          · split
            · exact answer s _ _ _ _
            · split
              · exact answer s _ _ _ _
              · exact (setConsole s _).trans (answer _ _ _ _ _)
      · exact answer s _ _ _ _
    · exact answer s _ _ _ _

theorem serveWatchRead : s.Keeps (s |> State.serveWatchRead station addressed args) := by
  unfold State.serveWatchRead
  split
  · exact refl s
  · split
    · exact answer s _ _ _ _
    · split
      · exact answer s _ _ _ _
      · split
        · exact answer s _ _ _ _
        · exact startDataReply _ _ _ s

theorem serveNotices : s.Keeps (s |> State.serveNotices station addressed args) := by
  unfold State.serveNotices
  split
  · exact answerWith s _ _ _ _ _ _
  · exact answer s _ _ _ _

theorem serveEcho : s.Keeps (s |> State.serveEcho station addressed args) := by
  unfold State.serveEcho
  split
  · exact answerWith s _ _ _ _ _ _
  · exact answer s _ _ _ _

/-! ### Resets of the units, and the node state -/

theorem leaveFaulted (s : State) : s.Keeps s.leaveFaulted := by
  unfold State.leaveFaulted
  split
  · rename_i faulted
    dsimp only
    split
    · exact (setLink s _).trans (setNode_member _ (by rfl) (by rfl) (by rfl))
    · rename_i unconfigured
      refine ((setLink s { s.link with transmitting := true }).trans (setNode (by rfl) (by rfl)
        (fun _ => .inr (by simpa using unconfigured)) fun h d hd run => ?_)).trans (setView _ _)
      have member := (h d hd run).2.1
      simp [faulted] at member
  all_goals exact refl s

theorem clearPump (s : State) : s.Keeps s.clearPump := by
  unfold State.clearPump
  split
  · rename_i failed
    refine setGrout fun ⟨dosing, kept⟩ => ⟨?_, kept⟩
    have still : s.doseInFlight = false := Bool.eq_false_iff.mpr fun h => by simp [dosing.mpr h] at failed
    simpa [State.DosingIffInFlight, State.doseInFlight] using still
  · exact refl s

/-- A drive rebuilt from its channel's report does not run (R82). -/
theorem rebuiltDrive_still (s : State) (d : Drive) :
    (s.rebuiltDrive d).state ≠ .starting ∧ (s.rebuiltDrive d).state ≠ .running := by
  unfold State.rebuiltDrive
  dsimp only
  split
  · simp
  · split <;> simp

theorem clearDrives (s : State) : s.Keeps s.clearDrives := by
  refine setDrives fun h d' hd' run => ?_
  simp only [State.setDrives, setDrive_drive, List.mem_map] at hd'
  obtain ⟨d, hd, rfl⟩ := hd'
  split at run
  · exact (run.elim (rebuiltDrive_still s d).1 (rebuiltDrive_still s d).2).elim
  · rw [if_neg ‹_›]
    exact h d hd run

theorem releaseErector (s : State) : s.Keeps s.releaseErector := by
  have ready : s.Keeps (if s.engine.erector = .halted then s.setEngine { s.engine with erector := .ready } else s) := by
    split
    · exact setEngine_same
    · exact refl s
  unfold State.releaseErector
  split
  · exact ready.trans (takeFault_if _ _ _)
  · exact refl s

theorem clearUnits (leavesFaulted : Bool) (s : State) : s.Keeps (s.clearUnits leavesFaulted) :=
  (((((mapCylinders s _).trans (clearDrives _)).trans (clearPump _)).trans (releaseErector _)).trans (takeFault_if _ _ _)).trans
    (((testDrives _).trans (commandScrew _)).trans (testDose _))

theorem clearsFault (station : Station) (addressed : Bool) (s : State) : s.Keeps (s.clearsFault station addressed) := by
  have origin : ∀ (u : State) (leaves : Bool), u.Keeps (if leaves then u.firstMember
      else if u.node.firstMembership then u.captureOrigin else u) := by
    intro u leaves
    split
    · exact firstMember u
    · split
      · exact captureOrigin u
      · exact refl u
  exact (((leaveFaulted s).trans (answer _ _ _ _ _)).trans (origin _ _)).trans (clearUnits _ _)

theorem serveClearFault : s.Keeps (s |> State.serveClearFault station addressed args) := by
  unfold State.serveClearFault
  split
  · exact answer s _ _ _ _
  · split
    · exact answer s _ _ _ _
    · split
      · exact clearsFault _ _ s
      · exact answer s _ _ _ _

theorem serviceTake (service : Byte) : s.Keeps (s |> serviceTake service station addressed args) := by
  generalize taken : Machine.serviceTake service = take
  unfold Machine.serviceTake at taken
  split at taken <;> subst taken
  case h_1 => exact serveRead _ _ _ s
  case h_2 => exact serveWatchSet _ _ _ s
  case h_3 => exact serveWatchRead _ _ _ s
  case h_4 => exact serveNotices _ _ _ s
  case h_5 => exact serveEcho _ _ _ s
  case h_6 => exact serveClearFault _ _ _ s
  case h_7 => exact serveGuardOn _ _ _ s
  case h_8 => exact serveGuardOff _ _ _ s
  case h_9 => exact serveGuardLevel _ _ _ s
  case h_10 => exact serveGuardProbe _ _ _ s
  case h_11 => exact serveGuardReset _ _ _ s
  case h_12 => exact serveOverride _ _ _ s
  case h_13 => exact serveOverrideCancel _ _ _ s
  case h_14 => exact servePlanOpen _ _ _ s
  case h_15 => exact servePlanStep _ _ _ s
  case h_16 => exact servePlanClose _ _ _ s
  case h_17 => exact servePlanAbort _ _ _ s
  case h_18 => exact servePlanStop _ _ _ s
  case h_19 => exact servePlanFlush _ _ _ s
  case h_20 => exact servePlanEnable _ _ _ s
  case h_21 => exact servePlanResume _ _ _ s
  case h_22 => exact serveUnblock _ _ _ s
  case h_23 => exact serveTrainArrive _ _ _ s
  case h_24 => exact serveCarIndexed _ _ _ s
  case h_25 => exact serveOverdigExcuse _ _ _ s
  case h_26 => exact answerWith s _ _ _ _ _ _

end

end State.Keeps
end Sys2Proof.Machine
end

section
/-! PROOFS. What one command can do to the properties kept: it keeps them all and does not leave HOLD, or it stores a
configuration that has passed its checks, or it records the last READY of a round. -/

-- In one thread: each proof that waits for those before it would keep a thread of its own.
set_option Elab.async false

namespace Sys2Proof.Machine

/-- The phase a completed round of this target enters (R49). -/
def targetPhase : VoteTarget → Phase
  | .bore => .bore
  | .build => .build

/-- A configuration that validation at node `own` finds no fault with (R20). -/
def Configuration.Passes (c : Configuration) (own : Nat) : Prop :=
  (∃ content, readConfiguration content = some c) ∧ ∃ index, rejection own index c = none

/-- What a command other than a reset can do; `brings m p` says that it brings the READY of member `m` for target `p`. -/
inductive State.Moves (s : State) (brings : Nat → VoteTarget → Prop) (t : State) : Prop
  | keeps (kept : s.Keeps t)
  | stores (u : State) (c : Configuration) (digest : Half) (before : s.Keeps u) (unconfigured : u.node.state = .unconfigured)
      (passes : c.Passes s.own) (after : (u.storeConfiguration c digest).Keeps t)
  | completes (r : Round) (m : Nat) (round : s.machine.round = some r) (open' : (m, none) ∈ r.votes)
      (others : ∀ v ∈ r.votes, v = (m, none) ∨ v.2 = some .ready) (brings : brings m r.target)
      (still : (s.setMachine { s.machine with phase := targetPhase r.target }).KeepsStill t)
      (drives : s.DrivesRunInBore → t.DrivesRunInBore)

namespace State.Moves

variable {s t u : State} {brings : Nat → VoteTarget → Prop}

theorem trans (m : s.Moves brings t) (k : t.Keeps u) : s.Moves brings u := by
  cases m with
  | keeps kept => exact .keeps (kept.trans k)
  | stores v c digest before unconfigured passes after => exact .stores v c digest before unconfigured passes (after.trans k)
  | completes r m round open' others brings still drives =>
    exact .completes r m round open' others brings (still.trans k.still) (k.drives ∘ drives)

theorem mono {brings' : Nat → VoteTarget → Prop} (imp : ∀ m p, brings m p → brings' m p) (m : s.Moves brings t) :
    s.Moves brings' t := by
  cases m with
  | keeps kept => exact .keeps kept
  | stores v c digest before unconfigured passes after => exact .stores v c digest before unconfigured passes after
  | completes r m round open' others brings still drives =>
    exact .completes r m round open' others (imp _ _ brings) still drives

/-- What a command does once the wire is free, it does from the state as it stood. -/
theorem of_setWire {w : Option WireFrame} (m : (s.setWire w).Moves brings t) : s.Moves brings t := by
  cases m with
  | keeps kept => exact .keeps ((Keeps.setWire s w).trans kept)
  | stores v c digest before unconfigured passes after =>
    exact .stores v c digest ((Keeps.setWire s w).trans before) unconfigured passes after
  | completes r m round open' others brings still drives =>
    exact .completes r m round open' others brings
      ((Keeps.setWire (s.setMachine { s.machine with phase := targetPhase r.target }) w).still.trans still) drives

end State.Moves

namespace State.Keeps

/-! ### The vote round -/

/-- Recording a vote keeps the list of the members asked. -/
theorem recordedVotes_members (votes : List (Nat × Option VoteAnswer)) (m : Nat) (a : VoteAnswer) :
    (votes.map fun v => if v = (m, none) then (m, some a) else v).map (·.1) = votes.map (·.1) := by
  rw [List.map_map]
  refine List.map_congr_left fun v _ => ?_
  by_cases asked : v = (m, none) <;> simp [asked]

theorem setRound_recorded {s : State} {r : Round} (round : s.machine.round = some r) (m : Nat) (a : VoteAnswer) :
    s.Keeps (s.setRound (some { r with votes := r.votes.map fun v => if v = (m, none) then (m, some a) else v })) :=
  setMachine_same (by rfl) fun _ h => ⟨r, round, Option.some.inj h ▸ recordedVotes_members r.votes m a⟩

theorem handEntryToBuild (s : State) : s.Keeps s.handEntryToBuild :=
  (((testDrives s).trans (testDose _)).trans (engineEntersBuild _)).trans (commandScrew _)

/-- Once the drives are tested they run as the new phase allows, whatever the phase was. -/
theorem handEntryToBuild_drives (s : State) : s.handEntryToBuild.DrivesRunInBore :=
  (((testDose s.testDrives).trans (engineEntersBuild _)).trans (commandScrew _)).drives (testDrives_drives s)

/-- A round's end enters its target and closes the round (R49). -/
theorem succeedRound_still (t : VoteTarget) (s : State) :
    (s.setMachine { s.machine with phase := targetPhase t }).KeepsStill (s.succeedRound t) := by
  have closes : ∀ previous, (s.setMachine { s.machine with phase := targetPhase t }).KeepsStill
      (s.setMachine { s.machine with phase := targetPhase t, previous := previous, current := none, round := none }) := fun _ =>
    KeepsStill.setMachine (s := s.setMachine { s.machine with phase := targetPhase t }) (fun _ => rfl)
      fun ⟨un, _⟩ => ⟨un, fun _ h => nomatch h⟩
  cases t with
  | bore => exact (closes _).trans (handEntryToBore _).still
  | build => exact (closes _).trans (handEntryToBuild _).still

theorem succeedRound_drives (t : VoteTarget) {s : State} (h : s.DrivesRunInBore) : (s.succeedRound t).DrivesRunInBore := by
  cases t with
  | bore =>
    refine (handEntryToBore _).drives fun d hd run => ?_
    obtain ⟨-, rest⟩ := h d hd run
    exact ⟨rfl, rest⟩
  | build => exact handEntryToBuild_drives _

end State.Keeps

/-- The votes with this READY are all READY: those before it were, its own member's apart. -/
theorem others_ready {votes : List (Nat × Option VoteAnswer)} {m : Nat}
    (all : (votes.map fun v => if v = (m, none) then (m, some VoteAnswer.ready) else v).all (fun v => v.2 == some .ready) = true) :
    ∀ v ∈ votes, v = (m, none) ∨ v.2 = some .ready := by
  intro v mem
  by_cases asked : v = (m, none)
  · exact .inl asked
  · have := List.all_eq_true.mp all _ (List.mem_map_of_mem mem)
    rw [if_neg asked] at this
    exact .inr (by simpa using this)

namespace State.Moves

theorem recordVote (m : Nat) (p : VoteTarget) (a : VoteAnswer) (s : State) :
    s.Moves (fun m' p' => a = .ready ∧ m' = m ∧ p' = p) (s.recordVote m p a) := by
  unfold State.recordVote
  split
  · exact .keeps (.refl s)
  · rename_i r round
    split
    · rename_i asked
      obtain ⟨rfl, mem⟩ := asked
      have recorded := Keeps.setRound_recorded round m a
      dsimp only
      split
      · exact .keeps (recorded.trans (Keeps.failRound _ _ _))
      · split
        · rename_i all
          exact .completes r m round (by simpa using mem) (others_ready all) ⟨rfl, rfl, rfl⟩
            ((Keeps.setRound_recorded (s := s.setMachine { s.machine with phase := targetPhase r.target }) round m .ready).still.trans
              (Keeps.succeedRound_still r.target (s.setRound (some { r with
                votes := r.votes.map fun v => if v = (m, none) then (m, some .ready) else v }))))
            fun h => Keeps.succeedRound_drives _ (recorded.drives h)
        · exact .keeps recorded
    · exact .keeps (.refl s)

end State.Moves

end Sys2Proof.Machine
end

section
/-! PROOFS. The properties kept, by a warm restart; and the collection of a configuration, which may store it. -/

-- In one thread: each proof that waits for those before it would keep a thread of its own.
set_option Elab.async false

namespace Sys2Proof.Machine

/-! ### Warm restart (R27) -/

namespace State.Keeps

/-- A node in HOLD stays in HOLD. -/
theorem staysInHold {s t : State} (k : s.Keeps t) (held : s.inHold = true) : t.inHold = true :=
  Bool.not_eq_false _ ▸ fun left => by
    have same := k.hold left
    rw [State.inHold, same] at left
    exact absurd held (by rw [State.inHold, left]; exact Bool.false_ne_true)

theorem restartLink (s : State) : s.Keeps s.restartLink := by
  have quiet : s.Keeps ((s.setEngine { s.engine with requeue := none }).setWire
      (s.link.onWire.map fun w => { w with tx := { w.tx with discard := true } })) :=
    (setEngine_same (s := s)).trans (setWire _ _)
  exact (quiet.trans (removePending _)).trans (setLink _ _)

theorem restartCylinders (s : State) : s.Keeps s.restartCylinders :=
  (mapCylinders s _).trans setThrust_same

theorem not_holdsStep_disabled : ¬HoldsStep .disabled := by
  unfold HoldsStep
  decide

theorem restartEngine (s : State) : s.Keeps s.restartEngine := by
  have dropped : s.Keeps (if s.engine.seated.isSome then s.dropStep else s) := by
    split
    · exact dropStep s
    · exact refl s
  refine (dropped.trans (setPlans (x := { closed := [], opened := none }) fun _ => ⟨?_, ?_, ?_⟩)).trans
    (setEngine_dropped not_holdsStep_disabled rfl)
  · exact Nat.zero_le _
  · exact fun h => absurd h Bool.false_ne_true
  · exact Nat.zero_le _

/-- Guard mode goes with the guard; its own entry is left to the rebuilding of the restraint set (R81). -/
theorem restartUnits_units (s : State) : s.KeepsUnits s.restartUnits := by
  have guard : s.restartCylinders.KeepsUnits s.restartCylinders.restartGuard :=
    ⟨⟨rfl, rfl, rfl, fun _ => rfl, id, id, id, id, id⟩, id⟩
  have rest := (((restartEngine s.restartCylinders.restartGuard).trans (stopDose _)).trans (clearPump _)).trans (setConsole _
    { s.restartCylinders.restartGuard.restartEngine.stopDose.clearPump.console with watch := [] })
  exact ((restartCylinders s).toKeepsUnits.trans guard).trans rest.toKeepsUnits

theorem addOwn_units (rs : List RestraintReason) (s : State) : s.KeepsUnits (s.addOwn rs) := by
  unfold State.addOwn
  induction rs generalizing s with
  | nil => exact (refl s).toKeepsUnits
  | cons r rs ih => exact (Flagged.setThrust_units s _).trans (ih _)

theorem restartRestraints_units (s : State) : s.KeepsUnits s.restartRestraints :=
  ((Flagged.setThrust_units s _).trans (addOwn_units _ _)).trans ((queueFrames _ _).trans (queueFrames _ _)).toKeepsUnits

theorem restartRestraints_ordered (s : State) : s.restartRestraints.RestraintsOrdered :=
  ((queueFrames _ _).trans (queueFrames _ _)).ordered (addOwn_ordered _ List.Pairwise.nil)

/-- The rebuilt set holds the own entries the units ask for (R81). -/
theorem restartRestraints_follow (s : State) (r : RestraintReason) :
    s.restartRestraints.restrains r = s.restartRestraints.unitRestrains r := by
  have same : s.restartRestraints.unitRestrains r = s.unitRestrains r := by cases r <;> simp [State.unitRestrains]
  rw [same, Bool.eq_iff_iff, restrains_iff, mem_restartRestraints]
  simp [State.own]

/-- The units restart and the restraint set is rebuilt (R27, R81). -/
theorem restartBlocks {s : State} (configured : s.configured = true) : s.Keeps s.restartUnits.restartRestraints := by
  have node : s.restartUnits.restartRestraints.node = s.node := by simp
  have conf : s.restartUnits.restartRestraints.configured = true := by simpa [State.configured, node] using configured
  refine ⟨(restartUnits_units s).trans (restartRestraints_units _), fun _ => restartRestraints_ordered _,
    fun ⟨_, _, un⟩ => ⟨restartRestraints_follow _, fun no => absurd conf (by simp [no]), fun state => ?_⟩⟩
  exact absurd configured (by simp [un (node ▸ state)])

/-- In HOLD no drive runs, so that the node state may change (R84). -/
theorem setNode_inHold {s : State} {x : NodeRecord} (number : x.number = s.node.number) (config : x.config = s.node.config)
    (unconfigured : x.state = .unconfigured → s.node.state = .unconfigured ∨ s.configured = false) (held : s.inHold = true) :
    s.Keeps (s.setNode x) :=
  setNode number config unconfigured fun h d hd run => by
    obtain ⟨bore, -⟩ := h d hd run
    simp [State.inHold, bore] at held

theorem enterJoining {s : State} (held : s.inHold = true) : s.Keeps s.enterJoining := by
  have joins := setNode_inHold (s := s) (x := { s.node with state := .joining, listen := some 0 }) rfl rfl (by simp) held
  exact (joins.trans (setMachine_same (x := { s.machine with beaconTimer := 0 }) rfl fun r hr => ⟨r, hr, rfl⟩)).trans (queueBeacon _)

theorem setOverrides_none (s : State) : s.Keeps (s.setOverrides []) :=
  setOverrides_unpins fun _ pin => absurd pin Bool.false_ne_true

theorem warmRestart {s : State} (configured : s.configured = true) : s.Keeps s.warmRestart := by
  have holds := (restartLink s).trans (imposeHold .restart s.restartLink (always := true))
  have emptied := (setView (s.restartLink.imposeHold .restart (always := true))
    (s.restartLink.imposeHold .restart (always := true)).freshView).trans (setOverrides_none _)
  have before := holds.trans emptied
  have blocks := (restartBlocks ((configured_eq before).trans configured)).trans (updateMachineAdvance _)
  have cleared := (emptied.trans blocks).trans (setNode_same (x := { State.node _ with cause := none, furtherFaults := 0 }))
  have held := cleared.staysInHold (imposeHold_inHold _ _ _)
  exact (holds.trans (cleared.trans (enterJoining held))).trans (((testDrives _).trans (commandScrew _)).trans (testDose _))

theorem takeRestart (s : State) : s.Keeps s.takeRestart := by
  unfold State.takeRestart
  split
  · rename_i configured
    exact warmRestart configured
  · exact refl s

/-! ### Collection and validation (R18 to R20) -/

theorem partOutOfTurn (s : State) : s.Keeps s.partOutOfTurn := (setNode_same (s := s)).trans (notify _ _)

theorem rejectCollection (r : Rejection) (s : State) : s.Keeps (s.rejectCollection r) :=
  ((setNode_same (s := s)).trans (setFreeIndex _ _)).trans (notify _ _)

end State.Keeps

namespace State.Moves

variable {brings : Nat → VoteTarget → Prop}

theorem validate {s u : State} (before : s.Keeps u) (unconfigured : u.node.state = .unconfigured) (count : Nat)
    (parts : List (List Byte)) : s.Moves brings (u.validate count parts) := by
  unfold State.validate
  split
  · exact .keeps (before.trans (Keeps.rejectCollection _ u))
  · rename_i c read
    split
    · exact .keeps (before.trans (Keeps.rejectCollection _ u))
    · rename_i passes
      exact .stores u c _ before unconfigured ⟨⟨_, read⟩, _, before.own_eq ▸ passes⟩ (.refl _)

theorem holdPart {s u : State} (before : s.Keeps u) (unconfigured : u.node.state = .unconfigured) (sender : Station) (count : Nat)
    (parts : List (List Byte)) : s.Moves brings (u.holdPart sender count parts) := by
  unfold State.holdPart
  split
  · exact validate before unconfigured count parts
  · exact .keeps (before.trans Keeps.setNode_same)

theorem takePart {s : State} (unconfigured : s.node.state = .unconfigured) (sender : Station) (k n : Nat) (content : List Byte) :
    s.Moves brings (s.takePart sender k n content) := by
  have begins := holdPart (brings := brings) (Keeps.partOutOfTurn s) unconfigured sender n [content]
  unfold State.takePart
  split
  · split
    · exact holdPart (.refl s) unconfigured sender n [content]
    · exact .keeps (Keeps.partOutOfTurn s)
  · split
    · exact holdPart (.refl s) unconfigured sender n _
    · split
      · exact .keeps (.refl s)
      · split
        · exact begins
        · exact .keeps (Keeps.partOutOfTurn s)

theorem takeConfigure (sender : Station) (payload : List Byte) (s : State) : s.Moves brings (s.takeConfigure sender payload) := by
  unfold State.takeConfigure
  split
  · split
    · exact takePart ‹_› _ _ _ _
    · exact .keeps (Keeps.partOutOfTurn s)
  · exact .keeps (.refl s)

end State.Moves
end Sys2Proof.Machine
end

section
/-! PROOFS. What one command can do, reset apart: frames received and heard back, the bus, the timers, the channels' reports. -/

-- In one thread: each proof that waits for those before it would keep a thread of its own.
set_option Elab.async false

namespace Sys2Proof.Machine

/-! ### Reception and delivery (R11, R12) -/

/-- An accepted frame comes from another station. -/
theorem sender_ne_own {s : State} {by' : SentBy} {sender target : Station} (heard : s.filterVerdict by' sender target = .accepted) :
    sender.toNat ≠ s.own := by
  unfold State.filterVerdict at heard
  intro same
  simp [same] at heard
  split at heard
  · cases heard
  · split at heard <;> cases heard

/-- A command whose frame another station has sent has that frame filtered, and delivered when it is accepted. -/
theorem exec_of_frame {i : Instr} {f : Frame} (frame : i.frame? = some f)
    (named : ∀ sender target service args, i = .unknownServiceCode sender target service args →
      serviceTake service = State.serveUnknown service) (s : State) :
    exec i s = .next (s.receiveFrame f) := by
  cases i
  case unknownServiceCode sender target service args =>
    cases frame
    change _ = Host.Outcome.next (s.receive .console sender target (serviceTake service sender (target != 0) args))
    rw [named _ _ _ _ rfl]
    rfl
  all_goals
    cases frame
    try rfl

namespace State.Moves

variable {s : State} {brings : Nat → VoteTarget → Prop}

theorem receive {by' : SentBy} {sender target : Station} {take : State → State}
    (takes : s.filterVerdict by' sender target = .accepted → s.Moves brings (take s)) :
    s.Moves brings (s.receive by' sender target take) := by
  unfold State.receive
  split
  · exact .keeps (.refl s)
  · exact .keeps (Keeps.setConsole s _)
  · exact takes ‹_›

theorem deliver {f : Frame} (other : f.sender.toNat ≠ s.own) :
    s.Moves (fun m p => f.body = .vote p .ready ∧ m = f.sender.toNat) (s.deliver f) := by
  unfold State.deliver
  split
  case h_1 => exact .keeps (Keeps.takeHoldFrame _ _ _ s)
  case h_2 => exact .keeps (Keeps.takePropose _ s)
  case h_3 p a body =>
    refine (recordVote f.sender.toNat p a s).mono ?_
    rintro m p' ⟨rfl, rfl, rfl⟩
    exact ⟨body, rfl⟩
  case h_4 => exact .keeps (Keeps.takeRestrain other _)
  case h_5 => exact .keeps (Keeps.takeRelease other _)
  case h_6 => exact .keeps (Keeps.takeZoneClear _ _ s)
  case h_7 => exact .keeps (Keeps.takeZoneAnswer _ _ _ s)
  case h_8 => exact .keeps (Keeps.takeZoneRefused _ _ s)
  case h_9 => exact .keeps (Keeps.takeZoneSeat _ _ s)
  case h_10 => exact .keeps (Keeps.takeZoneAnswer _ _ _ s)
  case h_11 => exact .keeps (Keeps.takeRingClosed _ _ s)
  case h_12 => exact .keeps (Keeps.takeBeacon other _)
  case h_13 => exact takeConfigure _ _ s
  case h_14 => exact .keeps (Keeps.takeSetpoint _ s)
  case h_15 => exact .keeps (Keeps.takeRingSet _ s)
  case h_16 => exact .keeps (Keeps.takeRestart s)
  case h_17 => exact .keeps (Keeps.serviceTake _ _ _ s _)
  case h_18 => exact .keeps (.refl s)

theorem receiveFrame (f : Frame) (s : State) :
    s.Moves (fun m p => f.body = .vote p .ready ∧ m = f.sender.toNat) (s.receiveFrame f) :=
  receive fun heard => deliver (sender_ne_own heard)

theorem receiveBytes (bytes : List Byte) (s : State) :
    s.Moves (fun m p => ∃ f, parseFrame bytes = some f ∧ f.body = .vote p .ready ∧ m = f.sender.toNat) (s.receiveBytes bytes) := by
  unfold State.receiveBytes
  split
  · rename_i f parsed
    exact (receiveFrame f s).mono fun m p ⟨body, sender⟩ => ⟨f, parsed, body, sender⟩
  · exact .keeps (Keeps.setConsole s _)

/-- The node's own frame, heard back. -/
theorem deliverOwn (body : Body) (s : State) : s.Moves (fun m p => body = .vote p .ready ∧ m = s.own) (s.deliverOwn body) := by
  unfold State.deliverOwn
  split
  · split
    case h_1 p a =>
      refine (recordVote s.own p a s).mono ?_
      rintro m p' ⟨rfl, rfl, rfl⟩
      exact ⟨rfl, rfl⟩
    case h_2 => exact .keeps (Keeps.takeZoneClear _ _ s)
    case h_3 => exact .keeps (Keeps.takeZoneAnswer _ _ _ s)
    case h_4 => exact .keeps (Keeps.takeZoneRefused _ _ s)
    case h_5 => exact .keeps (Keeps.takeZoneSeat _ _ s)
    case h_6 => exact .keeps (Keeps.takeZoneAnswer _ _ _ s)
    case h_7 => exact .keeps (Keeps.takeRingClosed _ _ s)
    case h_8 => exact .keeps (Keeps.updateEntry s _ _)
    all_goals exact .keeps (.refl s)
  · exact .keeps (.refl s)

end State.Moves

/-! ### The shield link (R3 to R10) -/

namespace State.Keeps

theorem startFrame (s : State) : s.Keeps s.startFrame := by
  unfold State.startFrame
  split
  · exact (setWire s _).trans (setQueue _ _)
  · exact refl s

theorem returnLost (f : TxFrame) (s : State) : s.Keeps (s.returnLost f) := by
  unfold State.returnLost
  refine (setWire s none).trans ?_
  dsimp only
  split
  · split
    · exact ((setQueue _ _).trans (frameEnded _ _ _)).trans (retryRingClosed _)
    · exact setQueue _ _
  · exact setQueue _ _

theorem settleFrame (contenders : List Key) (s : State) : s.Keeps (s.settleFrame contenders) := by
  unfold State.settleFrame
  split
  · split
    · exact refl s
    · split
      · exact setWire s _
      · exact returnLost _ s
  · exact refl s

theorem closeCleared (before : Bool) (s : State) : s.Keeps (s.closeCleared before) := by
  unfold State.closeCleared
  split
  · exact takeHeadStep s
  · exact refl s

theorem reportSent (f : TxFrame) (s : State) : s.Keeps (s.reportSent f) := by
  unfold State.reportSent
  split
  · exact nextPart s
  · exact setConsole s _
  · split
    · exact frameEnded s _ _
    · exact refl s

theorem wireEnds (f : TxFrame) (e : Ending) (s : State) : s.Keeps (s.wireEnds f e) :=
  ((setWire s none).trans (frameEnded _ _ _)).trans (closeCleared _ _)

theorem discardFailed (f : TxFrame) (n : Nat) (s : State) : s.Keeps (s.discardFailed f n) := by
  unfold State.discardFailed
  refine (wireEnds f .removed s).trans ?_
  dsimp only
  split
  · exact (setQueue _ _).trans (retryRingClosed _)
  · exact retryRingClosed _

theorem transmissionFailed (w : WireFrame) (s : State) : s.Keeps (s.transmissionFailed w) := by
  unfold State.transmissionFailed
  dsimp only
  split
  · exact discardFailed _ _ s
  · split
    · exact (wireEnds _ _ s).trans (linkFault _)
    · split
      · exact discardFailed _ _ s
      · exact (setWire s _).trans (setQueue _ _)

theorem failWire (s : State) : s.Keeps s.failWire := by
  unfold State.failWire
  split
  · exact transmissionFailed _ s
  · exact refl s

/-! ### Timers and the bus -/

section
variable {s t : State}

theorem arbitration {event : ArbitrationEvent} {contenders : List Key} (run : exec (.arbitration event contenders) s = .next t) :
    s.Keeps t := by
  unfold exec execArbitration at run
  cases event with
  | start =>
    cases run
    exact startFrame s
  | settle =>
    cases run
    exact settleFrame _ s
  | whole =>
    dsimp only at run
    split at run
    · cases run
      exact (startFrame s).trans (settleFrame _ _)
    · cases run
      exact refl s

theorem beaconPeriod (run : exec .beaconPeriod s = .next t) : s.Keeps t := by
  unfold exec execBeaconPeriod at run
  dsimp only at run
  split at run
  · cases run
    have restarted (u : State) : u.Keeps (u.setMachine { u.machine with beaconTimer := 0 }) :=
      setMachine_same rfl fun r hr => ⟨r, hr, rfl⟩
    exact ((passTime _ s).trans (restarted _)).trans (queueBeacon _)
  · cases run
    exact refl s

theorem silenceExpiry {peer : Nat} (run : exec (.silenceExpiry peer) s = .next t) : s.Keeps t := by
  unfold exec execSilenceExpiry at run
  dsimp only at run
  split at run
  · rename_i e entry
    split at run
    · rename_i ran since
      split at run
      · cases run
        exact refl s
      · rename_i other
        have silent := (passTime (Config.silenceInterval - ran) s).trans (updateEntry _ peer fun e =>
          { e with presence := .silent, last := none, since := none, strikes := 0 })
        cases run
        refine silent.trans (Keeps.trans ?_ (viewChanged _))
        split
        · exact peerDeparts fun same => other (.inl (same.trans silent.own_eq))
        · exact refl _
    · cases run
      exact refl s
  · cases run
    exact refl s

theorem listenWindowEnd (run : exec .listenWindowEnd s = .next t) : s.Keeps t := by
  unfold exec execListenWindowEnd at run
  dsimp only at run
  split at run
  · cases run
    exact (passTime _ s).trans (endListen _)
  · cases run
    exact refl s

theorem voteWindowExpiry (run : exec .voteWindowExpiry s = .next t) : s.Keeps t := by
  unfold exec execVoteWindowExpiry at run
  dsimp only at run
  split at run
  · cases run
    exact (passTime _ s).trans (failRound _ _ _)
  · cases run
    exact refl s

theorem sampleTimerExpiry (run : exec .sampleTimerExpiry s = .next t) : s.Keeps t := by
  unfold exec execSampleTimerExpiry at run
  dsimp only at run
  split at run
  · cases run
    exact ((passTime _ s).trans setGuard).trans (startProbe _)
  · cases run
    exact refl s

theorem probeEnd (run : exec .probeEnd s = .next t) : s.Keeps t := by
  unfold exec execProbeEnd at run
  dsimp only at run
  split at run
  · cases run
    exact (passTime _ s).trans (endProbe _ _)
  · cases run
    exact refl s

theorem stageLimitExpiry (run : exec .stageLimitExpiry s = .next t) : s.Keeps t := by
  unfold exec execStageLimitExpiry at run
  dsimp only at run
  split at run
  · cases run
    exact (passTime _ s).trans (imposeHold _ _ _)
  · cases run
    exact (passTime _ s).trans (imposeHold _ _ _)
  · cases run
    exact refl s

theorem placementLimitExpiry (run : exec .placementLimitExpiry s = .next t) : s.Keeps t := by
  unfold exec execPlacementLimitExpiry at run
  dsimp only at run
  split at run
  · cases run
    exact (passTime _ s).trans (failPlacement _)
  · cases run
    exact refl s

theorem doseLimitExpiry (run : exec .doseLimitExpiry s = .next t) : s.Keeps t := by
  unfold exec execDoseLimitExpiry at run
  dsimp only at run
  split at run
  · split at run
    · cases run
      exact (passTime _ s).trans (doseLimitReached _)
    · cases run
      exact refl s
  · cases run
    exact refl s

end

end State.Keeps

/-! ### Commands -/

/-- The command brings the READY of this member for this target (R48). -/
def State.Brings (s : State) (i : Instr) (member : Nat) (target : VoteTarget) : Prop :=
  (∃ f : Frame, f.body = .vote target .ready ∧ f.sender.toNat = member
      ∧ (i.frame? = some f ∨ ∃ bytes, parseFrame bytes = some f
          ∧ (i = .badFrame bytes ∨ i = .loopbackCheck (.bytes bytes))))
  ∨ (∃ heard w, i = .loopbackCheck heard ∧ s.link.onWire = some w ∧ w.tx.frame.body = .vote target .ready
      ∧ member = s.own)

namespace State.Moves

theorem heardBack {s : State} {w : WireFrame} (onWire : s.link.onWire = some w) (heard : Heard) :
    s.Moves (s.Brings (.loopbackCheck heard)) (s.heardBack w) := by
  have own := ((deliverOwn w.tx.frame.body (s.setWire none)).mono (brings' := s.Brings (.loopbackCheck heard))
    fun m p ⟨body, member⟩ => .inr ⟨heard, w, rfl, onWire, body, member⟩).of_setWire
  exact ((own.trans (Keeps.reportSent _ _)).trans (Keeps.closeCleared _ _)).trans (Keeps.retryRingClosed _)

theorem checkLoopback {s : State} {w : WireFrame} (onWire : s.link.onWire = some w) (heard : Heard) :
    s.Moves (s.Brings (.loopbackCheck heard)) (s.checkLoopback heard w) := by
  unfold State.checkLoopback
  split
  · exact heardBack onWire _
  · rename_i bytes
    split
    · exact heardBack onWire _
    · exact ((receiveBytes bytes s).mono fun m p ⟨f, parsed, body, sender⟩ =>
        .inl ⟨f, body, sender.symm, .inr ⟨bytes, parsed, .inr rfl⟩⟩).trans (Keeps.failWire _)
  · exact .keeps (Keeps.failWire s)

theorem loopbackCheck {s t : State} (heard : Heard) (run : exec (.loopbackCheck heard) s = .next t) :
    s.Moves (s.Brings (.loopbackCheck heard)) t := by
  unfold exec execLoopbackCheck at run
  dsimp only at run
  split at run
  · split at run
    · cases run
      exact checkLoopback ‹_› heard
    · cases run
      exact .keeps (.refl s)
  · cases run
    exact .keeps (.refl s)

theorem of_frame {i : Instr} {f : Frame} (frame : i.frame? = some f) {s t : State} (run : exec i s = .next t) :
    s.Moves (s.Brings i) t := by
  by_cases named : ∃ sender target service args, i = .unknownServiceCode sender target service args
  · obtain ⟨sender, target, service, args, rfl⟩ := named
    cases run
    exact receive fun _ => .keeps (Keeps.answerWith s _ _ _ _ _ _)
  · rw [exec_of_frame frame fun _ _ _ _ e => absurd ⟨_, _, _, _, e⟩ named] at run
    cases run
    exact (receiveFrame f s).mono fun m p ⟨body, sender⟩ => .inl ⟨f, body, sender.symm, .inl frame⟩

/-- A reset apart, a command keeps the properties in one of three ways. -/
theorem of_exec {i : Instr} {s t : State} (noReset : ∀ straps, i ≠ .coldReset straps) (run : exec i s = .next t) :
    s.Moves (s.Brings i) t := by
  rcases frame : i.frame? with _ | f
  case some => exact of_frame frame run
  case none =>
  cases i with
  | coldReset straps => exact absurd rfl (noReset straps)
  | loopbackCheck heard => exact loopbackCheck heard run
  | badFrame bytes =>
    cases run
    exact (receiveBytes bytes s).mono fun m p ⟨f, parsed, body, sender⟩ => .inl ⟨f, body, sender.symm, .inr ⟨bytes, parsed, .inl rfl⟩⟩
  | arbitration event contenders => exact .keeps (Keeps.arbitration run)
  | beaconPeriod => exact .keeps (Keeps.beaconPeriod run)
  | silenceExpiry peer => exact .keeps (Keeps.silenceExpiry run)
  | listenWindowEnd => exact .keeps (Keeps.listenWindowEnd run)
  | voteWindowExpiry => exact .keeps (Keeps.voteWindowExpiry run)
  | sampleTimerExpiry => exact .keeps (Keeps.sampleTimerExpiry run)
  | probeEnd => exact .keeps (Keeps.probeEnd run)
  | stageLimitExpiry => exact .keeps (Keeps.stageLimitExpiry run)
  | placementLimitExpiry => exact .keeps (Keeps.placementLimitExpiry run)
  | doseLimitExpiry => exact .keeps (Keeps.doseLimitExpiry run)
  | seated =>
    cases run
    exact .keeps (Keeps.takeSeated s)
  | seatFail =>
    cases run
    exact .keeps (Keeps.takeSeatFail s)
  | erectorFaultIndication present =>
    cases run
    exact .keeps (Keeps.takeErectorIndication present s)
  | cylinderReport cylinder stroke pressure fault retracted =>
    cases run
    exact .keeps (Keeps.takeCylReport _ _ s)
  | driveReport drive speed torque fault =>
    cases run
    exact .keeps (Keeps.takeDriveReport _ _ s)
  | strokeReport =>
    cases run
    exact .keeps (Keeps.takeStroke s)
  | linePressure kPa =>
    cases run
    exact .keeps (Keeps.takeLinePressure kPa s)
  | pumpAtRest atRest =>
    cases run
    exact .keeps (Keeps.takeAtRest atRest s)
  | screwReport fault =>
    cases run
    exact .keeps (Keeps.takeScrewReport fault s)
  | facePressureReport kPa =>
    cases run
    exact .keeps (Keeps.takeFacePressure kPa s)
  | beltScaleReport kg =>
    cases run
    exact .keeps (Keeps.takeIncrement _ s)
  | _ => cases frame

end State.Moves

end Sys2Proof.Machine
end

section
/-! PROOFS. A configuration is stored (R20, R23): what validation has checked of it, and what the node makes of its units. -/

-- In one thread: each proof that waits for those before it would keep a thread of its own.
set_option Elab.async false

namespace Sys2Proof.Machine

/-! ### What validation has checked -/

theorem readFields_length {ws : List Nat} {bs rest : List Byte} {ns : List Nat} (read : readFields ws bs = some (ns, rest)) :
    ns.length = ws.length := by
  induction ws generalizing bs ns with
  | nil =>
    cases read
    rfl
  | cons w ws ih =>
    unfold readFields at read
    split at read
    · obtain ⟨⟨ns', rest'⟩, tail, joined⟩ := Option.map_eq_some_iff.mp read
      cases joined
      simp [ih tail]
    · cases read

/-- A member section lists as many values as its counts say. -/
theorem readSection_lengths {bs rest : List Byte} {m : MemberSection} (read : readSection bs = some (m, rest)) :
    m.nextPort.length = m.ports ∧ m.factors.length = m.ports ∧ m.zones.length = m.cylinders := by
  unfold readSection at read
  split at read
  · split at read
    · rename_i nexts _ readNexts
      split at read
      · rename_i factors _ readFactors
        split at read
        · obtain ⟨⟨zones, _⟩, readZones, joined⟩ := Option.map_eq_some_iff.mp read
          cases joined
          exact ⟨by simpa using readFields_length readNexts, by simpa using readFields_length readFactors,
            by simpa using readFields_length readZones⟩
        · cases read
      · cases read
    · cases read
  · cases read

theorem readSections_length {n : Nat} {bs rest : List Byte} {ms : List MemberSection} (read : readSections n bs = some (ms, rest)) :
    ms.length = n ∧ ∀ m ∈ ms, m.nextPort.length = m.ports ∧ m.factors.length = m.ports ∧ m.zones.length = m.cylinders := by
  induction n generalizing bs ms with
  | zero =>
    cases read
    simp
  | succ n ih =>
    unfold readSections at read
    split at read
    · rename_i m _ first
      obtain ⟨⟨ms', _⟩, tail, joined⟩ := Option.map_eq_some_iff.mp read
      cases joined
      obtain ⟨length, each⟩ := ih tail
      exact ⟨by simp [length], List.forall_mem_cons.mpr ⟨readSection_lengths first, each⟩⟩
    · cases read

theorem machineOf_members {members items : List Nat} {c : Configuration} (read : machineOf members items = some c) :
    c.members = members := by
  unfold machineOf at read
  split at read <;> cases read
  rfl

/-- The LENGTH check leaves 2 to 8 members, with one section each (R20). -/
theorem readConfiguration_lengths {content : List Byte} {c : Configuration} (read : readConfiguration content = some c) :
    2 ≤ c.members.length ∧ c.members.length ≤ 8 ∧ c.sections.length = c.members.length
    ∧ ∀ m ∈ c.sections, m.nextPort.length = m.ports ∧ m.factors.length = m.ports ∧ m.zones.length = m.cylinders := by
  unfold readConfiguration at read
  split at read
  · split at read
    · rename_i range
      split at read
      · rename_i members _ readMembers
        split at read
        · split at read
          · rename_i c' sections machine readSections'
            cases read
            have count := readFields_length readMembers
            rw [List.length_replicate] at count
            obtain ⟨length, each⟩ := readSections_length readSections'
            dsimp only
            rw [machineOf_members machine]
            exact ⟨count ▸ range.1, count ▸ range.2, length.trans count.symm, each⟩
          · cases read
        · cases read
      · cases read
    · cases read
  · cases read

/-- Validation finds nothing: each check of Table 2-4 after LENGTH passes. -/
theorem rejection_none {own index : Nat} {c : Configuration} (passes : rejection own index c = none) :
    rangeFailure c = none ∧ own ∈ c.members ∧ chainFailure c = none ∧ zonesCovered c = true
    ∧ c.sections.countP (fun m => m.muckOwner == 1) = 1 ∧ c.sections.countP (fun m => m.erectorOwner == 1) = 1 := by
  unfold rejection at passes
  split at passes
  · cases passes
  · split at passes
    · cases passes
    · split at passes
      · cases passes
      · split at passes
        · cases passes
        · split at passes
          · cases passes
          · split at passes
            · cases passes
            · simp_all

theorem Configuration.Passes.passed {c : Configuration} {s : State} (passes : c.Passes s.own) (config : s.node.config = some c) :
    s.ConfigurationPassed := by
  rintro c' h
  obtain rfl : c = c' := Option.some.inj (config.symm.trans h)
  obtain ⟨⟨content, read⟩, index, none⟩ := passes
  obtain ⟨two, eight, sections, lengths⟩ := readConfiguration_lengths read
  exact ⟨two, eight, sections, lengths, rejection_none none⟩

/-! ### The units built for it -/

namespace State

/-- The node record when a configuration is stored: JOINING, in a listen window (R23, R24). -/
def joined (c : Configuration) (digest : Half) (s : State) : State :=
  s.setNode { s.node with config := some c, digest := some digest, collection := none, state := .joining, listen := some 0 }

/-- The view is new, the beacon of a joining node queued (R29, R31). -/
def introduced (c : Configuration) (s : State) : State :=
  (s.setMachine { s.machine with ring := c.startRing, view := s.freshView, beaconTimer := 0 }).queueBeacon

theorem storeConfiguration_eq (c : Configuration) (digest : Half) (s : State) :
    s.storeConfiguration c digest = ((s.joined c digest).introduced c).buildUnits := rfl

end State

namespace State.Keeps

theorem introduced (c : Configuration) (s : State) : s.Keeps (s.introduced c) := by
  have viewed : s.Keeps (s.setMachine { s.machine with ring := c.startRing, view := s.freshView, beaconTimer := 0 }) :=
    setMachine_same rfl fun r hr => ⟨r, hr, rfl⟩
  exact viewed.trans (queueBeacon _)

/-- The records at validation: no drive runs (R82). -/
theorem setDrives_built (s u : State) : s.Keeps (s.setDrives u.builtDrives) :=
  setDrives fun _ d hd run => by
    obtain ⟨i, -, rfl⟩ := List.mem_map.mp hd
    obtain ⟨starting, running⟩ := rebuiltDrive_still u ⟨i + 1, .stopped, 0, 0, false⟩
    exact (run.elim starting running).elim

theorem buildEngine (s : State) : s.Keeps s.buildEngine := by
  unfold State.buildEngine
  split
  · have emptied : s.Keeps (s.setPlans { closed := [], opened := none }) := setPlans fun _ =>
      ⟨Nat.zero_le _, fun h => absurd h Bool.false_ne_true, Nat.zero_le _⟩
    have idle := setEngine_dropped (s := s.setPlans { closed := [], opened := none })
      (x := { resetEngine with state := .idle, erector := .ready }) (by simp [HoldsStep]) rfl
    exact (emptied.trans idle).trans (takeFault_if _ _ _)
  · exact refl s

/-- The grout unit at validation delivers nothing and owes nothing (R142). -/
theorem buildGrout_owes (s : State) : s.buildGrout.DosingIffInFlight ∧ s.buildGrout.DeliveredWithinOwed := by
  refine ⟨by simp [State.DosingIffInFlight, State.doseInFlight, State.buildGrout], ?_, fun p hp => ?_, fun d hd => nomatch hd⟩
  · have numbers : s.buildGrout.grout.ports.map (·.number) = (List.range s.ownSection.ports).map (· + 1) := by
      simp [State.buildGrout, Function.comp_def]
    rw [numbers]
    exact List.nodup_range.map (add_left_injective 1)
  · obtain ⟨i, -, rfl⟩ := List.mem_map.mp hp
    exact ⟨le_rfl, Nat.zero_le _⟩

theorem buildGrout_units (s : State) : s.KeepsUnits s.buildGrout :=
  ⟨⟨rfl, rfl, rfl, fun _ => rfl, id, id, id, fun _ => buildGrout_owes s, id⟩, id⟩

theorem buildGrout {s : State} (free : s.grout.restrained = false) : s.Keeps s.buildGrout := by
  have same : ∀ r, s.buildGrout.unitRestrains r = s.unitRestrains r := fun r => by
    cases r <;> simp [State.unitRestrains, free, State.buildGrout]
  exact ⟨buildGrout_units s, id,
    fun ⟨follow, unset, un⟩ => ⟨fun r => (follow r).trans (same r).symm, fun c r => (same r).trans (unset c r), un⟩⟩

theorem setMuck_reset (s : State) : s.KeepsUnits (s.setMuck resetMuck) := by
  have empty : (s.setMuck resetMuck).TrainOrdered := by
    simp [State.TrainOrdered, resetMuck]
  exact ⟨⟨rfl, rfl, rfl, fun _ => rfl, id, id, id, id, fun _ => empty⟩, id⟩

/-- The muck unit from its reset values on (R164). -/
theorem buildMuck_after {s : State} (owns : s.ownsMuck = true) : (s.setMuck resetMuck).Keeps s.buildMuck := by
  have faulted := takeFault_if (s.channels.screwFault = true) .screw (s.setMuck resetMuck)
  have configured : (if s.channels.screwFault then (s.setMuck resetMuck).takeFault .screw else s.setMuck resetMuck).configured
      = true := (configured_eq faulted).trans (configured_of_ownsMuck owns)
  have faced := testFace configured
  unfold State.buildMuck
  rw [if_pos owns]
  exact (faulted.trans faced).trans (testMuck ((configured_eq faced).trans configured))

theorem buildMuck_units (s : State) : s.KeepsUnits s.buildMuck := by
  by_cases owns : s.ownsMuck = true
  · exact (setMuck_reset s).trans (buildMuck_after owns).toKeepsUnits
  · unfold State.buildMuck
    rw [if_neg owns]
    exact (refl s).toKeepsUnits

theorem buildMuck_ordered {s : State} (h : s.RestraintsOrdered) : s.buildMuck.RestraintsOrdered := by
  by_cases owns : s.ownsMuck = true
  · exact (buildMuck_after owns).ordered h
  · unfold State.buildMuck
    rwa [if_neg owns]

theorem buildMuck {s : State} (muck : s.muck.muckRestrained = false) (face : s.muck.faceRestrained = false) :
    s.Keeps s.buildMuck := by
  by_cases owns : s.ownsMuck = true
  · have reset : s.Keeps (s.setMuck resetMuck) := ⟨setMuck_reset s, id, (setMuck (s := s) (x := resetMuck)
      (fun _ => by simp [State.TrainOrdered, resetMuck]) muck.symm face.symm).own⟩
    exact reset.trans (buildMuck_after owns)
  · unfold State.buildMuck
    rw [if_neg owns]
    exact refl s

/-- The units built up to the engine. -/
theorem buildChannels (s : State) : s.Keeps (((s.setCylinders s.builtCylinders).setDrives
    (s.setCylinders s.builtCylinders).builtDrives).setGuard { s.drive.guard with level := some s.cfg.guardIndex }).buildEngine :=
  (((setThrust_same (s := s)).trans (setDrives_built _ _)).trans setGuard).trans (buildEngine _)

theorem buildUnits_units (s : State) : s.KeepsUnits s.buildUnits :=
  ((buildChannels s).toKeepsUnits.trans (buildGrout_units _)).trans (buildMuck_units _)

theorem buildUnits_ordered {s : State} (h : s.RestraintsOrdered) : s.buildUnits.RestraintsOrdered :=
  buildMuck_ordered ((buildChannels s).ordered h)

theorem buildUnits_owes (s : State) : s.buildUnits.DosingIffInFlight ∧ s.buildUnits.DeliveredWithinOwed :=
  (buildMuck_units _).grout (buildGrout_owes _)

/-- Where no unit restrains, the units built restrain as their own entries say (R78). -/
theorem buildUnits {s : State} (free : ∀ r, s.unitRestrains r = false) : s.Keeps s.buildUnits :=
  ((buildChannels s).trans (buildGrout (by simpa [State.unitRestrains] using free .grout))).trans
    (buildMuck (by simpa [State.unitRestrains] using free .muck) (by simpa [State.unitRestrains] using free .face))

end State.Keeps

/-! ### A configuration is stored -/

namespace State

section
variable {u : State} (c : Configuration) (digest : Half)

theorem stored_number : (u.storeConfiguration c digest).node.number = u.node.number := by simp

theorem stored_config : (u.storeConfiguration c digest).node.config = some c :=
  ((Keeps.introduced c _).toKeepsUnits.trans (Keeps.buildUnits_units _)).config

theorem stored_pending : (u.storeConfiguration c digest).pending = u.pending := by simp

theorem stored_hold (left : (u.storeConfiguration c digest).inHold = false) :
    (u.storeConfiguration c digest).machine.phase = u.machine.phase :=
  ((Keeps.introduced c (u.joined c digest)).toKeepsUnits.trans (Keeps.buildUnits_units _)).hold left

theorem stored_units : (u.joined c digest).KeepsUnits (u.storeConfiguration c digest) :=
  (Keeps.introduced c _).toKeepsUnits.trans (Keeps.buildUnits_units _)

theorem stored_held (h : u.StepHeldByState) : (u.storeConfiguration c digest).StepHeldByState := (stored_units c digest).held h

theorem stored_bounded (h : u.StoreBounded) : (u.storeConfiguration c digest).StoreBounded := (stored_units c digest).store h

theorem stored_train (h : u.TrainOrdered) : (u.storeConfiguration c digest).TrainOrdered := (stored_units c digest).train h

theorem stored_owes : (u.storeConfiguration c digest).DosingIffInFlight ∧ (u.storeConfiguration c digest).DeliveredWithinOwed :=
  Keeps.buildUnits_owes _

variable (unconfigured : u.node.state = .unconfigured)
include unconfigured

/-- No drive of an UNCONFIGURED node runs (R84). -/
theorem stored_drives (h : u.DrivesRunInBore) : (u.storeConfiguration c digest).DrivesRunInBore :=
  (stored_units c digest).drives fun d hd run => by
    obtain ⟨-, member, -⟩ := h d hd run
    simp [unconfigured] at member

/-- An UNCONFIGURED node has no round (R47). -/
theorem stored_rounds (h : u.RoundListsMembers) : (u.storeConfiguration c digest).RoundListsMembers := by
  obtain ⟨un, lists⟩ := h
  refine (stored_units c digest).rounds ⟨(fun e => nomatch e), fun r hr => ?_⟩
  obtain ⟨configured, -⟩ := lists r hr
  simp [un unconfigured] at configured

theorem stored_restraints (h : u.RestraintsOrdered ∧ u.OwnRestraintsFollow) :
    (u.storeConfiguration c digest).RestraintsOrdered ∧ (u.storeConfiguration c digest).OwnRestraintsFollow := by
  obtain ⟨ordered, follow, unset, un⟩ := h
  have free := unset (un unconfigured)
  have introduced := Keeps.introduced c (u.joined c digest)
  have own : (u.joined c digest).OwnRestraintsFollow := ⟨follow, (fun no => nomatch no), (fun e => nomatch e)⟩
  have stillFree : ∀ r, ((u.joined c digest).introduced c).unitRestrains r = false := fun r => by
    rw [← free r]
    cases r <;> simp [State.unitRestrains, State.introduced, State.joined]
  have built := introduced.trans (Keeps.buildUnits stillFree)
  exact ⟨built.ordered ordered, built.own own⟩

end

end State
end Sys2Proof.Machine
end

section
/-! PROOFS. The properties kept (Chapters 1 to 9), each from the three ways a command can go. -/

-- In one thread: each proof that waits for those before it would keep a thread of its own.
set_option Elab.async false

namespace Sys2Proof.Machine

/-! ### At reset -/

section
variable (straps : BitVec 3)

theorem coldReset_linkOrdered : (State.coldReset straps).LinkOrdered := by
  simp [State.LinkOrdered, State.coldReset, LinkUnit.held]

theorem coldReset_restraintsOrdered : (State.coldReset straps).RestraintsOrdered := List.Pairwise.nil

theorem coldReset_ownRestraintsFollow : (State.coldReset straps).OwnRestraintsFollow := by
  have free : ∀ r, (State.coldReset straps).unitRestrains r = false := fun r => by cases r <;> rfl
  exact ⟨fun r => (free r).symm, fun _ => free, fun _ => rfl⟩

theorem coldReset_drivesRunInBore : (State.coldReset straps).DrivesRunInBore := fun _ hd => nomatch hd

theorem coldReset_stepHeldByState : (State.coldReset straps).StepHeldByState := by
  show _ ↔ _
  simp [State.coldReset, State.resetEngine]

theorem coldReset_storeBounded : (State.coldReset straps).StoreBounded := by
  simp [State.StoreBounded, State.coldReset, State.stepsHeld]

theorem coldReset_owes : (State.coldReset straps).DosingIffInFlight ∧ (State.coldReset straps).DeliveredWithinOwed := by
  simp [State.DosingIffInFlight, State.DeliveredWithinOwed, State.coldReset, State.doseInFlight]

theorem coldReset_trainOrdered : (State.coldReset straps).TrainOrdered := by
  simp [State.TrainOrdered, State.coldReset, State.resetMuck]

theorem coldReset_configurationPassed : (State.coldReset straps).ConfigurationPassed := fun _ h => nomatch h

theorem coldReset_roundListsMembers : (State.coldReset straps).RoundListsMembers := ⟨fun _ => rfl, fun _ h => nomatch h⟩

theorem coldReset_inHold : (State.coldReset straps).inHold = true := rfl

theorem coldReset_own : 1 ≤ (State.coldReset straps).own ∧ (State.coldReset straps).own ≤ 8 := by
  have := straps.isLt
  simp only [State.own, State.coldReset]
  omega

end

/-! ### At a command -/

/-- What a step of the node is: the clock ticks, a reset runs, or another command goes one of its three ways. -/
theorem step_cases {s t : State} (run : step s = .next t) :
    (∃ u : State, s.Keeps u ∧ ∃ pending index, t = (u.setPending pending).setFreeIndex index)
    ∨ (∃ straps, t = ((State.coldReset straps).setPending s.pending.tail).setFreeIndex s.freeIndex)
    ∨ ∃ i rest, s.pending = i :: rest ∧ (s.setPending rest).Moves (s.Brings i) t := by
  unfold step at run
  split at run
  · rename_i i rest pending
    by_cases reset : ∃ straps, i = .coldReset straps
    · obtain ⟨straps, rfl⟩ := reset
      cases run
      exact .inr (.inl ⟨straps, by rw [pending]; rfl⟩)
    · exact .inr (.inr ⟨i, rest, pending, State.Moves.of_exec (fun straps e => reset ⟨straps, e⟩) run⟩)
  · cases run
    refine .inl ⟨s.passTime 1, State.Keeps.passTime 1 s, ?_⟩
    unfold State.tick
    dsimp only
    split
    · exact ⟨(s.passTime 1).pending, (s.passTime 1).freeIndex, rfl⟩
    · rename_i c _
      exact ⟨[c], (s.passTime 1).freeIndex, rfl⟩
    · exact ⟨_, _, rfl⟩

/-- A property that the command queue and the free index do not touch, that holds at reset, and that each of the three ways of
a command keeps, is kept by every step. -/
theorem step_keeps {P : State → Prop} (inert : ∀ s pending index, P s → P ((s.setPending pending).setFreeIndex index))
    (reset : ∀ straps, P (State.coldReset straps)) (kept : ∀ s t : State, s.Keeps t → P s → P t)
    (stored : ∀ (u : State) c digest, u.node.state = .unconfigured → c.Passes u.own → P u → P (u.storeConfiguration c digest))
    (completed : ∀ (s t : State) p, (s.setMachine { s.machine with phase := targetPhase p }).KeepsStill t →
      (s.DrivesRunInBore → t.DrivesRunInBore) → P s → P t)
    {s t : State} (h : P s) (run : step s = .next t) : P t := by
  rcases step_cases run with ⟨u, ticks, pending, index, rfl⟩ | ⟨straps, rfl⟩ | ⟨i, rest, pending, moves⟩
  · exact inert _ _ _ (kept _ _ ticks h)
  · exact inert _ _ _ (reset straps)
  · have h' : P (s.setPending rest) := inert s rest s.freeIndex h
    cases moves with
    | keeps k => exact kept _ _ k h'
    | stores u c digest before unconfigured passes after =>
      exact kept _ _ after (stored u c digest unconfigured (before.own_eq ▸ passes) (kept _ _ before h'))
    | completes r m round open' others brings still drives => exact completed _ _ _ still drives h'

/-! ### The properties -/

theorem step_roundListsMembers {s t : State} : s.RoundListsMembers → step s = .next t → t.RoundListsMembers :=
  step_keeps (fun _ _ _ => id) coldReset_roundListsMembers (fun _ _ k => k.rounds)
    (fun _ c digest unconfigured _ => State.stored_rounds c digest unconfigured) fun _ _ _ still _ => still.rounds

theorem step_restraints {s t : State} : s.RestraintsOrdered ∧ s.OwnRestraintsFollow ∧ 1 ≤ s.own ∧ s.own ≤ 8 →
    step s = .next t → t.RestraintsOrdered ∧ t.OwnRestraintsFollow ∧ 1 ≤ t.own ∧ t.own ≤ 8 := by
  refine step_keeps (P := fun s => s.RestraintsOrdered ∧ s.OwnRestraintsFollow ∧ 1 ≤ s.own ∧ s.own ≤ 8) (fun _ _ _ => id)
    (fun straps => ⟨coldReset_restraintsOrdered straps, coldReset_ownRestraintsFollow straps, coldReset_own straps⟩) ?_ ?_ ?_
  · rintro s t k ⟨ordered, follow, own⟩
    exact ⟨k.ordered ordered, k.own follow, k.own_eq ▸ own⟩
  · rintro u c digest unconfigured - ⟨ordered, follow, own⟩
    obtain ⟨ordered', follow'⟩ := State.stored_restraints c digest unconfigured ⟨ordered, follow⟩
    exact ⟨ordered', follow', by simpa [State.own] using own⟩
  · rintro s t p still - ⟨ordered, follow, own⟩
    exact ⟨still.ordered ordered, still.own follow, by simpa [State.own, still.number] using own⟩

theorem step_drivesRunInBore {s t : State} : s.DrivesRunInBore → step s = .next t → t.DrivesRunInBore :=
  step_keeps (fun _ _ _ => id) coldReset_drivesRunInBore (fun _ _ k => k.drives)
    (fun _ c digest unconfigured _ => State.stored_drives c digest unconfigured) fun _ _ _ _ drives => drives

theorem step_planStore {s t : State} : s.StepHeldByState ∧ s.StoreBounded → step s = .next t →
    t.StepHeldByState ∧ t.StoreBounded :=
  step_keeps (P := fun s => s.StepHeldByState ∧ s.StoreBounded) (fun _ _ _ => id)
    (fun straps => ⟨coldReset_stepHeldByState straps, coldReset_storeBounded straps⟩)
    (fun _ _ k => .imp k.held k.store)
    (fun _ c digest _ _ => .imp (State.stored_held c digest) (State.stored_bounded c digest))
    fun _ _ _ still _ => .imp still.held still.store

theorem step_owes {s t : State} : s.DosingIffInFlight ∧ s.DeliveredWithinOwed → step s = .next t →
    t.DosingIffInFlight ∧ t.DeliveredWithinOwed :=
  step_keeps (P := fun s => s.DosingIffInFlight ∧ s.DeliveredWithinOwed) (fun _ _ _ => id) coldReset_owes (fun _ _ k => k.grout)
    (fun _ c digest _ _ _ => State.stored_owes c digest) fun _ _ _ still _ => still.grout

theorem step_trainOrdered {s t : State} : s.TrainOrdered → step s = .next t → t.TrainOrdered :=
  step_keeps (fun _ _ _ => id) coldReset_trainOrdered (fun _ _ k => k.train)
    (fun _ c digest _ _ => State.stored_train c digest) fun _ _ _ still _ => still.train

theorem configurationPassed_of_eq {s t : State} (number : t.node.number = s.node.number) (config : t.node.config = s.node.config)
    (h : s.ConfigurationPassed) : t.ConfigurationPassed := by
  unfold State.ConfigurationPassed State.own at h ⊢
  rwa [number, config]

theorem step_configurationPassed {s t : State} : s.ConfigurationPassed → step s = .next t → t.ConfigurationPassed :=
  step_keeps (fun _ _ _ => id) coldReset_configurationPassed (fun _ _ k => configurationPassed_of_eq k.number k.config)
    (fun u c digest _ passes _ => Configuration.Passes.passed (by simpa [State.own] using passes) (State.stored_config c digest))
    fun _ _ _ still _ => configurationPassed_of_eq still.number still.config

/-! ### Leaving HOLD (R49) -/

/-- A node leaves HOLD only where a round completes, and enters its target. -/
theorem hold_left {s t : State} {brings : Nat → VoteTarget → Prop} (moves : s.Moves brings t) (held : s.inHold = true)
    (left : t.inHold = false) : ∃ r m, s.machine.round = some r ∧ (m, none) ∈ r.votes ∧ brings m r.target
      ∧ (∀ v ∈ r.votes, v = (m, none) ∨ v.2 = some .ready) ∧ t.machine.phase = targetPhase r.target := by
  cases moves with
  | keeps k => simp [k.staysInHold held] at left
  | stores u c digest before unconfigured passes after =>
    have stays : (u.storeConfiguration c digest).inHold = true := by
      refine Bool.not_eq_false _ ▸ fun left => ?_
      have same := State.stored_hold c digest left
      have held := before.staysInHold held
      rw [State.inHold, same] at left
      rw [State.inHold, left] at held
      exact Bool.false_ne_true held
    simp [after.staysInHold stays] at left
  | completes r m round open' others brings still drives => exact ⟨r, m, round, open', brings, others, still.hold left⟩

theorem step_leavesHold {s t : State} (lists : s.RoundListsMembers) (run : step s = .next t) (held : s.inHold = true)
    (left : t.inHold = false) :
    ∃ r m, s.machine.round = some r ∧ m ∈ s.membersInOrder ∧ (m, none) ∈ r.votes ∧ s.BringsReady m r.target
      ∧ (∀ n ∈ s.membersInOrder, n = m ∨ (n, some VoteAnswer.ready) ∈ r.votes)
      ∧ (∀ v ∈ r.votes, v = (m, none) ∨ v.2 = some .ready) ∧ t.machine.phase = targetPhase r.target := by
  rcases step_cases run with ⟨u, ticks, pending, index, rfl⟩ | ⟨straps, rfl⟩ | ⟨i, rest, pending, moves⟩
  · exact absurd (ticks.staysInHold held) (by simpa [State.inHold] using left)
  · exact absurd left (by simp [State.inHold, State.coldReset])
  · obtain ⟨r, m, round, open', brings, others, phase⟩ := hold_left moves held left
    obtain ⟨-, members⟩ := lists.2 r round
    refine ⟨r, m, round, members ▸ List.mem_map_of_mem open', open', ⟨i, rest, pending, brings⟩, fun n mem => ?_, others, phase⟩
    obtain ⟨⟨n', a⟩, hv, rfl⟩ := List.mem_map.mp (members ▸ mem)
    rcases others _ hv with same | ready
    · exact .inl (congrArg Prod.fst same)
    · exact .inr (by rw [← ready]; exact hv)

end Sys2Proof.Machine

section
open Sys2Proof Sys2Proof.Machine

/-- Settles O13, by the three ways a command can go: only a completed round leaves HOLD. -/
theorem holdLeftOnlyByARound : Obligations.HoldLeftOnlyByARound := by
  intro s t lists run
  refine ⟨step_roundListsMembers lists run, fun held left => ?_⟩
  obtain ⟨r, m, round, member, open', brings, ready, others, phase⟩ := step_leavesHold lists run held left
  refine ⟨r, m, round, member, open', brings, ready, others, phase.trans ?_⟩
  cases r.target <;> rfl

/-- Settles O54. -/
theorem ownRestraintsKept : Obligations.OwnRestraintsKept := fun _ _ => step_restraints

/-- Settles O55. -/
theorem drivesRunOnlyInBore : Obligations.DrivesRunOnlyInBore := fun _ _ => step_drivesRunInBore

/-- Settles O56. -/
theorem planStoreKept : Obligations.PlanStoreKept := fun _ _ => step_planStore

/-- Settles O57. -/
theorem deliveredNeverExceedsOwed : Obligations.DeliveredNeverExceedsOwed := fun _ _ => step_owes

/-- Settles O58. -/
theorem trainQueueKept : Obligations.TrainQueueKept := fun _ _ => step_trainOrdered

/-- Settles O59. -/
theorem configurationPassedKept : Obligations.ConfigurationPassedKept := fun _ _ => step_configurationPassed

/-- Settles O60: each property at reset, by its own lemma. -/
theorem keptPropertiesHoldAtReset : Obligations.KeptPropertiesHoldAtReset := fun straps =>
  have ⟨dosing, owed⟩ := coldReset_owes straps
  ⟨coldReset_linkOrdered straps, coldReset_restraintsOrdered straps, coldReset_ownRestraintsFollow straps,
    coldReset_drivesRunInBore straps, coldReset_stepHeldByState straps, coldReset_storeBounded straps, dosing, owed,
    coldReset_trainOrdered straps, coldReset_configurationPassed straps, coldReset_roundListsMembers straps, rfl⟩

end
end

section
/-! PROOFS. Every command is taken: none faults and none is refused. -/

-- In one thread: each proof that waits for those before it would keep a thread of its own.
set_option Elab.async false

namespace Sys2Proof.Machine

/-- A command that waits for its timer, or for a frame on the wire, is taken in each case of its meaning. -/
theorem exec_conditional {i : Instr} (s : State) (conditional : i = .beaconPeriod ∨ (∃ peer, i = .silenceExpiry peer)
    ∨ i = .listenWindowEnd ∨ i = .voteWindowExpiry ∨ i = .sampleTimerExpiry ∨ i = .probeEnd ∨ i = .stageLimitExpiry
    ∨ i = .placementLimitExpiry ∨ i = .doseLimitExpiry ∨ ∃ heard, i = .loopbackCheck heard) : ∃ t : State, exec i s = .next t := by
  rcases conditional with rfl | ⟨peer, rfl⟩ | rfl | rfl | rfl | rfl | rfl | rfl | rfl | ⟨heard, rfl⟩
  · simp only [exec, execBeaconPeriod]
    split <;> exact ⟨_, rfl⟩
  · simp only [exec, execSilenceExpiry]
    split
    · split
      · split <;> exact ⟨_, rfl⟩
      · exact ⟨_, rfl⟩
    · exact ⟨_, rfl⟩
  · simp only [exec, execListenWindowEnd]
    split <;> exact ⟨_, rfl⟩
  · simp only [exec, execVoteWindowExpiry]
    split <;> exact ⟨_, rfl⟩
  · simp only [exec, execSampleTimerExpiry]
    split <;> exact ⟨_, rfl⟩
  · simp only [exec, execProbeEnd]
    split <;> exact ⟨_, rfl⟩
  · simp only [exec, execStageLimitExpiry]
    split <;> exact ⟨_, rfl⟩
  · simp only [exec, execPlacementLimitExpiry]
    split <;> exact ⟨_, rfl⟩
  · simp only [exec, execDoseLimitExpiry]
    split
    · split <;> exact ⟨_, rfl⟩
    · exact ⟨_, rfl⟩
  · simp only [exec, execLoopbackCheck]
    split
    · split <;> exact ⟨_, rfl⟩
    · exact ⟨_, rfl⟩

theorem exec_arbitration (event : ArbitrationEvent) (contenders : List Key) (s : State) :
    ∃ t : State, exec (.arbitration event contenders) s = .next t := by
  cases event with
  | start => exact ⟨_, rfl⟩
  | settle => exact ⟨_, rfl⟩
  | whole =>
    simp only [exec, execArbitration]
    split <;> exact ⟨_, rfl⟩

theorem exec_next (i : Instr) (s : State) : ∃ t : State, exec i s = .next t := by
  cases i with
  | arbitration event contenders => exact exec_arbitration event contenders s
  | loopbackCheck | beaconPeriod | silenceExpiry | listenWindowEnd | voteWindowExpiry | sampleTimerExpiry | probeEnd
  | stageLimitExpiry | placementLimitExpiry | doseLimitExpiry => exact exec_conditional s (by simp)
  | _ => exact ⟨_, rfl⟩

/-- No command but a reset changes the command queue or the node number, and the queue stays at a reset too. -/
theorem State.Moves.pending_number {s t : State} {brings : Nat → VoteTarget → Prop} (moves : s.Moves brings t) :
    t.pending = s.pending ∧ t.node.number = s.node.number := by
  cases moves with
  | keeps k => exact ⟨k.pending, k.number⟩
  | stores u c digest before unconfigured passes after =>
    exact ⟨(after.pending.trans (State.stored_pending c digest)).trans before.pending,
      (after.number.trans (State.stored_number c digest)).trans before.number⟩
  | completes r m round open' others brings still drives => exact ⟨still.pending, still.number⟩

end Sys2Proof.Machine

section
open Sys2Proof Sys2Proof.Machine

/-- Settles O3: every command is taken, and but for a reset it goes one of its three ways. -/
theorem execKeepsQueueAndNumber : Obligations.ExecKeepsQueueAndNumber := by
  intro i s
  obtain ⟨t, run⟩ := exec_next i s
  by_cases reset : ∃ straps, i = .coldReset straps
  · obtain ⟨straps, rfl⟩ := reset
    exact ⟨_, rfl, rfl, fun noReset => absurd rfl (noReset straps)⟩
  · have ⟨pending, number⟩ := (State.Moves.of_exec (fun straps e => reset ⟨straps, e⟩) run).pending_number
    exact ⟨t, run, pending, fun _ => number⟩

/-- Settles O4. -/
theorem coldResetValues : Obligations.ColdResetValues := fun straps s => by
  refine ⟨_, rfl, ?_⟩
  repeat' constructor

end
end

section
/-! PROOFS. The transmit queue (R3, R4). No age stands in the queue twice only as far as the order of urgency and age shows it:
two frames of different urgency may have one age, and the first of them on the wire has an age the queue holds still. -/

-- In one thread: each proof that waits for those before it would keep a thread of its own.
set_option Elab.async false

namespace Sys2Proof.Machine

/-- A frame that waits with age 0. -/
def waiting (body : Body) : TxFrame := { frame := ⟨1, 0, body⟩, tag := .plain, age := 0, failures := 0, discard := false }

/-- A reset node with a HOLD frame and a VOTE frame of one age in its transmit queue, at a bus idle. -/
def oneAgeTwice : State :=
  ((State.coldReset 0).setLink { queue := [waiting (.hold .discord .hard), waiting (.vote .bore .ready)], onWire := none
                                 transmitting := true, nextAge := 1 }).setPending [.arbitration .start []]

theorem oneAgeTwice_linkOrdered : oneAgeTwice.LinkOrdered := by
  unfold State.LinkOrdered
  decide

end Sys2Proof.Machine

section
open Sys2Proof Sys2Proof.Machine

/-- Refutes O53: two queued frames of different urgency may have one age, and then the wire's frame has an age the queue holds. -/
theorem not_transmitQueueKept : ¬ Obligations.TransmitQueueKept := by
  intro kept
  obtain ⟨-, -, -, -, wire, -⟩ := kept oneAgeTwice _ oneAgeTwice_linkOrdered rfl
  have ⟨_, _, differ⟩ := wire ⟨waiting (.hold .discord .hard), false⟩ rfl
  exact differ (waiting (.vote .bore .ready)) (.head _) rfl

end
end

section
/-! PROOFS. Services (R12, R192): how an accepted COMMAND is its service, what a service does at a node without a configuration,
and what an answer changes. -/

-- In one thread: each proof that waits for those before it would keep a thread of its own.
set_option Elab.async false

namespace Sys2Proof.Machine

section
variable {s : State} {sender target : Station}

/-- The wording of the statements: an accepted console frame is what its block makes of it. -/
theorem receive_console (heard : s.HearsConsole sender target) (take : State → State) :
    (Host.Outcome.next (s.receive .console sender target take) : Outcome) = .next (take s) :=
  congrArg _ (receive_of_hearsConsole heard)

theorem receiveCommand_console (heard : s.HearsConsole sender target) (take : State.ServiceTake) (args : List Byte) :
    (Host.Outcome.next (s.receiveCommand take sender target args) : Outcome) = .next (s |> take sender (target != 0) args) :=
  congrArg _ (receiveCommand_of_hearsConsole heard)

end

namespace State

theorem configuredOnly_of_configured {s : State} (configured : s.configured = true) (service : Service) (take : ServiceTake)
    (station : Station) (addressed : Bool) (args : List Byte) :
    configuredOnly service take station addressed args s = take station addressed args s := if_pos configured

theorem configuredOnly_of_unconfigured {s : State} (unconfigured : s.configured = false) (service : Service) (take : ServiceTake)
    (station : Station) (addressed : Bool) (args : List Byte) :
    configuredOnly service take station addressed args s = s.answer station addressed service .state :=
  if_neg (by simp [unconfigured])

/-! ### Answers (R192) -/

theorem answer_broadcast (s : State) (station : Station) (service : Service) (e : EndCode) :
    s.answer station false service e = s := rfl

theorem answer_addressed (s : State) (station : Station) (service : Service) (e : EndCode) :
    s.answer station true service e
      = s.queueTagged station (.reply [serviceCode service, endCode e, detailCode e, 1, 1]) .plain := rfl

/-- A plain frame other than HOLD and RING_CLOSED that finds the queue full is dropped and counted (R4). -/
theorem queueReply_of_full {s : State} (runs : s.link.transmitting = true) (full : 16 ≤ s.link.held) (station : Station)
    (payload : List Byte) : s.queueTagged station (.reply payload) .plain = s.stepAge.countDrop := by
  have runs' : s.stepAge.link.transmitting = true := runs
  have full' : Config.txqPlaces ≤ s.stepAge.link.held := full
  simp only [queueTagged, isHold, admitFrame, runs', full']
  rfl

/-- A stopped transmitter discards the frame (R10). -/
theorem queueReply_of_stopped {s : State} (stopped : s.link.transmitting = false) (station : Station)
    (payload : List Byte) : s.queueTagged station (.reply payload) .plain = s.stepAge := by
  have stopped' : s.stepAge.link.transmitting = false := stopped
  simp only [queueTagged, isHold, admitFrame, stopped']
  rfl

end State

end Sys2Proof.Machine

section
open Sys2Proof Sys2Proof.Machine

/-- Settles O1. -/
theorem stepRunsFrontCommand : Obligations.StepRunsFrontCommand := by
  intro c rest s pending
  unfold step
  rw [pending]

/-- Settles O9: a reply finds a place, or the queue full, or the transmitter stopped. -/
theorem servicesAreAnswered : Obligations.ServicesAreAnswered := by
  intro s station service e
  refine ⟨State.answer_broadcast .., fun place => ?_, fun runs full => ?_, fun stopped => ?_⟩
  · exact State.queueTagged_of_hasPlace place station (body := .reply _) rfl .plain
  · exact State.queueReply_of_full runs full station _
  · exact State.queueReply_of_stopped stopped station _

end
end

section
/-! PROOFS. SETPOINT (R68, R86), NOTICES and the codes of no service (R197, R12), the guard's services (R90 to R98). -/

-- In one thread: each proof that waits for those before it would keep a thread of its own.
set_option Elab.async false

namespace Sys2Proof.Machine

namespace State

theorem takeSetpoint_of_unconfigured {s : State} (unconfigured : s.configured = false) (payload : List Byte) :
    s.takeSetpoint payload = s := if_neg (by simp [unconfigured])

theorem setpointOf_of_length {payload : List Byte} (length : payload.length ≠ 4) : setpointOf payload = none := by
  unfold setpointOf
  split
  · exact absurd rfl length
  · rfl

/-- A payload of another length changes nothing. -/
theorem takeSetpoint_of_length {payload : List Byte} (length : payload.length ≠ 4) (s : State) : s.takeSetpoint payload = s := by
  unfold takeSetpoint
  rw [setpointOf_of_length length, ite_self]

/-- The advance field in range replaces its setpoint, and leaves it otherwise (R68). -/
theorem takeAdvanceSetpoint_eq (v : Nat) (s : State) : s.takeAdvanceSetpoint v
    = s.setThrust { s.thrust with setpoint := if v ≤ 120 then v else s.thrust.setpoint } := by
  unfold takeAdvanceSetpoint
  split <;> rfl

/-- The cutterhead field in range replaces its setpoint, and leaves it otherwise (R86). -/
theorem takeCutterSetpoint_eq (v : Nat) (s : State) : s.takeCutterSetpoint v
    = s.setDrive { s.drive with setpoint := if v ≤ 600 then v else s.drive.setpoint } := by
  unfold takeCutterSetpoint
  split <;> rfl

theorem takeSetpoint_of_four {s : State} (configured : s.configured = true) (a1 a0 c1 c0 : Byte) :
    s.takeSetpoint [a1, a0, c1, c0] = (s.takeAdvanceSetpoint (word16 a1 a0)).takeCutterSetpoint (word16 c1 c0) := if_pos configured

theorem startProbe_of_some {s : State} {p : Probe} (probe : s.drive.guard.probe = some p) : s.startProbe = s := by
  unfold startProbe
  rw [probe]

theorem startProbe_of_none {s : State} (probe : s.drive.guard.probe = none) :
    s.startProbe = s.setGuard { s.drive.guard with probe := some ⟨0, 0⟩ } := by
  unfold startProbe
  rw [probe]

theorem serveNotices_broadcast (station : Station) (args : List Byte) (s : State) : s.serveNotices station false args = s := by
  unfold serveNotices
  split <;> rfl

end State

theorem isEmpty_false {args : List Byte} (some' : args ≠ []) : args.isEmpty = false := by simpa using some'

section
variable {s : State} (configured : s.configured = true) (station : Station) (addressed : Bool)
include configured

theorem serveGuardLevel_of_byte (b : Byte) : s.serveGuardLevel station addressed [b] =
    if b.toNat ≤ 7 then (s.setGuard { s.drive.guard with level := some b.toNat }).answer station addressed .guardLevel .done
    else s.answer station addressed .guardLevel .range :=
  State.configuredOnly_of_configured configured ..

theorem serveGuardLevel_of_length {args : List Byte} (length : args.length ≠ 1) :
    s.serveGuardLevel station addressed args = s.answer station addressed .guardLevel .format := by
  refine (State.configuredOnly_of_configured configured ..).trans ?_
  split
  · exact absurd rfl length
  · rfl

theorem serveGuardProbe_eq (args : List Byte) : s.serveGuardProbe station addressed args =
    if !args.isEmpty then s.answer station addressed .guardProbe .format
    else if s.drive.guard.probe.isSome then s.answer station addressed .guardProbe .busy
    else s.startProbe.answer station addressed .guardProbe .done :=
  State.configuredOnly_of_configured configured ..

theorem serveGuardReset_eq (args : List Byte) : s.serveGuardReset station addressed args =
    if !args.isEmpty then s.answer station addressed .guardReset .format
    else if s.inHold then (s.setGuard { s.drive.guard with jam := false, stalls := 0 }).answer station addressed .guardReset .done
    else s.answer station addressed .guardReset .state :=
  State.configuredOnly_of_configured configured ..

end

end Sys2Proof.Machine

section
open Sys2Proof Sys2Proof.Machine

/-- Settles O21, field by field. -/
theorem setpointTaken : Obligations.SetpointTaken := by
  intro sender target payload s heard
  have taken : exec (.setpoint sender target payload) s = .next (s.takeSetpoint payload) := receive_console heard _
  rw [taken]
  refine ⟨fun ignored => ?_, fun a1 a0 c1 c0 configured fields => ?_⟩
  · rcases ignored with unconfigured | length
    · rw [State.takeSetpoint_of_unconfigured unconfigured]
    · rw [State.takeSetpoint_of_length length]
  · rw [fields, State.takeSetpoint_of_four configured, State.takeAdvanceSetpoint_eq, State.takeCutterSetpoint_eq]
    rfl

/-- Settles O36. -/
theorem noticesReplyAndUnknownCode : Obligations.NoticesReplyAndUnknownCode := by
  refine ⟨fun sender target args s heard => ?_, fun sender target payload s heard => ?_,
    fun sender target service args s heard _ => ?_⟩
  · have served : exec (.notices sender target args) s = .next (s.serveNotices sender (target != 0) args) :=
      receiveCommand_console heard _ _
    rw [served]
    refine ⟨fun broadcast => ?_, fun addressed given => ?_, fun addressed bare => ?_⟩
    · rw [broadcast]
      exact congrArg Host.Outcome.next (State.serveNotices_broadcast sender args s)
    · rw [bne_iff_ne.mpr addressed]
      exact congrArg Host.Outcome.next (if_neg (by simpa using given))
    · rw [bne_iff_ne.mpr addressed, bare]
      rfl
  · exact congrArg Host.Outcome.next (receive_of_hearsPeer heard)
  · have served : exec (.unknownServiceCode sender target service args) s
        = .next (s.serveUnknown service sender (target != 0) args) := receiveCommand_console heard _ _
    rw [served]
    refine ⟨fun broadcast => ?_, fun addressed => ?_⟩
    · rw [broadcast]
      rfl
    · rw [bne_iff_ne.mpr addressed]
      rfl

/-- Settles O40. -/
theorem guardServicesAnswered : Obligations.GuardServicesAnswered := by
  intro sender target args s heard
  have level : exec (.guardLevel sender target args) s = .next (s.serveGuardLevel sender (target != 0) args) :=
    receiveCommand_console heard _ _
  have probe : exec (.guardProbe sender target args) s = .next (s.serveGuardProbe sender (target != 0) args) :=
    receiveCommand_console heard _ _
  have reset : exec (.guardReset sender target args) s = .next (s.serveGuardReset sender (target != 0) args) :=
    receiveCommand_console heard _ _
  rw [level, probe, reset]
  refine ⟨fun unconfigured => ?_, fun configured => ⟨fun b only low => ?_, fun b only high => ?_, fun length => ?_,
    fun given => ?_, fun bare => ?_⟩⟩
  · exact ⟨congrArg _ (State.configuredOnly_of_unconfigured unconfigured ..),
      congrArg _ (State.configuredOnly_of_unconfigured unconfigured ..),
      congrArg _ (State.configuredOnly_of_unconfigured unconfigured ..)⟩
  · rw [only, serveGuardLevel_of_byte configured, if_pos low]
  · rw [only, serveGuardLevel_of_byte configured, if_neg (Nat.not_le.mpr high)]
  · rw [serveGuardLevel_of_length configured _ _ length]
  · rw [serveGuardProbe_eq configured, serveGuardReset_eq configured, isEmpty_false given]
    exact ⟨rfl, rfl⟩
  · rw [serveGuardProbe_eq configured, serveGuardReset_eq configured, bare]
    refine ⟨fun running => ?_, fun none => ?_, fun held => ?_, fun free => ?_⟩
    · rw [running]
      rfl
    · rw [State.startProbe_of_none none, none]
      rfl
    · rw [held]
      rfl
    · rw [free]
      rfl

end
end

section
/-! PROOFS. Time (log 2): what a millisecond moves, and that the command of a timer that runs passes the time left on it. -/

-- In one thread: each proof that waits for those before it would keep a thread of its own.
set_option Elab.async false

namespace Sys2Proof.Machine

/-! ### What time moves -/

/-- The time left is 0 once it has passed. -/
theorem left_advanceUp (limit t : Nat) : limit - advanceUp limit (limit - t) t = 0 := by
  unfold advanceUp
  omega

namespace State

/-- The dose apart, what time moves is moved whether one is in flight or not. -/
theorem of_setDose_if {α : Type} (part : State → α) (same : ∀ u d, part (u.setDose d) = part u) (c : Prop) [Decidable c]
    (u : State) (d : Option Dose) : part (if c then u.setDose d else u) = part u := by
  split
  · exact same u d
  · rfl

variable (ms : Nat) (s : State)

theorem passTime_node : (s.passTime ms).node = { s.node with listen := s.node.listen.map (advanceUp Config.listenWindow ms) } :=
  of_setDose_if (·.node) (fun _ _ => rfl) ..

theorem passTime_engine : (s.passTime ms).engine = { s.engine with limit := s.engine.limit.map (· - ms) } :=
  of_setDose_if (·.engine) (fun _ _ => rfl) ..

theorem passTime_machine : (s.passTime ms).machine = { s.machine with
    beaconTimer := if s.configured then advanceUp Config.beaconPeriod ms s.machine.beaconTimer else s.machine.beaconTimer
    round := s.machine.round.map fun r => { r with remaining := r.remaining - ms }
    view := s.machine.view.map fun e => { e with since := e.since.map (advanceUp Config.silenceInterval ms) } } :=
  of_setDose_if (·.machine) (fun _ _ => rfl) ..

theorem passTime_timer : (s.passTime ms).drive.guard.timer = s.drive.guard.timer.map (advanceUp Config.samplePeriod ms) :=
  of_setDose_if (·.drive.guard.timer) (fun _ _ => rfl) ..

/-- A probe in flight, `ms` milliseconds on. -/
def probeOn (p : Probe) : Probe :=
  { elapsed := advanceUp Config.probeLength ms p.elapsed
    weighted := p.weighted + s.totalPercent * (advanceUp Config.probeLength ms p.elapsed - p.elapsed) }

theorem passTime_probe : (s.passTime ms).drive.guard.probe = s.drive.guard.probe.map (s.probeOn ms) :=
  of_setDose_if (·.drive.guard.probe) (fun _ _ => rfl) ..

/-- In 0 ms a probe takes nothing. -/
theorem probeOn_zero (p : Probe) : s.probeOn 0 p = p := by
  have still : advanceUp Config.probeLength 0 p.elapsed = p.elapsed := by
    unfold advanceUp
    omega
  simp [probeOn, still]

theorem passTime_dose {d : Dose} (dose : s.grout.dose = some d) (runs : d.ending = none) :
    (s.passTime ms).grout.dose = some { d with elapsed := advanceUp Config.doseLimit ms d.elapsed } := by
  have flies : s.doseInFlight = true := by simp [doseInFlight, dose, runs]
  unfold passTime
  dsimp only
  rw [if_pos (by exact flies)]
  simp [setDose, dose]

theorem passTime_configured : (s.passTime ms).configured = s.configured := by simp [configured]

theorem passTime_entry (peer : Nat) : (s.passTime ms).entry? peer
    = (s.entry? peer).map fun e => { e with since := e.since.map (advanceUp Config.silenceInterval ms) } := by
  unfold entry?
  rw [passTime_machine, List.find?_map]
  rfl

end State

/-! ### The commands of the timers -/

section
variable {s : State} {left : Nat}

theorem beaconPeriod_left (timer : s.timerLeft .beaconPeriod = some left) :
    exec .beaconPeriod s = exec .beaconPeriod (s.passTime left) := by
  simp only [State.timerLeft] at timer
  split at timer
  · rename_i runs
    obtain rfl := Option.some.inj timer
    have runs' : ((s.passTime (Config.beaconPeriod - s.machine.beaconTimer)).configured
        && (s.passTime (Config.beaconPeriod - s.machine.beaconTimer)).node.state != .unconfigured) = true := by
      simpa [State.passTime_configured] using runs
    have configured : s.configured = true := (Bool.and_eq_true_iff.mp runs).1
    have none : Config.beaconPeriod - (s.passTime (Config.beaconPeriod - s.machine.beaconTimer)).machine.beaconTimer = 0 := by
      rw [State.passTime_machine]
      simp only [configured, if_true]
      exact left_advanceUp _ _
    simp only [exec, execBeaconPeriod]
    rw [if_pos runs, if_pos runs', none, passTime_zero]
  · cases timer

theorem silenceExpiry_left {peer : Nat} (timer : s.timerLeft (.silenceExpiry peer) = some left) :
    exec (.silenceExpiry peer) s = exec (.silenceExpiry peer) (s.passTime left) := by
  simp only [State.timerLeft, Option.map_eq_some_iff, Option.bind_eq_some_iff, Option.filter_eq_some_iff] at timer
  obtain ⟨ran, ⟨e, ⟨entry, other⟩, since⟩, rfl⟩ := timer
  have entry' := s.passTime_entry (Config.silenceInterval - ran) peer
  rw [entry, Option.map_some, since, Option.map_some] at entry'
  have own : (s.passTime (Config.silenceInterval - ran)).own = s.own := by simp [State.own]
  have runs : ¬(peer = s.own ∨ e.presence = .silent) := by simpa using other
  simp only [exec, execSilenceExpiry, entry, entry', since, own]
  rw [if_neg runs, if_neg runs, left_advanceUp, passTime_zero]

theorem listenWindowEnd_left (timer : s.timerLeft .listenWindowEnd = some left) :
    exec .listenWindowEnd s = exec .listenWindowEnd (s.passTime left) := by
  simp only [State.timerLeft] at timer
  split at timer
  · rename_i joining
    obtain ⟨ran, listen, rfl⟩ := Option.map_eq_some_iff.mp timer
    simp only [exec, execListenWindowEnd, State.passTime_node, joining, listen, Option.map_some, left_advanceUp, passTime_zero]
  · cases timer

theorem voteWindowExpiry_left (timer : s.timerLeft .voteWindowExpiry = some left) :
    exec .voteWindowExpiry s = exec .voteWindowExpiry (s.passTime left) := by
  obtain ⟨r, round, rfl⟩ := Option.map_eq_some_iff.mp timer
  simp only [exec, execVoteWindowExpiry, State.passTime_machine, round, Option.map_some, Nat.sub_self, passTime_zero]
  rfl

theorem sampleTimerExpiry_left (timer : s.timerLeft .sampleTimerExpiry = some left) :
    exec .sampleTimerExpiry s = exec .sampleTimerExpiry (s.passTime left) := by
  obtain ⟨ran, running, rfl⟩ := Option.map_eq_some_iff.mp timer
  simp only [exec, execSampleTimerExpiry, State.passTime_timer, running, Option.map_some, left_advanceUp, passTime_zero]

theorem probeEnd_left (timer : s.timerLeft .probeEnd = some left) :
    exec .probeEnd s = exec .probeEnd (s.passTime left) := by
  obtain ⟨p, probe, rfl⟩ := Option.map_eq_some_iff.mp timer
  simp only [exec, execProbeEnd, State.passTime_probe, probe, Option.map_some, Option.getD_some]
  have none : Config.probeLength - (s.probeOn (Config.probeLength - p.elapsed) p).elapsed = 0 := left_advanceUp _ _
  rw [none, passTime_zero, State.probeOn_zero]

theorem stageLimitExpiry_left (timer : s.timerLeft .stageLimitExpiry = some left) :
    exec .stageLimitExpiry s = exec .stageLimitExpiry (s.passTime left) := by
  simp only [State.timerLeft] at timer
  split at timer
  · rename_i stage
    rcases stage with stage | stage <;>
      simp only [exec, execStageLimitExpiry, State.passTime_engine, stage, timer, Option.map_some, Nat.sub_self, passTime_zero]
  · cases timer

theorem placementLimitExpiry_left (timer : s.timerLeft .placementLimitExpiry = some left) :
    exec .placementLimitExpiry s = exec .placementLimitExpiry (s.passTime left) := by
  simp only [State.timerLeft] at timer
  split at timer
  · rename_i placing
    simp only [exec, execPlacementLimitExpiry, State.passTime_engine, placing, timer, Option.map_some, Nat.sub_self,
      passTime_zero]
  · cases timer

theorem doseLimitExpiry_left (timer : s.timerLeft .doseLimitExpiry = some left) :
    exec .doseLimitExpiry s = exec .doseLimitExpiry (s.passTime left) := by
  simp only [State.timerLeft, Option.map_eq_some_iff, Option.filter_eq_some_iff] at timer
  obtain ⟨d, ⟨dose, runs⟩, rfl⟩ := timer
  have dose' := s.passTime_dose (Config.doseLimit - d.elapsed) dose (Option.isNone_iff_eq_none.mp runs)
  simp only [exec, execDoseLimitExpiry, dose, dose', runs, if_true, left_advanceUp, passTime_zero]

/-- The command of a timer that runs passes the time left on it first. -/
theorem expiry_left {i : Instr} (expiry : State.isExpiry i) (timer : s.timerLeft i = some left) :
    exec i s = exec i (s.passTime left) := by
  rcases expiry with ⟨peer, rfl⟩ | rfl | rfl | rfl | rfl | rfl | rfl | rfl | rfl
  · exact silenceExpiry_left timer
  · exact beaconPeriod_left timer
  · exact listenWindowEnd_left timer
  · exact voteWindowExpiry_left timer
  · exact sampleTimerExpiry_left timer
  · exact probeEnd_left timer
  · exact stageLimitExpiry_left timer
  · exact placementLimitExpiry_left timer
  · exact doseLimitExpiry_left timer

/-- The command of a timer that does not run changes nothing. -/
theorem expiry_stopped {i : Instr} (expiry : State.isExpiry i) (timer : s.timerLeft i = none) : exec i s = .next s := by
  rcases expiry with ⟨peer, rfl⟩ | rfl | rfl | rfl | rfl | rfl | rfl | rfl | rfl
  · simp only [exec, execSilenceExpiry]
    split
    · rename_i e entry
      split
      · rename_i ran since
        refine if_pos (not_not.mp fun runs => ?_)
        obtain ⟨other, heard⟩ := not_or.mp runs
        simp [State.timerLeft, entry, since, other, heard, Option.filter] at timer
      · rfl
    · rfl
  · simp only [State.timerLeft] at timer
    split at timer
    · cases timer
    · exact if_neg ‹_›
  · simp only [exec, execListenWindowEnd]
    split
    · simp_all [State.timerLeft]
    · rfl
  · simp only [exec, execVoteWindowExpiry]
    split
    · simp_all [State.timerLeft]
    · rfl
  · simp only [exec, execSampleTimerExpiry]
    split
    · simp_all [State.timerLeft]
    · rfl
  · simp only [exec, execProbeEnd]
    split
    · simp_all [State.timerLeft]
    · rfl
  · simp only [exec, execStageLimitExpiry]
    split
    · simp_all [State.timerLeft]
    · simp_all [State.timerLeft]
    · rfl
  · simp only [exec, execPlacementLimitExpiry]
    split
    · simp_all [State.timerLeft]
    · rfl
  · simp only [exec, execDoseLimitExpiry]
    split
    · split
      · simp_all [State.timerLeft, Option.filter]
      · rfl
    · rfl

end

/-! ### The tick -/

/-- Commands that fall due together are queued in some order, none lost and none twice. -/
theorem orderDue_perm (fuel index : Nat) (cs : List Instr) : (orderDue fuel index cs).Perm cs := by
  induction fuel generalizing index cs with
  | zero => exact .refl cs
  | succ fuel ih =>
    match cs with
    | [] | [_] => exact .refl _
    | c :: d :: rest =>
      have inside : Config.freeOrder index % (c :: d :: rest).length < (c :: d :: rest).length := Nat.mod_lt _ (Nat.succ_pos _)
      simp only [orderDue, List.getElem?_eq_getElem inside, Option.toList_some, List.singleton_append]
      exact ((ih _ _).cons _).trans (List.getElem_cons_eraseIdx_perm inside)

/-- A tick queues the commands due, and nothing more than time and the queue changes. -/
theorem tick_eq {s : State} (empty : s.pending = []) : ∃ pending index,
    s.tick = ((s.passTime 1).setPending pending).setFreeIndex index ∧ pending.Perm (s.passTime 1).dueCommands := by
  unfold State.tick
  dsimp only
  split
  · rename_i none
    refine ⟨(s.passTime 1).pending, (s.passTime 1).freeIndex, rfl, ?_⟩
    rw [none]
    simp [empty]
  · rename_i c one
    exact ⟨[c], (s.passTime 1).freeIndex, rfl, one ▸ .refl _⟩
  · exact ⟨_, _, rfl, orderDue_perm _ _ _⟩

end Sys2Proof.Machine

section
open Sys2Proof Sys2Proof.Machine

/-- Settles O2: the tick, and each timer's command. -/
theorem timePasses : Obligations.TimePasses := by
  refine ⟨fun s empty => ?_, fun i s expiry => ⟨expiry_stopped expiry, fun left => expiry_left expiry⟩⟩
  obtain ⟨pending, index, ticks, due⟩ := tick_eq empty
  have stepped : step s = .next s.tick := by
    unfold step
    rw [empty]
  refine ⟨s.tick, stepped, ?_⟩
  rw [ticks]
  refine ⟨rfl, due, ?_⟩
  simp [State.passTime_machine, State.passTime_engine, State.passTime_node, Config.listenWindow]

end
end

section
/-! PROOFS. The bytes of frames (R2, R15, Tables 1-3 to 1-10): each code, each field and each body is read back as what was
written, and what is read was so written. -/

-- In one thread: each proof that waits for those before it would keep a thread of its own.
set_option Elab.async false

namespace Sys2Proof.Machine

/-! ### Bytes and words -/

theorem byteOf_toNat {n : Nat} (fits : n < 256) : (byteOf n).toNat = n := by
  simp only [byteOf, BitVec.toNat_ofNat]
  exact Nat.mod_eq_of_lt fits

theorem byteOf_eq {n : Nat} {b : Byte} (same : b.toNat = n) : byteOf n = b := by
  rw [← same]
  exact BitVec.eq_of_toNat_eq (byteOf_toNat b.isLt)

/-- A word as two bytes, high byte first, and joined again (R15). -/
theorem word_toNat (hi lo : Byte) : (hi ++ lo).toNat = hi.toNat * 256 + lo.toNat := by
  rw [BitVec.toNat_append, ← Nat.shiftLeft_add_eq_or_of_lt lo.isLt, Nat.shiftLeft_eq]

theorem bytes16_word (hi lo : Byte) : bytes16 (hi ++ lo).toNat = [hi, lo] := by
  have high := hi.isLt
  have low := lo.isLt
  have first : byteOf ((hi.toNat * 256 + lo.toNat) / 256) = hi := byteOf_eq (by omega)
  have second : byteOf (hi.toNat * 256 + lo.toNat) = lo := by
    apply BitVec.eq_of_toNat_eq
    simp only [byteOf, BitVec.toNat_ofNat]
    omega
  simp only [bytes16, word_toNat, first, second]

theorem word_bytes16 (x : Half) : byteOf (x.toNat / 256) ++ byteOf x.toNat = x := by
  have fits := x.isLt
  apply BitVec.eq_of_toNat_eq
  rw [word_toNat]
  simp only [byteOf, BitVec.toNat_ofNat]
  omega

/-! ### Codes -/

theorem causeOf_causeCode (c : HoldCause) : causeOf (causeCode c) = some c := by cases c <;> decide

theorem causeOf_some {b : Byte} {c : HoldCause} (read : causeOf b = some c) : causeCode c = b :=
  eq_of_beq (List.find?_some (p := fun c => causeCode c == b) read)

theorem gradeOf_gradeCode (g : Grade) : gradeOf (gradeCode g) = some g := by cases g <;> decide

theorem gradeOf_some {b : Byte} {g : Grade} (read : gradeOf b = some g) : gradeCode g = b := by
  unfold gradeOf at read
  split at read
  · cases read
    exact Eq.symm ‹_›
  · split at read <;> cases read
    exact Eq.symm ‹_›

theorem targetOf_targetCode (t : VoteTarget) : targetOf (targetCode t) = some t := by cases t <;> decide

theorem targetOf_some {b : Byte} {t : VoteTarget} (read : targetOf b = some t) : targetCode t = b := by
  unfold targetOf at read
  split at read
  · cases read
    exact Eq.symm ‹_›
  · split at read <;> cases read
    exact Eq.symm ‹_›

theorem answerOf_answerCode (a : VoteAnswer) : answerOf (answerCode a) = some a := by
  cases a with
  | ready => rfl
  | refuse r => cases r <;> decide

theorem answerOf_some {b : Byte} {a : VoteAnswer} (read : answerOf b = some a) : answerCode a = b := by
  unfold answerOf at read
  split at read
  · cases read
    exact Eq.symm ‹_›
  · obtain ⟨r, found, rfl⟩ := Option.map_eq_some_iff.mp read
    exact eq_of_beq (List.find?_some (p := fun r => reasonCode r == b) found)

theorem beaconStateOf_iff (n : Nat) (x : BeaconState) : beaconStateOf n = some x ↔ n = beaconStateCode x := by
  unfold beaconStateOf beaconStateCode
  cases x <;> grind

theorem phaseCodeOf_iff (n : Nat) (x : PhaseCode) : phaseCodeOf n = some x ↔ n = phaseCodeNat x := by
  unfold phaseCodeOf phaseCodeNat
  cases x <;> grind

theorem beaconGradeOf_iff (n : Nat) (x : Option Grade) : beaconGradeOf n = some x ↔ n = beaconGradeCode x := by
  unfold beaconGradeOf beaconGradeCode
  rcases x with _ | ⟨⟨⟩⟩ <;> grind

/-! ### Flags -/

theorem flagBit_bitAt (b : Byte) (i : Nat) : flagBit (bitAt b i) i = b.toNat / 2 ^ i % 2 * 2 ^ i := by
  unfold flagBit bitAt
  rw [BitVec.getLsbD, Nat.testBit_eq_decide_div_mod_eq]
  rcases Nat.mod_two_eq_zero_or_one (b.toNat / 2 ^ i) with even | odd
  · simp [even]
  · simp [odd]

theorem flagBit_lt (b : Bool) (i : Nat) : flagBit b i = 0 ∨ flagBit b i = 2 ^ i := by cases b <;> simp [flagBit]

/-- Flag `i` of a byte is the flag written there. -/
theorem bitAt_byteOf {n i : Nat} (fits : n < 256) {f : Bool} (flag : n / 2 ^ i % 2 = if f then 1 else 0) :
    bitAt (byteOf n) i = f := by
  unfold bitAt
  rw [BitVec.getLsbD, byteOf_toNat fits, Nat.testBit_eq_decide_div_mod_eq, flag]
  cases f <;> rfl

/-! ### Beacons (Table 1-6) -/

theorem beaconStateCode_lt (x : BeaconState) : beaconStateCode x < 4 := by cases x <;> decide
theorem phaseCodeNat_lt (x : PhaseCode) : phaseCodeNat x < 4 := by cases x <;> decide
theorem beaconGradeCode_lt (x : Option Grade) : beaconGradeCode x < 4 := by rcases x with _ | ⟨⟨⟩⟩ <;> decide

/-- The first byte of a beacon, from its three codes and two flags. -/
def beaconHead (b : Beacon) : Nat :=
  beaconStateCode b.nodeState * 64 + phaseCodeNat b.phase * 16 + beaconGradeCode b.grade * 4
    + flagBit b.roundOpen 1 + flagBit b.noticePending 0

theorem beaconHead_fields (b : Beacon) : beaconHead b < 256 ∧ beaconHead b / 64 = beaconStateCode b.nodeState
    ∧ beaconHead b / 16 % 4 = phaseCodeNat b.phase ∧ beaconHead b / 4 % 4 = beaconGradeCode b.grade
    ∧ beaconHead b / 2 ^ 1 % 2 = (if b.roundOpen then 1 else 0) ∧ beaconHead b / 2 ^ 0 % 2 = (if b.noticePending then 1 else 0) := by
  have state := beaconStateCode_lt b.nodeState
  have phase := phaseCodeNat_lt b.phase
  have grade := beaconGradeCode_lt b.grade
  unfold beaconHead
  cases b.roundOpen <;> cases b.noticePending <;> simp only [flagBit] <;> simp <;> omega

/-- The second byte of a beacon, from its eight flags. -/
def beaconFlags (b : Beacon) : Nat :=
  flagBit b.guardMode 7 + flagBit b.steerPause 6 + flagBit b.strokeReached 5 + flagBit b.headCar 4 + reasonNibble b

/-- Eight flags, each in its bit. -/
theorem flags_bits (f7 f6 f5 f4 f3 f2 f1 f0 : Bool) {n : Nat} (sum : n = flagBit f7 7 + flagBit f6 6 + flagBit f5 5
      + flagBit f4 4 + (flagBit f3 3 + flagBit f2 2 + flagBit f1 1 + flagBit f0 0)) :
    n < 256 ∧ n / 2 ^ 7 % 2 = (if f7 then 1 else 0) ∧ n / 2 ^ 6 % 2 = (if f6 then 1 else 0)
    ∧ n / 2 ^ 5 % 2 = (if f5 then 1 else 0) ∧ n / 2 ^ 4 % 2 = (if f4 then 1 else 0) ∧ n / 2 ^ 3 % 2 = (if f3 then 1 else 0)
    ∧ n / 2 ^ 2 % 2 = (if f2 then 1 else 0) ∧ n / 2 ^ 1 % 2 = (if f1 then 1 else 0) ∧ n / 2 ^ 0 % 2 = (if f0 then 1 else 0) := by
  simp only [flagBit] at sum
  subst sum
  revert f7 f6 f5 f4 f3 f2 f1 f0
  decide

theorem beaconFlags_fields (b : Beacon) : beaconFlags b < 256 ∧ beaconFlags b / 2 ^ 7 % 2 = (if b.guardMode then 1 else 0)
    ∧ beaconFlags b / 2 ^ 6 % 2 = (if b.steerPause then 1 else 0) ∧ beaconFlags b / 2 ^ 5 % 2 = (if b.strokeReached then 1 else 0)
    ∧ beaconFlags b / 2 ^ 4 % 2 = (if b.headCar then 1 else 0) ∧ beaconFlags b / 2 ^ 3 % 2 = (if b.grout then 1 else 0)
    ∧ beaconFlags b / 2 ^ 2 % 2 = (if b.muck then 1 else 0) ∧ beaconFlags b / 2 ^ 1 % 2 = (if b.torqueHigh then 1 else 0)
    ∧ beaconFlags b / 2 ^ 0 % 2 = (if b.face then 1 else 0) := flags_bits _ _ _ _ _ _ _ _ rfl

theorem beaconBytes_eq (b : Beacon) : beaconBytes b = [byteOf (beaconHead b), byteOf (beaconFlags b),
    byteOf (b.ring.toNat / 256), byteOf b.ring.toNat, byteOf (b.digest.toNat / 256), byteOf b.digest.toNat,
    byteOf (b.advance.toNat / 256), byteOf b.advance.toNat, byteOf (b.torque.toNat / 256), byteOf b.torque.toNat,
    byteOf (b.shortfall.toNat / 256), byteOf b.shortfall.toNat, b.engine] := rfl

theorem beaconOf_beaconBytes (b : Beacon) : beaconOf (beaconBytes b) = some b := by
  obtain ⟨fits, state, phase, grade, roundOpen, notice⟩ := beaconHead_fields b
  obtain ⟨fits', guard, steer, stroke, car, grout, muck, torque, face⟩ := beaconFlags_fields b
  rw [beaconBytes_eq]
  simp only [beaconOf, byteOf_toNat fits, (beaconStateOf_iff _ _).mpr state, (phaseCodeOf_iff _ _).mpr phase,
    (beaconGradeOf_iff _ _).mpr grade, word_bytes16, bitAt_byteOf fits roundOpen, bitAt_byteOf fits notice,
    bitAt_byteOf fits' guard, bitAt_byteOf fits' steer, bitAt_byteOf fits' stroke, bitAt_byteOf fits' car,
    bitAt_byteOf fits' grout, bitAt_byteOf fits' muck, bitAt_byteOf fits' torque, bitAt_byteOf fits' face]

theorem beaconBytes_of_beaconOf {p : List Byte} {b : Beacon} (read : beaconOf p = some b) : beaconBytes b = p := by
  unfold beaconOf at read
  split at read
  · rename_i b0 b1 r1 r0 d1 d0 a1 a0 t1 t0 s1 s0 e
    split at read
    · rename_i state phase grade state' phase' grade'
      cases read
      have state' := (beaconStateOf_iff _ _).mp state'
      have phase' := (phaseCodeOf_iff _ _).mp phase'
      have grade' := (beaconGradeOf_iff _ _).mp grade'
      have fits := b0.isLt
      have fits' := b1.isLt
      unfold beaconBytes reasonNibble
      simp only [bytes16_word, flagBit_bitAt, ← state', ← phase', ← grade']
      simp only [List.cons_append, List.nil_append]
      rw [byteOf_eq (b := b0) (by omega), byteOf_eq (b := b1) (by omega)]
    · cases read
  · cases read

/-! ### Bodies -/

theorem bodyOf_payloadBytes (body : Body) : bodyOf (kindCode body) (payloadBytes body) = some body := by
  cases body with
  | hold c g => simp [bodyOf, kindCode, payloadBytes, causeOf_causeCode, gradeOf_gradeCode]
  | propose t => simp [bodyOf, kindCode, payloadBytes, targetOf_targetCode]
  | vote t a => simp [bodyOf, kindCode, payloadBytes, targetOf_targetCode, answerOf_answerCode]
  | beacon b => simp [bodyOf, kindCode, payloadBytes, beaconOf_beaconBytes]
  | _ => rfl

/-- What is read of a kind code and payload bytes was written as them. -/
theorem payloadBytes_of_bodyOf {kind : Byte} {p : List Byte} {body : Body} (read : bodyOf kind p = some body) :
    kindCode body = kind ∧ payloadBytes body = p := by
  have code : ∀ {n : Nat}, kind.toNat = n → BitVec.ofNat 8 n = kind := fun same => byteOf_eq same
  unfold bodyOf at read
  split at read
  case h_1 same =>
    split at read
    · split at read
      · cases read
        exact ⟨code same, congrArg₂ (fun a b => [a, b]) (causeOf_some ‹_›) (gradeOf_some ‹_›)⟩
      · cases read
    · cases read
  case h_2 same =>
    split at read
    · obtain ⟨t, target, rfl⟩ := Option.map_eq_some_iff.mp read
      exact ⟨code same, congrArg (fun a => [a]) (targetOf_some target)⟩
    · cases read
  case h_3 same =>
    split at read
    · split at read
      · cases read
        exact ⟨code same, congrArg₂ (fun a b => [a, b]) (targetOf_some ‹_›) (answerOf_some ‹_›)⟩
      · cases read
    · cases read
  case h_12 same =>
    obtain ⟨b, beacon, rfl⟩ := Option.map_eq_some_iff.mp read
    exact ⟨code same, beaconBytes_of_beaconOf beacon⟩
  case h_16 same =>
    split at read <;> cases read
    exact ⟨code same, rfl⟩
  case h_17 same =>
    split at read <;> cases read
    exact ⟨code same, rfl⟩
  case h_19 => cases read
  all_goals
    rename_i same
    cases read
    exact ⟨code same, rfl⟩

theorem urgency_lt (body : Body) : urgency body < 4 := by cases body <;> simp [urgency]

theorem payloadBytes_length {body : Body} (wf : body.wf = true) : (payloadBytes body).length ≤ 24 := by
  cases body with
  | hold | propose | vote | restart => simp [payloadBytes]
  | beacon b => simp [payloadBytes, beaconBytes_eq]
  | command c args =>
    have fits : args.length ≤ 23 := by simpa [Body.wf, argsFit] using wf
    exact Nat.succ_le_succ fits
  | _ => simpa [payloadBytes, Body.wf, payloadFits] using wf

theorem wf_of_length {body : Body} (fits : (payloadBytes body).length ≤ 24) : body.wf = true := by
  cases body with
  | hold | propose | vote | restart | beacon => rfl
  | command c args =>
    have fits : args.length ≤ 23 := Nat.le_of_succ_le_succ fits
    simpa [Body.wf, argsFit] using fits
  | _ => simpa [payloadBytes, Body.wf, payloadFits] using fits

/-! ### Frames -/

theorem parseFrame_encodeFrame {f : Frame} (wf : f.body.wf = true) : parseFrame (encodeFrame f) = some f := by
  obtain ⟨sender, target, body⟩ := f
  have fits : (payloadBytes body).length ≤ 24 := payloadBytes_length wf
  have urgent := urgency_lt body
  have station := sender.isLt
  have station' := target.isLt
  have h0 : (byteOf (urgency body * 64 + sender.toNat * 4)).toNat = urgency body * 64 + sender.toNat * 4 :=
    byteOf_toNat (by omega)
  have h1 : (byteOf (target.toNat * 16)).toNat = target.toNat * 16 := byteOf_toNat (by omega)
  have length : (byteOf (payloadBytes body).length).toNat = (payloadBytes body).length := byteOf_toNat (by omega)
  have from' : BitVec.ofNat 4 ((urgency body * 64 + sender.toNat * 4) / 4) = sender := by
    apply BitVec.eq_of_toNat_eq
    simp only [BitVec.toNat_ofNat]
    omega
  have to' : BitVec.ofNat 4 (target.toNat * 16 / 16) = target := by
    apply BitVec.eq_of_toNat_eq
    simp only [BitVec.toNat_ofNat]
    omega
  simp only [encodeFrame, frameContent, List.cons_append, List.nil_append, parseFrame, h0, h1, length, from', to',
    List.take_left, List.drop_left, bodyOf_payloadBytes]
  rw [if_pos ⟨fits, by simp [bytes16], by omega, by omega, trivial⟩, if_pos (by omega)]

theorem encodeFrame_of_parseFrame {bytes : List Byte} {f : Frame} (read : parseFrame bytes = some f) :
    encodeFrame f = bytes ∧ f.body.wf = true := by
  unfold parseFrame at read
  split at read
  · rename_i h0 h1 kind len rest
    split at read
    · rename_i form
      obtain ⟨short, length, low, low', check⟩ := form
      split at read
      · rename_i body content
        split at read
        · rename_i urgent
          cases read
          obtain ⟨code, payload⟩ := payloadBytes_of_bodyOf content
          have taken : (rest.take len.toNat).length = len.toNat := by
            rw [List.length_take]
            omega
          have fits := h0.isLt
          have fits' := h1.isLt
          have first : byteOf (urgency body * 64 + (BitVec.ofNat 4 (h0.toNat / 4)).toNat * 4) = h0 := byteOf_eq (by
            simp only [BitVec.toNat_ofNat, urgent]
            omega)
          have second : byteOf ((BitVec.ofNat 4 (h1.toNat / 16)).toNat * 16) = h1 := byteOf_eq (by
            simp only [BitVec.toNat_ofNat]
            omega)
          have fourth : byteOf len.toNat = len := byteOf_eq rfl
          refine ⟨?_, wf_of_length (by rw [payload, taken]; exact short)⟩
          simp only [encodeFrame, frameContent, first, second, code, payload, taken, fourth, List.cons_append, List.nil_append]
          rw [← check, List.take_append_drop]
        · cases read
      · cases read
    · cases read
  · cases read

end Sys2Proof.Machine

section
open Sys2Proof Sys2Proof.Machine

/-- Settles O6. -/
theorem frameBytesRoundTrip : Obligations.FrameBytesRoundTrip :=
  ⟨fun _ => parseFrame_encodeFrame, fun _ _ => encodeFrame_of_parseFrame⟩

end
end

section
/-! PROOFS. The receive filter (R11): its verdicts, and what a command that brings a frame does by each of them. -/

-- In one thread: each proof that waits for those before it would keep a thread of its own.
set_option Elab.async false

namespace Sys2Proof.Machine

namespace State

section
variable {s : State} {by' : SentBy} {sender target : Station}

theorem filterVerdict_of_elsewhere (elsewhere : s.reaches target = false) : s.filterVerdict by' sender target = .ignored := by
  simp [filterVerdict, elsewhere]

theorem filterVerdict_of_unconfigured (reached : s.reaches target = true) (unconfigured : s.configured = false)
    (peer : isConsole sender = false) : s.filterVerdict by' sender target = .ignored := by
  simp [filterVerdict, reached, unconfigured, peer]

theorem filterVerdict_of_foreign (reached : s.reaches target = true) (read : s.configured = true ∨ isConsole sender = true)
    (foreign : (s.isMember sender.toNat = false ∧ isConsole sender = false) ∨ s.mayBeSentBy by' sender = false
      ∨ sender.toNat = s.own) : s.filterVerdict by' sender target = .foreign := by
  have read' : (!s.configured && !isConsole sender) = false := by rcases read with h | h <;> simp [h]
  have foreign' : (!(s.isMember sender.toNat || isConsole sender) || !s.mayBeSentBy by' sender || sender.toNat == s.own) = true := by
    rcases foreign with ⟨h, h'⟩ | h | h <;> simp [*]
  unfold filterVerdict
  rw [reached, read', foreign']
  rfl

theorem filterVerdict_of_accepted (reached : s.reaches target = true) (read : s.configured = true ∨ isConsole sender = true)
    (known : s.isMember sender.toNat = true ∨ isConsole sender = true) (may : s.mayBeSentBy by' sender = true)
    (other : sender.toNat ≠ s.own) : s.filterVerdict by' sender target = .accepted := by
  have read' : (!s.configured && !isConsole sender) = false := by rcases read with h | h <;> simp [h]
  have foreign' : (!(s.isMember sender.toNat || isConsole sender) || !s.mayBeSentBy by' sender || sender.toNat == s.own) = false := by
    rcases known with h | h <;> simp [h, may, other]
  unfold filterVerdict
  rw [reached, read', foreign']
  rfl

variable {take : State → State}

theorem receive_of_ignored (verdict : s.filterVerdict by' sender target = .ignored) : s.receive by' sender target take = s := by
  unfold receive
  rw [verdict]

theorem receive_of_foreign (verdict : s.filterVerdict by' sender target = .foreign) :
    s.receive by' sender target take = s.countForeign := by
  unfold receive
  rw [verdict]

theorem receive_of_accepted (verdict : s.filterVerdict by' sender target = .accepted) :
    s.receive by' sender target take = take s := by
  unfold receive
  rw [verdict]

end

end State

/-- A code outside Table 1-5 is the unknown service's. -/
theorem serviceTake_of_unknown {service : Byte} (unknown : knownServiceCodes.contains service = false) :
    serviceTake service = State.serveUnknown service := by
  have code : ∀ {n : Nat}, service.toNat = n → service = BitVec.ofNat 8 n := fun same => (byteOf_eq same).symm
  unfold serviceTake
  split
  case h_26 => rfl
  all_goals
    rename_i same
    rw [code same] at unknown
    cases unknown

/-- A well-formed command whose frame another station has sent has that frame filtered. -/
theorem exec_of_wf_frame {i : Instr} {f : Frame} (frame : i.frame? = some f) (wf : i.wf = true) (s : State) :
    exec i s = .next (s.receiveFrame f) := by
  refine exec_of_frame frame (fun sender target service args e => ?_) s
  subst e
  obtain ⟨unknown, -⟩ := Bool.and_eq_true_iff.mp wf
  exact serviceTake_of_unknown (by simpa using unknown)

theorem receiveBytes_of_none {bytes : List Byte} (bad : parseFrame bytes = none) (s : State) :
    s.receiveBytes bytes = s.countBadCheck := by
  unfold State.receiveBytes
  rw [bad]

theorem receiveBytes_of_some {bytes : List Byte} {f : Frame} (good : parseFrame bytes = some f) (s : State) :
    s.receiveBytes bytes = s.receiveFrame f := by
  unfold State.receiveBytes
  rw [good]

end Sys2Proof.Machine

section
open Sys2Proof Sys2Proof.Machine

/-- Settles O5, verdict by verdict. -/
theorem receivedFramesAreFiltered : Obligations.ReceivedFramesAreFiltered := by
  refine ⟨fun i f s frame wf => ?_, fun bytes s => ⟨fun bad => ?_, fun f good => ?_⟩⟩
  · rw [exec_of_wf_frame frame wf s]
    unfold State.receiveFrame
    refine ⟨fun elsewhere => ?_, fun reached unconfigured peer => ?_, fun reached read foreign => ?_,
      fun reached known may other read => ?_⟩
    · rw [State.receive_of_ignored (State.filterVerdict_of_elsewhere elsewhere)]
    · rw [State.receive_of_ignored (State.filterVerdict_of_unconfigured reached unconfigured peer)]
    · rw [State.receive_of_foreign (State.filterVerdict_of_foreign reached read foreign)]
      rfl
    · rw [State.receive_of_accepted (State.filterVerdict_of_accepted reached read known may other)]
  · exact congrArg Host.Outcome.next (receiveBytes_of_none bad s)
  · exact congrArg Host.Outcome.next (receiveBytes_of_some good s)

end
end

section
/-! PROOFS. Arbitration (R3): how a frame starts, wins and loses, and that the place it returns to is the one it left. -/

-- In one thread: each proof that waits for those before it would keep a thread of its own.
set_option Elab.async false

namespace Sys2Proof.Machine

/-! ### The order of the queue (R4) -/

/-- Of two frames one at most goes before the other. -/
theorem before_asymm {f g : TxFrame} (before : f.before g = true) : g.before f = false := by
  simp only [TxFrame.before, Bool.or_eq_true, Bool.and_eq_true, decide_eq_true_eq, beq_iff_eq] at before
  simp only [TxFrame.before, Bool.or_eq_false_iff, Bool.and_eq_false_iff, decide_eq_false_iff_not, beq_eq_false_iff_ne]
  omega

/-- A frame that goes before every frame of the queue is placed at its head. -/
theorem insertTx_of_before {f : TxFrame} {q : List TxFrame} (before : ∀ g ∈ q, f.before g = true) : insertTx f q = f :: q := by
  cases q with
  | nil => rfl
  | cons g rest => exact if_neg (by simp [before_asymm (before g (List.mem_cons_self ..))])

/-! ### A key among those contending -/

theorem wins_of_all {key : Key} {contenders : List Key} (lowest : ∀ k ∈ contenders, key ≤ k) :
    contenders.all (fun k => decide (key ≤ k)) = true := List.all_eq_true.mpr fun k mem => decide_eq_true (lowest k mem)

theorem loses_of_exists {key : Key} {contenders : List Key} (lower : ∃ k ∈ contenders, k < key) :
    contenders.all (fun k => decide (key ≤ k)) = false := by
  obtain ⟨k, mem, less⟩ := lower
  exact List.all_eq_false.mpr ⟨k, mem, by simpa using less⟩

namespace State

section
variable {s : State}

theorem startFrame_of_head {f : TxFrame} {rest : List TxFrame} (idle : s.link.onWire = none) (runs : s.link.transmitting = true)
    (queue : s.link.queue = f :: rest) : s.startFrame = (s.setWire (some ⟨f, false⟩)).setQueue rest := by
  unfold startFrame
  rw [idle, runs, queue]

theorem startFrame_of_none (nothing : s.link.transmitting = false ∨ s.link.queue = []) : s.startFrame = s := by
  unfold startFrame
  split
  · rename_i runs idle queue
    rcases nothing with stopped | empty
    · simp [stopped] at runs
    · simp [empty] at queue
  · rfl

theorem startFrame_of_busy {w : WireFrame} (busy : s.link.onWire = some w) : s.startFrame = s := by
  unfold startFrame
  split
  · simp_all
  · rfl

theorem settleFrame_of_idle (contenders : List Key) (idle : s.link.onWire = none) : s.settleFrame contenders = s := by
  unfold settleFrame
  rw [idle]

theorem settleFrame_of_wire {w : WireFrame} (contenders : List Key) (wire : s.link.onWire = some w) :
    s.settleFrame contenders = if w.won then s
      else if contenders.all (fun k => decide (frameKey w.tx.frame ≤ k)) then s.setWire (some { w with won := true })
      else s.returnLost w.tx := by
  unfold settleFrame
  rw [wire]

theorem settleFrame_won {w : WireFrame} {contenders : List Key} (wire : s.link.onWire = some w) (open' : w.won = false)
    (lowest : ∀ k ∈ contenders, frameKey w.tx.frame ≤ k) :
    s.settleFrame contenders = s.setWire (some { w with won := true }) := by
  rw [settleFrame_of_wire contenders wire, if_neg (by simp [open']), if_pos (wins_of_all lowest)]

theorem settleFrame_lost {w : WireFrame} {contenders : List Key} (wire : s.link.onWire = some w) (open' : w.won = false)
    (lower : ∃ k ∈ contenders, k < frameKey w.tx.frame) : s.settleFrame contenders = s.returnLost w.tx := by
  rw [settleFrame_of_wire contenders wire, if_neg (by simp [open']), if_neg (by simp only [loses_of_exists lower]; simp)]

/-- A frame that lost goes back to its place, unless it is a beacon that a newer one stands for. -/
theorem returnLost_of_place {f : TxFrame} (alone : isBeacon f.frame.body = false ∨ s.pendingBeacon = none) :
    s.returnLost f = (s.setWire none).setQueue (insertTx f s.link.queue) := by
  unfold returnLost
  dsimp only
  split
  · rename_i newer pending
    have same : (s.setWire none).pendingBeacon = s.pendingBeacon := rfl
    rcases alone with other | nonePending
    · rw [if_neg (by simp [other])]
      rfl
    · exact absurd ((same.trans nonePending).symm.trans pending) (by simp)
  · rfl

theorem retryRingClosed_of_none (quiet : s.engine.requeue = none) : s.retryRingClosed = s := by
  unfold retryRingClosed
  rw [quiet]

/-- No block acts on the end of a plain frame other than RING_CLOSED (R8). -/
theorem frameEnded_of_plain {f : TxFrame} (plain : f.tag = .plain) (other : isClosing f.frame.body = false) (e : Ending) :
    s.frameEnded f e = s := by
  unfold frameEnded
  rw [plain]
  dsimp only
  split
  · simp_all [isClosing]
  · rfl

theorem isClosing_of_isBeacon {b : Body} (beacon : isBeacon b = true) : isClosing b = false := by
  cases b <;> simp_all [isBeacon, isClosing]

/-- A beacon that lost takes the contents of the newer one, which is withdrawn (R5). -/
theorem returnLost_of_newer {f newer : TxFrame} (beacon : isBeacon f.frame.body = true) (pending : s.pendingBeacon = some newer)
    (plain : newer.tag = .plain) (quiet : s.engine.requeue = none) : s.returnLost f = (s.setWire none).setQueue
      (insertTx { f with frame := { f.frame with body := newer.frame.body } } (s.link.queue.erase newer)) := by
  have same : (s.setWire none).pendingBeacon = some newer := pending
  have newerBeacon : isBeacon newer.frame.body = true := 
    List.find?_some (p := fun f : TxFrame => isBeacon f.frame.body) (l := s.link.queue) pending
  unfold returnLost
  dsimp only
  rw [same]
  dsimp only
  rw [if_pos beacon, frameEnded_of_plain plain (isClosing_of_isBeacon newerBeacon), retryRingClosed_of_none]
  · rfl
  · exact quiet

/-- With one beacon in the queue, its head's, no other is pending. -/
theorem pendingBeacon_of_head {f : TxFrame} {rest : List TxFrame} (once : (f :: rest).countP (fun f => isBeacon f.frame.body) ≤ 1) :
    isBeacon f.frame.body = false ∨ rest.find? (fun f => isBeacon f.frame.body) = none := by
  by_cases beacon : isBeacon f.frame.body = true
  · refine .inr (List.find?_eq_none.mpr fun g mem other => ?_)
    have more : 0 < rest.countP (fun f => isBeacon f.frame.body) := List.countP_pos_iff.mpr ⟨g, mem, other⟩
    rw [List.countP_cons_of_pos (by exact beacon)] at once
    omega
  · exact .inl (by simpa using beacon)

/-- The head of an ordered queue that starts and loses is the head again. -/
theorem start_lost {f : TxFrame} {rest : List TxFrame} {contenders : List Key} (idle : s.link.onWire = none)
    (runs : s.link.transmitting = true) (queue : s.link.queue = f :: rest) (lower : ∃ k ∈ contenders, k < frameKey f.frame)
    (ordered : s.LinkOrdered) : s.startFrame.settleFrame contenders = s := by
  obtain ⟨-, once, order, -⟩ := ordered
  rw [queue] at once order
  obtain ⟨before, -⟩ := List.pairwise_cons.mp order
  rw [startFrame_of_head idle runs queue, settleFrame_lost (w := ⟨f, false⟩) rfl rfl lower,
    returnLost_of_place (pendingBeacon_of_head once)]
  have place : insertTx f rest = s.link.queue := (insertTx_of_before before).trans queue.symm
  change ((s.setWire none).setQueue (insertTx f rest)) = s
  rw [place, show (none : Option WireFrame) = s.link.onWire from idle.symm]
  rfl

end

end State

end Sys2Proof.Machine

section
open Sys2Proof Sys2Proof.Machine

/-- Settles O7, on an idle bus and on a busy one. -/
theorem arbitrationByLowestKey : Obligations.ArbitrationByLowestKey := by
  intro s contenders
  have start : exec (.arbitration .start contenders) s = .next s.startFrame := rfl
  have settle : exec (.arbitration .settle contenders) s = .next (s.settleFrame contenders) := rfl
  refine ⟨fun idle => ?_, fun w busy => ?_⟩
  · have whole : exec (.arbitration .whole contenders) s = .next (s.startFrame.settleFrame contenders) :=
      if_pos (by simp [idle])
    rw [start, settle, whole]
    refine ⟨fun f rest runs queue => ⟨fun lowest => ?_, fun lower ordered => ?_, ?_⟩, fun nothing => ⟨?_, ?_⟩, ?_⟩
    · rw [State.startFrame_of_head idle runs queue, State.settleFrame_won (w := ⟨f, false⟩) rfl rfl lowest]
      rfl
    · rw [State.start_lost idle runs queue lower ordered]
    · rw [State.startFrame_of_head idle runs queue]
    · rw [State.startFrame_of_none nothing, State.settleFrame_of_idle contenders idle]
    · rw [State.startFrame_of_none nothing]
    · rw [State.settleFrame_of_idle contenders idle]
  · have whole : exec (.arbitration .whole contenders) s = .next s := if_neg (by simp [busy])
    rw [start, settle, whole]
    refine ⟨rfl, ?_, fun won => ?_, fun open' => ⟨fun lowest => ?_, fun lower => ⟨fun alone => ?_, fun newer beacon pending plain quiet => ?_⟩⟩⟩
    · rw [State.startFrame_of_busy busy]
    · rw [State.settleFrame_of_wire contenders busy, if_pos won]
    · rw [State.settleFrame_won busy open' lowest]
    · rw [State.settleFrame_lost busy open' lower, State.returnLost_of_place alone]
    · rw [State.settleFrame_lost busy open' lower, State.returnLost_of_newer beacon pending plain quiet]

end
end

section
/-! PROOFS. The loopback check (R8, R9, R10): a frame heard back, a failed transmission, and the LINK fault. -/

-- In one thread: each proof that waits for those before it would keep a thread of its own.
set_option Elab.async false

namespace Sys2Proof.Machine

namespace State

/-! ### A failed transmission (R9) -/

section
variable {s : State} {w : WireFrame}

theorem discardFailed_of_first {f : TxFrame} {n : Nat} (first : (s.beaconSuperseded f && decide (n < 3)) = false) :
    s.discardFailed f n = (s.wireEnds f .removed).retryRingClosed := by
  unfold discardFailed
  simp only [first]
  rfl

theorem discardFailed_of_superseded {f : TxFrame} {n : Nat} (superseded : (s.beaconSuperseded f && decide (n < 3)) = true) :
    s.discardFailed f n = ((s.wireEnds f .removed).inheritFailures n).retryRingClosed := by
  unfold discardFailed
  simp only [superseded]
  rfl

theorem closeCleared_of_same {before : Bool} (same : s.engine.closePending = before) : s.closeCleared before = s := by
  unfold closeCleared
  rw [if_neg (by simp [same])]

/-- The end of a frame whose block does not act on it only frees the wire. -/
theorem wireEnds_of_plain {f : TxFrame} (plain : f.tag = .plain) (other : isClosing f.frame.body = false) (e : Ending) :
    s.wireEnds f e = s.setWire none := by
  unfold wireEnds
  dsimp only
  rw [frameEnded_of_plain plain other]
  exact closeCleared_of_same rfl

/-- A RING_CLOSED that ends otherwise than DROPPED while no close is pending changes nothing (R129). -/
theorem wireEnds_of_closed {f : TxFrame} {p : List Byte} (plain : f.tag = .plain) (body : f.frame.body = .ringClosed p)
    (settled : s.engine.closePending = false) : s.wireEnds f .removed = s.setWire none := by
  unfold wireEnds frameEnded
  rw [plain, body]
  have same : (s.setWire none).setEngine { s.engine with closePending := false } = s.setWire none := by
    rw [← settled]
    rfl
  dsimp only
  refine Eq.trans (congrArg _ same) ?_
  exact closeCleared_of_same rfl

/-- A part of a data reply that ends otherwise than SENT ends the reply (R195). -/
theorem wireEnds_of_dataPart {f : TxFrame} {p : List Byte} (part : f.tag = .dataPart) (body : f.frame.body = .reply p) (e : Ending) :
    s.wireEnds f e = (s.setWire none).setConsole { s.console with dataReply := none } := by
  unfold wireEnds frameEnded
  rw [part, body]
  exact closeCleared_of_same rfl

theorem inheritFailures_eq (n : Nat) : s.inheritFailures n
    = s.setQueue (s.link.queue.map fun f => if isBeacon f.frame.body then { f with failures := n } else f) := rfl

/-- A first or second failure of a frame not so marked makes it pending again (R9). -/
theorem transmissionFailed_again (kept : w.tx.discard = false) (few : w.tx.failures < 2)
    (alone : s.beaconSuperseded w.tx = false) : s.transmissionFailed w
      = (s.setWire none).setQueue (insertTx { w.tx with failures := w.tx.failures + 1 } s.link.queue) := by
  unfold transmissionFailed
  dsimp only
  rw [if_neg (by simp [kept]), if_neg (by omega), if_neg (by simp [alone])]

theorem transmissionFailed_discarded (marked : w.tx.discard = true) :
    s.transmissionFailed w = s.discardFailed w.tx (w.tx.failures + 1) := if_pos marked

/-- A beacon that a newer one stands for is discarded at a first or second failure, which the newer takes over (R5). -/
theorem transmissionFailed_superseded (few : w.tx.failures < 2) (superseded : s.beaconSuperseded w.tx = true) :
    s.transmissionFailed w = s.discardFailed w.tx (w.tx.failures + 1) := by
  unfold transmissionFailed
  dsimp only
  rw [if_neg (show ¬3 ≤ w.tx.failures + 1 by omega), if_pos superseded, ite_self]

theorem transmissionFailed_third (kept : w.tx.discard = false) (third : w.tx.failures = 2) :
    s.transmissionFailed w = (s.wireEnds w.tx .failed).linkFault := by
  unfold transmissionFailed
  dsimp only
  rw [if_neg (by simp [kept]), if_pos (by omega)]

/-! ### Heard back (R8) -/

/-- A reply heard back is no concern of the node's blocks but for its tag (R8, R12). -/
theorem heardBack_of_reply {p : List Byte} (body : w.tx.frame.body = .reply p)
    (quiet : ((s.setWire none).reportSent w.tx).engine = s.engine) (settled : s.engine.requeue = none) :
    s.heardBack w = (s.setWire none).reportSent w.tx := by
  have own : (s.setWire none).deliverOwn w.tx.frame.body = s.setWire none := by
    rw [body]
    exact ite_self _
  unfold heardBack
  dsimp only
  rw [own, closeCleared_of_same (congrArg (·.closePending) quiet), retryRingClosed_of_none]
  exact (congrArg (·.requeue) quiet).trans settled

/-! ### The LINK fault (R10) -/

/-- The transmitter has stopped, nothing is pending and nothing on the wire. -/
def LinkStopped (s : State) : Prop := s.link.transmitting = false ∧ s.link.queue = [] ∧ s.link.onWire = none

theorem LinkStopped.congr {t : State} (h : s.LinkStopped) (same : t.link = s.link) : t.LinkStopped := by
  unfold LinkStopped
  rwa [same]

theorem LinkStopped.stepAge (h : s.LinkStopped) : s.stepAge.LinkStopped := h

theorem LinkStopped.admitFrame (h : s.LinkStopped) (f : TxFrame) : (s.admitFrame f).LinkStopped := by
  obtain ⟨stopped, -⟩ := id h
  unfold State.admitFrame
  rw [if_pos (by simp [stopped])]
  exact h.congr (by simp)

theorem LinkStopped.queueFrame (h : s.LinkStopped) (body : Body) : (s.queueFrame body).LinkStopped := by
  obtain ⟨stopped, -⟩ := id h
  have admitted (f : TxFrame) : (s.stepAge.admitHold f).LinkStopped := by
    unfold State.admitHold
    rw [if_neg (by simp [State.stepAge, stopped])]
    exact h.stepAge.admitFrame f
  unfold State.queueFrame State.queueTagged
  dsimp only
  split
  · exact admitted _
  · exact h.stepAge.admitFrame _

theorem LinkStopped.retryRingClosed (h : s.LinkStopped) : s.retryRingClosed.LinkStopped := by
  unfold State.retryRingClosed
  split
  · exact h
  · exact LinkStopped.admitFrame (s := (s.setEngine { s.engine with requeue := none }).stepAge) h _

theorem LinkStopped.removeZoneFrames (h : s.LinkStopped) : s.removeZoneFrames.LinkStopped := by
  obtain ⟨stopped, empty, free⟩ := h
  have cleared : ((s.setWire none).setQueue []).LinkStopped := ⟨stopped, rfl, rfl⟩
  unfold State.removeZoneFrames
  simpa [empty, free] using cleared

theorem LinkStopped.handEntryToHold (h : s.LinkStopped) (fromBore : Bool) (g : Grade) :
    (s.handEntryToHold fromBore g).LinkStopped := by
  have quiet := h.removeZoneFrames
  unfold State.handEntryToHold
  dsimp only
  refine quiet.congr ?_
  split <;> simp

theorem LinkStopped.queueFrame_if (h : s.LinkStopped) (c : Prop) [Decidable c] (body : Body) :
    (if c then s.queueFrame body else s).LinkStopped := by
  split
  · exact h.queueFrame body
  · exact h

theorem LinkStopped.imposeHold (h : s.LinkStopped) (cause : HoldCause) : (s.imposeHold cause).LinkStopped := by
  have failed : (s.failRound s.own .held).LinkStopped := h.congr (by simp)
  unfold State.imposeHold
  dsimp only
  split
  · rename_i now _
    have counted : ((s.failRound s.own .held).countHold cause (s.failRound s.own .held).own now
      (causeGrade cause .soft)).LinkStopped := failed
    have announced := counted.queueFrame_if ((raises now (causeGrade cause .soft) || false) = true)
      (.hold cause (causeGrade cause .soft))
    split
    · exact announced.congr (stopDose_frame _).1
    · exact announced
  · exact LinkStopped.handEntryToHold (LinkStopped.queueFrame (s := (s.failRound s.own .held).openHold ..) failed _) _ _
  · exact LinkStopped.handEntryToHold (LinkStopped.queueFrame (s := (s.failRound s.own .held).openHold ..) failed _) _ _

theorem LinkStopped.takeFault (h : s.LinkStopped) (cause : FaultCause) : (s.takeFault cause).LinkStopped := by
  have holds (x : NodeRecord) : (((s.setNode x).notify .nodeFault).imposeHold .nodeFault).LinkStopped :=
    LinkStopped.imposeHold (s := (s.setNode x).notify .nodeFault) h _
  unfold State.takeFault
  split
  · exact h
  · exact h
  · exact (holds _).congr (blocksEnterFaulted_frame _).1
  · exact (holds _).congr (blocksEnterFaulted_frame _).1

theorem linkFault_stopped : s.linkFault.LinkStopped := by
  have emptied : ((s.setLink { s.link with transmitting := false, onWire := none }).removePending).LinkStopped := by
    have quiet : ((s.setLink { s.link with transmitting := false, onWire := none }).setQueue []).LinkStopped := ⟨rfl, rfl, rfl⟩
    exact quiet.congr (by simp [removePending])
  exact emptied.retryRingClosed.takeFault _

/-- A fault at a node already FAULTED raises the further-fault count (R26). -/
theorem takeFault_of_faulted (cause : FaultCause) (faulted : s.node.state = .faulted) :
    s.takeFault cause = s.setNode { s.node with furtherFaults := s.node.furtherFaults + 1 } := by
  unfold takeFault
  rw [faulted]

/-- A fault at any other node makes it FAULTED with its cause (R26). -/
theorem takeFault_of_sound (cause : FaultCause) (sound : s.node.state ≠ .faulted) :
    (s.takeFault cause).node.state = .faulted ∧ (s.takeFault cause).node.cause = some cause := by
  unfold takeFault
  split
  · exact absurd ‹_› sound
  · simp
  · simp
  · simp

theorem linkFault_node_of_faulted (faulted : s.node.state = .faulted) :
    s.linkFault.node = { s.node with furtherFaults := s.node.furtherFaults + 1 } := by
  have node : ((s.setLink { s.link with transmitting := false, onWire := none }).removePending).retryRingClosed.node = s.node := by
    simp
  unfold linkFault
  dsimp only
  rw [takeFault_of_faulted _ (by rw [node]; exact faulted), setNode_node, node]

theorem linkFault_node_of_sound (sound : s.node.state ≠ .faulted) :
    s.linkFault.node.state = .faulted ∧ s.linkFault.node.cause = some .link := by
  have node : ((s.setLink { s.link with transmitting := false, onWire := none }).removePending).retryRingClosed.node = s.node := by
    simp
  exact takeFault_of_sound .link (by rw [node]; exact sound)

end

end State

end Sys2Proof.Machine
end

section
/-! PROOFS. LOOPBACK_CHECK settles the frame on the wire (R8 to R10). -/

-- In one thread: each proof that waits for those before it would keep a thread of its own.
set_option Elab.async false

namespace Sys2Proof.Machine

section
variable {s : State} {w : WireFrame}

theorem exec_loopback_open {heard : Heard} (open' : ∀ w, s.link.onWire = some w → w.won = false) :
    exec (.loopbackCheck heard) s = .next s := by
  simp only [exec, execLoopbackCheck]
  split
  · rename_i w wire
    exact if_neg (by simp [open' w wire])
  · rfl

theorem exec_loopback (wire : s.link.onWire = some w) (won : w.won = true) (heard : Heard) :
    exec (.loopbackCheck heard) s = .next (s.checkLoopback heard w) := by
  simp only [exec, execLoopbackCheck, wire]
  exact if_pos won

theorem exec_loopback_nothing (wire : s.link.onWire = some w) (won : w.won = true) :
    exec (.loopbackCheck .nothing) s = .next (s.transmissionFailed w) := by
  rw [exec_loopback wire won]
  simp only [State.checkLoopback, State.failWire, wire]

/-- The bytes of the frame sent are the frame heard back; bytes that are no frame are counted, and the transmission has
failed (R9, R11). -/
theorem checkLoopback_of_bad {bytes : List Byte} (wire : s.link.onWire = some w) (bad : parseFrame bytes = none)
    (other : bytes ≠ encodeFrame w.tx.frame) : s.checkLoopback (.bytes bytes) w = s.countBadCheck.transmissionFailed w := by
  have wire' : s.countBadCheck.link.onWire = some w := wire
  simp only [State.checkLoopback]
  rw [if_neg other, receiveBytes_of_none bad]
  simp only [State.failWire, wire']

/-- The node's own HOLD, RESTRAIN or RELEASE heard back only leaves the wire (R12). -/
theorem heardBack_of_silent (plain : w.tx.tag = .plain) (settled : s.engine.requeue = none)
    (silent : (∃ c g, w.tx.frame.body = .hold c g) ∨ (∃ p, w.tx.frame.body = .restrain p) ∨ ∃ p, w.tx.frame.body = .release p) :
    s.heardBack w = s.setWire none := by
  have own : (s.setWire none).deliverOwn w.tx.frame.body = s.setWire none := by
    rcases silent with ⟨c, g, body⟩ | ⟨p, body⟩ | ⟨p, body⟩ <;>
      · rw [body]
        exact ite_self _
  have other : isClosing w.tx.frame.body = false := by
    rcases silent with ⟨c, g, body⟩ | ⟨p, body⟩ | ⟨p, body⟩ <;> rw [body] <;> rfl
  have back := heardBack_settled s w plain other (by rw [own]; exact settled) (by rw [own]; exact id)
  rw [back, own]

theorem heardBack_of_beacon {b : Beacon} (body : w.tx.frame.body = .beacon b) (plain : w.tx.tag = .plain)
    (settled : s.engine.requeue = none) (configured : s.configured = true) (member : s.isMember s.own = true) :
    s.heardBack w = (s.setWire none).setView
      (s.machine.view.map fun e => if e.member = s.own then { e with last := some b } else e) := by
  have own : (s.setWire none).deliverOwn w.tx.frame.body = (s.setWire none).setView
      (s.machine.view.map fun e => if e.member = s.own then { e with last := some b } else e) := by
    rw [body]
    exact if_pos (Bool.and_eq_true_iff.mpr ⟨configured, member⟩)
  have back := heardBack_settled s w plain (by rw [body]; rfl) (by rw [own]; exact settled) (by rw [own]; exact id)
  rw [back, own]

theorem reportSent_notices {flags : BitVec 15} (tag : w.tx.tag = .notices flags) : (s.setWire none).reportSent w.tx
    = (s.setWire none).setConsole { s.console with notices := s.console.notices &&& ~~~flags } := by
  unfold State.reportSent
  rw [tag]
  rfl

theorem nextPart_of_more {r : DataReply} (reply : s.console.dataReply = some r) (more : r.part < r.count) :
    s.nextPart = (s.setConsole { s.console with
        dataReply := some { r with part := r.part + 1, values := r.values.drop 4 } }).queueTagged r.station
      (.reply ([r.service, 0, 0, byteOf (r.part + 1), byteOf r.count] ++ (r.values.take 4).flatMap valueBytes)) .dataPart := by
  unfold State.nextPart
  rw [reply]
  exact if_pos more

theorem nextPart_of_last {r : DataReply} (reply : s.console.dataReply = some r) (last : r.count ≤ r.part) :
    s.nextPart = s.setConsole { s.console with dataReply := none } := by
  unfold State.nextPart
  rw [reply]
  exact if_neg (Nat.not_lt.mpr last)

theorem reportSent_dataPart (tag : w.tx.tag = .dataPart) : (s.setWire none).reportSent w.tx = (s.setWire none).nextPart := by
  unfold State.reportSent
  rw [tag]

/-- A part of a data reply is no frame that changes the engine. -/
theorem nextPart_engine : s.nextPart.engine = s.engine := by
  unfold State.nextPart
  split
  · rfl
  · split
    · exact queueTagged_engine _ _ _ rfl rfl
    · rfl

/-- A frame marked for discard whose block does not act on it only leaves the wire. -/
theorem discardFailed_settled {f : TxFrame} {n : Nat} (ended : s.wireEnds f .removed = s.setWire none)
    (settled : s.engine.requeue = none) (first : (s.beaconSuperseded f && decide (n < 3)) = false) :
    s.discardFailed f n = s.setWire none := by
  rw [State.discardFailed_of_first first, ended]
  exact State.retryRingClosed_of_none settled

/-- The beacon that stands for a failed one takes over its failures (R5). -/
theorem discardFailed_newer {f : TxFrame} {n : Nat} (ended : s.wireEnds f .removed = s.setWire none)
    (settled : s.engine.requeue = none) (superseded : (s.beaconSuperseded f && decide (n < 3)) = true) :
    s.discardFailed f n = (s.setWire none).setQueue
      (s.link.queue.map fun g => if isBeacon g.frame.body then { g with failures := n } else g) := by
  rw [State.discardFailed_of_superseded superseded, ended]
  exact State.retryRingClosed_of_none settled

theorem discardFailed_dataPart {f : TxFrame} {n : Nat} {p : List Byte} (tag : f.tag = .dataPart) (body : f.frame.body = .reply p)
    (settled : s.engine.requeue = none) :
    s.discardFailed f n = (s.setWire none).setConsole { s.console with dataReply := none } := by
  have first : (s.beaconSuperseded f && decide (n < 3)) = false := by simp [State.beaconSuperseded, body, isBeacon]
  rw [State.discardFailed_of_first first, State.wireEnds_of_dataPart tag body]
  exact State.retryRingClosed_of_none settled

end

end Sys2Proof.Machine

section
open Sys2Proof Sys2Proof.Machine

/-- Settles O8, ending by ending. -/
theorem loopbackSettlesTheFrame : Obligations.LoopbackSettlesTheFrame := by
  refine ⟨fun s heard open' => exec_loopback_open open', fun s w wire won => ?_⟩
  have same : exec (.loopbackCheck .same) s = .next (s.heardBack w) := exec_loopback_same wire won
  have failed : exec (.loopbackCheck .nothing) s = .next (s.transmissionFailed w) := exec_loopback_nothing wire won
  rw [same, failed]
  refine ⟨fun body isBody plain settled silent => ?_, fun b body plain settled configured member => ?_,
    fun flags p tag body settled => ?_, fun p r tag body settled reply => ⟨fun more => ?_, fun last => ?_, fun marked => ?_⟩,
    ?_, fun bytes bad other => ?_, fun kept few alone => ?_, fun few beacon pending plain settled => ?_,
    fun marked plain settled closed alone => ?_, fun kept third => ⟨_, rfl, ?_⟩⟩
  · subst isBody
    rw [heardBack_of_silent plain settled silent]
  · rw [heardBack_of_beacon body plain settled configured member]
  · rw [State.heardBack_of_reply body (by rw [reportSent_notices tag]; rfl) settled, reportSent_notices tag]
  · rw [State.heardBack_of_reply body (by rw [reportSent_dataPart tag]; exact nextPart_engine) settled,
      reportSent_dataPart tag, nextPart_of_more (s := s.setWire none) reply more]
    rfl
  · rw [State.heardBack_of_reply body (by rw [reportSent_dataPart tag]; exact nextPart_engine) settled,
      reportSent_dataPart tag, nextPart_of_last (s := s.setWire none) reply last]
    rfl
  · rw [State.transmissionFailed_discarded marked, discardFailed_dataPart tag body settled]
  · rw [exec_loopback wire won]
    exact congrArg Host.Outcome.next (if_pos rfl)
  · rw [exec_loopback wire won, checkLoopback_of_bad wire bad other]
    exact (exec_loopback_nothing (s := s.countBadCheck) wire won).symm
  · rw [State.transmissionFailed_again kept few alone]
  · have superseded : s.beaconSuperseded w.tx = true := Bool.and_eq_true_iff.mpr ⟨beacon, pending⟩
    rw [State.transmissionFailed_superseded few superseded, discardFailed_newer
      (State.wireEnds_of_plain plain (State.isClosing_of_isBeacon beacon) _) settled
      (by rw [superseded]; exact decide_eq_true (Nat.succ_lt_succ few))]
  · have ended : s.wireEnds w.tx .removed = s.setWire none := by
      by_cases closing : isClosing w.tx.frame.body = true
      · obtain ⟨p, body⟩ : ∃ p, w.tx.frame.body = .ringClosed p := by
          cases body : w.tx.frame.body <;> simp_all [isClosing]
        exact State.wireEnds_of_closed plain body (closed p body)
      · exact State.wireEnds_of_plain plain (by simpa using closing) _
    have first : (s.beaconSuperseded w.tx && decide (w.tx.failures + 1 < 3)) = false := by
      rcases alone with many | other | none'
      · exact Bool.and_eq_false_iff.mpr (.inr (decide_eq_false (by omega)))
      · simp [State.beaconSuperseded, other]
      · simp [State.beaconSuperseded, none']
    rw [State.transmissionFailed_discarded marked, discardFailed_settled ended settled first]
  · have node : (s.wireEnds w.tx .failed).node = s.node := by simp
    obtain ⟨stopped, empty, free⟩ := State.linkFault_stopped (s := s.wireEnds w.tx .failed)
    rw [State.transmissionFailed_third kept third]
    refine ⟨stopped, free, empty, ?_, fun sound => ?_, fun faulted => ?_, by simp, by simp, by simp⟩
    · by_cases faulted : s.node.state = .faulted
      · rw [State.linkFault_node_of_faulted (by rw [node]; exact faulted), node]
        exact faulted
      · exact (State.linkFault_node_of_sound (by rw [node]; exact faulted)).1
    · exact (State.linkFault_node_of_sound (by rw [node]; exact sound)).2
    · rw [State.linkFault_node_of_faulted (by rw [node]; exact faulted), node]

end
end

section
/-! PROOFS. Zone requests (Section 4.5): the frames, the conditions, and the test of the request in flight. -/

-- In one thread: each proof that waits for those before it would keep a thread of its own.
set_option Elab.async false

namespace Sys2Proof.Machine

namespace State

/-! ### The frames a request brings change no engine -/

theorem queueRefusal_engine (z : ZoneRequest) (r : ZoneRefusal) (s : State) : (s.queueRefusal z r).engine = s.engine :=
  queueTagged_engine _ _ s rfl rfl

theorem queueAnswer_engine (z : ZoneRequest) (s : State) : (s.queueAnswer z).engine = s.engine := by
  unfold queueAnswer
  split <;> exact queueTagged_engine _ _ s rfl rfl

theorem testZone_engine (s : State) : s.testZone.engine = s.engine := by
  unfold testZone
  split
  · rfl
  · dsimp only
    split
    · exact queueRefusal_engine ..
    · split
      · exact queueAnswer_engine ..
      · rfl

theorem clearZone_engine (z : ZoneRequest) (s : State) : (s.clearZone z).engine = s.engine := by
  unfold clearZone
  dsimp only
  split
  · exact queueRefusal_engine ..
  · split
    · exact queueRefusal_engine ..
    · exact testZone_engine _

theorem seatZone_engine (z : ZoneRequest) (s : State) : (s.seatZone z).engine = s.engine := by
  unfold seatZone
  dsimp only
  split
  · exact queueRefusal_engine ..
  · exact testZone_engine _

theorem takeZoneClear_engine (sender : Nat) (payload : List Byte) (s : State) :
    (s.takeZoneClear sender payload).engine = s.engine := by
  unfold takeZoneClear
  split
  · split
    · exact clearZone_engine ..
    · rfl
  · rfl

theorem takeZoneSeat_engine (sender : Nat) (payload : List Byte) (s : State) :
    (s.takeZoneSeat sender payload).engine = s.engine := by
  unfold takeZoneSeat
  split
  · split
    · exact seatZone_engine ..
    · rfl
  · rfl

/-! ### Which requests are taken (R73) -/

section
variable {s : State} {sender : Nat} {payload : List Byte} {z : ZoneRequest}

theorem takeZoneClear_of_ignored (form : zoneClearOf payload = some z) (ignored : ¬s.TakesZone sender z ∨ s.RepeatsZone z) :
    s.takeZoneClear sender payload = s := by
  unfold takeZoneClear
  rw [form]
  refine if_neg fun taken => ?_
  rw [Bool.and_eq_true, Bool.not_eq_true', ← Bool.not_eq_true, zoneTaken_iff, zoneRepeats_iff] at taken
  tauto

theorem takeZoneClear_of_taken (form : zoneClearOf payload = some z) (takes : s.TakesZone sender z) (new : ¬s.RepeatsZone z) :
    s.takeZoneClear sender payload = s.clearZone z := by
  unfold takeZoneClear
  rw [form]
  refine if_pos ?_
  rw [Bool.and_eq_true, Bool.not_eq_true', ← Bool.not_eq_true, zoneTaken_iff, zoneRepeats_iff]
  exact ⟨takes, new⟩

theorem takeZoneSeat_of_ignored (form : zoneSeatOf payload = some z) (ignored : ¬s.TakesZone sender z ∨ s.RepeatsZone z) :
    s.takeZoneSeat sender payload = s := by
  unfold takeZoneSeat
  rw [form]
  refine if_neg fun taken => ?_
  rw [Bool.and_eq_true, Bool.not_eq_true', ← Bool.not_eq_true, zoneTaken_iff, zoneRepeats_iff] at taken
  tauto

theorem takeZoneSeat_of_taken (form : zoneSeatOf payload = some z) (takes : s.TakesZone sender z) (new : ¬s.RepeatsZone z) :
    s.takeZoneSeat sender payload = s.seatZone z := by
  unfold takeZoneSeat
  rw [form]
  refine if_pos ?_
  rw [Bool.and_eq_true, Bool.not_eq_true', ← Bool.not_eq_true, zoneTaken_iff, zoneRepeats_iff]
  exact ⟨takes, new⟩

end

theorem zoneFields_of_length {payload : List Byte} (length : payload.length ≠ 4) : zoneFields payload = none := by
  unfold zoneFields
  split
  · exact absurd rfl length
  · rfl

theorem zoneSeatOf_of_length {payload : List Byte} (length : payload.length ≠ 6) : zoneSeatOf payload = none := by
  unfold zoneSeatOf
  split
  · exact absurd rfl length
  · rfl

theorem takeZoneClear_of_form {payload : List Byte} (form : zoneClearOf payload = none) (sender : Nat) (s : State) :
    s.takeZoneClear sender payload = s := by
  unfold takeZoneClear
  rw [form]

theorem takeZoneSeat_of_form {payload : List Byte} (form : zoneSeatOf payload = none) (sender : Nat) (s : State) :
    s.takeZoneSeat sender payload = s := by
  unfold takeZoneSeat
  rw [form]

/-! ### What a request taken does (R74, R75) -/

section
variable {s : State} {z : ZoneRequest}

theorem clearZone_pinned (pinned : ∃ c ∈ s.zoneCylinders z.position, s.cylPinned c = true ∧ c.state = .bearing) :
    s.clearZone z = (s.setZone none).queueRefusal z .pinned := by
  obtain ⟨c, mem, pin, bearing⟩ := pinned
  exact if_pos (List.any_eq_true.mpr ⟨c, mem, by simp only [Bool.and_eq_true, beq_iff_eq]; exact ⟨pin, bearing⟩⟩)

theorem not_pinned {p : Cylinder → Bool} (free : ∀ c ∈ s.zoneCylinders z.position, s.cylPinned c = true → p c = false) :
    ¬((s.zoneCylinders z.position).any fun c => s.cylPinned c && p c) = true := by
  rw [List.any_eq_true]
  rintro ⟨c, mem, both⟩
  obtain ⟨pin, state⟩ := Bool.and_eq_true_iff.mp both
  simp [free c mem pin] at state

theorem clearZone_minimum (free : ∀ c ∈ s.zoneCylinders z.position, s.cylPinned c = true → c.state ≠ .bearing)
    (forbidden : s.retractionPermitted (s.zoneCylinders z.position) = false) :
    s.clearZone z = (s.setZone none).queueRefusal z .minimum := by
  refine (if_neg (not_pinned fun c mem pin => beq_eq_false_iff_ne.mpr (free c mem pin))).trans (if_pos ?_)
  exact (Bool.not_eq_true' _).mpr forbidden

theorem clearZone_permitted (free : ∀ c ∈ s.zoneCylinders z.position, s.cylPinned c = true → c.state ≠ .bearing)
    (permitted : s.retractionPermitted (s.zoneCylinders z.position) = true) :
    s.clearZone z = ((s.setCylinders (s.thrust.cylinders.map fun c =>
      if s.inZone z.position c = true ∧ s.cylPinned c = false ∧ c.state ≠ .failed ∧ c.state ≠ .clear then
        { c with state := .retracting, reseatTarget := none }
      else c)).setZone (some z)).testZone := by
  refine (if_neg (not_pinned fun c mem pin => beq_eq_false_iff_ne.mpr (free c mem pin))).trans ((if_neg ?_).trans ?_)
  · exact fun h => Bool.false_ne_true (((Bool.not_eq_true' _).mp h).symm.trans permitted)
  · simp only [← Bool.not_eq_true']
    rfl

theorem seatZone_pinned (pinned : ∃ c ∈ s.zoneCylinders z.position, s.cylPinned c = true ∧ c.state = .clear) :
    s.seatZone z = (s.setZone none).queueRefusal z .pinned := by
  obtain ⟨c, mem, pin, clear⟩ := pinned
  exact if_pos (List.any_eq_true.mpr ⟨c, mem, by simp only [Bool.and_eq_true, beq_iff_eq]; exact ⟨pin, clear⟩⟩)

theorem seatZone_free (free : ∀ c ∈ s.zoneCylinders z.position, s.cylPinned c = true → c.state ≠ .clear) :
    s.seatZone z = ((s.setCylinders (s.thrust.cylinders.map fun c =>
      if s.inZone z.position c = true ∧ s.cylPinned c = false
          ∧ (c.state = .clear ∨ c.state = .parked ∨ c.state = .retracting ∨ c.state = .reseating) then
        { c with state := .reseating, reseatTarget := some z.pressure }
      else c)).setZone (some z)).testZone := by
  refine (if_neg (not_pinned fun c mem pin => beq_eq_false_iff_ne.mpr (free c mem pin))).trans ?_
  simp only [← Bool.not_eq_true']
  rfl

/-! ### The test of the request in flight (R76, R188) -/

theorem completes_state_iff (kind : ZoneKind) (c : Cylinder) :
    completes kind c = true ↔ c.state = .failed ∨ c.state = (match kind with
      | .clear => CylState.clear
      | .seat => .bearing) := by
  cases kind <;> simp [completes]

theorem testZone_pinned (zone : s.thrust.zone = some z) (pinned : ∃ c ∈ s.zoneCylinders z.position, s.pinnedAgainst z.kind c = true) :
    s.testZone = (s.setZone none).queueRefusal z .pinned := by
  unfold testZone
  rw [zone]
  exact if_pos (List.any_eq_true.mpr pinned)

theorem testZone_free (zone : s.thrust.zone = some z) (free : ∀ c ∈ s.zoneCylinders z.position, s.pinnedAgainst z.kind c = false) :
    s.testZone = if (s.zoneCylinders z.position).all (completes z.kind) then (s.setZone none).queueAnswer z else s := by
  unfold testZone
  rw [zone]
  refine if_neg fun pinned => ?_
  obtain ⟨c, mem, pin⟩ := List.any_eq_true.mp pinned
  simp [free c mem] at pin

end

end State

/-- An own or a peer's ZONE_CLEAR that reaches the node's blocks. -/
theorem exec_zoneClear {payload : List Byte} {i : Instr} {sender : Nat} {s u : State}
    (reaches : s.Reaches (fun station target => .zoneClear station target payload) (.zoneClear payload) i sender u) :
    exec i s = .next (u.takeZoneClear sender payload) :=
  exec_reaches (fun sender s => s.takeZoneClear sender payload) reaches
    (fun _ _ heard => congrArg _ (receive_of_hearsPeer heard)) (fun _ configured member => if_pos (by simp [configured, member]))
    rfl fun _ => closing_of_engine (State.takeZoneClear_engine ..)

theorem exec_zoneSeat {payload : List Byte} {i : Instr} {sender : Nat} {s u : State}
    (reaches : s.Reaches (fun station target => .zoneSeat station target payload) (.zoneSeat payload) i sender u) :
    exec i s = .next (u.takeZoneSeat sender payload) :=
  exec_reaches (fun sender s => s.takeZoneSeat sender payload) reaches
    (fun _ _ heard => congrArg _ (receive_of_hearsPeer heard)) (fun _ configured member => if_pos (by simp [configured, member]))
    rfl fun _ => closing_of_engine (State.takeZoneSeat_engine ..)

end Sys2Proof.Machine

section
open Sys2Proof Sys2Proof.Machine

/-- Settles O18. -/
theorem zoneClearSettled : Obligations.ZoneClearSettled := by
  intro payload i sender s u reaches
  rw [exec_zoneClear reaches]
  refine ⟨fun length => ?_, fun z form => ⟨fun ignored => ?_, fun takes new => ⟨fun pinned => ?_, fun free => ⟨fun forbidden => ?_,
    fun permitted => ?_⟩⟩⟩⟩
  · rw [State.takeZoneClear_of_form (by rw [zoneClearOf, State.zoneFields_of_length length]; rfl)]
  · rw [State.takeZoneClear_of_ignored form ignored]
  · rw [State.takeZoneClear_of_taken form takes new, State.clearZone_pinned pinned]
  · rw [State.takeZoneClear_of_taken form takes new, State.clearZone_minimum free forbidden]
  · rw [State.takeZoneClear_of_taken form takes new, State.clearZone_permitted free permitted]

/-- Settles O19: the frame, then the test of the request in flight. -/
theorem zoneSeatSettled : Obligations.ZoneSeatSettled := by
  refine ⟨fun payload i sender s u reaches => ?_, fun s z zone => ⟨State.testZone_pinned zone, fun free => ?_⟩⟩
  · rw [exec_zoneSeat reaches]
    refine ⟨fun length => ?_, fun r1 r0 q a k1 k0 bytes pressure => ?_, fun z form => ⟨fun ignored => ?_,
      fun takes new => ⟨fun pinned => ?_, fun free => ?_⟩⟩⟩
    · rw [State.takeZoneSeat_of_form (State.zoneSeatOf_of_length length)]
    · have outside : zoneSeatOf payload = none := by
        rw [bytes]
        exact if_neg fun range => by simp only [word16] at range; omega
      rw [State.takeZoneSeat_of_form outside]
    · rw [State.takeZoneSeat_of_ignored form ignored]
    · rw [State.takeZoneSeat_of_taken form takes new, State.seatZone_pinned pinned]
    · rw [State.takeZoneSeat_of_taken form takes new, State.seatZone_free free]
  · rw [State.testZone_free zone free]
    refine ⟨fun complete => if_pos (List.all_eq_true.mpr fun c mem => (State.completes_state_iff _ c).mpr (complete c mem)),
      fun ⟨c, mem, sound, other⟩ => if_neg fun all => ?_⟩
    rcases (State.completes_state_iff _ c).mp (List.all_eq_true.mp all c mem) with failed | done
    · exact sound failed
    · exact other done

end
end

section
/-! PROOFS. The proposal, the vote window and the beacon period: what a node votes, what a round opens with, whom a window
that ran out names (O11, O15). -/

-- In one thread: each proof that waits for those before it would keep a thread of its own.
set_option Elab.async false

namespace Sys2Proof.Machine

namespace State

variable {s : State}

/-! ### The tests of Table 3-5 -/

theorem readiness_of_first {p : VoteTarget} {r : RefuseReason} {rest : List RefuseReason} (first : s.failedTests p = r :: rest) :
    s.readiness p = .refuse r := by
  simp only [readiness, first]

theorem failedTests_of_ready {p : VoteTarget} (ready : s.readiness p = .ready) : s.failedTests p = [] := by
  unfold readiness at ready
  split at ready
  case h_1 none => exact none
  case h_2 => exact nomatch ready

theorem somePeerAbsent_false : s.somePeerAbsent = false ↔ ∀ e ∈ s.machine.view, e.presence = .present := by
  simp [somePeerAbsent]

theorem someRingDiffers_false : s.someRingDiffers = false ↔
    ∀ e ∈ s.machine.view, e.presence = .present → ∀ b, e.last = some b → b.ring.toNat = s.machine.ring := by
  simp only [someRingDiffers, List.any_eq_false, Bool.and_eq_true, beq_iff_eq, not_and]
  refine forall₂_congr fun e _ => imp_congr_right fun _ => ?_
  cases e.last <;> simp

theorem readiness_phase {p : VoteTarget} (out : s.inHold = false) : s.readiness p = .refuse .phase := by
  refine readiness_of_first (rest := (s.failedTests p).tail) ?_
  simp [failedTests, out]

theorem readiness_joining {p : VoteTarget} (inside : s.inHold = true) (joining : s.node.state = .joining) :
    s.readiness p = .refuse .joining := by
  refine readiness_of_first (rest := (s.failedTests p).tail) ?_
  simp [failedTests, inside, joining]

theorem readiness_faulted {p : VoteTarget} (inside : s.inHold = true) (faulted : s.node.state = .faulted) :
    s.readiness p = .refuse .faulted := by
  refine readiness_of_first (rest := (s.failedTests p).tail) ?_
  simp [failedTests, inside, faulted]

theorem commonTests_of_ready {p : VoteTarget} (ready : s.readiness p = .ready) :
    s.inHold = true ∧ s.node.state ≠ .joining ∧ s.node.state ≠ .faulted
    ∧ ∀ e ∈ s.machine.view, e.presence = .present ∧ ∀ b, e.last = some b → b.ring.toNat = s.machine.ring := by
  have passed := failedTests_of_ready ready
  simp only [failedTests, List.map_eq_nil_iff, List.filter_eq_nil_iff, List.forall_mem_append, List.forall_mem_cons] at passed
  obtain ⟨⟨hold, joining, faulted, absent, differs, -⟩, -⟩ := passed
  have present := somePeerAbsent_false.1 (by simpa using absent)
  have rings := someRingDiffers_false.1 (by simpa using differs)
  exact ⟨by simpa using hold, by simpa using joining, by simpa using faulted,
    fun e member => ⟨present e member, rings e member (present e member)⟩⟩

theorem boreTests_of_ready (ready : s.readiness .bore = .ready) :
    (∀ c ∈ s.thrust.cylinders, s.cylPinned c = false → c.state = .bearing)
    ∧ (∀ d ∈ s.drive.drives, d.state ≠ .tripped) ∧ s.thrust.sectorAdvance < s.cfg.strokeTarget
    ∧ s.thrust.strokeReached = false ∧ s.shortfallL < s.cfg.shortfallHold ∧ (s.ownsErector = true → s.engine.placed = [])
    ∧ (s.ownsMuck = true → s.receivingCar = true ∧ s.muck.overdig = false ∧ s.muck.faceLow = false)
    ∧ s.drive.guard.jam = false := by
  have passed := failedTests_of_ready ready
  simp only [failedTests, List.map_eq_nil_iff, List.filter_eq_nil_iff, List.forall_mem_append, List.forall_mem_cons] at passed
  obtain ⟨-, bearing, tripped, stroke, shortfall, ringOpen, car, overdig, faceLow, jam, -⟩ := passed
  simp only [Bool.or_eq_true, decide_eq_true_eq, not_or, Nat.not_le, Bool.not_eq_true] at stroke
  exact ⟨by simpa using bearing, by simpa using tripped, stroke.2, stroke.1, by simpa using shortfall, by simpa using ringOpen,
    fun owns => ⟨by simpa [owns] using car, by simpa [owns] using overdig, by simpa [owns] using faceLow⟩, by simpa using jam⟩

theorem buildTests_of_ready (ready : s.readiness .build = .ready) :
    (∀ d ∈ s.drive.drives, d.state = .stopped) ∧ s.cfg.strokeTarget ≤ s.thrust.sectorAdvance
    ∧ (s.ownsErector = true → s.engine.state = .suspended ∨ (s.engine.state = .idle ∧ s.headStep.isSome = true)) := by
  have passed := failedTests_of_ready ready
  simp only [failedTests, List.map_eq_nil_iff, List.filter_eq_nil_iff, List.forall_mem_append, List.forall_mem_cons] at passed
  obtain ⟨-, turning, short, noPlan, -⟩ := passed
  refine ⟨by simpa using turning, by simpa using short, fun owns => ?_⟩
  simp only [owns, Bool.true_and, Bool.not_eq_true, Bool.not_eq_false', Bool.or_eq_true, Bool.and_eq_true, beq_iff_eq] at noPlan
  exact noPlan

/-! ### PROPOSE -/

theorem takePropose_of_unconfigured (p : VoteTarget) (unconfigured : s.configured = false) : s.takePropose p = s :=
  if_pos (by simp [unconfigured])

theorem takePropose_of_open {p : VoteTarget} {r : Round} (configured : s.configured = true) (open' : s.machine.round = some r) :
    s.takePropose p = s.setConsole { s.console with counters :=
      { s.console.counters with discardedProposals := s.console.counters.discardedProposals + 1 } } := by
  unfold takePropose
  rw [if_neg (by simp [configured]), open']
  rfl

/-- The round the node opens is no part of its vote: no test of Table 3-5 reads it. -/
theorem readiness_setRound (p : VoteTarget) (r : Option Round) : (s.setRound r).readiness p = s.readiness p := rfl

theorem takePropose_of_closed {p : VoteTarget} (configured : s.configured = true) (closed : s.machine.round = none) :
    s.takePropose p = (s.setMachine { s.machine with
      round := some ⟨p, 200, s.membersInOrder.map (fun m => (m, none))⟩ }).queueFrame (.vote p (s.readiness p)) := by
  unfold takePropose
  rw [if_neg (by simp [configured]), closed]
  rfl

/-! ### The beacon period -/

theorem queueBeacon_of_none (place : s.HasPlace) (none' : s.pendingBeacon = none) : s.queueBeacon = s.setLink { s.link with
    queue := insertTx (s.newFrame 0 (.beacon s.beaconContents) .plain) s.link.queue, nextAge := s.link.nextAge + 1 } := by
  have absent : s.link.queue.any (fun f => isBeacon f.frame.body) = false := by
    simpa [pendingBeacon, List.find?_eq_none] using none'
  unfold queueBeacon
  rw [if_neg (by simp [absent]), queueFrame_of_hasPlace s _ place rfl]

theorem queueBeacon_of_some {f : TxFrame} (runs : s.link.transmitting = true) (pending : s.pendingBeacon = some f) :
    s.queueBeacon = s.setLink { s.link with queue := replaceBeacon (.beacon s.beaconContents) s.link.queue } := by
  have present : s.link.queue.any (fun f => isBeacon f.frame.body) = true :=
    List.any_eq_true.2 ⟨f, List.mem_of_find?_eq_some pending, List.find?_some (p := fun f : TxFrame => isBeacon f.frame.body) pending⟩
  exact if_pos (by simp [runs, present])

theorem beaconPeriod_of_stopped (stopped : s.configured = false ∨ s.node.state = .unconfigured) :
    exec .beaconPeriod s = .next s :=
  if_neg (by rcases stopped with none' | none' <;> simp [none'])

theorem beaconPeriod_of_run (configured : s.configured = true) (state : s.node.state ≠ .unconfigured)
    (run : s.machine.beaconTimer = 50) :
    exec .beaconPeriod s = .next (s.setMachine { s.machine with beaconTimer := 0 }).queueBeacon := by
  have due : (s.configured && s.node.state != .unconfigured) = true := by simp [configured, state]
  have passed : s.passTime (Config.beaconPeriod - s.machine.beaconTimer) = s := by rw [run]; exact passTime_zero s
  simp only [exec, execBeaconPeriod, due, if_true, passed]

/-! ### The vote window -/

theorem voteWindowExpiry_of_closed (closed : s.machine.round = none) : exec .voteWindowExpiry s = .next s := by
  simp only [exec, execVoteWindowExpiry, closed]

theorem voteWindowExpiry_of_run {r : Round} (open' : s.machine.round = some r) (run : r.remaining = 0) :
    exec .voteWindowExpiry s = .next (s.failRound (missingVoter r) .noVote) := by
  simp only [exec, execVoteWindowExpiry, open', run, passTime_zero]

/-- Members stand in a round in the order of their numbers, so the first without a vote has the lowest number. -/
theorem missingVoter_eq {r : Round} {m : Nat} (lists : s.RoundListsMembers) (open' : s.machine.round = some r)
    (missing : (m, none) ∈ r.votes) (least : ∀ n, (n, none) ∈ r.votes → m ≤ n) : missingVoter r = m := by
  obtain ⟨v, found⟩ : ∃ v, r.votes.find? (fun v => v.2.isNone) = some v :=
    Option.isSome_iff_exists.1 (List.find?_isSome.2 ⟨(m, none), missing, rfl⟩)
  obtain ⟨without, before, after, votes, voted⟩ := List.find?_eq_some_iff_append.1 found
  have vote : v = (v.1, none) := Prod.ext rfl (Option.isNone_iff_eq_none.1 without)
  have ordered : (r.votes.map (·.1)).Pairwise (· < ·) := by
    rw [(lists.2 r open').2]
    exact List.Pairwise.filter _ (by decide)
  have low : m ≤ v.1 := least v.1 (vote ▸ List.mem_of_find?_eq_some found)
  have high : v.1 ≤ m := by
    rw [votes] at missing ordered
    rcases List.mem_append.1 missing with voter | rest
    · exact absurd (voted _ voter) (by simp)
    rcases List.mem_cons.1 rest with same | behind
    · exact (congrArg Prod.fst same).ge
    · rw [List.map_append, List.map_cons] at ordered
      exact ((List.pairwise_cons.1 (List.pairwise_append.1 ordered).2.1).1 m (List.mem_map.2 ⟨_, behind, rfl⟩)).le
  rw [missingVoter, found]
  exact le_antisymm high low

end State

end Sys2Proof.Machine

section
open Sys2Proof Sys2Proof.Machine

/-- Settles O11: PROPOSE opens a round or is discarded, and the node votes READY only when every test of Table 3-5 passes. -/
theorem proposeOpensARound : Obligations.ProposeOpensARound := by
  unfold Obligations.ProposeOpensARound
  refine ⟨fun sender target p s heard => ?_, fun s p => ?_⟩
  · have taken : exec (.propose sender target p) s = .next (s.takePropose p) :=
      congrArg _ (receive_of_hearsConsole heard)
    simp only [taken, Host.Outcome.next.injEq]
    exact ⟨State.takePropose_of_unconfigured p, fun r => State.takePropose_of_open, State.takePropose_of_closed⟩
  · refine ⟨State.readiness_phase, State.readiness_joining, State.readiness_faulted, State.commonTests_of_ready, fun ready => ?_,
      fun ready => ?_⟩
    · exact State.boreTests_of_ready ready
    · exact State.buildTests_of_ready ready

/-- Settles O15: the beacon period queues one beacon and starts anew, the vote window's end fails the round. -/
theorem beaconPeriodAndVoteWindow : Obligations.BeaconPeriodAndVoteWindow := by
  unfold Obligations.BeaconPeriodAndVoteWindow
  refine fun s => ⟨State.beaconPeriod_of_stopped, State.beaconPeriod_of_run, State.queueBeacon_of_none,
    fun f => State.queueBeacon_of_some, State.voteWindowExpiry_of_closed, fun r open' run => ?_, fun r m => State.missingVoter_eq⟩
  rw [State.voteWindowExpiry_of_run open' run, failRound_some _ _ _ _ open']

end
end

section
/-! PROOFS. The data replies of the console service: READ, WATCH_SET and WATCH_READ (O34, O35). -/

-- In one thread: each proof that waits for those before it would keep a thread of its own.
set_option Elab.async false

namespace Sys2Proof.Machine

namespace State

variable {s : State} {station : Station} {args : List Byte}

/-! ### READ (R193) -/

theorem serveRead_of_length (length : args.length ≠ 3) : s.serveRead station true args = s.answer station true .read .format := by
  unfold serveRead
  split
  case isTrue h => exact absurd h (by decide)
  case isFalse =>
    split
    case h_1 => exact absurd rfl length
    case h_2 => rfl

theorem serveRead_of_noClass {c i n : Byte} (none' : readClassOf c = none) :
    s.serveRead station true [c, i, n] = s.answer station true .read .format := by
  simp [serveRead, none']

theorem serveRead_of_class {c i n : Byte} {k : ReadClass} (cls : readClassOf c = some k) :
    s.serveRead station true [c, i, n] = s.readItems station k i.toNat n.toNat := by
  simp [serveRead, cls]

variable {k : ReadClass} {first count : Nat}

theorem readItems_of_busy (busy : s.console.dataReply.isSome = true) :
    s.readItems station k first count = s.answer station true .read .busy := if_pos busy

theorem classShut_iff : s.classShut k = true ↔
    (s.configured = false ∧ k ≠ .counters ∧ k ≠ .config) ∨ (k = .car ∧ s.ownsMuck = false) := by
  simp [classShut, and_assoc]

theorem readItems_of_shut (free : s.console.dataReply = none) (shut : s.classShut k = true) :
    s.readItems station k first count = s.answer station true .read .state := by
  simp [readItems, free, shut]

theorem readItems_of_missing (free : s.console.dataReply = none) (taken : s.classShut k = false)
    (missing : count = 0 ∨ ∃ j, j < count ∧ s.itemExists k (first + j) = false) :
    s.readItems station k first count = s.answer station true .read .range := by
  have fails : count = 0 ∨ (!(List.range count).all (fun i => s.itemExists k (first + i))) = true := by
    simpa using missing
  rw [readItems, if_neg (by simp [free]), if_neg (by simp [taken]), if_pos fails]

theorem readItems_of_all (free : s.console.dataReply = none) (taken : s.classShut k = false) (some' : count ≠ 0)
    (all : ∀ j, j < count → s.itemExists k (first + j) = true) : s.readItems station k first count
      = s.startDataReply station .read ((List.range count).flatMap fun j => s.itemValues k (first + j)) := by
  have passes : ¬(count = 0 ∨ (!(List.range count).all (fun i => s.itemExists k (first + i))) = true) := by
    simpa [some'] using all
  rw [readItems, if_neg (by simp [free]), if_neg (by simp [taken]), if_neg passes]

/-- Part 1 of a data reply with the first four values (R195). -/
theorem startDataReply_eq (service : Service) (values : List (Option Nat)) : s.startDataReply station service values
    = (s.setConsole { s.console with
        dataReply := some ⟨station, serviceCode service, 1, max 1 ((values.length + 3) / 4), values.drop 4⟩ }).queueTagged station
        (.reply ([serviceCode service, 0, 0, 1, byteOf (max 1 ((values.length + 3) / 4))] ++ (values.take 4).flatMap valueBytes))
        .dataPart := rfl

/-! ### WATCH_SET and WATCH_READ (R196) -/

variable {mode : Byte} {rest : List Byte} {items : List WatchItem}

/-- A WATCH_SET of the right form, past the check of its format. -/
theorem serveWatchSet_of_form (parsed : watchItemsOf rest = some items) (few : items.length ≤ 7) (known : mode = 1 ∨ mode = 2)
    (classes : ∀ w ∈ items, watchClass w ≠ none) : s.serveWatchSet station true (mode :: rest) =
      if s.console.dataReply.isSome then s.answer station true .watchSet .busy
      else if !s.configured || (items.any (fun w => watchClass w == some .car) && !s.ownsMuck) then
        s.answer station true .watchSet .state
      else if !items.all s.watchExists || decide (16 < (s.watchResult mode items).length) then
        s.answer station true .watchSet .range
      else (s.setConsole { s.console with watch := s.watchResult mode items }).answer station true .watchSet .done := by
  have form : ¬(7 < items.length ∨ (mode ≠ 1 ∧ mode ≠ 2) ∨ items.any (fun w => (watchClass w).isNone) = true) := by
    simp only [List.any_eq_true, Option.isNone_iff_eq_none, not_or, not_and, not_exists, not_lt, not_not]
    exact ⟨few, fun other => known.resolve_left other, classes⟩
  simp only [serveWatchSet, parsed, if_neg form, Bool.not_true, Bool.false_eq_true, if_false]

theorem serveWatchSet_of_badForm (bad : args = [] ∨ (∃ m rest, args = m :: rest
      ∧ (watchItemsOf rest = none ∨ (m ≠ 1 ∧ m ≠ 2) ∨ ∃ items, watchItemsOf rest = some items
        ∧ (7 < items.length ∨ ∃ w ∈ items, watchClass w = none)))) :
    s.serveWatchSet station true args = s.answer station true .watchSet .format := by
  rcases bad with none' | ⟨m, rest, given, bad⟩
  · simp [serveWatchSet, none']
  subst given
  cases parsed : watchItemsOf rest
  case none => simp [serveWatchSet, parsed]
  case some items =>
    have form : 7 < items.length ∨ (m ≠ 1 ∧ m ≠ 2) ∨ items.any (fun w => (watchClass w).isNone) = true := by
      rcases bad with unread | mode | ⟨items', parsed', bad⟩
      · exact absurd (parsed.symm.trans unread) (by simp)
      · exact Or.inr (Or.inl mode)
      · obtain rfl : items = items' := Option.some.inj (parsed.symm.trans parsed')
        exact bad.imp id fun ⟨w, member, cls⟩ => Or.inr (List.any_eq_true.2 ⟨w, member, by simp [cls]⟩)
    simp only [serveWatchSet, parsed, if_pos form, Bool.not_true, Bool.false_eq_true, if_false]

/-- The list a WATCH_SET asks for is too long only where it appends. -/
theorem watchResult_long (few : items.length ≤ 7) :
    16 < (s.watchResult mode items).length ↔ mode = 2 ∧ 16 < s.console.watch.length + items.length := by
  unfold watchResult
  split
  case isTrue append => simp [append]
  case isFalse replace =>
    refine ⟨fun long => ?_, fun ⟨append, _⟩ => absurd append replace⟩
    omega

theorem serveWatchRead_of_args (some' : args ≠ []) :
    s.serveWatchRead station true args = s.answer station true .watchRead .format := by
  simp [serveWatchRead, some']

theorem serveWatchRead_of_busy (busy : s.console.dataReply.isSome = true) :
    s.serveWatchRead station true [] = s.answer station true .watchRead .busy := by
  simp [serveWatchRead, busy]

theorem serveWatchRead_of_unconfigured (free : s.console.dataReply = none) (unconfigured : s.configured = false) :
    s.serveWatchRead station true [] = s.answer station true .watchRead .state := by
  simp [serveWatchRead, free, unconfigured]

theorem serveWatchRead_of_configured (free : s.console.dataReply = none) (configured : s.configured = true) :
    s.serveWatchRead station true [] = s.startDataReply station .watchRead (s.console.watch.map s.watchValue) := by
  simp [serveWatchRead, free, configured]

end State

end Sys2Proof.Machine

section
open Sys2Proof Sys2Proof.Machine

/-- Settles O34: the checks of READ in their order, and the data reply that starts when all pass. -/
theorem readAnswered : Obligations.ReadAnswered := by
  unfold Obligations.ReadAnswered
  refine ⟨fun sender target args s heard => ?_, fun s station service values parts count => ?_⟩
  · have served : exec (.read sender target args) s = .next (s.serveRead sender (target != 0) args) :=
      receiveCommand_console heard _ _
    have addressed (some' : target ≠ 0) : (target != 0) = true := by simpa using some'
    refine ⟨fun broadcast => ?_, fun some' form => ?_, fun c i n k some' given cls => ⟨fun busy => ?_, fun free => ⟨fun shut => ?_,
      fun known owner => ⟨fun missing => ?_, fun count all => ?_⟩⟩⟩⟩
    · rw [served, broadcast]; rfl
    · rw [served, addressed some']
      rcases form with length | ⟨c, i, n, given, cls⟩
      · rw [State.serveRead_of_length length]
      · rw [given, State.serveRead_of_noClass cls]
    · rw [served, addressed some', given, State.serveRead_of_class cls, State.readItems_of_busy busy]
    · rw [served, addressed some', given, State.serveRead_of_class cls, State.readItems_of_shut free (State.classShut_iff.2 shut)]
    all_goals
      have taken : s.classShut k = false := by
        rw [← Bool.not_eq_true, State.classShut_iff]
        rintro (⟨unconfigured, counters, config⟩ | ⟨car, other⟩)
        · simp [unconfigured, counters, config] at known
        · simp [owner car] at other
      rw [served, addressed some', given, State.serveRead_of_class cls]
    · rw [State.readItems_of_missing free taken]
      exact missing.imp (congrArg BitVec.toNat) id
    · rw [State.readItems_of_all free taken (fun zero => count (BitVec.eq_of_toNat_eq zero)) all]
  · rw [count, State.startDataReply_eq]

/-- Settles O35: the checks of WATCH_SET and WATCH_READ in their order. -/
theorem watchServicesAnswered : Obligations.WatchServicesAnswered := by
  unfold Obligations.WatchServicesAnswered
  intro sender target args s heard
  have set : exec (.watchSet sender target args) s = .next (s.serveWatchSet sender (target != 0) args) :=
    receiveCommand_console heard _ _
  have read : exec (.watchRead sender target args) s = .next (s.serveWatchRead sender (target != 0) args) :=
    receiveCommand_console heard _ _
  have addressed (some' : target ≠ 0) : (target != 0) = true := by simpa using some'
  refine ⟨fun broadcast => ?_, fun mode rest items some' given parsed few known classes => ?_, fun some' bad => ?_,
    fun some' arguments => ?_, fun some' none' busy => ?_, fun some' none' free unconfigured => ?_,
    fun some' none' free configured => ?_⟩
  · rw [set, read, broadcast]; exact ⟨rfl, rfl⟩
  · rw [set, addressed some', given, State.serveWatchSet_of_form parsed few known classes]
    refine ⟨fun busy => by rw [if_pos busy], fun free => ?_⟩
    rw [if_neg (by simp [free])]
    refine ⟨fun shut => ?_, fun configured car => ?_⟩
    · rw [if_pos]
      simpa [List.any_eq_true] using shut
    have taken : ¬(!s.configured || (items.any (fun w => State.watchClass w == some .car) && !s.ownsMuck)) = true := by
      rw [configured]
      rcases car with none' | owner
      · have noCar : items.any (fun w => State.watchClass w == some .car) = false := by simpa using none'
        simp [noCar]
      · simp [owner]
    rw [if_neg taken]
    refine ⟨fun missing => ?_, fun all fits => ?_⟩
    · rw [if_pos]
      simpa [State.watchResult_long few] using missing
    · rw [if_neg]
      · rfl
      · simpa [State.watchResult_long few] using And.intro all fits
  · rw [set, addressed some', State.serveWatchSet_of_badForm bad]
  · rw [read, addressed some', State.serveWatchRead_of_args arguments]
  · rw [read, addressed some', none', State.serveWatchRead_of_busy busy]
  · rw [read, addressed some', none', State.serveWatchRead_of_unconfigured free unconfigured]
  · rw [read, addressed some', none', State.serveWatchRead_of_configured free configured]

end
end

section
/-! PROOFS. The muck services: the train that arrives, the car indexed, the excess excused, the MUCK restraint (O52). -/

-- In one thread: each proof that waits for those before it would keep a thread of its own.
set_option Elab.async false

namespace Sys2Proof.Machine

namespace State

variable {s : State} {station : Station} {service : Service} {args : List Byte}

theorem muckService_of_owner (take : Station → List Byte → State → State) (owner : s.ownsMuck = true) :
    muckService service take station true args s = take station args s := by
  simp [muckService, owner]

theorem muckService_of_other (take : Station → List Byte → State → State) (other : s.ownsMuck = false) :
    muckService service take station true args s = s.answer station true service .state := by
  simp [muckService, other]

/-! ### CAR_INDEXED (R172) -/

theorem serveCarIndexed_of_byte (owner : s.ownsMuck = true) (n : Byte) :
    s.serveCarIndexed station true [n] = s.carIndexed station n.toNat := muckService_of_owner _ owner

theorem serveCarIndexed_of_form (owner : s.ownsMuck = true) (form : ∀ n, args ≠ [n]) :
    s.serveCarIndexed station true args = s.answer station true .carIndexed .format := by
  rw [serveCarIndexed, muckService_of_owner _ owner]
  split
  case h_1 n => exact absurd rfl (form n)
  case h_2 => rfl

theorem carIndexed_of_head {n : Nat} {c : Car} {rest : List Car} (queue : s.muck.queue = c :: rest) (head : c.number = n) :
    s.carIndexed station n = (s.indexHead n rest).testMuck.answer station true .carIndexed .done := by
  simp [carIndexed, queue, head]

theorem carIndexed_of_other {n : Nat} (other : ∀ c rest, s.muck.queue = c :: rest → c.number ≠ n) :
    s.carIndexed station n = if s.muck.lastIndexed = some n then s.answer station true .carIndexed .done
      else if s.muck.queue.isEmpty then s.answer station true .carIndexed .state
      else s.answer station true .carIndexed .format := by
  unfold carIndexed
  cases queue : s.muck.queue
  case nil => rfl
  case cons c rest => exact if_neg (other c rest queue)

/-! ### TRAIN_ARRIVE (R171) -/

theorem serveTrainArrive_of_length (owner : s.ownsMuck = true) (length : args.length < 3 ∨ 14 < args.length) :
    s.serveTrainArrive station true args = s.answer station true .trainArrive .format := by
  rw [serveTrainArrive, muckService_of_owner _ owner]
  split
  case h_1 hi lo cars =>
    rw [if_neg]
    simp only [List.length_cons] at length
    omega
  case h_2 => rfl

theorem serveTrainArrive_of_cars {hi lo : Byte} {cars : List Byte} (owner : s.ownsMuck = true) (some' : 1 ≤ cars.length)
    (few : cars.length ≤ 12) : s.serveTrainArrive station true (hi :: lo :: cars)
      = s.trainArrives station (hi.toNat * 256 + lo.toNat) (cars.map (·.toNat)) := by
  rw [serveTrainArrive, muckService_of_owner _ owner]
  exact if_pos ⟨some', few⟩

variable {capacity : Nat} {cars : List Byte}

/-- Zero, a number twice, or a number of a car in the queue (R171 check 3). -/
theorem carsRefused_iff : ((cars.map (·.toNat)).contains 0 || s.carsRepeat (cars.map (·.toNat))) = true ↔
    0 ∈ cars ∨ ¬cars.Nodup ∨ ∃ c ∈ s.muck.queue, ∃ n ∈ cars, c.number = n.toNat := by
  have zero : (cars.map (·.toNat)).contains 0 = true ↔ 0 ∈ cars := by
    rw [List.contains_iff_mem, List.mem_map]
    exact ⟨fun ⟨b, member, value⟩ => BitVec.eq_of_toNat_eq (x := b) (y := 0) value ▸ member, fun member => ⟨0, member, rfl⟩⟩
  have twice : (cars.map (·.toNat)).Nodup ↔ cars.Nodup :=
    List.nodup_map_iff fun _ _ same => BitVec.eq_of_toNat_eq same
  have queued : (cars.map (·.toNat)).any (fun n => s.muck.queue.any (fun c => c.number == n)) = true ↔
      ∃ c ∈ s.muck.queue, ∃ n ∈ cars, c.number = n.toNat := by
    simp only [List.any_eq_true, List.mem_map, beq_iff_eq]
    constructor
    · rintro ⟨_, ⟨n, member, rfl⟩, c, held, same⟩
      exact ⟨c, held, n, member, same⟩
    · rintro ⟨c, held, n, member, same⟩
      exact ⟨n.toNat, ⟨n, member, rfl⟩, c, held, same⟩
  rw [Bool.or_eq_true, carsRepeat, Bool.or_eq_true, zero, queued, Bool.not_eq_true', decide_eq_false_iff_not, twice]

theorem trainArrives_of_capacity {numbers : List Nat} (outside : capacity < 1000 ∨ 60000 < capacity) :
    s.trainArrives station capacity numbers = s.answer station true .trainArrive .range := if_pos outside

theorem trainArrives_of_refused (low : 1000 ≤ capacity) (high : capacity ≤ 60000)
    (refused : ((cars.map (·.toNat)).contains 0 || s.carsRepeat (cars.map (·.toNat))) = true) :
    s.trainArrives station capacity (cars.map (·.toNat)) = s.answer station true .trainArrive .format := by
  rw [trainArrives, if_neg (by omega), if_pos refused]

theorem trainArrives_of_long (low : 1000 ≤ capacity) (high : capacity ≤ 60000)
    (fit : ((cars.map (·.toNat)).contains 0 || s.carsRepeat (cars.map (·.toNat))) = false)
    (long : 16 < s.muck.queue.length + cars.length) :
    s.trainArrives station capacity (cars.map (·.toNat)) = s.answer station true .trainArrive .range := by
  rw [trainArrives, if_neg (by omega), if_neg (by simp only [fit]; decide), if_pos (by rwa [List.length_map])]

/-- Into an empty queue the first car is the head car; else the cars go behind the others (R171 step 5). -/
theorem appendCars_eq (added : List Car) : s.appendCars added = s.setMuck { s.muck with
    queue := if s.muck.queue = [] then headFilling added else s.muck.queue ++ added
    spill := if s.muck.queue = [] then 0 else s.muck.spill } := by
  unfold appendCars
  by_cases empty : s.muck.queue = []
  · rw [if_pos (by simp [empty]), if_pos empty, if_pos empty]
  · rw [if_neg (by simp [empty]), if_neg empty, if_neg empty]

theorem trainArrives_of_fit (low : 1000 ≤ capacity) (high : capacity ≤ 60000)
    (fit : ((cars.map (·.toNat)).contains 0 || s.carsRepeat (cars.map (·.toNat))) = false)
    (room : s.muck.queue.length + cars.length ≤ 16) : s.trainArrives station capacity (cars.map (·.toNat))
      = (s.appendCars (cars.map fun n => ⟨n.toNat, capacity, 0, .queued⟩)).testMuck.answer station true .trainArrive .done := by
  rw [trainArrives, if_neg (by omega), if_neg (by simp only [fit]; decide), if_neg (by rw [List.length_map]; omega), List.map_map]
  rfl

/-! ### OVERDIG_EXCUSE (R180) -/

theorem serveOverdigExcuse_of_args (owner : s.ownsMuck = true) (some' : args ≠ []) :
    s.serveOverdigExcuse station true args = s.answer station true .overdigExcuse .format := by
  rw [serveOverdigExcuse, muckService_of_owner _ owner, isEmpty_false some']
  rfl

theorem serveOverdigExcuse_of_none (owner : s.ownsMuck = true) : s.serveOverdigExcuse station true []
    = if s.inHold then s.excuse.answer station true .overdigExcuse .done else s.answer station true .overdigExcuse .state :=
  muckService_of_owner _ owner

/-- With no excess overdig does not stand (R179). -/
theorem evaluateOverdig_of_noExcess (none' : s.excess ≤ 0) : s.evaluateOverdig = s.setMuck { s.muck with overdig := false } := by
  have notAbove : decide (0 < s.excess) = false := by simpa using none'
  cases stands : s.muck.overdig
  case false =>
    have same : s.setMuck { s.muck with overdig := false } = s := by rw [← stands]; rfl
    simp [evaluateOverdig, stands, notAbove, same]
  case true => simp [evaluateOverdig, stands, none']

/-- What joins the excused mass leaves no excess. -/
theorem excuse_eq : s.excuse = s.setMuck { s.muck with excused := s.muck.excused + s.excess.toNat, overdig := false } := by
  refine evaluateOverdig_of_noExcess ?_
  have excess : (s.setMuck { s.muck with excused := s.muck.excused + s.excess.toNat }).excess = s.excess - s.excess.toNat := by
    unfold excess
    simp only [setMuck, cfg]
    omega
  rw [excess]
  exact sub_nonpos.2 (Int.self_le_toNat _)

/-! ### The MUCK restraint (R175) -/

theorem testMuck_of_agreed (agreed : s.muck.muckRestrained = !s.receivingCar) : s.testMuck = s := by
  cases car : s.receivingCar <;> simp [testMuck, agreed, car]

theorem testMuck_of_lost (free : s.muck.muckRestrained = false) (lost : s.receivingCar = false) :
    s.testMuck = (s.setMuck { s.muck with muckRestrained := true }).restrain .muck := by
  simp [testMuck, free, lost]

theorem testMuck_of_found (held : s.muck.muckRestrained = true) (found : s.receivingCar = true) :
    s.testMuck = (s.setMuck { s.muck with muckRestrained := false }).release .muck := by
  simp [testMuck, held, found]

end State

end Sys2Proof.Machine

section
open Sys2Proof Sys2Proof.Machine

/-- Settles O52: the checks of TRAIN_ARRIVE, CAR_INDEXED and OVERDIG_EXCUSE in their order. -/
theorem muckServicesAnswered : Obligations.MuckServicesAnswered := by
  unfold Obligations.MuckServicesAnswered
  have train {sender target : Station} (args : List Byte) {s : State} (heard : s.HearsConsole sender target) :
      exec (.trainArrive sender target args) s = .next (s.serveTrainArrive sender (target != 0) args) :=
    receiveCommand_console heard _ _
  have index {sender target : Station} (args : List Byte) {s : State} (heard : s.HearsConsole sender target) :
      exec (.carIndexed sender target args) s = .next (s.serveCarIndexed sender (target != 0) args) :=
    receiveCommand_console heard _ _
  have excuse {sender target : Station} (args : List Byte) {s : State} (heard : s.HearsConsole sender target) :
      exec (.overdigExcuse sender target args) s = .next (s.serveOverdigExcuse sender (target != 0) args) :=
    receiveCommand_console heard _ _
  have addressed {target : Station} (some' : target ≠ 0) : (target != 0) = true := by simpa using some'
  refine ⟨fun sender target args i service s heard which => ⟨fun broadcast => ?_, fun some' other => ?_⟩,
    fun sender target args s heard owner some' => ?_,
    fun s => ⟨State.testMuck_of_agreed, State.testMuck_of_lost, State.testMuck_of_found⟩⟩
  · rcases which with ⟨rfl, -⟩ | ⟨rfl, -⟩ | ⟨rfl, -⟩
    · rw [train args heard, broadcast]; rfl
    · rw [index args heard, broadcast]; rfl
    · rw [excuse args heard, broadcast]; rfl
  · rcases which with ⟨rfl, rfl⟩ | ⟨rfl, rfl⟩ | ⟨rfl, rfl⟩
    · rw [train args heard, addressed some', State.serveTrainArrive, State.muckService_of_other _ other]
    · rw [index args heard, addressed some', State.serveCarIndexed, State.muckService_of_other _ other]
    · rw [excuse args heard, addressed some', State.serveOverdigExcuse, State.muckService_of_other _ other]
  · rw [train args heard, index args heard, excuse args heard, addressed some']
    refine ⟨fun form => ?_, fun n given => ?_, fun length => ?_, fun hi lo cars capacity given least most value => ?_,
      fun arguments => ?_, fun none' out => ?_, fun none' inside => ?_⟩
    · rw [State.serveCarIndexed_of_form owner form]
    · rw [given, State.serveCarIndexed_of_byte owner]
      refine ⟨fun c rest queue head => ?_, fun other => ?_⟩
      · rw [State.carIndexed_of_head queue head]; rfl
      · rw [State.carIndexed_of_other other]
        refine ⟨fun last => ?_, fun last empty => ?_, fun last some'' => ?_⟩
        · rw [if_pos last]
        · rw [if_neg last, if_pos (by simp [empty])]
        · rw [if_neg last, if_neg (by simp [some''])]
    · rw [State.serveTrainArrive_of_length owner length]
    · subst value
      rw [given, State.serveTrainArrive_of_cars owner least most]
      refine ⟨fun outside => ?_, fun low high => ⟨fun refused => ?_, fun zero twice queued => ?_⟩⟩
      · rw [State.trainArrives_of_capacity outside]
      · rw [State.trainArrives_of_refused low high (State.carsRefused_iff.2 refused)]
      · have fit : ((cars.map (·.toNat)).contains 0 || s.carsRepeat (cars.map (·.toNat))) = false := by
          rw [← Bool.not_eq_true, State.carsRefused_iff]
          rintro (has | again | ⟨c, held, n, member, same⟩)
          · exact zero has
          · exact again twice
          · exact queued c held n member same
        refine ⟨fun long => ?_, fun room => ?_⟩
        · rw [State.trainArrives_of_long low high fit long]
        · rw [State.trainArrives_of_fit low high fit room, State.appendCars_eq]
    · rw [State.serveOverdigExcuse_of_args owner arguments]
    · rw [none', State.serveOverdigExcuse_of_none owner, out]; rfl
    · rw [none', State.serveOverdigExcuse_of_none owner, inside, if_pos rfl, State.excuse_eq]
      refine ⟨fun _ => rfl, fun none'' => ?_⟩
      rw [Int.toNat_of_nonpos none'']
      rfl

end
end

section
/-! PROOFS. A face-pressure report: the FACE restraint between its two limits, and the face-low hold (O50). -/

-- In one thread: each proof that waits for those before it would keep a thread of its own.
set_option Elab.async false

namespace Sys2Proof.Machine

namespace State

variable {s : State}

/-! ### The own restraint entries (R78) -/

theorem restrain_thrust (r : RestraintReason) (s : State) : (s.restrain r).thrust
    = { s.thrust with restraints := insertRestraint (s.own, r) s.thrust.restraints } := by
  simp [restrain]

theorem release_thrust (r : RestraintReason) (s : State) : (s.release r).thrust
    = { s.thrust with restraints := s.thrust.restraints.filter (fun e => e != (s.own, r)) } := by
  simp [release]

theorem own_mem_restrain (r : RestraintReason) (s : State) : (s.own, r) ∈ (s.restrain r).thrust.restraints := by
  rw [restrain_thrust]
  exact (mem_insertRestraint _ _ _).2 (Or.inl rfl)

theorem own_notMem_release (r : RestraintReason) (s : State) : (s.own, r) ∉ (s.release r).thrust.restraints := by
  simp [release_thrust]

/-! ### The two tests on a reading (R167, R168) -/

theorem testFaceHigh_faceRestrained (kPa : Half) (s : State) : (s.testFaceHigh kPa).muck.faceRestrained
    = if s.muck.faceRestrained then decide (s.cfg.pRelease < kPa.toNat) else decide (s.cfg.pHigh < kPa.toNat) := by
  unfold testFaceHigh
  cases held : s.muck.faceRestrained
  case false => by_cases high : s.cfg.pHigh < kPa.toNat <;> simp [high, held]
  case true =>
    by_cases low : kPa.toNat ≤ s.cfg.pRelease
    · simp [low, Nat.not_lt.2 low]
    · simp [low, Nat.lt_of_not_le low, held]

theorem testFaceHigh_restrains {kPa : Half} (free : s.muck.faceRestrained = false) (high : s.cfg.pHigh < kPa.toNat) :
    (s.own, RestraintReason.face) ∈ (s.testFaceHigh kPa).thrust.restraints := by
  unfold testFaceHigh
  rw [if_pos (by simp [free, high])]
  exact own_mem_restrain .face _

theorem testFaceHigh_releases {kPa : Half} (held : s.muck.faceRestrained = true) (low : kPa.toNat ≤ s.cfg.pRelease) :
    (s.own, RestraintReason.face) ∉ (s.testFaceHigh kPa).thrust.restraints := by
  unfold testFaceHigh
  rw [if_neg (by simp [held]), if_pos (by simp [held, low])]
  exact own_notMem_release .face _

theorem testFaceLow_of_fall {kPa : Half} (before : s.muck.faceLow = false) (low : kPa.toNat < s.cfg.pMin) :
    s.testFaceLow kPa = (s.setMuck { s.muck with faceLow := true }).imposeHold .faceLow := if_pos (by simp [before, low])

/-- Without a fall below the least pressure the reading sets the flag alone. -/
theorem testFaceLow_of_none {kPa : Half} (none' : s.muck.faceLow = true ∨ s.cfg.pMin ≤ kPa.toNat) :
    s.testFaceLow kPa = s.setMuck { s.muck with faceLow := decide (kPa.toNat < s.cfg.pMin) } := by
  unfold testFaceLow
  cases before : s.muck.faceLow
  case false =>
    have high : s.cfg.pMin ≤ kPa.toNat := none'.resolve_left (by simp [before])
    have same : s.setMuck { s.muck with faceLow := false } = s := by rw [← before]; rfl
    simp [high, Nat.not_lt.2 high, same]
  case true =>
    by_cases high : s.cfg.pMin ≤ kPa.toNat
    · simp [high, Nat.not_lt.2 high]
    · have same : s.setMuck { s.muck with faceLow := true } = s := by rw [← before]; rfl
      simp [high, Nat.lt_of_not_le high, same]

theorem testFaceLow_faceLow (kPa : Half) (s : State) : (s.testFaceLow kPa).muck.faceLow = decide (kPa.toNat < s.cfg.pMin) := by
  by_cases none' : s.muck.faceLow = true ∨ s.cfg.pMin ≤ kPa.toNat
  · rw [testFaceLow_of_none none']; rfl
  · simp only [not_or, Bool.not_eq_true, Nat.not_le] at none'
    simp [testFaceLow_of_fall none'.1 none'.2, none'.2]

end State

end Sys2Proof.Machine

section
open Sys2Proof Sys2Proof.Machine

/-- Settles O50: a face reading is recorded, and at the muck owner meets the two tests of R167 and R168. -/
theorem facePressureTaken : Obligations.FacePressureTaken := by
  unfold Obligations.FacePressureTaken
  intro kPa s
  refine ⟨s.takeFacePressure kPa, rfl, ?_⟩
  cases owner : s.ownsMuck
  case false =>
    have taken : s.takeFacePressure kPa = s.setChannels { s.channels with face := some kPa } :=
      if_neg (by rw [show (s.setChannels { s.channels with face := some kPa }).ownsMuck = false from owner]; decide)
    simp [taken]
  case true =>
    obtain ⟨u, hu⟩ : ∃ u, u = s.setChannels { s.channels with face := some kPa } := ⟨_, rfl⟩
    have taken : s.takeFacePressure kPa = (u.testFaceHigh kPa).testFaceLow kPa := by
      subst hu; exact if_pos owner
    have pMin : (u.testFaceHigh kPa).cfg.pMin = s.cfg.pMin := by simp [State.cfg, hu]
    have faceLow : (u.testFaceHigh kPa).muck.faceLow = s.muck.faceLow := by simp [hu]
    rw [taken]
    refine ⟨by simp [hu], by simp [hu], by simp [hu], by simp [hu], by simp [hu], (nomatch ·), fun _ =>
      ⟨?_, ?_, fun free high => ?_, fun held low => ?_, fun before low => ?_, fun none' => ?_, by simp [hu], by simp [hu]⟩⟩
    · simp only [State.testFaceLow_fields, State.testFaceHigh_faceRestrained, hu]
      rfl
    · rw [State.testFaceLow_faceLow, pMin]
    · simp only [State.testFaceLow_fields]
      subst hu
      exact State.testFaceHigh_restrains free high
    · simp only [State.testFaceLow_fields]
      subst hu
      exact State.testFaceHigh_releases held low
    · rw [State.testFaceLow_of_fall (faceLow.trans before) (pMin ▸ low)]
      exact imposeHold_phase_hard .faceLow _ _ rfl
    · rw [State.testFaceLow_of_none (by rwa [faceLow, pMin])]
      simp [hu]

end
end

section
/-! PROOFS. A belt-scale increment, unit by unit: the masses, the head car, the MUCK restraint, the spill run, overdig
(O51). -/

-- In one thread: each proof that waits for those before it would keep a thread of its own.
set_option Elab.async false

namespace Sys2Proof.Machine

namespace State

variable {s : State}

/-! ### The masses and the head car (R173, R174) -/

theorem credit_le (s : State) (m : Nat) : s.credit m ≤ m := by
  unfold credit
  split
  · exact min_le_left _ _
  · exact Nat.zero_le _

theorem massAdd_of_fits {i a b : Nat} (fits : a + b < 4294967296) : massAdd i a b = a + b := if_pos fits

theorem weigh_queue (m : Nat) (s : State) : (s.weigh m).muck.queue = fillHead (s.credit m) s.muck.queue := rfl

theorem weigh_weighed {m : Nat} (fits : s.muck.weighed + m < 4294967296) : (s.weigh m).muck.weighed = s.muck.weighed + m :=
  massAdd_of_fits fits

theorem weigh_carried {m : Nat} (fits : s.muck.carried + s.credit m < 4294967296) :
    (s.weigh m).muck.carried = s.muck.carried + s.credit m := massAdd_of_fits fits

theorem weigh_uncarried {m : Nat} (fits : s.muck.uncarried + (m - s.credit m) < 4294967296) :
    (s.weigh m).muck.uncarried = s.muck.uncarried + (m - s.credit m) := massAdd_of_fits fits

theorem weigh_spill {m : Nat} (fits : s.muck.spill + (m - s.credit m) < 4294967296) :
    (s.weigh m).muck.spill = s.muck.spill + (m - s.credit m) := massAdd_of_fits fits

/-- The weighed mass stays the carried and the uncarried mass together. -/
theorem weigh_balanced {m : Nat} (balanced : s.muck.weighed = s.muck.carried + s.muck.uncarried)
    (fits : s.muck.weighed + m < 4294967296) :
    (s.weigh m).muck.weighed = (s.weigh m).muck.carried + (s.weigh m).muck.uncarried := by
  have credit := s.credit_le m
  rw [weigh_weighed fits, weigh_carried (by omega), weigh_uncarried (by omega)]
  omega

theorem testDue_of_nil (empty : s.muck.queue = []) : s.testDue = s := by
  unfold testDue
  rw [empty]

theorem testDue_queue {c : Car} {rest : List Car} (queue : s.muck.queue = c :: rest) : s.testDue.muck.queue
    = { c with state := if c.state = .filling ∧ c.capacity * 95 ≤ c.fill * 100 then .due else c.state } :: rest := by
  unfold testDue
  rw [queue]
  dsimp only
  split
  case isTrue => rfl
  case isFalse => exact queue

theorem testDue_notices {c : Car} {rest : List Car} (queue : s.muck.queue = c :: rest) (filling : c.state = .filling)
    (full : c.capacity * 95 ≤ c.fill * 100) : s.testDue.noticed .indexDue = true := by
  unfold testDue
  rw [queue]
  dsimp only
  rw [if_pos ⟨filling, full⟩]
  exact notify_noticed _ .indexDue

/-! ### The MUCK restraint (R175) -/

theorem testMuck_muckRestrained (s : State) : s.testMuck.muck.muckRestrained = !s.receivingCar := by
  cases held : s.muck.muckRestrained <;> cases car : s.receivingCar
  · rw [testMuck_of_lost held car]; simp
  · rw [testMuck_of_agreed (by simp [held, car]), held]; rfl
  · rw [testMuck_of_agreed (by simp [held, car]), held]; rfl
  · rw [testMuck_of_found held car]; simp

theorem noticesKept_restrain (r : RestraintReason) (s : State) : NoticesKept s (s.restrain r) :=
  (NoticesKept_queue 0 _ .plain _).pre rfl

theorem noticesKept_release (r : RestraintReason) (s : State) : NoticesKept s (s.release r) :=
  (NoticesKept_queue 0 _ .plain _).pre rfl

theorem noticesKept_testMuck (s : State) : NoticesKept s s.testMuck := by
  unfold testMuck
  split
  · exact (noticesKept_restrain .muck _).pre rfl
  split
  · exact (noticesKept_release .muck _).pre rfl
  · exact NoticesKept.refl

/-! ### The spill run (R176) -/

theorem testSpill_of_passed {before : Nat} (below : before < s.cfg.spillLimit) (above : s.cfg.spillLimit ≤ s.muck.spill) :
    s.testSpill before = s.imposeHold .noCar := if_pos ⟨below, above⟩

theorem testSpill_of_none {before : Nat} (none' : s.muck.spill < s.cfg.spillLimit ∨ s.cfg.spillLimit ≤ before) :
    s.testSpill before = s := if_neg (by omega)

theorem noticesKept_testSpill (before : Nat) (s : State) : NoticesKept s (s.testSpill before) := by
  unfold testSpill
  split
  · exact NoticesKept_impose _ _ _
  · exact NoticesKept.refl

/-! ### Overdig (R179) -/

theorem evaluateOverdig_of_rise (before : s.muck.overdig = false) (above : 0 < s.excess) :
    s.evaluateOverdig = (s.setMuck { s.muck with overdig := true }).imposeHold .overdig := if_pos (by simp [before, above])

/-- Unless overdig comes to stand, the evaluation sets the flag alone. -/
theorem evaluateOverdig_of_none (none' : s.muck.overdig = true ∨ s.excess ≤ 0) :
    s.evaluateOverdig = s.setMuck { s.muck with overdig := decide (0 < s.excess) } := by
  by_cases below : s.excess ≤ 0
  · rw [evaluateOverdig_of_noExcess below, decide_eq_false (not_lt.2 below)]
  · have stands := none'.resolve_right below
    have same : s.setMuck { s.muck with overdig := true } = s := by rw [← stands]; rfl
    rw [decide_eq_true (not_le.1 below), same]
    simp [evaluateOverdig, stands, below]

theorem evaluateOverdig_overdig (s : State) : s.evaluateOverdig.muck.overdig = decide (0 < s.excess) := by
  by_cases none' : s.muck.overdig = true ∨ s.excess ≤ 0
  · rw [evaluateOverdig_of_none none']; rfl
  · simp only [not_or, Bool.not_eq_true, not_le] at none'
    simp [evaluateOverdig_of_rise none'.1 none'.2, none'.2]

theorem evaluateOverdig_machine (same : s.evaluateOverdig.muck.overdig = s.muck.overdig) :
    s.evaluateOverdig.machine = s.machine := by
  rw [evaluateOverdig_overdig] at same
  rw [evaluateOverdig_of_none]
  · rfl
  · cases stands : s.muck.overdig
    · exact Or.inr (by simpa [stands] using same)
    · exact Or.inl rfl

theorem evaluateOverdig_inHold (held : s.inHold = true) : s.evaluateOverdig.inHold = true := by
  unfold evaluateOverdig
  split
  · exact imposeHold_inHold _ _ _
  split
  · exact held
  · exact held

theorem noticesKept_evaluateOverdig (s : State) : NoticesKept s s.evaluateOverdig := by
  unfold evaluateOverdig
  split
  · exact (NoticesKept_impose _ _ _).pre rfl
  split
  · exact NoticesKept.of rfl
  · exact NoticesKept.refl

/-- A hold the node decides outside HOLD opens a record of its own (R40, R43). -/
theorem imposeHold_opens (cause : HoldCause) (out : s.inHold = false) (always : Bool) :
    (s.imposeHold cause always).machine.phase = .hold (causeGrade cause .soft)
    ∧ (s.imposeHold cause always).machine.current = some ⟨cause, s.own, s.machine.ring, causeGrade cause .soft, 0⟩ := by
  rw [imposeHold_machine]
  cases phase : s.machine.phase
  case hold => simp [inHold, phase] at out
  all_goals simp [openHold, failRound_machine]

/-! ### The increment, its units in turn (R173) -/

/-- The state the spill run is tested on. -/
def incremented (s : State) (m : Nat) : State := ((s.weigh m).testDue).testMuck

theorem takeIncrement_eq {m : Nat} (owner : s.ownsMuck = true) (some' : m ≠ 0) :
    s.takeIncrement m = ((s.incremented m).testSpill s.muck.spill).evaluateOverdig := if_pos ⟨owner, some'⟩

theorem takeIncrement_of_none {m : Nat} (none' : m = 0 ∨ s.ownsMuck = false) : s.takeIncrement m = s :=
  if_neg (by rcases none' with zero | other <;> simp [*])

theorem incremented_inHold (s : State) (m : Nat) : (s.incremented m).inHold = s.inHold := by
  simp [incremented, inHold]

theorem incremented_cfg (s : State) (m : Nat) : (s.incremented m).cfg = s.cfg := by
  simp [incremented, cfg]

/-- What the increment leaves as it is, and what of it the later units keep. -/
theorem takeIncrement_muck {m : Nat} (owner : s.ownsMuck = true) (some' : m ≠ 0) :
    (s.takeIncrement m).muck.weighed = (s.weigh m).muck.weighed
    ∧ (s.takeIncrement m).muck.carried = (s.weigh m).muck.carried
    ∧ (s.takeIncrement m).muck.uncarried = (s.weigh m).muck.uncarried
    ∧ (s.takeIncrement m).muck.spill = (s.weigh m).muck.spill
    ∧ (s.takeIncrement m).muck.queue = (s.weigh m).testDue.muck.queue
    ∧ (s.takeIncrement m).muck.machineAdvance = s.muck.machineAdvance
    ∧ (s.takeIncrement m).muck.excused = s.muck.excused ∧ (s.takeIncrement m).muck.indexed = s.muck.indexed := by
  rw [takeIncrement_eq owner some']
  simp [incremented]

theorem takeIncrement_noticed {m : Nat} (owner : s.ownsMuck = true) (some' : m ≠ 0) :
    NoticesKept (s.weigh m).testDue (s.takeIncrement m) := by
  rw [takeIncrement_eq owner some']
  exact ((noticesKept_testMuck _).trans (noticesKept_testSpill _ _)).trans (noticesKept_evaluateOverdig _)

theorem takeIncrement_muckRestrained {m : Nat} (owner : s.ownsMuck = true) (some' : m ≠ 0) :
    (s.takeIncrement m).muck.muckRestrained = !(s.takeIncrement m).receivingCar := by
  have queue : (s.takeIncrement m).muck.queue = _ := (takeIncrement_muck owner some').2.2.2.2.1
  have restrained : (s.takeIncrement m).muck.muckRestrained = (s.incremented m).muck.muckRestrained := by
    rw [takeIncrement_eq owner some']; simp
  rw [restrained, incremented, testMuck_muckRestrained, receivingCar, receivingCar, queue]

theorem takeIncrement_overdig {m : Nat} (owner : s.ownsMuck = true) (some' : m ≠ 0) :
    (s.takeIncrement m).muck.overdig = decide (0 < ((s.takeIncrement m).muck.weighed : Int) - (s.takeIncrement m).muck.excused
      - (s.takeIncrement m).muck.machineAdvance * s.cfg.massPerMm - s.cfg.overdigAllowance) := by
  rw [takeIncrement_eq owner some', evaluateOverdig_overdig]
  simp [excess, cfg, incremented]

theorem takeIncrement_inHold_of_spill {m : Nat} (owner : s.ownsMuck = true) (some' : m ≠ 0) (below : s.muck.spill < s.cfg.spillLimit)
    (above : s.cfg.spillLimit ≤ (s.takeIncrement m).muck.spill) : (s.takeIncrement m).inHold = true := by
  rw [(takeIncrement_muck owner some').2.2.2.1] at above
  have spill : (s.incremented m).muck.spill = (s.weigh m).muck.spill := by simp [incremented]
  rw [takeIncrement_eq owner some']
  refine evaluateOverdig_inHold ?_
  rw [testSpill_of_passed (by rwa [incremented_cfg]) (by rwa [incremented_cfg, spill])]
  exact imposeHold_inHold _ _ _

/-- Without a spill run past its limit only overdig holds the machine. -/
theorem takeIncrement_of_noSpill {m : Nat} (owner : s.ownsMuck = true) (some' : m ≠ 0)
    (none' : (s.takeIncrement m).muck.spill < s.cfg.spillLimit ∨ s.cfg.spillLimit ≤ s.muck.spill) :
    s.takeIncrement m = (s.incremented m).evaluateOverdig := by
  rw [(takeIncrement_muck owner some').2.2.2.1] at none'
  have spill : (s.incremented m).muck.spill = (s.weigh m).muck.spill := by simp [incremented]
  rw [takeIncrement_eq owner some', testSpill_of_none (by rwa [incremented_cfg, spill])]

theorem takeIncrement_inHold_of_overdig {m : Nat} (owner : s.ownsMuck = true) (some' : m ≠ 0) (before : s.muck.overdig = false)
    (after : (s.takeIncrement m).muck.overdig = true) : (s.takeIncrement m).inHold = true := by
  rw [takeIncrement_eq owner some', evaluateOverdig_overdig, decide_eq_true_eq] at after
  rw [takeIncrement_eq owner some', evaluateOverdig_of_rise (by simpa [incremented] using before) after]
  exact imposeHold_inHold _ _ _

theorem takeIncrement_opens {m : Nat} (owner : s.ownsMuck = true) (some' : m ≠ 0) (before : s.muck.overdig = false)
    (after : (s.takeIncrement m).muck.overdig = true) (out : s.inHold = false)
    (none' : (s.takeIncrement m).muck.spill < s.cfg.spillLimit ∨ s.cfg.spillLimit ≤ s.muck.spill) :
    (s.takeIncrement m).machine.phase = .hold .soft
    ∧ (s.takeIncrement m).machine.current = some ⟨.overdig, s.own, s.machine.ring, .soft, 0⟩ := by
  rw [takeIncrement_of_noSpill owner some' none'] at after ⊢
  rw [evaluateOverdig_overdig, decide_eq_true_eq] at after
  rw [evaluateOverdig_of_rise (by simpa [incremented] using before) after]
  have opened := imposeHold_opens (s := (s.incremented m).setMuck { (s.incremented m).muck with overdig := true }) .overdig
    (by simpa [inHold] using (incremented_inHold s m).trans out) false
  simpa [incremented, own, causeGrade] using opened

theorem takeIncrement_machine {m : Nat} (owner : s.ownsMuck = true) (some' : m ≠ 0)
    (same : (s.takeIncrement m).muck.overdig = s.muck.overdig)
    (none' : (s.takeIncrement m).muck.spill < s.cfg.spillLimit ∨ s.cfg.spillLimit ≤ s.muck.spill) :
    (s.takeIncrement m).machine = s.machine := by
  rw [takeIncrement_of_noSpill owner some' none'] at same ⊢
  rw [evaluateOverdig_machine (same.trans (by simp [incremented]))]
  simp [incremented]

/-- The head car after an increment: it takes the credit, and is DUE from 95 percent on. -/
def headAfter (s : State) (m : Nat) (c : Car) : Car := { c with
  fill := c.fill + s.credit m
  state := if c.state = .filling ∧ c.capacity * 95 ≤ (c.fill + s.credit m) * 100 then .due else c.state }

theorem weigh_head {m : Nat} {c : Car} {rest : List Car} (queue : s.muck.queue = c :: rest) :
    (s.weigh m).muck.queue = { c with fill := c.fill + s.credit m } :: rest := by
  rw [weigh_queue, queue]
  rfl

end State

end Sys2Proof.Machine

section
open Sys2Proof Sys2Proof.Machine

/-- Settles O51: an increment is weighed, credited to the head car or the spill run, and tested for DUE, MUCK, spill and
overdig. -/
theorem beltIncrementTaken : Obligations.BeltIncrementTaken := by
  unfold Obligations.BeltIncrementTaken
  intro kg s
  refine ⟨fun none' => congrArg _ (State.takeIncrement_of_none (none'.imp (congrArg BitVec.toNat) id)), fun some' owner => ?_⟩
  have some'' : kg.toNat ≠ 0 := fun zero => some' (BitVec.eq_of_toNat_eq zero)
  obtain ⟨weighed, carried, uncarried, spill, queue, advance, excused, indexed⟩ := State.takeIncrement_muck owner some''
  refine ⟨s.takeIncrement kg.toNat, rfl, fun fits => ?_, fun fits => ?_, fun fits => ?_, fun fits => ⟨?_, fun below above =>
    State.takeIncrement_inHold_of_spill owner some'' below above⟩, fun balanced fits => ?_, fun empty => ⟨?_, ?_⟩,
    fun c rest cars => ⟨?_, s.headAfter kg.toNat c,
      ?_, rfl, rfl, rfl, rfl, fun filling full => ?_⟩,
    State.takeIncrement_muckRestrained owner some'', State.takeIncrement_overdig owner some'', advance,
    fun before after => ⟨State.takeIncrement_inHold_of_overdig owner some'' before after,
      fun out none' => State.takeIncrement_opens owner some'' before after out none'⟩,
    State.takeIncrement_machine owner some'', excused, indexed, ?_, ?_, ?_, ?_⟩
  · rw [weighed, State.weigh_weighed fits]
  · rw [carried, State.weigh_carried fits]
  · rw [uncarried, State.weigh_uncarried fits]
  · rw [spill, State.weigh_spill fits]
  · rw [weighed, carried, uncarried]
    exact State.weigh_balanced balanced fits
  · have none' : (s.weigh kg.toNat).muck.queue = [] := by rw [State.weigh_queue, empty]; rfl
    rw [queue, State.testDue_of_nil none', none']
  · rw [State.credit, empty]
  · rw [State.credit, cars]
  · rw [queue, State.testDue_queue (State.weigh_head cars)]
    rfl
  · exact State.takeIncrement_noticed owner some'' _ (State.testDue_notices (State.weigh_head cars) filling full)
  all_goals simp

end
end

section
/-! PROOFS. Which port is dosed next, and UNBLOCK (O49). -/

-- In one thread: each proof that waits for those before it would keep a thread of its own.
set_option Elab.async false

namespace Sys2Proof.Machine

namespace State

variable {s : State}

/-! ### The dose condition and the eligible ports (R146, R147) -/

theorem doseCondition_iff : s.doseCondition = true ↔ s.configured = true ∧ (s.node.state = .joining ∨ s.node.state = .member)
    ∧ s.machine.phase ≠ .hold .hard ∧ s.grout.pump = .idle ∧ s.channels.pumpAtRest ≠ some false := by
  simp [doseCondition, and_assoc]

theorem eligible_iff (p : Port) : s.eligible p = true ↔ p.state = .opened ∧ s.pinned .port p.number = false
    ∧ p.delivered + s.cfg.doseStrokes * s.cfg.strokeVolume ≤ p.owed := by
  simp only [eligible, Bool.and_eq_true, beq_iff_eq, Bool.not_eq_true', and_assoc]
  exact and_congr_right fun _ => and_congr_right fun _ => decide_eq_true_iff

/-! ### The port selected (R148) -/

theorem selectPort_of_priority {p : Port} (found : (s.grout.ports.filter (fun p => decide (p.number ≤ s.ownSection.priority))).find?
    s.eligible = some p) : s.selectPort = some p.number := by
  simp only [selectPort, found]

/-- An eligible priority port goes before every chain port, the lowest number first. -/
theorem selectPort_priority {p : Port} (held : p ∈ s.grout.ports) (priority : p.number ≤ s.ownSection.priority)
    (eligible : s.eligible p = true) : ∃ n, s.selectPort = some n ∧ n ≤ s.ownSection.priority
      ∧ ((s.grout.ports.map (·.number)).Pairwise (· < ·) → n ≤ p.number) := by
  have member : p ∈ s.grout.ports.filter (fun p => decide (p.number ≤ s.ownSection.priority)) :=
    List.mem_filter.2 ⟨held, decide_eq_true priority⟩
  obtain ⟨q, found⟩ := Option.isSome_iff_exists.1 (List.find?_isSome.2 ⟨p, member, eligible⟩)
  have listed := (List.mem_filter.1 (List.mem_of_find?_eq_some found)).2
  refine ⟨q.number, selectPort_of_priority found, of_decide_eq_true listed, fun ordered => ?_⟩
  obtain ⟨-, before, after, split, none'⟩ := List.find?_eq_some_iff_append.1 found
  have pairwise : (s.grout.ports.filter (fun p => decide (p.number ≤ s.ownSection.priority))).Pairwise (·.number < ·.number) :=
    (List.pairwise_map.1 ordered).filter _
  rw [split] at member pairwise
  rcases List.mem_append.1 member with ahead | rest
  · exact absurd eligible (by simpa using none' p ahead)
  rcases List.mem_cons.1 rest with same | behind
  · exact same ▸ le_refl _
  · exact ((List.pairwise_cons.1 (List.pairwise_append.1 pairwise).2.1).1 p behind).le

theorem selectPort_of_noPriority (none' : ∀ p ∈ s.grout.ports, p.number ≤ s.ownSection.priority → s.eligible p = false) :
    s.selectPort = s.grout.pointer.elim none fun n =>
      if n = 0 then none else s.scanChain (s.ownSection.ports - s.ownSection.priority) n := by
  have absent : (s.grout.ports.filter (fun p => decide (p.number ≤ s.ownSection.priority))).find? s.eligible = none := by
    simpa [List.find?_eq_none] using none'
  unfold selectPort
  rw [absent]
  cases s.grout.pointer <;> rfl

/-- Following the entries from the next port goes one place further. -/
theorem chainPort_nextPort (n k : Nat) : s.chainPort (s.nextPort n) k = s.chainPort n (k + 1) := by
  induction k with
  | zero => rfl
  | succ k ih => exact congrArg s.nextPort ih

theorem scanChain_of_none {fuel : Nat} : ∀ {n : Nat}, (∀ k, k < fuel → s.eligibleNumber (s.chainPort n k) = false) →
    s.scanChain fuel n = none := by
  induction fuel with
  | zero => exact fun _ => rfl
  | succ fuel ih =>
    intro n none'
    have here : s.eligibleNumber n = false := none' 0 (Nat.succ_pos _)
    have further : s.scanChain fuel (s.nextPort n) = none :=
      ih fun k fits => by rw [chainPort_nextPort]; exact none' (k + 1) (Nat.succ_lt_succ fits)
    simp [scanChain, here, further]

theorem scanChain_of_first {fuel : Nat} : ∀ {n k : Nat}, k < fuel → s.eligibleNumber (s.chainPort n k) = true →
    (∀ j, j < k → s.eligibleNumber (s.chainPort n j) = false) → s.scanChain fuel n = some (s.chainPort n k) := by
  induction fuel with
  | zero => exact fun fits => absurd fits (Nat.not_lt_zero _)
  | succ fuel ih =>
    intro n k fits first before
    cases k with
    | zero =>
      have here : s.eligibleNumber n = true := first
      simp [scanChain, here, chainPort]
    | succ k =>
      have here : s.eligibleNumber n = false := before 0 (Nat.succ_pos _)
      have further : s.scanChain fuel (s.nextPort n) = some (s.chainPort (s.nextPort n) k) := by
        refine ih (Nat.lt_of_succ_lt_succ fits) ?_ fun j below => ?_
        · rw [chainPort_nextPort]; exact first
        · rw [chainPort_nextPort]; exact before (j + 1) (Nat.succ_lt_succ below)
      simp [scanChain, here, further, chainPort_nextPort]

/-! ### The test for a dose (R148, R150) -/

theorem testDose_of_none (none' : s.doseCondition = false ∨ s.selectPort = none) : s.testDose = s := by
  unfold testDose
  rcases none' with condition | port
  · rw [if_neg (by simp [condition])]
  · rw [port]; exact ite_self _

theorem testDose_of_port {n : Nat} (condition : s.doseCondition = true) (port : s.selectPort = some n) :
    s.testDose = (s.setGrout { s.grout with dose := some ⟨n, 0, 0, none⟩, pump := .dosing }).setChannels
      { s.channels with pumpAtRest := if s.channels.pumpAtRest = none then none else some false } := by
  have lapses : (s.channels.pumpAtRest.map fun _ => false) = if s.channels.pumpAtRest = none then none else some false := by
    cases s.channels.pumpAtRest <;> rfl
  unfold testDose
  rw [if_pos condition, port, ← lapses]
  rfl

/-! ### UNBLOCK (R157) -/

variable {station : Station} {addressed : Bool} {args : List Byte}

theorem serveUnblock_of_shut (shut : s.configured = false ∨ s.inHold = false) :
    s.serveUnblock station addressed args = s.answer station addressed .unblock .state := by
  cases configured : s.configured
  case false => exact configuredOnly_of_unconfigured configured ..
  case true =>
    rw [serveUnblock, configuredOnly_of_configured configured]
    exact if_pos (by simpa [configured] using shut)

theorem serveUnblock_of_form (configured : s.configured = true) (held : s.inHold = true) (form : args.length ≠ 1) :
    s.serveUnblock station addressed args = s.answer station addressed .unblock .format := by
  rw [serveUnblock, configuredOnly_of_configured configured, if_neg (by simp [held])]
  split
  case h_1 => exact absurd rfl form
  case h_2 => rfl

theorem serveUnblock_of_byte (configured : s.configured = true) (held : s.inHold = true) (n : Byte) :
    s.serveUnblock station addressed [n] = if n = 0 ∨ s.ownSection.ports < n.toNat then
        s.answer station addressed .unblock .range
      else (s.setPorts (s.grout.ports.map fun p =>
          if p.number = n.toNat then { p with state := .opened, cuts := 0 } else p)).testDose.answer station addressed
        .unblock .done := by
  rw [serveUnblock, configuredOnly_of_configured configured, if_neg (by simp [held])]
  rfl

end State

end Sys2Proof.Machine

section
open Sys2Proof Sys2Proof.Machine

/-- Settles O49: the test for a dose, the port it selects, and UNBLOCK. -/
theorem doseSelectionAndUnblock : Obligations.DoseSelectionAndUnblock := by
  unfold Obligations.DoseSelectionAndUnblock
  refine ⟨fun s => ⟨rfl, rfl, State.doseCondition_iff, State.eligible_iff, State.testDose_of_none,
    fun n => State.testDose_of_port, fun n port => ?_, fun p => State.selectPort_priority, fun none' => ⟨fun pointer => ?_,
      fun n pointer some' => ⟨fun k fits first before => ?_, fun none'' => ?_⟩⟩⟩,
    fun sender target args s heard => ?_⟩
  · obtain ⟨p, held, number, eligible⟩ := State.Keeps.selectPort_eligible port
    obtain ⟨opened, free, owed⟩ := (State.eligible_iff p).1 eligible
    exact ⟨p, held, number, opened, number ▸ free, owed⟩
  · rw [State.selectPort_of_noPriority none']
    rcases pointer with none'' | zero
    · simp [none'']
    · simp [zero]
  · rw [State.selectPort_of_noPriority none', pointer]
    exact (if_neg some').trans (State.scanChain_of_first fits first before)
  · rw [State.selectPort_of_noPriority none', pointer]
    exact (if_neg some').trans (State.scanChain_of_none none'')
  · have served : exec (.unblock sender target args) s = .next (s.serveUnblock sender (target != 0) args) :=
      receiveCommand_console heard _ _
    rw [served]
    refine ⟨fun shut => by rw [State.serveUnblock_of_shut shut], fun configured held =>
      ⟨fun form => by rw [State.serveUnblock_of_form configured held form], fun n given => ?_⟩⟩
    rw [given, State.serveUnblock_of_byte configured held]
    refine ⟨fun outside => by rw [if_pos outside], fun some' fits => ?_⟩
    rw [if_neg (not_or.2 ⟨some', Nat.not_lt.2 fits⟩)]

end
end

section
/-! PROOFS. How a dose goes on and ends: the stroke credited, the dose cut, the dose limit (O47, O48). -/

-- In one thread: each proof that waits for those before it would keep a thread of its own.
set_option Elab.async false

namespace Sys2Proof.Machine

namespace State

variable {s : State} {d : Dose}

/-! ### A dose in flight (R145) -/

theorem doseInFlight_of (dose : s.grout.dose = some d) : s.doseInFlight = d.ending.isNone := by
  simp only [doseInFlight, dose]

theorem endDose_of_flight (e : DoseEnding) (dose : s.grout.dose = some d) (runs : d.ending = none) :
    s.endDose e = s.setGrout { s.grout with
      dose := some { d with ending := some e }
      pump := if e = .limit ∨ s.grout.pump = .failed then .failed else .idle
      pointer := s.pointerAfter d.port e } := by
  simp only [endDose, dose, runs, Option.isNone_none, if_true]

/-! ### Strokes (R151, R152) -/

theorem creditStroke_grout (d : Dose) (s : State) : (s.creditStroke d).grout.dose = some { d with credited := d.credited + 1 }
    ∧ (s.creditStroke d).grout.pump = s.grout.pump ∧ (s.creditStroke d).grout.pointer = s.grout.pointer
    ∧ (s.creditStroke d).grout.ports = s.grout.ports.map (fun p =>
        if p.number = d.port then { p with delivered := p.delivered + s.cfg.strokeVolume } else p) := by
  simp [creditStroke, cfg]

theorem creditStroke_counters (d : Dose) (s : State) :
    (s.creditStroke d).console.counters.dosesCompleted = s.console.counters.dosesCompleted := by
  have kept : CountersKept s (s.creditStroke d) := (CountersKept_testGrout _).pre rfl
  unfold CountersKept at kept
  have same := congrArg Counters.dosesCompleted kept
  exact same

theorem completeDose_grout (n : Nat) (dose : s.grout.dose = some d) (runs : d.ending = none) (sound : s.grout.pump ≠ .failed) :
    (s.completeDose n).grout = { s.grout with
      dose := some { d with ending := some .complete }, pump := .idle
      pointer := if s.isChainPort d.port then some (s.nextPort d.port) else s.grout.pointer
      ports := s.grout.ports.map (fun p => if p.number = n then { p with cuts := 0 } else p) } := by
  simp [completeDose, endDose_of_flight .complete dose runs, sound, pointerAfter]

theorem completeDose_counters (n : Nat) (s : State) :
    (s.completeDose n).console.counters.dosesCompleted = s.console.counters.dosesCompleted + 1 := by
  simp [completeDose]

theorem takeStroke_of_full (dose : s.grout.dose = some d) (full : s.cfg.doseStrokes ≤ d.credited) : s.takeStroke = s := by
  simp only [takeStroke, dose]
  exact if_neg (Nat.not_lt.2 full)

theorem takeStroke_of_credit (dose : s.grout.dose = some d) (room : d.credited < s.cfg.doseStrokes)
    (more : d.ending.isSome = true ∨ d.credited + 1 < s.cfg.doseStrokes) : s.takeStroke = s.creditStroke d := by
  have goesOn : ¬(d.ending.isNone = true ∧ d.credited + 1 = s.cfg.doseStrokes) := by
    rintro ⟨runs, last⟩
    rcases more with ended | below
    · simp [Option.isNone_iff_eq_none.1 runs] at ended
    · omega
  have cfg : (s.creditStroke d).cfg = s.cfg := by simp [creditStroke, State.cfg]
  simp only [takeStroke, dose, if_pos room, cfg, if_neg goesOn]

theorem takeStroke_of_last (dose : s.grout.dose = some d) (runs : d.ending = none) (last : d.credited + 1 = s.cfg.doseStrokes) :
    s.takeStroke = (s.creditStroke d).completeDose d.port := by
  have cfg : (s.creditStroke d).cfg = s.cfg := by simp [creditStroke, State.cfg]
  have room : d.credited < s.cfg.doseStrokes := by omega
  have ends : d.ending.isNone = true ∧ d.credited + 1 = s.cfg.doseStrokes := ⟨by simp [runs], last⟩
  simp only [takeStroke, dose, if_pos room, cfg, if_pos ends]

theorem ownSection_of_node {t : State} (same : t.node = s.node) : t.ownSection = s.ownSection := by
  simp [ownSection, memberSection?, cfg, own, same]

theorem creditStroke_pointer (d : Dose) (s : State) (n : Nat) : (s.creditStroke d).isChainPort n = s.isChainPort n
    ∧ (s.creditStroke d).nextPort n = s.nextPort n := by
  have same : (s.creditStroke d).ownSection = s.ownSection := ownSection_of_node (by simp [creditStroke])
  simp only [isChainPort, nextPort, same, and_self]

/-! ### A dose cut (R153) -/

/-- A port after one more cut: the second in a row blocks it. -/
def cutPort (p : Port) : Port := { p with cuts := p.cuts + 1, state := if 2 ≤ p.cuts + 1 then .blocked else p.state }

theorem cutDose_link (n : Nat) (s : State) : (s.cutDose n).link = s.link := by
  simp

theorem cutDose_counters (n : Nat) (s : State) : (s.cutDose n).console.counters.cuts = s.console.counters.cuts + 1 := by
  unfold cutDose
  dsimp only
  split
  · split <;> simp
  · simp

theorem cutDose_grout (n : Nat) (dose : s.grout.dose = some d) (runs : d.ending = none) (sound : s.grout.pump ≠ .failed) :
    (s.cutDose n).grout.dose = some { d with ending := some .cut } ∧ (s.cutDose n).grout.pump = .idle
    ∧ (s.cutDose n).grout.pointer = (if s.isChainPort d.port then some (s.nextPort d.port) else s.grout.pointer) := by
  unfold cutDose
  rw [endDose_of_flight .cut dose runs]
  dsimp only
  split
  · split <;> simp [sound, pointerAfter]
  · simp [sound, pointerAfter]

def countCut (p : Port) : Port := { p with cuts := p.cuts + 1 }

def blockPort (p : Port) : Port := { p with state := .blocked }

/-- The counted cut of the port, before it is tested for its second. -/
def cutCounted (n : Nat) (s : State) : State := ((s.endDose .cut).updatePort n countCut).count fun c => { c with cuts := c.cuts + 1 }

theorem cutCounted_port (n : Nat) (s : State) : (s.cutCounted n).port? n = (s.port? n).map countCut := by
  have ports : (s.endDose .cut).port? n = s.port? n := by simp [port?]
  rw [← ports]
  exact Sys2Proof.Machine.updatePort_eq (s.endDose .cut) countCut (fun _ => rfl) n

theorem cutCounted_ne {n m : Nat} (other : m ≠ n) : (s.cutCounted n).port? m = s.port? m := by
  have ports : (s.endDose .cut).port? m = s.port? m := by simp [port?]
  rw [← ports]
  exact Sys2Proof.Machine.updatePort_ne (s.endDose .cut) countCut (fun _ => rfl) n m other

theorem cutDose_ne {n m : Nat} (other : m ≠ n) : (s.cutDose n).port? m = s.port? m := by
  rw [← cutCounted_ne (s := s) other]
  unfold cutDose
  dsimp only
  split
  · split
    · exact Sys2Proof.Machine.updatePort_ne (s.cutCounted n) blockPort (fun _ => rfl) n m other
    · rfl
  · rfl

theorem cutDose_port {n : Nat} {p : Port} (port : s.port? n = some p) : (s.cutDose n).port? n = some (cutPort p)
    ∧ (2 ≤ p.cuts + 1 → (s.cutDose n).noticed .portBlocked = true) := by
  have counted : (s.cutCounted n).port? n = some (countCut p) := by rw [cutCounted_port, port]; rfl
  have cut : s.cutDose n = if 2 ≤ p.cuts + 1 then
      ((s.cutCounted n).updatePort n blockPort).notify .portBlocked else s.cutCounted n := by
    change (match (s.cutCounted n).port? n with
      | some p => if 2 ≤ p.cuts then ((s.cutCounted n).updatePort n blockPort).notify .portBlocked else s.cutCounted n
      | none => s.cutCounted n) = _
    rw [counted]
    rfl
  rw [cut]
  split
  case isTrue second =>
    refine ⟨?_, fun _ => notify_noticed _ .portBlocked⟩
    refine (Sys2Proof.Machine.updatePort_eq (s.cutCounted n) blockPort (fun _ => rfl) n).trans ?_
    rw [counted]
    simp [cutPort, second, countCut, blockPort]
  case isFalse first => exact ⟨by rw [counted]; simp [cutPort, first, countCut], fun second => absurd second first⟩

theorem takeLinePressure_of_none {kPa : Half} (none' : s.doseInFlight = false ∨ kPa.toNat ≤ s.cfg.cutPressure) :
    s.takeLinePressure kPa = s.setChannels { s.channels with linePressure := some kPa } := by
  unfold takeLinePressure
  dsimp only
  split
  case h_1 d dose =>
    refine if_neg fun ⟨runs, high⟩ => ?_
    rcases none' with ended | low
    · exact absurd ((doseInFlight_of dose).symm.trans ended) (by simp [runs])
    · exact absurd high (Nat.not_lt.2 low)
  case h_2 => rfl

theorem takeLinePressure_of_cut {kPa : Half} (dose : s.grout.dose = some d) (runs : d.ending = none)
    (high : s.cfg.cutPressure < kPa.toNat) :
    s.takeLinePressure kPa = (s.setChannels { s.channels with linePressure := some kPa }).cutDose d.port := by
  have dose' : (s.setChannels { s.channels with linePressure := some kPa }).grout.dose = some d := dose
  simp only [takeLinePressure, dose']
  exact if_pos ⟨by simp [runs], high⟩

/-! ### The dose limit (R155) -/

theorem doseLimitExpiry_of_none (none' : s.doseInFlight = false) : exec .doseLimitExpiry s = .next s := by
  simp only [exec, execDoseLimitExpiry]
  cases dose : s.grout.dose with
  | none => rfl
  | some d =>
    have ended : d.ending.isNone = false := (doseInFlight_of dose).symm.trans none'
    exact if_neg (by simp [ended])

theorem doseLimitExpiry_of_run (dose : s.grout.dose = some d) (runs : d.ending = none) (run : d.elapsed = 30000) :
    exec .doseLimitExpiry s = .next s.doseLimitReached := by
  have passed : s.passTime (Config.doseLimit - d.elapsed) = s := by rw [run]; exact passTime_zero s
  simp only [exec, execDoseLimitExpiry, dose, runs, Option.isNone_none, if_true, passed]

theorem doseLimitReached_grout (dose : s.grout.dose = some d) (runs : d.ending = none) : s.doseLimitReached.grout = { s.grout with
    dose := some { d with ending := some .limit }, pump := .failed
    pointer := if s.isChainPort d.port then some d.port else s.grout.pointer } := by
  have ended := endDose_of_flight .limit dose runs
  have stopped : (s.endDose .limit).doseInFlight = false := by rw [ended]; rfl
  rw [doseLimitReached, takeFault_grout_idle _ _ stopped, ended]
  simp [pointerAfter]

end State

end Sys2Proof.Machine

section
open Sys2Proof Sys2Proof.Machine

/-- Settles O47: a stroke is credited to the port of the last dose record, and the last one completes the dose. -/
theorem strokeCredited : Obligations.StrokeCredited := by
  unfold Obligations.StrokeCredited
  intro s
  refine ⟨fun none' => ?_, fun d dose => ⟨fun full => congrArg _ (State.takeStroke_of_full dose full), fun room =>
    ⟨s.takeStroke, rfl, fun more => ?_, fun runs last paired => ?_, by simp, by simp, by simp, by simp, by simp⟩⟩⟩
  · simp [exec, execStrokeReport, State.takeStroke, none']
  · rw [State.takeStroke_of_credit dose room more]
    obtain ⟨dose', pump, pointer, ports⟩ := State.creditStroke_grout d s
    exact ⟨dose', pump, pointer, ports, State.creditStroke_counters d s⟩
  · obtain ⟨dose', pump, pointer, ports⟩ := State.creditStroke_grout d s
    obtain ⟨chain, next⟩ := State.creditStroke_pointer d s d.port
    have dosing : s.grout.pump = .dosing := paired.2 (by rw [State.doseInFlight_of dose, runs]; rfl)
    have grout := State.completeDose_grout d.port dose' runs (by rw [pump, dosing]; decide)
    rw [State.takeStroke_of_last dose runs last, grout, State.completeDose_counters, State.creditStroke_counters]
    dsimp only
    rw [chain, next, pointer, ports, List.map_map]
    refine ⟨rfl, rfl, rfl, List.map_congr_left fun p _ => ?_, rfl⟩
    by_cases here : p.number = d.port <;> simp [here]

/-- Settles O48: a dose is cut above the cut pressure, and ends at its limit with the PUMP fault. -/
theorem doseCutAndLimit : Obligations.DoseCutAndLimit := by
  unfold Obligations.DoseCutAndLimit
  refine ⟨fun kPa s => ⟨fun none' => congrArg _ (State.takeLinePressure_of_none none'), fun d dose runs high sound =>
    ⟨_, congrArg Host.Outcome.next (State.takeLinePressure_of_cut dose runs high), ?_⟩⟩, fun s => ⟨State.doseLimitExpiry_of_none,
    fun d dose runs run => ⟨_, State.doseLimitExpiry_of_run dose runs run, ?_⟩⟩⟩
  · obtain ⟨ended, idle, pointer⟩ := State.cutDose_grout (s := s.setChannels { s.channels with linePressure := some kPa }) d.port
      dose runs sound
    have port? {p : Port} (port : s.port? d.port = some p) :=
      State.cutDose_port (s := s.setChannels { s.channels with linePressure := some kPa }) port
    exact ⟨by simp, ended, idle, pointer, State.cutDose_counters d.port _,
      fun p port => ⟨State.cutPort p, (port? port).1, rfl, rfl, rfl, rfl, (port? port).2⟩,
      fun n other => State.cutDose_ne other, by simp, by simp, by simp, by simp⟩
  · rw [State.doseLimitReached_grout dose runs]
    refine ⟨rfl, rfl, rfl, rfl, by simp [State.doseLimitReached], fun sound => ?_, fun faulted => ?_⟩
    · have node : (s.endDose .limit).node = s.node := by simp
      obtain ⟨effect, noticed, hard, -⟩ := takeFault_effect .pump (s.endDose .limit) (node ▸ sound)
      exact ⟨effect.trans (by rw [node]), hard, noticed⟩
    · rw [State.doseLimitReached, State.takeFault_of_faulted .pump (by simpa using faulted)]
      simp

end
end

section
/-! PROOFS. Guard mode: its beginning and end, the services that set the manual flag, the sample timer and the end of a
probe (O39, O41). -/

-- In one thread: each proof that waits for those before it would keep a thread of its own.
set_option Elab.async false

namespace Sys2Proof.Machine

namespace State

variable {s : State}

/-! ### Guard mode (R93) -/

theorem startProbe_eq (s : State) :
    s.startProbe = s.setGuard { s.drive.guard with probe := some (s.drive.guard.probe.getD ⟨0, 0⟩) } := by
  cases probe : s.drive.guard.probe
  case none => rw [startProbe_of_none probe]; rfl
  case some p =>
    rw [startProbe_of_some probe]
    show s = s.setGuard { s.drive.guard with probe := some p }
    rw [← probe]
    rfl

/-- The state guard mode begins in, up to the probe. -/
theorem guardBegins_effect (s : State) : s.guardBegins.noticed .guardEntered = true
    ∧ s.guardBegins.thrust = { s.thrust with restraints := insertRestraint (s.own, .torque) s.thrust.restraints }
    ∧ s.guardBegins.drive = { s.drive with guard := { s.drive.guard with
        timer := some 0, probe := some (s.drive.guard.probe.getD ⟨0, 0⟩) } }
    ∧ (s.HasPlace → ∃ q ∈ s.guardBegins.link.queue, q.frame.body = .restrain [3]) := by
  have notices : s.guardBegins.noticed .guardEntered = ((s.notify .guardEntered).restrain .torque).noticed .guardEntered := by
    simp only [guardBegins, startProbe_eq]; rfl
  refine ⟨notices.trans (noticesKept_restrain .torque _ _ (notify_noticed s .guardEntered)), ?_, ?_, fun place => ?_⟩
  · simp only [guardBegins, startProbe_eq]
    exact restrain_thrust .torque _
  · simp [guardBegins, startProbe_eq, restrain]
  · simp only [guardBegins, startProbe_eq]
    exact queueFrame_holds ((s.notify .guardEntered).addRestraint s.own .torque) _ place rfl

theorem guardEnds_effect (s : State) :
    s.guardEnds.thrust = { s.thrust with restraints := s.thrust.restraints.filter (fun e => e != (s.own, .torque)) }
    ∧ s.guardEnds.drive = { s.drive with guard := { s.drive.guard with timer := none } }
    ∧ (s.HasPlace → ∃ q ∈ s.guardEnds.link.queue, q.frame.body = .release [3]) := by
  refine ⟨?_, ?_, fun place => ?_⟩
  · exact release_thrust .torque s
  · simp [guardEnds, release]
  · exact queueFrame_holds (s.removeRestraint s.own .torque) _ place rfl

theorem noticesKept_guardEnds (s : State) : NoticesKept s s.guardEnds :=
  (noticesKept_release .torque s).trans (NoticesKept.of rfl)

/-! ### The flags of guard mode (R91, R92) -/

variable {manual latch : Bool}

theorem setGuardFlags_of_same (same : (manual || latch) = s.drive.guard.mode) :
    s.setGuardFlags manual latch = s.setGuard { s.drive.guard with manual := manual, latch := latch } := by
  unfold setGuardFlags
  have mode : (s.setGuard { s.drive.guard with manual := manual, latch := latch }).drive.guard.mode = s.drive.guard.mode := same
  simp only [mode]
  cases s.drive.guard.mode <;> rfl

theorem setGuardFlags_of_begin (before : s.drive.guard.mode = false) (after : (manual || latch) = true) :
    s.setGuardFlags manual latch = (s.setGuard { s.drive.guard with manual := manual, latch := latch }).guardBegins := by
  exact if_pos (by rw [before]; exact after)

theorem setGuardFlags_of_end (before : s.drive.guard.mode = true) (after : (manual || latch) = false) :
    s.setGuardFlags manual latch = (s.setGuard { s.drive.guard with manual := manual, latch := latch }).guardEnds := by
  have off : (s.setGuard { s.drive.guard with manual := manual, latch := latch }).drive.guard.mode = false := after
  exact (if_neg (by rw [before, off]; decide)).trans (if_pos (by rw [before, off]; rfl))

/-! ### GUARD_ON and GUARD_OFF (R91) -/

/-- The latch cleared: guard mode goes on only with the manual flag (R93). -/
theorem clearLatch_effect (latched : s.drive.guard.latch = true) :
    (s.setGuardFlags s.drive.guard.manual false).drive = { s.drive with guard := { s.drive.guard with
        latch := false, timer := if s.drive.guard.manual then s.drive.guard.timer else none } }
    ∧ (s.setGuardFlags s.drive.guard.manual false).thrust.restraints = (if s.drive.guard.manual then s.thrust.restraints
        else s.thrust.restraints.filter (fun e => e != (s.own, .torque)))
    ∧ NoticesKept s (s.setGuardFlags s.drive.guard.manual false) := by
  have before : s.drive.guard.mode = true := by rw [Guard.mode, latched, Bool.or_true]
  cases manual : s.drive.guard.manual
  case false =>
    rw [setGuardFlags_of_end before rfl]
    obtain ⟨thrust, drive, -⟩ := guardEnds_effect (s.setGuard { s.drive.guard with manual := false, latch := false })
    refine ⟨?_, congrArg ThrustUnit.restraints thrust, (noticesKept_guardEnds _).pre rfl⟩
    rw [drive]
    simp [manual]
  case true =>
    rw [setGuardFlags_of_same (by rw [before]; rfl)]
    refine ⟨?_, rfl, NoticesKept.of rfl⟩
    simp [manual]

variable {station : Station} {addressed : Bool} {args : List Byte}

theorem serveGuardOn_of_unconfigured (unconfigured : s.configured = false) :
    s.serveGuardOn station addressed args = s.answer station addressed .guardOn .state :=
  configuredOnly_of_unconfigured unconfigured ..

theorem serveGuardOff_of_unconfigured (unconfigured : s.configured = false) :
    s.serveGuardOff station addressed args = s.answer station addressed .guardOff .state :=
  configuredOnly_of_unconfigured unconfigured ..

theorem serveGuardOn_of_configured (configured : s.configured = true) : s.serveGuardOn station addressed args
    = if args.isEmpty then (s.setGuardFlags true s.drive.guard.latch).answer station addressed .guardOn .done
      else s.answer station addressed .guardOn .format := configuredOnly_of_configured configured ..

theorem serveGuardOff_of_configured (configured : s.configured = true) : s.serveGuardOff station addressed args
    = if args.isEmpty then (s.setGuardFlags false s.drive.guard.latch).answer station addressed .guardOff .done
      else s.answer station addressed .guardOff .format := configuredOnly_of_configured configured ..

/-! ### The end of a probe (R95, R96) -/

/-- The record of a probe that has ended. -/
def probeRecorded (s : State) (mean : Nat) : Guard :=
  let level := guardPercent (s.drive.guard.level.getD 0)
  { s.drive.guard with
    probe := none, last := some ⟨decide (level ≤ mean), mean, level⟩, probes := s.drive.guard.probes + 1 }

theorem takeStall_of_low {mean : Nat} (low : mean < 115) : s.takeStall mean = s.setGuard { s.drive.guard with stalls := 0 } :=
  if_pos low

theorem takeStall_of_few {mean : Nat} (high : 115 ≤ mean) (few : s.drive.guard.stalls < 2) :
    s.takeStall mean = s.setGuard { s.drive.guard with stalls := s.drive.guard.stalls + 1 } :=
  (if_neg (Nat.not_lt.2 high)).trans (if_pos (by omega))

theorem takeStall_of_third {mean : Nat} (high : 115 ≤ mean) (third : 2 ≤ s.drive.guard.stalls) :
    s.takeStall mean = (s.setGuard { s.drive.guard with jam := true, stalls := 0 }).imposeHold .jam :=
  (if_neg (Nat.not_lt.2 high)).trans (if_neg (by omega))

/-- The probe recorded and its stall counted, before an UNDER result clears the latch. -/
def probeEnded (s : State) (mean : Nat) : State := ((s.setGuard (s.probeRecorded mean)).notify .guardProbe).takeStall mean

theorem probeEnded_of_low {mean : Nat} (low : mean < 115) : s.probeEnded mean
    = (s.setGuard { s.probeRecorded mean with stalls := 0 }).notify .guardProbe := takeStall_of_low low

theorem probeEnded_of_few {mean : Nat} (high : 115 ≤ mean) (few : s.drive.guard.stalls < 2) : s.probeEnded mean
    = (s.setGuard { s.probeRecorded mean with stalls := s.drive.guard.stalls + 1 }).notify .guardProbe :=
  takeStall_of_few high few

theorem probeEnded_of_third {mean : Nat} (high : 115 ≤ mean) (third : 2 ≤ s.drive.guard.stalls) : s.probeEnded mean
    = ((s.setGuard { s.probeRecorded mean with jam := true, stalls := 0 }).notify .guardProbe).imposeHold .jam :=
  takeStall_of_third high third

theorem endProbe_of_over {p : Probe} (isOver : guardPercent (s.drive.guard.level.getD 0) ≤ p.weighted / 100) :
    s.endProbe p = s.probeEnded (p.weighted / 100) := if_neg (by simp [Config.probeLength, isOver])

theorem endProbe_of_noLatch {p : Probe} (none' : (s.probeEnded (p.weighted / 100)).drive.guard.latch = false) :
    s.endProbe p = s.probeEnded (p.weighted / 100) := if_neg fun both => by
  rw [Bool.and_eq_true] at both
  exact absurd (none'.symm.trans both.2) (by decide)

theorem endProbe_of_under {p : Probe} (under : p.weighted / 100 < guardPercent (s.drive.guard.level.getD 0))
    (latch : (s.probeEnded (p.weighted / 100)).drive.guard.latch = true) : s.endProbe p
      = (s.probeEnded (p.weighted / 100)).setGuardFlags (s.probeEnded (p.weighted / 100)).drive.guard.manual false :=
  if_pos (by
    rw [Bool.and_eq_true, Bool.not_eq_true', decide_eq_false_iff_not]
    exact ⟨Nat.not_le.2 under, latch⟩)

theorem probeEnd_of_run {p : Probe} (probe : s.drive.guard.probe = some p) (run : p.elapsed = 100) :
    exec .probeEnd s = .next (s.endProbe p) := by
  have passed : s.passTime (Config.probeLength - p.elapsed) = s := by rw [run]; exact passTime_zero s
  simp only [exec, execProbeEnd, probe, passed, Option.getD_some]

theorem sampleTimerExpiry_of_run (timer : s.drive.guard.timer = some 500) :
    exec .sampleTimerExpiry s = .next (s.setGuard { s.drive.guard with
      timer := some 0, probe := some (s.drive.guard.probe.getD ⟨0, 0⟩) }) := by
  have passed : s.passTime (Config.samplePeriod - 500) = s := passTime_zero s
  simp only [exec, execSampleTimerExpiry, timer, passed, startProbe_eq]
  rfl

end State

end Sys2Proof.Machine

section
open Sys2Proof Sys2Proof.Machine

/-- Settles O39: the two services change the manual flag, and guard mode begins or ends as the flags then say. -/
theorem guardOnAndOff : Obligations.GuardOnAndOff := by
  unfold Obligations.GuardOnAndOff
  intro sender target args on i service s heard which
  obtain ⟨take, served, unconfigured, configured⟩ : ∃ take : State.ServiceTake,
      exec i s = .next (s |> take sender (target != 0) args)
      ∧ (s.configured = false → (s |> take sender (target != 0) args) = s.answer sender (target != 0) service .state)
      ∧ (s.configured = true → (s |> take sender (target != 0) args)
        = if args.isEmpty then (s.setGuardFlags on s.drive.guard.latch).answer sender (target != 0) service .done
          else s.answer sender (target != 0) service .format) := by
    rcases which with ⟨rfl, rfl, rfl⟩ | ⟨rfl, rfl, rfl⟩
    · exact ⟨State.serveGuardOn, receiveCommand_console heard _ _, State.serveGuardOn_of_unconfigured,
        State.serveGuardOn_of_configured⟩
    · exact ⟨State.serveGuardOff, receiveCommand_console heard _ _, State.serveGuardOff_of_unconfigured,
        State.serveGuardOff_of_configured⟩
  rw [served]
  refine ⟨fun none' => by rw [unconfigured none'], fun some' arguments => ?_, fun some' none' => ?_⟩
  · rw [configured some', isEmpty_false arguments]
    rfl
  rw [configured some', none']
  refine ⟨fun same => ?_, fun set before => ?_, fun clear manual latch => ?_⟩
  · rw [State.setGuardFlags_of_same same]
    rfl
  · subst set
    refine ⟨_, congrArg (fun u : State => Host.Outcome.next (u.answer sender (target != 0) service .done))
      (State.setGuardFlags_of_begin before rfl), ?_⟩
    obtain ⟨entered, thrust, drive, told⟩ :=
      State.guardBegins_effect (s.setGuard { s.drive.guard with manual := true, latch := s.drive.guard.latch })
    exact ⟨entered, thrust, drive, told, by simp, by simp, by simp, by simp, by simp⟩
  · subst clear
    have mode : s.drive.guard.mode = true := by rw [Guard.mode, manual]; rfl
    refine ⟨_, congrArg (fun u : State => Host.Outcome.next (u.answer sender (target != 0) service .done))
      (State.setGuardFlags_of_end mode latch), ?_⟩
    obtain ⟨thrust, drive, told⟩ :=
      State.guardEnds_effect (s.setGuard { s.drive.guard with manual := false, latch := s.drive.guard.latch })
    exact ⟨thrust, drive, told, by simp, by simp, by simp, by simp, by simp⟩

/-- Settles O41: the sample timer restarts, and a probe ends with its record, its stall and, UNDER, the latch cleared. -/
theorem sampleTimerAndProbeEnd : Obligations.SampleTimerAndProbeEnd := by
  unfold Obligations.SampleTimerAndProbeEnd
  intro s
  refine ⟨fun none' => ?_, State.sampleTimerExpiry_of_run, fun none' => ?_, fun weighted mean level probe hmean hlevel => ?_⟩
  · simp only [exec, execSampleTimerExpiry, none']
  · simp only [exec, execProbeEnd, none']
  subst hmean hlevel
  have ran := State.probeEnd_of_run probe rfl
  rw [ran]
  refine ⟨fun low result => ?_, fun low under latch => ?_, fun high isOver few => ?_, fun high isOver third => ?_⟩
  · have ended : s.endProbe ⟨100, weighted⟩ = s.probeEnded (weighted / 100) := by
      rcases result with isOver | noLatch
      · exact State.endProbe_of_over isOver
      · refine State.endProbe_of_noLatch ?_
        rw [State.probeEnded_of_low low]
        exact noLatch
    rw [ended, State.probeEnded_of_low low]
    rfl
  · have guard : (s.probeEnded (weighted / 100)).drive.guard = { s.probeRecorded (weighted / 100) with stalls := 0 } := by
      rw [State.probeEnded_of_low low]
      rfl
    have ended : s.endProbe ⟨100, weighted⟩ = _ := State.endProbe_of_under under (by rw [guard]; exact latch)
    have noticed : (s.probeEnded (weighted / 100)).noticed .guardProbe = true := by
      rw [State.probeEnded_of_low low]
      exact notify_noticed _ .guardProbe
    have record : s.probeRecorded (weighted / 100) = { s.drive.guard with
        probe := none, last := some ⟨false, weighted / 100, 70 + 5 * s.drive.guard.level.getD 0⟩
        probes := s.drive.guard.probes + 1 } := by
      simp only [State.probeRecorded, guardPercent, Nat.not_le.2 under, decide_false]
    obtain ⟨drive, restraints, notices⟩ := State.clearLatch_effect (s := s.probeEnded (weighted / 100)) (by rw [guard]; exact latch)
    refine ⟨_, rfl, ?_, ?_, ?_, ?_, ?_, ?_⟩
    · rw [ended, drive, State.probeEnded_of_low low, record]
      rfl
    · rw [ended, restraints, State.probeEnded_of_low low]
      rfl
    · rw [ended]
      exact notices _ noticed
    all_goals simp [ended, State.probeEnded_of_low low]
  · have ended : s.endProbe ⟨100, weighted⟩ = s.probeEnded (weighted / 100) := State.endProbe_of_over isOver
    rw [ended, State.probeEnded_of_few high few]
    simp only [State.probeRecorded, guardPercent, isOver, decide_true]
  · have ended : s.endProbe ⟨100, weighted⟩ = s.probeEnded (weighted / 100) := State.endProbe_of_over isOver
    rw [ended, State.probeEnded_of_third high third]
    refine ⟨_, rfl, ?_, imposeHold_phase_hard .jam _ _ rfl, NoticesKept_impose _ _ _ _ (notify_noticed _ .guardProbe), ?_⟩
    · simp [State.probeRecorded, guardPercent, isOver]
    · exact imposeHold_keepsRecords .jam _ _

end
end

section
/-! PROOFS. A drive report: the trip, the moves of the drive, the total torque with the automatic latch (O38). -/

-- In one thread: each proof that waits for those before it would keep a thread of its own.
set_option Elab.async false

namespace Sys2Proof.Machine

namespace State

variable {s : State}

/-! ### Drives outside BORE (R84) -/

/-- Outside BORE no drive runs: one that does is STOPPING. -/
def stopDrive (d : Drive) : Drive :=
  if d.state = .starting ∨ d.state = .running then { d with state := .stopping } else d

theorem testDrive_of_noBore (out : s.machine.phase ≠ .bore) (d : Drive) : s.testDrive d = stopDrive d := by
  have off : s.runCondition d = false := by simp [runCondition, out]
  cases state : d.state <;> simp [testDrive, stopDrive, off, state]

theorem testDrives_of_noBore (out : s.machine.phase ≠ .bore) : s.testDrives.drive.drives = s.drive.drives.map stopDrive :=
  List.map_congr_left fun d _ => testDrive_of_noBore out d

theorem handEntryToHold_drives (fromBore : Bool) (g : Grade) (out : s.machine.phase ≠ .bore) :
    (s.handEntryToHold fromBore g).drive.drives = s.drive.drives.map stopDrive := by
  rw [handEntryToHold_drive, testDrives_of_noBore (by simpa using out)]
  simp

/-- A hold from BORE or BUILD stops every drive. -/
theorem imposeHold_drives (cause : HoldCause) (out : s.inHold = false) :
    (s.imposeHold cause).drive.drives = s.drive.drives.map stopDrive := by
  unfold imposeHold
  dsimp only
  rw [failRound_phase]
  cases phase : s.machine.phase
  case hold => simp [inHold, phase] at out
  all_goals
    dsimp only
    rw [handEntryToHold_drives _ _ (by simp [openHold])]
    simp

theorem drivesStop_of_map {t : State} (drives : t.drive.drives = s.drive.drives.map stopDrive) : t.DrivesStop := by
  intro d held
  rw [drives, List.mem_map] at held
  obtain ⟨e, -, rfl⟩ := held
  unfold stopDrive
  split
  case isTrue => simp
  case isFalse still => exact not_or.1 still

theorem drive?_of_map {t : State} {f : Drive → Drive} (number : ∀ d, (f d).number = d.number)
    (drives : t.drive.drives = s.drive.drives.map f) (n : Nat) : t.drive? n = (s.drive? n).map f := by
  unfold drive?
  rw [drives, List.find?_map]
  congr 2
  funext d
  simp [number]

theorem stopDrive_number (d : Drive) : (stopDrive d).number = d.number := by
  unfold stopDrive
  split <;> rfl

/-! ### The report (R83) -/

def reportDrive (r : DriveReport) (d : Drive) : Drive := { d with speed := r.speed, torque := r.torque, fault := r.fault }

def tripDrive (d : Drive) : Drive := { d with state := .tripped }

/-- The report in the channel's record, and in the drive's. -/
def driveReported (s : State) (n : Nat) (r : DriveReport) : State := (s.keepDriveReport n r).updateDrive n (reportDrive r)

theorem keepDriveReport_eq {n : Nat} (some' : 1 ≤ n) (r : DriveReport) : s.keepDriveReport n r
    = s.setChannels { s.channels with drives := s.channels.drives.set (n - 1) r } := if_neg (by omega)

theorem takeDriveReport_of_none {n : Nat} (r : DriveReport) (some' : 1 ≤ n) (none' : s.drive? n = none) : s.takeDriveReport n r
    = s.setChannels { s.channels with drives := s.channels.drives.set (n - 1) r } := by
  rw [← keepDriveReport_eq some' r]
  have none'' : (s.keepDriveReport n r).drive? n = none := by rw [keepDriveReport_eq some' r]; exact none'
  simp only [takeDriveReport, none'']

theorem takeDriveReport_of_some {n : Nat} {d : Drive} (r : DriveReport) (some' : 1 ≤ n) (drive : s.drive? n = some d) :
    s.takeDriveReport n r = if r.fault then (s.driveReported n r).driveFault n d.state
      else ((s.driveReported n r).updateDrive n driveMoves).recomputeTotal := by
  have drive' : (s.keepDriveReport n r).drive? n = some d := by rw [keepDriveReport_eq some' r]; exact drive
  simp only [takeDriveReport, drive']
  rfl

theorem driveReported_drive? {n : Nat} {d : Drive} (r : DriveReport) (some' : 1 ≤ n) (drive : s.drive? n = some d) :
    (s.driveReported n r).drive? n = some (reportDrive r d) := by
  have drive' : (s.keepDriveReport n r).drive? n = some d := by rw [keepDriveReport_eq some' r]; exact drive
  exact (Sys2Proof.Machine.updateDrive_eq (s.keepDriveReport n r) (reportDrive r) (fun _ => rfl) n).trans (by rw [drive']; rfl)

theorem driveReported_frame {n : Nat} (r : DriveReport) (some' : 1 ≤ n) (s : State) :
    (s.driveReported n r).channels = { s.channels with drives := s.channels.drives.set (n - 1) r }
    ∧ (s.driveReported n r).node = s.node ∧ (s.driveReported n r).overrides = s.overrides
    ∧ (s.driveReported n r).machine = s.machine ∧ (s.driveReported n r).drive.setpoint = s.drive.setpoint
    ∧ (s.driveReported n r).drive.guard = s.drive.guard := by
  rw [driveReported, keepDriveReport_eq some' r]
  exact ⟨rfl, rfl, rfl, rfl, rfl, rfl⟩

theorem driveMoves_eq (d : Drive) : driveMoves d = { d with state :=
    if d.state = .starting ∧ d.speed ≠ 0 then .running else if d.state = .stopping ∧ d.speed = 0 then .stopped else d.state } := by
  obtain ⟨number, state, speed, torque, fault⟩ := d
  cases state <;> by_cases rest : speed = 0#16 <;> simp [driveMoves, rest]

theorem driveMoves_number (d : Drive) : (driveMoves d).number = d.number := by rw [driveMoves_eq]

/-! ### The total torque (R88, R92) -/

theorem recomputeTotal_of_rise (configured : s.configured = true) (bore : s.machine.phase = .bore) (high : 90 ≤ s.totalPercent)
    (before : s.drive.guard.previous.getD 0 < 90) : s.recomputeTotal = (s.setGuardFlags s.drive.guard.manual true).setGuard
      { (s.setGuardFlags s.drive.guard.manual true).drive.guard with previous := some s.totalPercent } := by
  simp [recomputeTotal, configured, bore, high, before]

theorem recomputeTotal_of_none (configured : s.configured = true) (none' : s.machine.phase ≠ .bore ∨ s.totalPercent < 90
    ∨ 90 ≤ s.drive.guard.previous.getD 0) :
    s.recomputeTotal = s.setGuard { s.drive.guard with previous := some s.totalPercent } := by
  have flat : (s.machine.phase == .bore && decide (90 ≤ s.totalPercent) && decide (s.drive.guard.previous.getD 0 < 90)) = false := by
    rw [Bool.and_eq_false_iff, Bool.and_eq_false_iff]
    simpa [or_assoc] using none'
  simp only [recomputeTotal, configured, if_true, flat, Bool.false_eq_true, if_false]

theorem totalPercent_congr {t : State} (node : t.node = s.node) (view : t.machine.view = s.machine.view)
    (drives : t.drive.drives = s.drive.drives) : t.totalPercent = s.totalPercent := by
  simp [totalPercent, configured, cfg, ownTorque, peerBeacons, own, node, view, drives]

theorem setGuardFlags_flags (manual latch : Bool) (s : State) : (s.setGuardFlags manual latch).drive.guard.manual = manual
    ∧ (s.setGuardFlags manual latch).drive.guard.latch = latch := by
  by_cases same : (manual || latch) = s.drive.guard.mode
  · rw [setGuardFlags_of_same same]
    exact ⟨rfl, rfl⟩
  cases before : s.drive.guard.mode
  · rw [setGuardFlags_of_begin before (Bool.eq_true_of_not_eq_false fun off => same (off.trans before.symm))]
    simp [(guardBegins_effect _).2.2.1]
  · rw [setGuardFlags_of_end before (Bool.eq_false_of_not_eq_true fun on => same (on.trans before.symm))]
    simp [(guardEnds_effect _).2.1]

/-- The total becomes the previous one, and only a rise through 90 percent in BORE sets the latch. -/
theorem recomputeTotal_guard (configured : s.configured = true) :
    s.recomputeTotal.drive.guard.previous = some s.recomputeTotal.totalPercent
    ∧ s.recomputeTotal.drive.guard.manual = s.drive.guard.manual
    ∧ (s.machine.phase = .bore → 90 ≤ s.recomputeTotal.totalPercent → s.drive.guard.previous.getD 0 < 90 →
        s.recomputeTotal.drive.guard.latch = true)
    ∧ (s.machine.phase ≠ .bore ∨ s.recomputeTotal.totalPercent < 90 ∨ 90 ≤ s.drive.guard.previous.getD 0 →
        s.recomputeTotal.drive.guard = { s.drive.guard with previous := some s.recomputeTotal.totalPercent }) := by
  have total : s.recomputeTotal.totalPercent = s.totalPercent := totalPercent_congr (by simp) (by simp) (by simp)
  rw [total]
  by_cases rise : s.machine.phase = .bore ∧ 90 ≤ s.totalPercent ∧ s.drive.guard.previous.getD 0 < 90
  · obtain ⟨bore, high, before⟩ := rise
    rw [recomputeTotal_of_rise configured bore high before]
    obtain ⟨manual, latch⟩ := setGuardFlags_flags s.drive.guard.manual true s
    refine ⟨rfl, manual, fun _ _ _ => latch, fun none' => ?_⟩
    rcases none' with out | low | above
    · exact absurd bore out
    · omega
    · omega
  · have none' : s.machine.phase ≠ .bore ∨ s.totalPercent < 90 ∨ 90 ≤ s.drive.guard.previous.getD 0 := by
      by_contra all
      simp only [not_or, not_not, Nat.not_lt, Nat.not_le] at all
      exact rise all
    rw [recomputeTotal_of_none configured none']
    exact ⟨rfl, rfl, fun bore high before => absurd ⟨bore, high, before⟩ rise, fun _ => rfl⟩

/-! ### The trip (R85) -/

theorem driveFault_of_tripped (n : Nat) : s.driveFault n .tripped = s := if_pos rfl

theorem driveFault_of_other {n : Nat} {old : DriveState} (sound : old ≠ .tripped) : s.driveFault n old
    = if s.machine.phase = .bore then (s.updateDrive n tripDrive).imposeHold .driveTrip else s.updateDrive n tripDrive :=
  if_neg sound

theorem tripped_drive? {n : Nat} {d : Drive} (drive : s.drive? n = some d) :
    (s.updateDrive n tripDrive).drive? n = some (tripDrive d) :=
  (Sys2Proof.Machine.updateDrive_eq s tripDrive (fun _ => rfl) n).trans (by rw [drive]; rfl)

end State

end Sys2Proof.Machine

section
open Sys2Proof Sys2Proof.Machine

/-- Settles O38: a fault trips the drive and in BORE holds the machine; a report without one moves the drive and the total. -/
theorem driveReportTaken : Obligations.DriveReportTaken := by
  unfold Obligations.DriveReportTaken
  intro n speed torque fault s some' most
  refine ⟨fun none' => congrArg _ (State.takeDriveReport_of_none _ some' none'), fun d drive => ?_⟩
  have number : d.number = n := find_number (num := Drive.number) drive
  have taken := State.takeDriveReport_of_some ⟨speed, torque, fault⟩ some' drive
  have reported := State.driveReported_drive? ⟨speed, torque, fault⟩ some' drive
  obtain ⟨channels, node, overrides, machine, setpoint, guard⟩ := State.driveReported_frame ⟨speed, torque, fault⟩ some' s
  generalize s.driveReported n ⟨speed, torque, fault⟩ = u at *
  cases fault
  case true =>
    by_cases already : d.state = .tripped
    · rw [already, State.driveFault_of_tripped] at taken
      exact ⟨u, State.reportDrive ⟨speed, torque, true⟩ d, congrArg Host.Outcome.next taken, channels, reported, number, rfl, rfl,
        rfl, node, overrides, setpoint, fun _ => ⟨already, guard, fun _ sound => absurd already sound⟩, fun _ _ => machine,
        (nomatch ·)⟩
    have tripped := State.tripped_drive? reported
    by_cases bore : s.machine.phase = .bore
    · have out : (u.updateDrive n State.tripDrive).inHold = false := by
        simp [State.inHold, State.updateDrive, machine, bore]
      have drives := State.imposeHold_drives .driveTrip out
      have held : s.takeDriveReport n ⟨speed, torque, true⟩ = (u.updateDrive n State.tripDrive).imposeHold .driveTrip :=
        taken.trans ((State.driveFault_of_other already).trans (if_pos (machine ▸ bore)))
      refine ⟨_, State.tripDrive (State.reportDrive ⟨speed, torque, true⟩ d), congrArg Host.Outcome.next held, ?_⟩
      have stays := (State.drive?_of_map State.stopDrive_number drives n).trans (congrArg _ tripped)
      refine ⟨by simp [channels], stays, number, rfl, rfl, rfl, by simp [node], by simp [overrides], by simp [setpoint],
        fun _ => ⟨rfl, by simp [guard], fun _ _ => ⟨imposeHold_phase_hard .driveTrip _ _ rfl, State.drivesStop_of_map drives⟩⟩,
        fun _ noBore => ?_, (nomatch ·)⟩
      exact absurd bore (noBore.resolve_right already)
    · have held : s.takeDriveReport n ⟨speed, torque, true⟩ = u.updateDrive n State.tripDrive :=
        taken.trans ((State.driveFault_of_other already).trans (if_neg (machine ▸ bore)))
      exact ⟨_, State.tripDrive (State.reportDrive ⟨speed, torque, true⟩ d), congrArg Host.Outcome.next held, channels, tripped,
        number, rfl, rfl, rfl, node, overrides, setpoint, fun _ => ⟨rfl, guard, fun h => absurd h bore⟩, fun _ _ => machine,
        (nomatch ·)⟩
  case false =>
    obtain ⟨v, hv⟩ : ∃ v, v = u.updateDrive n State.driveMoves := ⟨_, rfl⟩
    have moved : v.drive? n = some (State.driveMoves (State.reportDrive ⟨speed, torque, false⟩ d)) := by
      rw [hv]
      exact (Sys2Proof.Machine.updateDrive_eq u State.driveMoves State.driveMoves_number n).trans (by rw [reported]; rfl)
    have held : s.takeDriveReport n ⟨speed, torque, false⟩ = v.recomputeTotal := by rw [taken, hv]; rfl
    have drives : v.recomputeTotal.drive? n = v.drive? n := by simp [State.drive?]
    have configured : v.configured = s.configured := by simp [State.configured, hv, node]
    have machine' : v.machine = s.machine := by rw [hv]; exact machine
    have guard' : v.drive.guard = s.drive.guard := by rw [hv]; exact guard
    refine ⟨v.recomputeTotal, _, congrArg Host.Outcome.next held, by simp [hv, channels], drives.trans moved,
      (State.driveMoves_number _).trans number, ?_, ?_, ?_, by simp [hv, node], by simp [hv, overrides], by simp [hv, setpoint],
      (nomatch ·), (nomatch ·), fun _ => ⟨by simp [machine'], fun some'' => ?_, ?_, ?_, ?_⟩⟩
    · rw [State.driveMoves_eq]; rfl
    · rw [State.driveMoves_eq]; rfl
    · rw [State.driveMoves_eq]; rfl
    · have total := State.recomputeTotal_guard (configured.trans some'')
      rwa [machine', guard'] at total
    · intro starting turns
      rw [State.driveMoves_eq]
      exact if_pos ⟨starting, turns⟩
    · intro stopping rests
      rw [State.driveMoves_eq]
      exact (if_neg fun h => h.2 rests).trans (if_pos ⟨stopping, rests⟩)
    · intro start stop
      rw [State.driveMoves_eq]
      exact (if_neg start).trans (if_neg stop)

end
end

section
/-! PROOFS. The plan services: upload and close, and the engine's start, stop and resumption (O44, O46). -/

-- In one thread: each proof that waits for those before it would keep a thread of its own.
set_option Elab.async false

namespace Sys2Proof.Machine

namespace State

variable {s : State} {station : Station} {args : List Byte}

/-! ### The gate of the plan services (R101) -/

theorem planService_of_owner {service : Service} (take : Station → List Byte → State → State) (owner : s.ownsErector = true) :
    planService service take station true args s = take station args s := by
  simp [planService, owner]

theorem planService_of_other {service : Service} (take : Station → List Byte → State → State) (other : s.ownsErector = false) :
    planService service take station true args s = s.answer station true service .state := by
  simp [planService, other]

theorem planServiceBare_of_args {service : Service} (take : Station → State → State) (owner : s.ownsErector = true)
    (some' : args ≠ []) : planServiceBare service take station true args s = s.answer station true service .format :=
  (planService_of_owner _ owner).trans (if_neg (by simp [some']))

/-! ### PLAN_OPEN (R102) -/

theorem servePlanOpen_of_length (owner : s.ownsErector = true) (length : args.length ≠ 1) :
    s.servePlanOpen station true args = s.answer station true .planOpen .format := by
  rw [servePlanOpen, planService_of_owner _ owner]
  split
  case h_1 => exact absurd rfl length
  case h_2 => rfl

theorem servePlanOpen_of_byte (owner : s.ownsErector = true) (b : Byte) : s.servePlanOpen station true [b] =
    if s.engine.state = .faulted then s.answer station true .planOpen .state
    else match s.plans.opened with
      | some p => if p.opener = station ∧ p.identifier = b.toNat ∧ p.steps = [] then s.answer station true .planOpen .done
        else s.answer station true .planOpen .busy
      | none => if b = 0 ∨ 4 ≤ s.plans.closed.length then s.answer station true .planOpen .range
        else (s.setPlans { s.plans with opened := some ⟨b.toNat, station, none, []⟩ }).answer station true .planOpen .done := by
  rw [servePlanOpen, planService_of_owner _ owner] <;> rfl

/-! ### PLAN_STEP (R103, R104) -/

theorem servePlanStep_of_shut (owner : s.ownsErector = true) (shut : s.engine.state = .faulted ∨ s.plans.opened = none) :
    s.servePlanStep station true args = s.answer station true .planStep .state := by
  rw [servePlanStep, planService_of_owner _ owner]
  by_cases faulted : s.engine.state = .faulted
  · rw [if_pos faulted]
  · rw [if_neg faulted, shut.resolve_left faulted]

theorem servePlanStep_of_open {p : Plan} (owner : s.ownsErector = true) (sound : s.engine.state ≠ .faulted)
    (open' : s.plans.opened = some p) : s.servePlanStep station true args =
      if p.opener ≠ station then s.answer station true .planStep .busy
      else if repeatsLastStep p (planStepOf args) then s.answer station true .planStep .done
      else match (planStepOf args).filter (s.stepFits p) with
        | none => s.discardOpenPlan.answer station true .planStep .format
        | some st => if 40 ≤ s.stepsHeld then
            (s.discardOpenPlan.count fun c => { c with uploadOverflows := c.uploadOverflows + 1 }).answer station true
              .planStep .range
          else (s.setPlans { s.plans with opened := some { p with steps := p.steps ++ [st] } }).answer station true
            .planStep .done := by
  rw [servePlanStep, planService_of_owner _ owner, if_neg sound, open'] <;> rfl

theorem repeatsLastStep_of_none (p : Plan) : repeatsLastStep p none = false := rfl

theorem repeatsLastStep_some (p : Plan) (st : PlanStep) :
    repeatsLastStep p (some st) = true ↔ p.steps.getLast? = some st ∧ st.index = p.steps.length := by
  cases last : p.steps.getLast? with
  | none => simp [repeatsLastStep, last]
  | some l =>
    simp only [repeatsLastStep, last, Bool.and_eq_true, beq_iff_eq, Option.some.injEq]
    exact and_congr_left fun _ => eq_comm

theorem stepFits_iff (p : Plan) (st : PlanStep) : s.stepFits p st = true ↔ st.index = p.steps.length + 1 ∧ st.index ≤ 9
    ∧ 1 ≤ st.position ∧ st.position ≤ s.cfg.positions ∧ st.rotation ≤ 359
    ∧ ∀ k, st.reseat = some k → 1000 ≤ k ∧ k ≤ 35000 := by
  cases reseat : st.reseat <;> simp [stepFits, reseat, and_assoc]

/-- Only five or seven bytes with a known segment kind spell a step. -/
theorem planStepOf_of_form (form : (args.length ≠ 5 ∧ args.length ≠ 7) ∨ (∃ i q k rest, args = i :: q :: k :: rest ∧ k ≠ 1 ∧ k ≠ 2)) :
    planStepOf args = none := by
  unfold planStepOf
  split
  case h_3 => rfl
  all_goals
    rcases form with length | ⟨i, q, k, rest, given, one, two⟩
    · simp at length
    · obtain ⟨-, -, rfl, -⟩ : _ ∧ _ ∧ _ ∧ _ := by simpa using given
      rw [segmentOf, if_neg one, if_neg two]
      rfl

/-- A step that repeats the last one held is no new step: its index is not the next. -/
theorem repeatsLastStep_of_new {p : Plan} {st : PlanStep} (new : p.steps.getLast? ≠ some st ∨ st.index ≠ p.steps.length) :
    repeatsLastStep p (some st) = false := by
  rw [← Bool.not_eq_true, repeatsLastStep_some]
  exact fun ⟨last, index⟩ => new.elim (· last) (· index)

/-! ### PLAN_CLOSE (R105) -/

theorem servePlanClose_of_shut (owner : s.ownsErector = true) (shut : s.engine.state = .faulted ∨ s.plans.opened = none) :
    s.servePlanClose station true args = s.answer station true .planClose .state := by
  rw [servePlanClose, planService_of_owner _ owner]
  by_cases faulted : s.engine.state = .faulted
  · rw [if_pos faulted]
  · rw [if_neg faulted, shut.resolve_left faulted]

theorem servePlanClose_of_busy {p : Plan} (owner : s.ownsErector = true) (sound : s.engine.state ≠ .faulted)
    (open' : s.plans.opened = some p) (other : p.opener ≠ station) :
    s.servePlanClose station true args = s.answer station true .planClose .busy := by
  rw [servePlanClose, planService_of_owner _ owner, if_neg sound, open']
  exact if_pos other

theorem servePlanClose_of_count {p : Plan} {n : Byte} (owner : s.ownsErector = true) (sound : s.engine.state ≠ .faulted)
    (open' : s.plans.opened = some p) (opener : p.opener = station) (least : 1 ≤ n.toNat) (most : n.toNat ≤ 9)
    (count : n.toNat = p.steps.length) :
    s.servePlanClose station true [n] = (s.closePlan p n.toNat).answer station true .planClose .done := by
  rw [servePlanClose, planService_of_owner _ owner, if_neg sound, open']
  exact (if_neg (not_not.2 opener)).trans (if_pos ⟨least, most, count⟩)

theorem servePlanClose_of_form {p : Plan} (owner : s.ownsErector = true) (sound : s.engine.state ≠ .faulted)
    (open' : s.plans.opened = some p) (opener : p.opener = station)
    (form : ∀ n, args = [n] → n = 0 ∨ 9 < n.toNat ∨ n.toNat ≠ p.steps.length) :
    s.servePlanClose station true args = s.discardOpenPlan.answer station true .planClose .format := by
  rw [servePlanClose, planService_of_owner _ owner, if_neg sound, open']
  refine (if_neg (not_not.2 opener)).trans ?_
  split
  case h_1 n =>
    refine if_neg fun ⟨least, most, count⟩ => ?_
    rcases form n rfl with zero | long | other
    · simp [zero] at least
    · omega
    · exact other count
  case h_2 => rfl

theorem closePlan_of_held {p : Plan} {n : Nat} (held : s.headStep.isSome = true) :
    s.closePlan p n = s.setPlans ⟨s.plans.closed ++ [{ p with closedCount := some n }], none⟩ :=
  if_neg (by rw [Option.isNone_eq_false_iff.2 held]; decide)

theorem closePlan_of_made {p : Plan} {n : Nat} (made : s.headStep = none) :
    s.closePlan p n = (s.setPlans ⟨s.plans.closed ++ [{ p with closedCount := some n }], none⟩).takeHeadStep :=
  if_pos (Option.isNone_iff_eq_none.2 made)

/-! ### The engine's services (R111, R115, R116, R132) -/

theorem popHeadStep_plans (s : State) : s.popHeadStep = s.setPlans s.popHeadStep.plans := by
  unfold popHeadStep
  split
  · split <;> rfl
  · rfl

/-- A dropped step leaves the store where its segment was seated (R112). -/
theorem dropStep_eq (s : State) : s.dropStep
    = (s.setPlans (if s.engine.seated = some true then s.popHeadStep.plans else s.plans)).setEngine { s.engine with
        state := .disabled, seated := none, zoneMembers := [], answered := [], limit := none, stopping := false } := by
  unfold dropStep
  by_cases seated : s.engine.seated = some true
  · simp only [if_pos seated]
    rw [popHeadStep_plans]
    rfl
  · simp only [if_neg seated]
    rfl

/-- Outside BUILD the engine takes no step (R121). -/
theorem takeHeadStep_of_noBuild (out : s.machine.phase ≠ .build) : s.takeHeadStep = s :=
  if_neg fun h => out h.2.2.1

theorem stopEngine_of_dropped (state : s.engine.state = .suspended ∨ s.engine.state = .stalled) : s.stopEngine = s.dropStep := by
  unfold stopEngine
  rcases state with suspended | stalled
  · rw [suspended]
  · rw [stalled]

theorem stopEngine_of_idle (state : s.engine.state = .idle ∨ s.engine.state = .faulted) :
    s.stopEngine = s.setEngine { s.engine with state := .disabled } := by
  unfold stopEngine
  rcases state with idle | faulted
  · rw [idle]
  · rw [faulted]

theorem stopEngine_of_stage (state : s.engine.state = .clearing ∨ s.engine.state = .placing ∨ s.engine.state = .reseating) :
    s.stopEngine = s.setEngine { s.engine with stopping := true } := by
  unfold stopEngine
  rcases state with clearing | placing | reseating
  · rw [clearing]
  · rw [placing]
  · rw [reseating]

theorem stopEngine_of_disabled (disabled : s.engine.state = .disabled) : s.stopEngine = s := by
  unfold stopEngine
  rw [disabled]

/-- PLAN_ENABLE at the erector owner, by the engine's state (R115). -/
def takePlanEnable (station : Station) (s : State) : State :=
  match s.engine.state with
  | .disabled => (s.setEngine { s.engine with state := .idle }).takeHeadStep.answer station true .planEnable .done
  | .idle => s.answer station true .planEnable .done
  | .clearing | .placing | .reseating =>
    if s.engine.stopping then (s.setEngine { s.engine with stopping := false }).answer station true .planEnable .done
    else s.answer station true .planEnable .state
  | .suspended | .stalled | .faulted => s.answer station true .planEnable .state

theorem exec_planEnable_of_owner {sender target : Station} (heard : s.HearsConsole sender target) (owner : s.ownsErector = true)
    (addressed : target ≠ 0) : exec (.planEnable sender target []) s = .next (s.takePlanEnable sender) :=
  congrArg Host.Outcome.next (receiveCommand_planServiceBare heard owner addressed _ _)

theorem exec_planResume_of_owner {sender target : Station} (heard : s.HearsConsole sender target) (owner : s.ownsErector = true)
    (addressed : target ≠ 0) : exec (.planResume sender target []) s
      = .next (if s.engine.state = .stalled then s.resumeEngine.answer sender true .planResume .done
          else s.answer sender true .planResume .state) :=
  congrArg Host.Outcome.next (receiveCommand_planServiceBare heard owner addressed _ _)

theorem takePlanEnable_of_disabled (disabled : s.engine.state = .disabled) : s.takePlanEnable station
    = (s.setEngine { s.engine with state := .idle }).takeHeadStep.answer station true .planEnable .done := by
  rw [takePlanEnable, disabled]

theorem takePlanEnable_of_idle (idle : s.engine.state = .idle) :
    s.takePlanEnable station = s.answer station true .planEnable .done := by
  rw [takePlanEnable, idle]

theorem takePlanEnable_of_stage (stage : s.engine.state = .clearing ∨ s.engine.state = .placing ∨ s.engine.state = .reseating) :
    s.takePlanEnable station = if s.engine.stopping then
        (s.setEngine { s.engine with stopping := false }).answer station true .planEnable .done
      else s.answer station true .planEnable .state := by
  unfold takePlanEnable
  rcases stage with clearing | placing | reseating
  · rw [clearing]
  · rw [placing]
  · rw [reseating]

theorem takePlanEnable_of_other (other : s.engine.state = .suspended ∨ s.engine.state = .stalled ∨ s.engine.state = .faulted) :
    s.takePlanEnable station = s.answer station true .planEnable .state := by
  unfold takePlanEnable
  rcases other with suspended | stalled | faulted
  · rw [suspended]
  · rw [stalled]
  · rw [faulted]

/-- A STALLED engine resumed in BUILD issues the stage of its resume point again (R117, R132). -/
theorem resumeEngine_effect {p : Plan} {st : PlanStep} (build : s.machine.phase = .build) (member : s.node.state = .member)
    (step : s.currentStep = some (p, st)) : s.OnlyEngine s.resumeEngine ∧ s.resumeEngine.engine = { s.engine with
      state := if s.engine.seated = some true then .reseating else .clearing
      attempt := if 255 ≤ s.engine.attempt then 1 else s.engine.attempt + 1
      zoneMembers := s.zoneMembersOf st.position, answered := [], retry := 0, limit := some 20000 } := by
  have resumed : s.resumeEngine = (s.setEngine { s.engine with retry := 0 }).issueStage
      (if s.engine.seated = some true then .seat else .clear) := if_pos ⟨build, member⟩
  have step' : (s.setEngine { s.engine with retry := 0 }).currentStep = some (p, st) := step
  obtain ⟨only, engine⟩ := issueStage_effect (if s.engine.seated = some true then .seat else .clear) _ _ _ step'
  rw [resumed]
  refine ⟨(onlyEngine_iff _ _).2 ((onlyEngine_iff _ _).1 only), ?_⟩
  by_cases seated : s.engine.seated = some true
  · rw [if_pos seated] at engine ⊢
    rw [if_pos seated]
    exact engine
  · rw [if_neg seated] at engine ⊢
    rw [if_neg seated]
    exact engine

end State

section
variable {s : State} {sender target : Station} {args : List Byte} {i : Instr} {service : Service}

/-- The row of a plan service. -/
def PlanRow (sender target : Station) (args : List Byte) (i : Instr) (service : Service) : Prop :=
  i = .planOpen sender target args ∧ service = .planOpen ∨ i = .planStep sender target args ∧ service = .planStep
    ∨ i = .planClose sender target args ∧ service = .planClose ∨ i = .planAbort sender target args ∧ service = .planAbort
    ∨ i = .planStop sender target args ∧ service = .planStop ∨ i = .planFlush sender target args ∧ service = .planFlush
    ∨ i = .planEnable sender target args ∧ service = .planEnable ∨ i = .planResume sender target args ∧ service = .planResume

theorem exec_planServiceBare (heard : s.HearsConsole sender target) (row : PlanRow sender target args i service)
    (bare : service = .planAbort ∨ service = .planStop ∨ service = .planFlush ∨ service = .planEnable ∨ service = .planResume) :
    ∃ take, exec i s = .next (State.planServiceBare service take sender (target != 0) args s) := by
  rcases row with ⟨rfl, rfl⟩ | ⟨rfl, rfl⟩ | ⟨rfl, rfl⟩ | ⟨rfl, rfl⟩ | ⟨rfl, rfl⟩ | ⟨rfl, rfl⟩ | ⟨rfl, rfl⟩ | ⟨rfl, rfl⟩
  case inl | inr.inl | inr.inr.inl => simp at bare
  all_goals exact ⟨_, receiveCommand_console heard _ _⟩

theorem exec_planService (heard : s.HearsConsole sender target) (row : PlanRow sender target args i service) :
    ∃ take, exec i s = .next (State.planService service take sender (target != 0) args s) := by
  by_cases bare : service = .planAbort ∨ service = .planStop ∨ service = .planFlush ∨ service = .planEnable ∨ service = .planResume
  · obtain ⟨take, served⟩ := exec_planServiceBare heard row bare
    exact ⟨_, served⟩
  rcases row with ⟨rfl, rfl⟩ | ⟨rfl, rfl⟩ | ⟨rfl, rfl⟩ | ⟨rfl, rfl⟩ | ⟨rfl, rfl⟩ | ⟨rfl, rfl⟩ | ⟨rfl, rfl⟩ | ⟨rfl, rfl⟩
  case inl | inr.inl | inr.inr.inl => exact ⟨_, receiveCommand_console heard _ _⟩
  all_goals simp at bare

end

end Sys2Proof.Machine

section
open Sys2Proof Sys2Proof.Machine

/-- Settles O44: PLAN_OPEN, PLAN_STEP and PLAN_CLOSE, each by its checks in their order. -/
theorem planUploadTaken : Obligations.PlanUploadTaken := by
  unfold Obligations.PlanUploadTaken
  intro sender target args s heard owner some'
  have addressed : (target != 0) = true := by simpa using some'
  have opens : exec (.planOpen sender target args) s = .next (s.servePlanOpen sender true args) :=
    addressed ▸ receiveCommand_console heard State.servePlanOpen args
  have steps : exec (.planStep sender target args) s = .next (s.servePlanStep sender true args) :=
    addressed ▸ receiveCommand_console heard State.servePlanStep args
  have closes : exec (.planClose sender target args) s = .next (s.servePlanClose sender true args) :=
    addressed ▸ receiveCommand_console heard State.servePlanClose args
  rw [opens, steps, closes]
  refine ⟨fun length => ?_, fun b given => ⟨fun faulted => ?_, fun p sound open' => ⟨fun opener identifier empty => ?_,
      fun other => ?_⟩, fun sound none' => ⟨fun outside => ?_, fun some'' room => ?_⟩⟩, fun shut => ⟨?_, ?_⟩,
    fun p sound open' => ⟨fun other => ⟨?_, ?_⟩, fun opener => ⟨fun st step last index => ?_, fun form => ?_,
      fun st step new => ⟨fun unfit => ?_, fun index nine first most rotation reseat => ⟨fun room => ?_, fun full => ?_⟩⟩,
      fun n given least most count => ⟨fun held => ?_, fun none' => ⟨_, ?_, takeHeadStep_taken _⟩⟩, fun form => ?_⟩⟩,
    fun i q r1 r0 k1 k0 => ⟨rfl, rfl, rfl, rfl⟩⟩
  · rw [State.servePlanOpen_of_length owner length]
  · rw [given, State.servePlanOpen_of_byte owner, if_pos faulted]
  · rw [given, State.servePlanOpen_of_byte owner, if_neg sound, open']
    exact congrArg Host.Outcome.next (if_pos ⟨opener, identifier, empty⟩)
  · rw [given, State.servePlanOpen_of_byte owner, if_neg sound, open']
    refine congrArg Host.Outcome.next (if_neg fun ⟨opener, identifier, empty⟩ => ?_)
    rcases other with a | b | c
    · exact a opener
    · exact b identifier
    · exact c empty
  · rw [given, State.servePlanOpen_of_byte owner, if_neg sound, none']
    exact congrArg Host.Outcome.next (if_pos outside)
  · rw [given, State.servePlanOpen_of_byte owner, if_neg sound, none']
    exact congrArg Host.Outcome.next (if_neg (not_or.2 ⟨some'', Nat.not_le.2 room⟩))
  · rw [State.servePlanStep_of_shut owner shut]
  · rw [State.servePlanClose_of_shut owner shut]
  · rw [State.servePlanStep_of_open owner sound open', if_pos other]
  · rw [State.servePlanClose_of_busy owner sound open' other]
  · rw [State.servePlanStep_of_open owner sound open', if_neg (not_not.2 opener), step,
      if_pos ((State.repeatsLastStep_some p st).2 ⟨last, index⟩)]
  · rw [State.servePlanStep_of_open owner sound open', if_neg (not_not.2 opener), State.planStepOf_of_form form]
    rfl
  · have unfit' : s.stepFits p st = false := by
      rw [← Bool.not_eq_true, State.stepFits_iff]
      rintro ⟨index, nine, first, most, rotation, reseat⟩
      rcases unfit with other | long | zero | outside | turn | ⟨k, reseat', range⟩
      · exact other index
      · omega
      · omega
      · omega
      · omega
      · have := reseat k reseat'
        omega
    rw [State.servePlanStep_of_open owner sound open', if_neg (not_not.2 opener), step, State.repeatsLastStep_of_new new]
    simp only [Bool.false_eq_true, if_false, Option.filter_some, unfit']
    rfl
  · have fits := (State.stepFits_iff p st).2 ⟨index, nine, first, most, rotation, reseat⟩
    rw [State.servePlanStep_of_open owner sound open', if_neg (not_not.2 opener), step, State.repeatsLastStep_of_new new]
    simp only [Bool.false_eq_true, if_false, Option.filter_some, fits, if_true]
    exact congrArg Host.Outcome.next (if_neg (Nat.not_le.2 room))
  · have fits := (State.stepFits_iff p st).2 ⟨index, nine, first, most, rotation, reseat⟩
    rw [State.servePlanStep_of_open owner sound open', if_neg (not_not.2 opener), step, State.repeatsLastStep_of_new new]
    simp only [Bool.false_eq_true, if_false, Option.filter_some, fits, if_true]
    exact congrArg Host.Outcome.next (if_pos full)
  · rw [given, State.servePlanClose_of_count owner sound open' opener least most count, State.closePlan_of_held held]
  · rw [given, State.servePlanClose_of_count owner sound open' opener least most count, State.closePlan_of_made none']
  · rw [State.servePlanClose_of_form owner sound open' opener form]
    rfl

/-- Settles O46: PLAN_STOP, PLAN_ENABLE and PLAN_RESUME by the engine's state, and the gate all plan services share. -/
theorem planEngineServices : Obligations.PlanEngineServices := by
  unfold Obligations.PlanEngineServices
  refine ⟨fun sender target s heard owner some' => ?_, fun sender target args i service s heard which =>
    ⟨fun broadcast => ?_, fun some' other => ?_, fun some' owner arguments bare => ?_⟩⟩
  · have stops : exec (.planStop sender target []) s = .next (s.stopEngine.answer sender true .planStop .done) :=
      congrArg Host.Outcome.next (receiveCommand_planServiceBare heard owner some' _ _)
    rw [stops, State.exec_planEnable_of_owner heard owner some', State.exec_planResume_of_owner heard owner some']
    refine ⟨fun disabled => ?_, fun idle => ?_, fun dropped => ?_, fun stage => ⟨?_, fun stopping => ?_, fun going => ?_⟩,
      fun disabled => ⟨fun out => ?_, _, ?_, takeHeadStep_taken _⟩, fun idle => ?_, fun other => ?_, fun other => ?_,
      fun stalled out => ?_, fun p st stalled build member step => ?_⟩
    · rw [State.stopEngine_of_disabled disabled]
    · rw [State.stopEngine_of_idle idle]
    · rw [State.stopEngine_of_dropped dropped, State.dropStep_eq]
    · rw [State.stopEngine_of_stage stage]
    · rw [State.takePlanEnable_of_stage stage, if_pos stopping]
    · rw [State.takePlanEnable_of_stage stage, if_neg (by simp [going])]
    · rw [State.takePlanEnable_of_disabled disabled,
        State.takeHeadStep_of_noBuild (s := s.setEngine { s.engine with state := .idle }) out]
    · rw [State.takePlanEnable_of_disabled disabled]
    · rw [State.takePlanEnable_of_idle idle]
    · rw [State.takePlanEnable_of_other other]
    · rw [if_neg other]
    · rw [if_pos stalled, State.resumeEngine, if_neg (not_and_or.2 out)]
    · rw [if_pos stalled]
      exact ⟨_, rfl, State.resumeEngine_effect build member step⟩
  · obtain ⟨take, served⟩ := exec_planService heard which
    rw [served, broadcast]
    rfl
  · obtain ⟨take, served⟩ := exec_planService heard which
    rw [served, show (target != 0) = true by simpa using some', State.planService_of_other _ other]
  · obtain ⟨take, served⟩ := exec_planServiceBare heard which bare
    rw [served, show (target != 0) = true by simpa using some', State.planServiceBare_of_args _ owner arguments]

end
end

section
/-! PROOFS. The erector owner's SEATED and ZONE_REFUSED, the fault indications, and the parts of a configuration (O25, O26,
O29, O30). -/

-- In one thread: each proof that waits for those before it would keep a thread of its own.
set_option Elab.async false

namespace Sys2Proof.Machine

namespace State

variable {s : State}

/-! ### ZONE_REFUSED (R131, R113) -/

variable {sender : Nat} {payload : List Byte} {r p a : Nat} {why : ZoneRefusal}

theorem takeZoneRefused_of_form (form : zoneRefusedOf payload = none) : s.takeZoneRefused sender payload = s := by
  simp only [takeZoneRefused, form]

theorem takeZoneRefused_of_ignored (form : zoneRefusedOf payload = some (r, p, a, why))
    (ignored : ¬s.TakesAnswer sender (r, p, a) ∨ (s.engine.state ≠ .clearing ∧ s.engine.state ≠ .reseating)) :
    s.takeZoneRefused sender payload = s := by
  rw [← answerFits_iff] at ignored
  simp only [takeZoneRefused, form]
  split
  case isTrue fits =>
    obtain ⟨clearing, reseating⟩ := ignored.resolve_left (not_not.2 fits)
    cases state : s.engine.state
    case clearing => exact absurd state clearing
    case reseating => exact absurd state reseating
    all_goals rfl
  case isFalse => rfl

theorem takeZoneRefused_of_stage {kind : ZoneKind} (form : zoneRefusedOf payload = some (r, p, a, why))
    (takes : s.TakesAnswer sender (r, p, a))
    (stage : s.engine.state = .clearing ∧ kind = .clear ∨ s.engine.state = .reseating ∧ kind = .seat) :
    s.takeZoneRefused sender payload = s.stallEngine sender why p kind := by
  simp only [takeZoneRefused, form, (answerFits_iff s sender (r, p, a)).2 takes, if_true]
  rcases stage with ⟨state, rfl⟩ | ⟨state, rfl⟩
  · rw [state]
  · rw [state]

theorem popHeadStep_plans_congr {t : State} (same : t.plans = s.plans) : t.popHeadStep.plans = s.popHeadStep.plans := by
  unfold popHeadStep
  rw [same]
  cases s.plans.closed with
  | nil => exact same
  | cons p rest =>
    dsimp only
    split <;> rfl

/-- The engine STALLED with its last refusal, before the stopping flag is looked at. -/
def stalled (s : State) (sender : Nat) (why : ZoneRefusal) (p : Nat) (kind : ZoneKind) : State :=
  (s.setEngine { s.engine with
    state := .stalled, limit := none, lastRefusal := some ⟨sender, why, p, kind, s.engine.attempt⟩
    zoneRefusals := s.engine.zoneRefusals + 1 }).notify .zoneRefused

theorem stallEngine_of_going (kind : ZoneKind) (going : s.engine.stopping = false) :
    s.stallEngine sender why p kind = s.stalled sender why p kind := if_neg (by
  show ¬s.engine.stopping = true
  rw [going]; decide)

theorem stallEngine_of_stopping (kind : ZoneKind) (stopping : s.engine.stopping = true) :
    s.stallEngine sender why p kind = (s.stalled sender why p kind).dropStep := if_pos stopping

theorem stallEngine_closing (kind : ZoneKind) : (s.stallEngine sender why p kind).closing = s.closing := by
  cases stopping : s.engine.stopping
  · rw [stallEngine_of_going kind stopping]; rfl
  · rw [stallEngine_of_stopping kind stopping, dropStep_eq]; rfl

theorem takeZoneRefused_closing (s : State) : (s.takeZoneRefused sender payload).closing = s.closing := by
  unfold takeZoneRefused
  split
  · split
    · split
      · exact stallEngine_closing .clear
      · exact stallEngine_closing .seat
      all_goals rfl
    · rfl
  · rfl

/-! ### SEATED (R125) -/

theorem takeSeated_of_ignored (ignored : s.ownsErector = false ∨ s.engine.erector ≠ .placing) : s.takeSeated = s := by
  refine if_neg ?_
  rcases ignored with other | idle
  · simp [other]
  · simp [idle]

theorem takeSeated_of_placing {p : Plan} {st : PlanStep} (owner : s.ownsErector = true) (placing : s.engine.erector = .placing)
    (state : s.engine.state = .placing) (step : s.currentStep = some (p, st)) : s.takeSeated = (s.setEngine { s.engine with
      state := .placing, erector := .ready, placed := insertNumber st.position s.engine.placed, seated := some true, limit := none }).issueStage .seat := by
  have state' : s.erectorReady.engine.state = .placing := state
  have step' : s.erectorReady.currentStep = some (p, st) := step
  unfold takeSeated
  rw [if_pos (by simp [owner, placing])]
  simp only [state', step']
  rfl

/-! ### The stage issued with a place in the queue (R122) -/

theorem issueStage_queues {kind : ZoneKind} {p : Plan} {st : PlanStep} (step : s.currentStep = some (p, st)) (place : s.HasPlace) :
    ∃ q ∈ (s.issueStage kind).link.queue, q.frame.body = s.stageRequest kind st s.nextAttempt := by
  unfold issueStage
  rw [step]
  have plain : isHold (s.stageRequest kind st s.nextAttempt) = false := by cases kind <;> rfl
  obtain ⟨q, held, body⟩ := queueFrame_holds (s.setEngine { s.engine with
    attempt := s.nextAttempt, zoneMembers := s.zoneMembersOf st.position, answered := []
    state := match kind with
      | .clear => .clearing
      | .seat => .reseating }) (s.stageRequest kind st s.nextAttempt) place plain
  refine ⟨q, ?_, body⟩
  cases kind <;> exact held

/-! ### The fault indications (R120, R166) -/

theorem takeErectorIndication_of_none {present : Bool} (none' : s.ownsErector = false ∨ present = false
    ∨ s.channels.erectorFault = true) :
    s.takeErectorIndication present = s.setChannels { s.channels with erectorFault := present } := by
  have owner : (s.setChannels { s.channels with erectorFault := present }).ownsErector = s.ownsErector := rfl
  refine if_neg ?_
  rw [owner]
  rcases none' with other | absent | before
  · simp [other]
  · simp [absent]
  · simp [before]

theorem takeErectorIndication_of_new (owner : s.ownsErector = true) (before : s.channels.erectorFault = false) :
    s.takeErectorIndication true = (s.setChannels { s.channels with erectorFault := true }).takeFault .erector := by
  refine if_pos ?_
  rw [show (s.setChannels { s.channels with erectorFault := true }).ownsErector = true from owner, before]
  rfl

theorem takeScrewReport_of_none {present : Bool} (none' : s.ownsMuck = false ∨ present = false ∨ s.channels.screwFault = true) :
    s.takeScrewReport present = s.setChannels { s.channels with screwFault := present } := by
  have owner : (s.setChannels { s.channels with screwFault := present }).ownsMuck = s.ownsMuck := rfl
  refine if_neg ?_
  rw [owner]
  rcases none' with other | absent | before
  · simp [other]
  · simp [absent]
  · simp [before]

theorem takeScrewReport_of_new (owner : s.ownsMuck = true) (before : s.channels.screwFault = false) :
    s.takeScrewReport true = (s.setChannels { s.channels with screwFault := true }).takeFault .screw := by
  refine if_pos ?_
  rw [show (s.setChannels { s.channels with screwFault := true }).ownsMuck = true from owner, before]
  rfl

/-! ### The parts of a configuration (R18, R19) -/

variable {station : Station} {k n b : Byte} {content : List Byte}

theorem takeConfigure_of_configured (other : s.node.state ≠ .unconfigured) : s.takeConfigure station payload = s := if_neg other

theorem takeConfigure_of_short (state : s.node.state = .unconfigured) (short : payload.length < 3) :
    s.takeConfigure station payload = s.partOutOfTurn := by
  unfold takeConfigure
  rw [if_pos state]
  split
  case h_1 =>
    simp only [List.length_cons] at short
    omega
  case h_2 => rfl

theorem takeConfigure_of_part (state : s.node.state = .unconfigured) : s.takeConfigure station (k :: n :: b :: content)
    = s.takePart station k.toNat n.toNat (b :: content) := if_pos state

theorem beginsCollection_iff : beginsCollection k.toNat n.toNat = true ↔ k = 1 ∧ 1 ≤ n.toNat ∧ n.toNat ≤ 32 := by
  simp only [beginsCollection, Bool.and_eq_true, beq_iff_eq, decide_eq_true_eq]
  exact and_congr_left fun _ => ⟨fun one => BitVec.eq_of_toNat_eq one, fun one => congrArg BitVec.toNat one⟩

theorem beginsCollection_of_not (not' : k ≠ 1 ∨ n = 0 ∨ 32 < n.toNat) : beginsCollection k.toNat n.toNat = false := by
  rw [← Bool.not_eq_true, beginsCollection_iff]
  rintro ⟨one, least, most⟩
  rcases not' with other | zero | long
  · exact other one
  · simp [zero] at least
  · omega

theorem holdPart_of_more {count : Nat} {parts : List (List Byte)} (more : parts.length ≠ count) :
    s.holdPart station count parts = s.setNode { s.node with collection := some ⟨station, count, parts⟩ } := if_neg more

theorem takePart_of_empty {part : List Byte} (empty : s.node.collection = none) : s.takePart station k.toNat n.toNat part
    = if beginsCollection k.toNat n.toNat then s.holdPart station n.toNat [part] else s.partOutOfTurn := by
  simp only [takePart, empty]

variable {c : Collection} {part : List Byte}

theorem takePart_of_next (held : s.node.collection = some c) (sender' : c.sender = station) (count : c.count = n.toNat)
    (next : k.toNat = c.parts.length + 1) :
    s.takePart station k.toNat n.toNat part = s.holdPart station n.toNat (c.parts ++ [part]) := by
  simp only [takePart, held]
  exact if_pos ⟨next, count.symm, sender'.symm⟩

theorem takePart_of_repeat (held : s.node.collection = some c) (sender' : c.sender = station) (count : c.count = n.toNat)
    (last : k.toNat = c.parts.length) (same : c.parts.getLast? = some part) : s.takePart station k.toNat n.toNat part = s := by
  simp only [takePart, held]
  exact (if_neg fun next => by omega).trans (if_pos ⟨sender'.symm, last, count.symm, same⟩)

theorem takePart_of_turn (held : s.node.collection = some c) (turn : c.sender ≠ station ∨ c.count ≠ n.toNat
      ∨ (k.toNat ≠ c.parts.length + 1 ∧ (k.toNat ≠ c.parts.length ∨ c.parts.getLast? ≠ some part))) :
    s.takePart station k.toNat n.toNat part
      = if beginsCollection k.toNat n.toNat then s.partOutOfTurn.holdPart station n.toNat [part] else s.partOutOfTurn := by
  have notNext : ¬(k.toNat = c.parts.length + 1 ∧ n.toNat = c.count ∧ station = c.sender) := by
    rintro ⟨next, count, sender'⟩
    rcases turn with a | b | ⟨d, -⟩
    · exact a sender'.symm
    · exact b count.symm
    · exact d next
  have notRepeat : ¬(station = c.sender ∧ k.toNat = c.parts.length ∧ n.toNat = c.count ∧ c.parts.getLast? = some part) := by
    rintro ⟨sender', last, count, same⟩
    rcases turn with a | b | ⟨-, d⟩
    · exact a sender'.symm
    · exact b count.symm
    · exact d.elim (· last) (· same)
  simp only [takePart, held, if_neg notNext, if_neg notRepeat]

end State

/-- An own or a peer's ZONE_REFUSED that reaches the node's blocks. -/
theorem exec_zoneRefused {payload : List Byte} {i : Instr} {sender : Nat} {s u : State}
    (reaches : s.Reaches (fun station target => .zoneRefused station target payload) (.zoneRefused payload) i sender u) :
    exec i s = .next (u.takeZoneRefused sender payload) :=
  exec_reaches (fun sender s => s.takeZoneRefused sender payload) reaches
    (fun _ _ heard => congrArg _ (receive_of_hearsPeer heard)) (fun _ configured member => if_pos (by simp [configured, member]))
    rfl fun _ => State.takeZoneRefused_closing _

end Sys2Proof.Machine

section
open Sys2Proof Sys2Proof.Machine

/-- Settles O25: a refusal stalls the engine, or ends the step where it is stopping. -/
theorem zoneRefusedTaken : Obligations.ZoneRefusedTaken := by
  unfold Obligations.ZoneRefusedTaken
  intro payload i sender s u reaches
  rw [exec_zoneRefused reaches]
  refine ⟨fun form => by rw [State.takeZoneRefused_of_form form], fun r p a why form =>
    ⟨fun ignored => by rw [State.takeZoneRefused_of_ignored form ignored], fun kind takes stage => ⟨fun going => ?_, fun stopping => ?_⟩⟩⟩
  · rw [State.takeZoneRefused_of_stage form takes stage, State.stallEngine_of_going kind going]
    rfl
  · rw [State.takeZoneRefused_of_stage form takes stage, State.stallEngine_of_stopping kind stopping, State.dropStep_eq]
    exact ⟨_, rfl, rfl, rfl, rfl, rfl, rfl, notify_noticed (u.setEngine _) .zoneRefused, rfl, rfl,
      congrArg (fun x => if u.engine.seated = some true then x else u.plans) (State.popHeadStep_plans_congr rfl)⟩

/-- Settles O26: a segment seated issues the RESEATING stage. -/
theorem seatedTaken : Obligations.SeatedTaken := by
  unfold Obligations.SeatedTaken
  refine fun s => ⟨fun ignored => congrArg _ (State.takeSeated_of_ignored ignored), fun p st owner placing state step =>
    ⟨_, congrArg Host.Outcome.next (State.takeSeated_of_placing owner placing state step), ?_⟩⟩
  obtain ⟨seated, hs⟩ : ∃ v, v = s.setEngine { s.engine with
    state := .placing, erector := .ready, placed := insertNumber st.position s.engine.placed, seated := some true, limit := none } := ⟨_, rfl⟩
  have held : s.headStep = some (p, st) := by
    unfold State.currentStep at step
    split at step
    · exact step
    · exact nomatch step
  have step' : seated.currentStep = some (p, st) := by
    rw [hs]
    exact held
  obtain ⟨only, engine⟩ := issueStage_effect .seat seated p st step'
  rw [← hs]
  refine ⟨?_, ?_, fun place => ?_⟩
  · rw [onlyEngine_iff] at only ⊢
    rw [hs] at only
    rw [hs]
    exact only
  · rw [engine, hs]
    rfl
  · obtain ⟨q, queued, body⟩ := State.issueStage_queues (kind := .seat) step' (by rw [hs]; exact place)
    refine ⟨q, queued, body.trans ?_⟩
    rw [engine, hs]
    rfl

/-- Settles O29: an indication newly present at the owner is a fault, any other report is recorded. -/
theorem faultIndicationsTaken : Obligations.FaultIndicationsTaken := by
  unfold Obligations.FaultIndicationsTaken
  intro present i cause owner before c s which
  obtain ⟨recorded, faulted⟩ : (owner = false ∨ present = false ∨ before = true → exec i s = .next (s.setChannels c))
      ∧ (owner = true → present = true → before = false → exec i s = .next ((s.setChannels c).takeFault cause)) := by
    rcases which with ⟨rfl, rfl, rfl, rfl, rfl⟩ | ⟨rfl, rfl, rfl, rfl, rfl⟩
    · exact ⟨fun none' => congrArg _ (State.takeErectorIndication_of_none none'),
        fun owner there before => congrArg _ (there ▸ State.takeErectorIndication_of_new owner before)⟩
    · exact ⟨fun none' => congrArg _ (State.takeScrewReport_of_none none'),
        fun owner there before => congrArg _ (there ▸ State.takeScrewReport_of_new owner before)⟩
  refine ⟨recorded, fun own there new => ⟨fun already => ?_, fun sound => ⟨_, faulted own there new, ?_⟩⟩⟩
  · rw [faulted own there new, State.takeFault_of_faulted cause (s := s.setChannels c) already]
    rfl
  · obtain ⟨node, noticed, hard, round, drives, dose, cylinders, erector, screw⟩ := takeFault_effect cause (s.setChannels c) sound
    exact ⟨node, by simp, noticed, hard, round, drives, dose, cylinders, erector, screw, by simp, by simp, by simp⟩

/-- Settles O30: a part is held, is a repeat, or is out of turn. -/
theorem configurePartsCollected : Obligations.ConfigurePartsCollected := by
  unfold Obligations.ConfigurePartsCollected
  intro sender target payload s heard
  have taken : exec (.configure sender target payload) s = .next (s.takeConfigure sender payload) :=
    congrArg _ (receive_of_hearsConsole heard)
  rw [taken]
  refine ⟨fun other => by rw [State.takeConfigure_of_configured other], fun state short => ?_, fun k n b content state given =>
    ⟨fun empty one least most => ?_, fun empty not' => ?_, fun c held sender' count => ⟨fun next more => ?_, fun last same => ?_⟩,
      fun c held turn => ⟨fun not' => ?_, fun one least most => ?_⟩⟩⟩
  · rw [State.takeConfigure_of_short state short]
    rfl
  all_goals rw [given, State.takeConfigure_of_part state]
  · rw [State.takePart_of_empty empty, if_pos (State.beginsCollection_iff.2 ⟨one, by omega, most⟩),
      State.holdPart_of_more (by simp only [List.length_singleton]; omega)]
  · rw [State.takePart_of_empty empty, State.beginsCollection_of_not not']
    rfl
  · rw [State.takePart_of_next held sender' count next,
      State.holdPart_of_more (by simp only [List.length_append, List.length_singleton]; omega)]
  · rw [State.takePart_of_repeat held sender' count last same]
  · rw [State.takePart_of_turn held turn, State.beginsCollection_of_not not']
    rfl
  · rw [State.takePart_of_turn held turn, if_pos (State.beginsCollection_iff.2 ⟨one, by omega, most⟩),
      State.holdPart_of_more (by simp only [List.length_singleton]; omega)]
    rfl

end
end

section
/-! PROOFS. A placement that fails, and the limits of the engine's stages: the retry, or the hold with the engine SUSPENDED
(O27). -/

-- In one thread: each proof that waits for those before it would keep a thread of its own.
set_option Elab.async false

namespace Sys2Proof.Machine

namespace State

variable {s : State}

/-! ### Entry to HOLD at the engine (R133, R113) -/

/-- A stage or a placement is running. -/
abbrev AtWork (s : State) : Prop := s.engine.state = .clearing ∨ s.engine.state = .placing ∨ s.engine.state = .reseating

/-- The engine SUSPENDED, before the stopping flag is looked at. -/
def suspended (s : State) : State :=
  let s' := if s.engine.state = .placing then s.haltErector else s
  s'.setEngine { s'.engine with
    state := .suspended, zoneMembers := [], answered := [], limit := none
    retry := if s'.engine.state = .placing then 0 else s'.engine.retry }

theorem engineEntersHold_of_work (work : s.AtWork) :
    s.engineEntersHold = if s.engine.stopping then s.suspended.dropStep else s.suspended := by
  have stopping : s.suspended.engine.stopping = s.engine.stopping := by
    unfold suspended
    dsimp only
    split <;> rfl
  have active : s.engineEntersHold = if s.suspended.engine.stopping then s.suspended.dropStep else s.suspended := by
    unfold engineEntersHold
    split
    case h_1 | h_2 | h_3 => rfl
    all_goals rcases work with state | state | state <;> simp_all
  rw [active, stopping]

theorem suspended_plans (s : State) : s.suspended.plans = s.plans := by
  unfold suspended
  dsimp only
  split <;> rfl

theorem suspended_engine (s : State) : s.suspended.engine = { s.engine with
    state := .suspended, zoneMembers := [], answered := [], limit := none
    retry := if s.engine.state = .placing then 0 else s.engine.retry
    erector := if s.engine.state = .placing then .halted else s.engine.erector
    erectorCommand := if s.engine.state = .placing then .halt else s.engine.erectorCommand } := by
  unfold suspended
  dsimp only
  by_cases placing : s.engine.state = .placing
  · simp [placing, haltErector]
  · simp [placing]

/-- What entry to HOLD leaves of an engine at work. -/
theorem engineEntersHold_effect (work : s.AtWork) :
    s.engineEntersHold.engine.state = (if s.engine.stopping then .disabled else .suspended)
    ∧ s.engineEntersHold.engine.limit = none ∧ s.engineEntersHold.engine.zoneMembers = []
    ∧ s.engineEntersHold.engine.answered = []
    ∧ (s.engine.state = .placing → s.engineEntersHold.engine.erector = .halted
        ∧ s.engineEntersHold.engine.erectorCommand = .halt ∧ s.engineEntersHold.engine.retry = 0)
    ∧ (s.engine.stopping = false → s.engineEntersHold.engine.seated = s.engine.seated ∧ s.engineEntersHold.plans = s.plans) := by
  rw [engineEntersHold_of_work work]
  cases stopping : s.engine.stopping
  case false =>
    simp only [Bool.false_eq_true, if_false, suspended_engine, suspended_plans, and_self, true_and, implies_true, and_true]
    exact fun placing => ⟨if_pos placing, if_pos placing, if_pos placing⟩
  case true =>
    simp only [if_true, dropStep_eq, suspended_engine]
    exact ⟨rfl, rfl, rfl, rfl, fun placing => ⟨if_pos placing, if_pos placing, if_pos placing⟩, (nomatch ·)⟩

/-- A hold from BUILD suspends an engine at work. -/
theorem imposeHold_atWork (cause : HoldCause) (build : s.machine.phase = .build) (work : s.AtWork) :
    (s.imposeHold cause).engine.state = (if s.engine.stopping then .disabled else .suspended)
    ∧ (s.imposeHold cause).engine.limit = none ∧ (s.imposeHold cause).engine.zoneMembers = []
    ∧ (s.imposeHold cause).engine.answered = []
    ∧ (s.engine.state = .placing → (s.imposeHold cause).engine.erector = .halted
        ∧ (s.imposeHold cause).engine.erectorCommand = .halt ∧ (s.imposeHold cause).engine.retry = 0)
    ∧ (s.engine.stopping = false → (s.imposeHold cause).engine.seated = s.engine.seated ∧ (s.imposeHold cause).plans = s.plans) := by
  obtain ⟨v, engine, plans, same⟩ : ∃ v : State, (s.imposeHold cause).engine = v.engineEntersHold.engine
      ∧ (s.imposeHold cause).plans = v.engineEntersHold.plans
      ∧ v.engine.state = s.engine.state ∧ v.engine.stopping = s.engine.stopping ∧ v.engine.seated = s.engine.seated
      ∧ v.plans = s.plans := by
    unfold imposeHold
    dsimp only
    rw [failRound_phase, build]
    dsimp only
    unfold handEntryToHold
    dsimp only
    simp only [commandScrew_frame]
    refine ⟨_, rfl, rfl, ?_⟩
    split <;> simp
  obtain ⟨state, stopping, seated, plans'⟩ := same
  have effect := engineEntersHold_effect (s := v) (by rw [AtWork, state]; exact work)
  rw [engine, plans, ← state, ← stopping, ← seated, ← plans']
  exact effect

/-! ### A placement that fails (R126) -/

theorem failPlacement_of_retry {p : Plan} {st : PlanStep} (few : s.engine.retry < 2) (member : s.node.state = .member)
    (step : s.currentStep = some (p, st)) : s.failPlacement = (s.setEngine { s.engine with
      retry := s.engine.retry + 1, seatRetries := s.engine.seatRetries + 1, limit := some 120000
      erector := .placing, erectorCommand := .place st.position st.kind st.rotation }).count
        fun c => { c with seatRetries := c.seatRetries + 1 } := by
  rw [failPlacement, if_pos few]
  have step' : ((s.setEngine { s.engine with
      retry := s.engine.retry + 1, seatRetries := s.engine.seatRetries + 1, limit := some Config.placementLimit }).count
        fun c => { c with seatRetries := c.seatRetries + 1 }).currentStep = some (p, st) := step
  simp only [commandPlace, step']
  exact if_pos member

theorem failPlacement_of_third (third : 2 ≤ s.engine.retry) : s.failPlacement = s.imposeHold .seatFail :=
  if_neg (Nat.not_lt.2 third)

theorem takeSeatFail_of_ignored (ignored : s.ownsErector = false ∨ s.engine.erector ≠ .placing) : s.takeSeatFail = s := by
  refine if_neg ?_
  rcases ignored with other | idle
  · simp [other]
  · simp [idle]

theorem takeSeatFail_of_placing (owner : s.ownsErector = true) (placing : s.engine.erector = .placing)
    (state : s.engine.state = .placing) : s.takeSeatFail = s.erectorReady.failPlacement :=
  (if_pos (by simp [owner, placing])).trans (if_pos state)

theorem placementLimitExpiry_of_none (none' : s.engine.state ≠ .placing ∨ s.engine.limit = none) :
    exec .placementLimitExpiry s = .next s := by
  simp only [exec, execPlacementLimitExpiry]
  split
  case h_1 t state limit =>
    rcases none' with other | stopped
    · exact absurd state other
    · exact absurd (limit.symm.trans stopped) (by simp)
  case h_2 => rfl

theorem placementLimitExpiry_of_run (state : s.engine.state = .placing) (run : s.engine.limit = some 0) :
    exec .placementLimitExpiry s = .next s.failPlacement := by
  simp only [exec, execPlacementLimitExpiry, state, run, passTime_zero]

theorem stageLimitExpiry_of_none (none' : (s.engine.state ≠ .clearing ∧ s.engine.state ≠ .reseating) ∨ s.engine.limit = none) :
    exec .stageLimitExpiry s = .next s := by
  simp only [exec, execStageLimitExpiry]
  split
  case h_1 t state limit =>
    rcases none' with ⟨other, -⟩ | stopped
    · exact absurd state other
    · exact absurd (limit.symm.trans stopped) (by simp)
  case h_2 t state limit =>
    rcases none' with ⟨-, other⟩ | stopped
    · exact absurd state other
    · exact absurd (limit.symm.trans stopped) (by simp)
  case h_3 => rfl

theorem stageLimitExpiry_of_run (stage : s.engine.state = .clearing ∨ s.engine.state = .reseating) (run : s.engine.limit = some 0) :
    exec .stageLimitExpiry s = .next (s.imposeHold .zoneTimeout) := by
  simp only [exec, execStageLimitExpiry]
  rcases stage with state | state
  all_goals simp only [state, run, passTime_zero]

/-- The placement failed: the state the failure is judged in, the channel READY after a report. -/
theorem placement_fails {i : Instr} (which : (i = .seatFail ∧ s.ownsErector = true ∧ s.engine.erector = .placing)
    ∨ (i = .placementLimitExpiry ∧ s.engine.limit = some 0)) (state : s.engine.state = .placing) :
    ∃ erector, exec i s = .next (s.setEngine { s.engine with erector := erector }).failPlacement := by
  rcases which with ⟨rfl, owner, placing⟩ | ⟨rfl, run⟩
  · exact ⟨.ready, congrArg _ (takeSeatFail_of_placing owner placing state)⟩
  · exact ⟨s.engine.erector, placementLimitExpiry_of_run state run⟩

end State

end Sys2Proof.Machine

section
open Sys2Proof Sys2Proof.Machine

/-- Settles O27: a failed placement is retried twice and then holds the machine; a stage's limit holds it at once. -/
theorem placementFailureAndLimits : Obligations.PlacementFailureAndLimits := by
  unfold Obligations.PlacementFailureAndLimits
  refine ⟨fun i s => ⟨fun ignored => congrArg _ (State.takeSeatFail_of_ignored ignored), State.placementLimitExpiry_of_none,
    fun which state => ?_⟩, fun s => ⟨State.stageLimitExpiry_of_none, fun stage run build =>
      ⟨_, State.stageLimitExpiry_of_run stage run, imposeHold_phase_hard .zoneTimeout s false rfl, ?_⟩⟩⟩
  · obtain ⟨erector, failed⟩ := State.placement_fails which state
    rw [failed]
    refine ⟨fun p st few member step => ?_, fun third build => ⟨_, congrArg _ (State.failPlacement_of_third third),
      imposeHold_phase_hard .seatFail _ _ rfl, ?_⟩⟩
    · rw [State.failPlacement_of_retry (s := s.setEngine { s.engine with erector := erector }) few member step]
      rfl
    · have opened := State.imposeHold_opens (s := s.setEngine { s.engine with erector := erector }) .seatFail
        (by simp [State.inHold, build]) false
      obtain ⟨after, limit, -, -, halted, kept⟩ := State.imposeHold_atWork (s := s.setEngine { s.engine with erector := erector })
        .seatFail build (Or.inr (Or.inl state))
      obtain ⟨halt, command, retry⟩ := halted state
      exact ⟨opened.2, halt, command, limit, retry, after, kept, imposeHold_keepsRecords .seatFail _ _⟩
  · have opened := State.imposeHold_opens (s := s) .zoneTimeout (by simp [State.inHold, build]) false
    obtain ⟨after, limit, members, answered, -, kept⟩ := State.imposeHold_atWork (s := s) .zoneTimeout build
      (stage.imp id Or.inr)
    exact ⟨opened.2, limit, members, answered, by simp, after, kept, imposeHold_keepsRecords .zoneTimeout _ _⟩

end
end

section
/-! PROOFS. The last part of a collection: the configuration rejected, or stored with the units built for it (O31). -/

-- In one thread: each proof that waits for those before it would keep a thread of its own.
set_option Elab.async false

namespace Sys2Proof.Machine

namespace State

variable {s : State}

/-! ### The units keep their size -/

theorem imposeHold_cylinders_length (cause : HoldCause) (s : State) :
    (s.imposeHold cause).thrust.cylinders.length = s.thrust.cylinders.length := by
  have entry (fromBore : Bool) : (s.thrustEntersHold fromBore).thrust.cylinders.length = s.thrust.cylinders.length := by
    cases fromBore <;> simp [thrustEntersHold, mapCylinders]
  rw [imposeHold_thrust]
  cases s.machine.phase with
  | hold now => rfl
  | bore => exact entry true
  | build => exact entry false

theorem exists_hold (out : ¬s.inHold = false) : ∃ now, s.machine.phase = .hold now := by
  cases phase : s.machine.phase with
  | hold now => exact ⟨now, rfl⟩
  | bore | build => simp [inHold, phase] at out

theorem imposeHold_drives_length (cause : HoldCause) (s : State) :
    (s.imposeHold cause).drive.drives.length = s.drive.drives.length := by
  by_cases out : s.inHold = false
  · rw [imposeHold_drives cause out, List.length_map]
  · obtain ⟨now, phase⟩ := exists_hold out
    unfold imposeHold
    dsimp only
    rw [failRound_phase, phase]
    dsimp only
    (repeat' split) <;> simp

/-! ### The muck unit as it is built (R164) -/

/-- The other units and the notices stay as the muck unit is built. -/
def KeepsRoster (s t : State) : Prop :=
  t.node = s.node ∧ t.thrust.cylinders.length = s.thrust.cylinders.length ∧ t.drive.drives.length = s.drive.drives.length
    ∧ NoticesKept s t

theorem KeepsRoster.refl (s : State) : s.KeepsRoster s := ⟨rfl, rfl, rfl, NoticesKept.refl⟩

theorem KeepsRoster.trans {a b c : State} (h : a.KeepsRoster b) (g : b.KeepsRoster c) : a.KeepsRoster c := by
  obtain ⟨node, cylinders, drives, notices⟩ := h
  obtain ⟨node', cylinders', drives', notices'⟩ := g
  exact ⟨node'.trans node, cylinders'.trans cylinders, drives'.trans drives, notices.trans notices'⟩

theorem KeepsRoster.imposeHold (cause : HoldCause) (s : State) : s.KeepsRoster (s.imposeHold cause) :=
  ⟨by simp, imposeHold_cylinders_length cause s, imposeHold_drives_length cause s, NoticesKept_impose _ _ _⟩

theorem KeepsRoster.setMuck (m : MuckUnit) (s : State) : s.KeepsRoster (s.setMuck m) := ⟨rfl, rfl, rfl, NoticesKept.of rfl⟩

theorem KeepsRoster.testFaceHigh (kPa : Half) (s : State) : s.KeepsRoster (s.testFaceHigh kPa) := by
  unfold State.testFaceHigh
  split
  · exact ⟨by simp, by simp, by simp, (noticesKept_restrain .face _).pre rfl⟩
  split
  · exact ⟨by simp, by simp, by simp, (noticesKept_release .face _).pre rfl⟩
  · exact refl s

theorem KeepsRoster.testFaceLow (kPa : Half) (s : State) : s.KeepsRoster (s.testFaceLow kPa) := by
  unfold State.testFaceLow
  split
  · exact (setMuck _ s).trans (imposeHold _ _)
  split
  · exact setMuck _ s
  · exact refl s

theorem KeepsRoster.testFace (s : State) : s.KeepsRoster s.testFace := by
  unfold State.testFace
  split
  · exact (testFaceHigh _ s).trans (testFaceLow _ _)
  · exact refl s

theorem KeepsRoster.testMuck (s : State) : s.KeepsRoster s.testMuck :=
  ⟨by simp, by simp, by simp, noticesKept_testMuck s⟩

theorem KeepsRoster.buildMuck (sound : s.channels.screwFault = false) : s.KeepsRoster s.buildMuck := by
  unfold State.buildMuck
  split
  · have same : (if s.channels.screwFault then (s.setMuck resetMuck).takeFault .screw else s.setMuck resetMuck)
        = s.setMuck resetMuck := if_neg (by simp [sound])
    change s.KeepsRoster (State.testMuck (State.testFace (if s.channels.screwFault then _ else _)))
    rw [same]
    exact ((setMuck _ s).trans (testFace _)).trans (testMuck _)
  · exact refl s

/-! ### A configuration stored (R23) -/

theorem noticesKept_queueBeacon (s : State) : NoticesKept s s.queueBeacon := by
  unfold queueBeacon
  dsimp only
  split
  · exact NoticesKept.of rfl
  · exact NoticesKept_queue 0 _ .plain s

theorem buildEngine_of_sound (sound : s.channels.erectorFault = false) : s.buildEngine = if s.ownsErector then
    (s.setPlans { closed := [], opened := none }).setEngine { resetEngine with state := .idle, erector := .ready } else s := by
  unfold buildEngine
  split
  · exact if_neg (by simp [sound])
  · rfl

theorem buildUnits_effect (screw : s.channels.screwFault = false) (erector : s.channels.erectorFault = false) :
    s.buildUnits.node = s.node ∧ s.buildUnits.thrust.cylinders.length = s.ownSection.cylinders
    ∧ s.buildUnits.drive.drives.length = s.ownSection.drives ∧ s.buildUnits.grout.ports.length = s.ownSection.ports
    ∧ s.buildUnits.drive.guard.level = some s.cfg.guardIndex ∧ NoticesKept s s.buildUnits := by
  obtain ⟨v, hv⟩ : ∃ v, v = (((s.setCylinders s.builtCylinders).setDrives (s.setCylinders s.builtCylinders).builtDrives).setGuard
    { s.drive.guard with level := some s.cfg.guardIndex }).buildEngine.buildGrout := ⟨_, rfl⟩
  have built : s.buildUnits = v.buildMuck := by rw [hv]; rfl
  have before : v.node = s.node ∧ v.thrust.cylinders.length = s.ownSection.cylinders ∧ v.drive.drives.length = s.ownSection.drives
      ∧ v.grout.ports.length = s.ownSection.ports ∧ v.drive.guard.level = some s.cfg.guardIndex ∧ NoticesKept s v := by
    rw [hv, buildEngine_of_sound (by simpa using erector)]
    have cylinders : s.builtCylinders.length = s.ownSection.cylinders := by simp [builtCylinders]
    have drives : (s.setCylinders s.builtCylinders).builtDrives.length = s.ownSection.drives := by
      simp only [builtDrives, List.length_map, List.length_range]
      rfl
    have ports (w : State) (node : w.node = s.node) : w.buildGrout.grout.ports.length = s.ownSection.ports := by
      simp [buildGrout, ownSection_of_node node]
    split
    · exact ⟨rfl, cylinders, drives, ports _ rfl, rfl, NoticesKept.of rfl⟩
    · exact ⟨rfl, cylinders, drives, ports _ rfl, rfl, NoticesKept.of rfl⟩
  obtain ⟨node, cylinders, drives, ports, level, notices⟩ := before
  obtain ⟨node', cylinders', drives', notices'⟩ := KeepsRoster.buildMuck (s := v) (by rw [hv]; simpa using screw)
  rw [built]
  exact ⟨node'.trans node, cylinders'.trans cylinders, drives'.trans drives, by simpa using ports, by simpa using level,
    notices.trans notices'⟩

theorem storeConfiguration_effect (c : Configuration) (digest : Half) (state : s.channels.screwFault = false)
    (erector : s.channels.erectorFault = false) : (s.storeConfiguration c digest).node = (s.joined c digest).node
    ∧ (s.storeConfiguration c digest).machine.ring = c.startRing
    ∧ (s.storeConfiguration c digest).machine.view = (s.joined c digest).freshView
    ∧ (s.storeConfiguration c digest).drive.guard.level = some c.guardIndex
    ∧ (s.storeConfiguration c digest).thrust.cylinders.length = (s.storeConfiguration c digest).ownSection.cylinders
    ∧ (s.storeConfiguration c digest).drive.drives.length = (s.storeConfiguration c digest).ownSection.drives
    ∧ (s.storeConfiguration c digest).grout.ports.length = (s.storeConfiguration c digest).ownSection.ports
    ∧ NoticesKept s (s.storeConfiguration c digest) := by
  rw [storeConfiguration_eq]
  obtain ⟨v, hv⟩ : ∃ v, v = (s.joined c digest).introduced c := ⟨_, rfl⟩
  have node : v.node = (s.joined c digest).node := by rw [hv]; simp [introduced]
  obtain ⟨node', cylinders, drives, ports, level, notices⟩ := buildUnits_effect (s := v)
    (by rw [hv]; simpa [introduced, joined] using state) (by rw [hv]; simpa [introduced, joined] using erector)
  have cfg : v.cfg.guardIndex = c.guardIndex := by
    simp [State.cfg, node, joined]
  have ownSame := ownSection_of_node node'
  have queued : NoticesKept s v := by
    rw [hv]
    exact (noticesKept_queueBeacon _).pre rfl
  rw [← hv]
  exact ⟨node'.trans node, by rw [hv]; simp [introduced], by rw [hv]; simp [introduced], level.trans (congrArg some cfg),
    by rw [ownSame, cylinders], by rw [ownSame, drives], by rw [ownSame, ports], queued.trans notices⟩

theorem membersInOrder_of_node {t : State} (same : t.node = s.node) : t.membersInOrder = s.membersInOrder := by
  have members : t.isMember = s.isMember := funext fun m => by simp [isMember, cfg, same]
  unfold membersInOrder
  rw [members]

theorem freshView_members (s : State) : s.freshView.map (·.member) = s.membersInOrder := by
  simp [freshView, Function.comp_def]

theorem mem_freshView {e : ViewEntry} (held : e ∈ s.freshView) :
    e.presence = (if e.member = s.own then .present else .silent) ∧ e.last = none := by
  obtain ⟨m, -, rfl⟩ := List.mem_map.1 held
  exact ⟨rfl, rfl⟩

/-! ### The last part (R18, R20) -/

/-- The state whose validation begins is the state before it, the collection and CONFIG_ORDER apart. -/
theorem takeConfigure_of_last {station : Station} {k n b : Byte} {content : List Byte} {held : List (List Byte)} {u : State}
    (state : s.node.state = .unconfigured) (last : s.LastPart station k n (b :: content) held u) :
    s.takeConfigure station (k :: n :: b :: content) = u.validate n.toNat (held ++ [b :: content])
    ∧ (u = s ∨ u = s.partOutOfTurn) := by
  rw [takeConfigure_of_part state]
  rcases last with ⟨c, collection, sender, count, next, rfl, rfl, rfl⟩ | ⟨empty, rfl, rfl, rfl, rfl⟩ | ⟨c, collection, rfl, rfl, rfl, turn, rfl⟩
  · rw [takePart_of_next collection sender count next]
    exact ⟨if_pos (by simp [next]), .inl rfl⟩
  · rw [takePart_of_empty empty]
    exact ⟨rfl, .inl rfl⟩
  · rw [takePart_of_turn collection (turn.imp id (.imp id fun other => ⟨fun next => other.1 (by simpa using next.symm),
      other.2.imp (fun one same => one same.symm) id⟩))]
    exact ⟨rfl, .inr rfl⟩

theorem rejectCollection_effect (r : Rejection) (s : State) :
    (s.rejectCollection r).node = { s.node with collection := none, lastRejection := some r }
    ∧ (s.rejectCollection r).noticed .configRejected = true ∧ (s.rejectCollection r).link = s.link
    ∧ (s.rejectCollection r).machine = s.machine ∧ NoticesKept s (s.rejectCollection r) :=
  ⟨by simp [rejectCollection], notify_noticed _ _, by simp [rejectCollection], by simp [rejectCollection],
    (NoticesKept_notify _ _).pre rfl⟩

theorem validate_of_unread {count : Nat} {parts : List (List Byte)} (unread : readConfiguration parts.flatten = none) :
    s.validate count parts = s.rejectCollection ⟨.length, none, Config.freeRejectMember s.freeIndex⟩ := by
  simp only [validate, unread]

theorem validate_of_failed {count : Nat} {parts : List (List Byte)} {g : Configuration} {r : Rejection}
    (read : readConfiguration parts.flatten = some g) (fails : rejection s.own s.freeIndex g = some r) :
    s.validate count parts = s.rejectCollection r := by
  simp only [validate, read, fails]

theorem validate_of_passed {count : Nat} {parts : List (List Byte)} {g : Configuration}
    (read : readConfiguration parts.flatten = some g) (passes : rejection s.own s.freeIndex g = none) :
    s.validate count parts = s.storeConfiguration g (partsDigest count parts) := by
  simp only [validate, read, passes]

end State

end Sys2Proof.Machine

section
open Sys2Proof Sys2Proof.Machine

/-- Settles O31: a collection that cannot be read or fails a check is rejected, one that passes is stored. -/
theorem validationDecides : Obligations.ValidationDecides := by
  unfold Obligations.ValidationDecides
  intro sender target k n b content held s u heard state last
  obtain ⟨taken, which⟩ := State.takeConfigure_of_last state last
  have run : exec (.configure sender target (k :: n :: b :: content)) s
      = .next (u.validate n.toNat (held ++ [b :: content])) := congrArg _ ((receive_of_hearsConsole heard).trans taken)
  have node (r : Rejection) : { u.node with collection := none, lastRejection := some r }
      = { s.node with collection := none, lastRejection := some r } := by rcases which with rfl | rfl <;> rfl
  have link : u.link = s.link := by rcases which with rfl | rfl <;> rfl
  have machine : u.machine = s.machine := by rcases which with rfl | rfl <;> rfl
  have own : u.own = s.own := by rcases which with rfl | rfl <;> rfl
  have index : u.freeIndex = s.freeIndex := by rcases which with rfl | rfl <;> rfl
  have channels : u.channels = s.channels := by rcases which with rfl | rfl <;> rfl
  rw [run]
  refine ⟨fun unread => ⟨_, ⟨.length, none, Config.freeRejectMember u.freeIndex⟩,
    congrArg _ (State.validate_of_unread unread), ?_⟩, fun g r read fails =>
    ⟨_, congrArg _ (State.validate_of_failed read (by rw [own, index]; exact fails)), ?_⟩, fun g read passes screw erector =>
    ⟨_, congrArg _ (State.validate_of_passed read (by rw [own, index]; exact passes)), ?_⟩⟩
  · obtain ⟨node', noticed, link', machine', notices⟩ :=
      State.rejectCollection_effect ⟨.length, none, Config.freeRejectMember u.freeIndex⟩ u
    exact ⟨node'.trans (node _), rfl, rfl, noticed, link'.trans link, machine'.trans machine, notices _⟩
  · obtain ⟨node', noticed, link', machine', notices⟩ := State.rejectCollection_effect r u
    exact ⟨node'.trans (node _), noticed, link'.trans link, machine'.trans machine, notices _⟩
  · obtain ⟨node', ring, view, level, cylinders, drives, ports, notices⟩ := State.storeConfiguration_effect g
      (State.partsDigest n.toNat (held ++ [b :: content])) (s := u) (by rw [channels]; exact screw) (by rw [channels]; exact erector)
    refine ⟨node'.trans ?_, ring, ?_, ?_, level, cylinders, drives, ports, notices _⟩
    · rcases which with rfl | rfl <;> rfl
    · rw [view, State.freshView_members]
      exact (State.membersInOrder_of_node node').symm
    · rw [view]
      intro e held'
      obtain ⟨presence, last'⟩ := State.mem_freshView held'
      exact ⟨presence.trans (by rw [show State.own (State.joined g _ u) = u.own from rfl, own]), last'⟩

end
end

section
/-! PROOFS. The bearing minimum: what a zone request or an override does to the bearing count (O20). -/

-- In one thread: each proof that waits for those before it would keep a thread of its own.
set_option Elab.async false

namespace Sys2Proof.Machine

namespace State

/-- The bearing count is no lower. -/
def BearsOn (s t : State) : Prop := s.bearingCount ≤ t.bearingCount

/-- The bearing count is at least h_min or no lower than it was. -/
def KeepsMinimum (s t : State) : Prop := s.cfg.hMin ≤ t.bearingCount ∨ s.bearingCount ≤ t.bearingCount

namespace BearsOn

variable {s t u : State}

theorem of_cylinders (same : t.thrust.cylinders = s.thrust.cylinders) : s.BearsOn t := by
  simp only [BearsOn, bearingCount, same, le_refl]

theorem refl (s : State) : s.BearsOn s := of_cylinders rfl

theorem trans (h : s.BearsOn t) (g : t.BearsOn u) : s.BearsOn u := Nat.le_trans h g

/-- A move that takes no cylinder out of bearing. -/
theorem of_map {f : Cylinder → Cylinder} (keeps : ∀ c, c.isBearing = true → (f c).isBearing = true)
    (moved : t.thrust.cylinders = s.thrust.cylinders.map f) : s.BearsOn t := by
  unfold BearsOn bearingCount
  rw [moved, List.countP_map]
  exact List.countP_mono_left fun c _ => keeps c

theorem updateCylinder {f : Cylinder → Cylinder} (keeps : ∀ c, c.isBearing = true → (f c).isBearing = true) (n : Nat)
    (s : State) : s.BearsOn (s.updateCylinder n f) := by
  refine of_map (f := fun c => if c.number = n then f c else c) (fun c bearing => ?_) rfl
  split
  · exact keeps c bearing
  · exact bearing

end BearsOn

theorem isBearing_iff {c : Cylinder} : c.isBearing = true ↔ c.state = .bearing ∨ c.state = .advancing := by
  simp [Cylinder.isBearing]

theorem KeepsMinimum.of_bearsOn {s t : State} (h : s.BearsOn t) : s.KeepsMinimum t := .inr h

theorem KeepsMinimum.trans_bearsOn {s t u : State} (h : s.KeepsMinimum t) (g : t.BearsOn u) : s.KeepsMinimum u :=
  h.imp (fun least => least.trans g) (fun least => least.trans g)

/-! ### Entry to HOLD and the settling of the advance (R61, R66) -/

theorem BearsOn.imposeHold (cause : HoldCause) (s : State) : s.BearsOn (s.imposeHold cause) := by
  have entry (fromBore : Bool) : s.BearsOn (s.thrustEntersHold fromBore) := by
    refine of_map (f := fun c =>
      if c.state = .advancing ∧ fromBore then { c with state := .bearing }
      else if (c.state = .retracting ∨ c.state = .reseating) ∧ !s.cylPinned c then
        { c with state := .parked, reseatTarget := none }
      else c) (fun c bearing => ?_) rfl
    split
    · rfl
    split
    · rename_i left
      rcases isBearing_iff.1 bearing with state | state <;> simp [state] at left
    · exact bearing
  have thrust := imposeHold_thrust cause s false
  cases phase : s.machine.phase with
  | hold now => exact of_cylinders (by rw [thrust, phase])
  | bore => exact (entry true).trans (of_cylinders (by rw [thrust, phase]))
  | build => exact (entry false).trans (of_cylinders (by rw [thrust, phase]))

theorem BearsOn.imposeHold_if (p : Prop) [Decidable p] (cause : HoldCause) (s : State) :
    s.BearsOn (if p then s.imposeHold cause else s) := by
  split
  · exact imposeHold cause s
  · exact refl s

theorem BearsOn.setPorts (ports : List Port) (s : State) : s.BearsOn (s.setPorts ports) := of_cylinders rfl

theorem BearsOn.setMuck (m : MuckUnit) (s : State) : s.BearsOn (s.setMuck m) := of_cylinders rfl

theorem BearsOn.setCredited (n : Nat) (s : State) : s.BearsOn (s.setThrust { s.thrust with credited := n }) := of_cylinders rfl

theorem BearsOn.setSectorAdvance (n : Nat) (s : State) : s.BearsOn (s.setThrust { s.thrust with sectorAdvance := n }) :=
  of_cylinders rfl

theorem BearsOn.testSteer (s : State) : s.BearsOn s.testSteer := of_cylinders (by simp)

theorem BearsOn.testZone (s : State) : s.BearsOn s.testZone := of_cylinders (by simp)

theorem BearsOn.testDose (s : State) : s.BearsOn s.testDose := of_cylinders (by simp)

theorem BearsOn.testGrout (s : State) : s.BearsOn s.testGrout := of_cylinders (by simp)

theorem BearsOn.groutIncrement (d : Nat) (s : State) : s.BearsOn (s.groutIncrement d) := by
  unfold State.groutIncrement
  dsimp only
  exact ((setPorts _ s).trans (testGrout _)).trans ((imposeHold_if _ _ _).trans (testDose _))

theorem BearsOn.creditAdvance (s : State) : s.BearsOn s.creditAdvance := by
  unfold State.creditAdvance
  split
  · exact (setCredited _ s).trans (groutIncrement _ _)
  · exact refl s

theorem BearsOn.testStrokeReached (s : State) : s.BearsOn s.testStrokeReached := by
  unfold State.testStrokeReached
  split
  · refine of_map (f := fun c => if c.state = .advancing then { c with state := .bearing } else c) (fun c bearing => ?_) rfl
    split
    · rfl
    · exact bearing
  · exact refl s

theorem BearsOn.evaluateOverdig (s : State) : s.BearsOn s.evaluateOverdig := by
  unfold State.evaluateOverdig
  split
  · exact (setMuck _ s).trans (imposeHold _ _)
  split
  · exact setMuck _ s
  · exact refl s

theorem BearsOn.updateMachineAdvance (s : State) : s.BearsOn s.updateMachineAdvance := by
  unfold State.updateMachineAdvance
  split
  · exact (setMuck _ s).trans (evaluateOverdig _)
  · exact refl s

theorem BearsOn.recomputeAdvance (s : State) : s.BearsOn s.recomputeAdvance := by
  unfold State.recomputeAdvance
  split
  · have settled := (((setSectorAdvance s.computedAdvance s).trans (creditAdvance _)).trans (testSteer _)).trans
      (testStrokeReached _)
    dsimp only
    split
    · exact settled
    · exact (settled.trans (imposeHold_if _ _ _)).trans (updateMachineAdvance _)
  · exact refl s

theorem BearsOn.cylinderPinChanged (n : Nat) (s : State) : s.BearsOn (s.cylinderPinChanged n) := by
  unfold State.cylinderPinChanged
  refine (recomputeAdvance s).trans ?_
  dsimp only
  split
  · exact testZone _
  · exact refl _

/-! ### A retraction permitted (R64) -/

/-- A move that only takes the cylinders of one set out of bearing leaves the others bearing. -/
theorem countP_le_moved {f : Cylinder → Cylinder} {p : Cylinder → Bool} {cs : List Cylinder}
    (others : ∀ c, p c = false → c.isBearing = true → (f c).isBearing = true) :
    cs.countP Cylinder.isBearing ≤ (cs.map f).countP Cylinder.isBearing + (cs.filter p).countP Cylinder.isBearing := by
  induction cs with
  | nil => simp
  | cons c cs ih =>
    cases set : p c with
    | false =>
      have kept := others c set
      by_cases bearing : c.isBearing = true
      · simp only [List.map_cons, List.countP_cons, List.filter_cons, set, bearing, kept bearing, if_true, Bool.false_eq_true, if_false]
        omega
      · simp only [List.map_cons, List.countP_cons, List.filter_cons, set, bearing, Bool.false_eq_true, if_false]
        omega
    | true =>
      simp only [List.map_cons, List.countP_cons, List.filter_cons, set, if_true]
      omega

theorem minimum_of_permitted {s t : State} {f : Cylinder → Cylinder} {p : Cylinder → Bool}
    (permitted : s.retractionPermitted (s.thrust.cylinders.filter p) = true)
    (moved : t.thrust.cylinders = s.thrust.cylinders.map f)
    (others : ∀ c, p c = false → c.isBearing = true → (f c).isBearing = true) : s.cfg.hMin ≤ t.bearingCount := by
  have room : s.cfg.hMin + (s.thrust.cylinders.filter p).countP Cylinder.isBearing ≤ s.bearingCount := of_decide_eq_true permitted
  have count := countP_le_moved (cs := s.thrust.cylinders) others
  unfold bearingCount at room ⊢
  rw [moved]
  omega

/-! ### The commands -/

theorem KeepsMinimum.clearZone (z : ZoneRequest) (s : State) : s.KeepsMinimum (s.clearZone z) := by
  unfold State.clearZone
  dsimp only
  split
  · exact of_bearsOn (.of_cylinders (by simp))
  split
  · exact of_bearsOn (.of_cylinders (by simp))
  · rename_i permitted
    refine .inl (Nat.le_trans ?_ (BearsOn.testZone _))
    refine minimum_of_permitted (s := s) (p := s.inZone z.position) ?_ rfl ?_
    · exact Bool.not_eq_false _ ▸ fun forbidden => permitted (by simp only [Bool.not_eq_true']; exact forbidden)
    · intro c outside bearing
      rw [if_neg fun h => Bool.false_ne_true (outside.symm.trans h.1)]
      exact bearing

theorem BearsOn.setZone (z : Option ZoneRequest) (s : State) : s.BearsOn (s.setZone z) := of_cylinders rfl

theorem BearsOn.setOverrides (es : List OverrideEntry) (s : State) : s.BearsOn (s.setOverrides es) := of_cylinders rfl

theorem BearsOn.mapCylinders {f : Cylinder → Cylinder} (keeps : ∀ c, c.isBearing = true → (f c).isBearing = true)
    (s : State) : s.BearsOn (s.mapCylinders f) := of_map keeps rfl

theorem BearsOn.seatZone (z : ZoneRequest) (s : State) : s.BearsOn (s.seatZone z) := by
  unfold State.seatZone
  dsimp only
  split
  · exact of_cylinders (by simp)
  · refine (((setZone none s).trans (mapCylinders (fun c bearing => ?_) _)).trans (setZone _ _)).trans (testZone _)
    split
    · rename_i left
      obtain ⟨-, -, left⟩ := left
      rcases isBearing_iff.1 bearing with state | state <;> simp [state] at left
    · exact bearing

theorem releaseCylinder_bearing {s : State} {forced : ForcedState} {c : Cylinder} (bearing : c.isBearing = true) :
    (s.releaseCylinder forced c).isBearing = true := by
  unfold releaseCylinder reseatClear
  split
  · rfl
  split
  · rename_i clear
    rcases isBearing_iff.1 bearing with state | state <;> simp [state] at clear
  · exact bearing

theorem BearsOn.cancelEntry (e : OverrideEntry) (s : State) : s.BearsOn (s.cancelEntry e) := by
  unfold State.cancelEntry
  dsimp only
  split
  · exact ((setOverrides _ s).trans (updateCylinder (fun c bearing => releaseCylinder_bearing bearing) _ _)).trans
      (cylinderPinChanged _ _)
  · exact of_cylinders (by simp)
  · exact of_cylinders (by simp)

theorem BearsOn.cancelEntries (es : List OverrideEntry) (s : State) : s.BearsOn (s.cancelEntries es) := by
  induction es generalizing s with
  | nil => exact refl s
  | cons e es ih => exact (cancelEntry e s).trans (ih _)

theorem BearsOn.forceBear (s : State) (c : Cylinder) (bearing : c.isBearing = true) : (s.forceBear c).isBearing = true := by
  rcases isBearing_iff.1 bearing with state | state <;> simp [State.forceBear, Cylinder.isBearing, state]

theorem BearsOn.answer (station : Station) (addressed : Bool) (service : Service) (outcome : EndCode) (s : State) :
    s.BearsOn (s.answer station addressed service outcome) := of_cylinders (by simp)

theorem KeepsMinimum.applyForced (forced : ForcedState) (n : Nat) (e : OverrideEntry) (s : State)
    (permitted : ¬(forced = .forceClear ∧ s.minimumFails n = true)) :
    s.KeepsMinimum ((s.enterOverride e).applyForced forced n) := by
  have entered : (s.enterOverride e).thrust.cylinders = s.thrust.cylinders := by simp
  cases forced with
  | forceBear => exact of_bearsOn (((BearsOn.of_cylinders entered).trans (BearsOn.updateCylinder (BearsOn.forceBear _) n _)).trans
      (.cylinderPinChanged n _))
  | forceClear =>
    refine .inl (Nat.le_trans ?_ (BearsOn.cylinderPinChanged n _))
    refine minimum_of_permitted (s := s) (p := fun c => c.number == n) ?_ (congrArg (List.map _) entered) fun c other bearing => ?_
    · simpa [minimumFails] using permitted
    · rw [if_neg (by simpa using other)]
      exact bearing
  | shut => exact of_bearsOn (.of_cylinders (by simp [State.applyForced]))
  | off => exact of_bearsOn (.of_cylinders (by simp [State.applyForced]))

theorem KeepsMinimum.serveOverride (station : Station) (addressed : Bool) (args : List Byte) (s : State) :
    s.KeepsMinimum (State.serveOverride station addressed args s) := by
  unfold State.serveOverride configuredOnly
  split
  case isFalse => exact of_bearsOn (.answer ..)
  case isTrue =>
    dsimp only
    split
    · exact of_bearsOn (.refl s)
    split
    case h_2 => exact of_bearsOn (.answer ..)
    case h_1 =>
      split
      · exact of_bearsOn (.answer ..)
      split
      · exact of_bearsOn (.answer ..)
      split
      · exact of_bearsOn (.answer ..)
      split
      · exact of_bearsOn (.answer ..)
      split
      · exact of_bearsOn (.answer ..)
      · exact (applyForced _ _ _ s ‹_›).trans_bearsOn (.answer ..)

theorem BearsOn.serveOverrideCancel (station : Station) (addressed : Bool) (args : List Byte) (s : State) :
    s.BearsOn (State.serveOverrideCancel station addressed args s) := by
  unfold State.serveOverrideCancel configuredOnly
  split
  case isFalse => exact answer ..
  case isTrue =>
    dsimp only
    split
    · split
      · exact answer ..
      · exact (cancelEntries _ s).trans (answer ..)
    · split
      · exact answer ..
      split
      · exact answer ..
      split
      · exact answer ..
      · exact (cancelEntries _ s).trans (answer ..)
    · exact answer ..

theorem KeepsMinimum.receive {by' : SentBy} {sender target : Station} {take : State → State} {s : State}
    (takes : s.KeepsMinimum (take s)) : s.KeepsMinimum (s.receive by' sender target take) := by
  unfold State.receive
  split
  · exact of_bearsOn (.refl s)
  · exact of_bearsOn (.of_cylinders rfl)
  · exact takes

theorem KeepsMinimum.takeZoneClear (sender : Nat) (payload : List Byte) (s : State) :
    s.KeepsMinimum (s.takeZoneClear sender payload) := by
  unfold State.takeZoneClear
  split
  · split
    · exact clearZone _ s
    · exact of_bearsOn (.refl s)
  · exact of_bearsOn (.refl s)

theorem BearsOn.takeZoneSeat (sender : Nat) (payload : List Byte) (s : State) : s.BearsOn (s.takeZoneSeat sender payload) := by
  unfold State.takeZoneSeat
  split
  · split
    · exact seatZone _ s
    · exact refl s
  · exact refl s

end State

end Sys2Proof.Machine

section
open Sys2Proof Sys2Proof.Machine

/-- Settles O20: no zone request and no override takes a cylinder out of bearing below h_min. -/
theorem bearingMinimumKept : Obligations.BearingMinimumKept := by
  unfold Obligations.BearingMinimumKept
  rintro i s t (⟨a, b, p, rfl⟩ | ⟨a, b, p, rfl⟩ | ⟨a, b, p, rfl⟩ | ⟨a, b, p, rfl⟩) run
  all_goals cases run
  · exact State.KeepsMinimum.receive (.takeZoneClear _ _ s)
  · exact State.KeepsMinimum.receive (.of_bearsOn (.takeZoneSeat _ _ s))
  · exact State.KeepsMinimum.receive (.serveOverride _ _ _ s)
  · exact State.KeepsMinimum.receive (.of_bearsOn (.serveOverrideCancel _ _ _ s))

end
end

section
/-! PROOFS. A HOLD frame: the entry to HOLD, or the cause counted in it (O10). -/

-- In one thread: each proof that waits for those before it would keep a thread of its own.
set_option Elab.async false

namespace Sys2Proof.Machine

namespace State

variable {s : State}

/-! ### A dose stopped (R154) -/

/-- A dose stopped, told of a state that has the same grout unit and node record before it. -/
theorem doseStopped_of {u t : State} (grout : u.grout = s.grout) (node : u.node = s.node)
    (stopped : t.grout = u.stopDose.grout) : s.DoseStopped t := by
  refine ⟨(doseInFlight_congr stopped).trans (stopDose_ends u), fun d dose runs => ?_⟩
  have ownSame := ownSection_of_node node
  rw [stopped, stopDose, endDose_of_flight .stopped (grout ▸ dose) runs]
  refine ⟨rfl, ?_, by simp [grout], ?_⟩
  · simp [grout]
  · simp [pointerAfter, isChainPort, ownSame, grout]

/-! ### Entry to HOLD (R44) -/

theorem handEntryToHold_hard_grout (fromBore : Bool) (s : State) :
    (s.handEntryToHold fromBore .hard).grout = s.stopDose.grout := by
  have same {u : State} (grout : u.grout = s.grout) (node : u.node = s.node) : u.stopDose.grout = s.stopDose.grout := by
    have ownSame := ownSection_of_node node
    simp only [stopDose, endDose, grout]
    split
    · split
      · simp [pointerAfter, isChainPort, ownSame, grout]
      · exact grout
    · exact grout
  unfold handEntryToHold
  simp only [if_true, commandScrew_frame, engineEntersHold_frame]
  exact same (by simp) (by simp)

variable {cause : HoldCause} {sender : Nat} {sent : Grade}

theorem takeHold_of_out (out : s.inHold = false) : ∃ fromBore, s.takeHold sender cause sent
      = ((s.failRound sender .held).openHold cause sender (causeGrade cause sent)).handEntryToHold fromBore (causeGrade cause sent)
    ∧ (s.machine.phase = .bore → fromBore = true) := by
  unfold takeHold
  dsimp only
  rw [failRound_phase]
  cases phase : s.machine.phase with
  | hold now => simp [inHold, phase] at out
  | bore => exact ⟨true, rfl, fun _ => rfl⟩
  | build => exact ⟨false, rfl, (nomatch ·)⟩

theorem takeHold_of_hold {now : Grade} (phase : s.machine.phase = .hold now) : s.takeHold sender cause sent
    = if raises now (causeGrade cause sent)
      then ((s.failRound sender .held).countHold cause sender now (causeGrade cause sent)).stopDose
      else (s.failRound sender .held).countHold cause sender now (causeGrade cause sent) := by
  unfold takeHold
  dsimp only
  rw [failRound_phase, phase]

/-! ### What a HOLD frame does -/

theorem takeHold_keepsRecords : s.KeepsRecords (s.takeHold sender cause sent) := by
  refine ⟨?_, ?_, ?_, ?_, ?_, ?_, ?_⟩ <;> simp

/-- Once the round has failed, the counters and notices stay. -/
theorem takeHold_told : CountersKept (s.failRound sender .held) (s.takeHold sender cause sent)
    ∧ NoticesKept (s.failRound sender .held) (s.takeHold sender cause sent) := by
  by_cases out : s.inHold = false
  · obtain ⟨fromBore, taken, -⟩ := takeHold_of_out (cause := cause) (sender := sender) (sent := sent) out
    rw [taken]
    exact ⟨(CountersKept_handHold _ _ _).pre rfl, (NoticesKept_handHold _ _ _).pre rfl⟩
  · obtain ⟨now, phase⟩ := exists_hold out
    rw [takeHold_of_hold phase]
    split
    · exact ⟨CountersKept.of (by simp [countHold]), NoticesKept.of (by simp [countHold])⟩
    · exact ⟨CountersKept.of rfl, NoticesKept.of rfl⟩

/-- The round fails (R53). -/
theorem takeHold_round : (s.takeHold sender cause sent).machine.round = none
    ∧ (s.takeHold sender cause sent).machine.previous = s.machine.previous
    ∧ (s.takeHold sender cause sent).machine.lastFailure = (s.failRound sender .held).machine.lastFailure := by
  rw [takeHold_machine]
  cases s.machine.phase <;> simp [countHold, openHold, failRound_machine]

theorem takeHold_opens (out : s.inHold = false) :
    (s.takeHold sender cause sent).machine.phase = .hold (causeGrade cause sent)
    ∧ (s.takeHold sender cause sent).machine.current = some ⟨cause, sender, s.machine.ring, causeGrade cause sent, 0⟩
    ∧ (s.takeHold sender cause sent).DrivesStop
    ∧ (s.machine.phase = .bore → ∀ c ∈ (s.takeHold sender cause sent).thrust.cylinders, c.state ≠ .advancing)
    ∧ (causeGrade cause sent = .hard → s.DoseStopped (s.takeHold sender cause sent))
    ∧ (s.takeHold sender cause sent).thrust.zone = none := by
  obtain ⟨fromBore, taken, bore⟩ := takeHold_of_out (cause := cause) (sender := sender) (sent := sent) out
  obtain ⟨v, hv⟩ : ∃ v, v = (s.failRound sender .held).openHold cause sender (causeGrade cause sent) := ⟨_, rfl⟩
  have grout : v.grout = s.grout := by rw [hv]; simp [openHold]
  have node : v.node = s.node := by rw [hv]; simp [openHold]
  rw [taken, ← hv]
  refine ⟨by rw [hv]; simp [openHold], by rw [hv]; simp [openHold], handEntryToHold_drivesStop _ _ _ (by rw [hv]; simp [openHold]),
    fun phase => ?_, fun hard => ?_, handEntryToHold_zone _ _ _⟩
  · rw [bore phase]
    exact handEntryToHold_noneAdvancing _ v
  · rw [hard]
    exact doseStopped_of grout node (handEntryToHold_hard_grout fromBore v)

theorem takeHold_counts {now : Grade} (phase : s.machine.phase = .hold now) :
    (s.takeHold sender cause sent).machine.phase = .hold (if causeGrade cause sent = .hard then .hard else now)
    ∧ (s.machine.current = none → (s.takeHold sender cause sent).machine.current = some ⟨cause, sender, s.machine.ring,
        if causeGrade cause sent = .hard then .hard else now, 0⟩)
    ∧ (∀ r, s.machine.current = some r → (s.takeHold sender cause sent).machine.current = some { r with
        further := min 255 (r.further + 1)
        grade := if causeGrade cause sent = .hard ∧ now = .soft then .hard else r.grade }) := by
  rw [takeHold_machine, phase]
  refine ⟨rfl, fun empty => ?_, fun r current => ?_⟩
  · simp [countHold, failRound_machine, empty]
  · simp [countHold, failRound_machine, current]

/-- In HOLD a HOLD frame touches no unit but grout. -/
theorem takeHold_units {now : Grade} (phase : s.machine.phase = .hold now) :
    (causeGrade cause sent = .hard → now = .soft → s.DoseStopped (s.takeHold sender cause sent))
    ∧ (causeGrade cause sent = .soft ∨ now = .hard → (s.takeHold sender cause sent).grout = s.grout)
    ∧ (s.takeHold sender cause sent).link = s.link ∧ (s.takeHold sender cause sent).thrust = s.thrust
    ∧ (s.takeHold sender cause sent).drive = s.drive ∧ (s.takeHold sender cause sent).engine = s.engine
    ∧ (s.takeHold sender cause sent).muck = s.muck := by
  rw [takeHold_of_hold phase]
  refine ⟨fun hard soft => ?_, fun same => ?_, ?_⟩
  · rw [hard, soft, if_pos (by rfl)]
    exact doseStopped_of (by simp [countHold]) (by simp [countHold]) rfl
  · rw [if_neg (by rcases same with soft | hard <;> simp [raises, *])]
    simp [countHold]
  · split <;> simp [countHold]

end State

end Sys2Proof.Machine

section
open Sys2Proof Sys2Proof.Machine

/-- Settles O10: a HOLD frame enters HOLD, or is counted in it. -/
theorem holdFrameTaken : Obligations.HoldFrameTaken := by
  unfold Obligations.HoldFrameTaken
  intro sender target cause sent s heard
  have run : exec (.hold sender target cause sent) s = .next (s.takeHoldFrame sender cause sent) :=
    congrArg _ (receive_of_hearsAny heard)
  rw [run]
  refine ⟨fun unconfigured => congrArg _ (if_neg (by simp [unconfigured])), fun configured =>
    ⟨_, congrArg _ (if_pos configured), State.takeHold_keepsRecords, ?_⟩⟩
  obtain ⟨round, previous, failure⟩ := State.takeHold_round (s := s) (cause := cause) (sent := sent) (sender := sender.toNat)
  refine ⟨round, previous, fun r opened => ?_, fun none' => ?_, State.takeHold_opens, fun now phase => ?_⟩
  · obtain ⟨counters, notices⟩ := State.takeHold_told (s := s) (cause := cause) (sent := sent) (sender := sender.toNat)
    have failed := failRound_some sender.toNat .held r s opened
    refine ⟨?_, notices _ ?_, (congrArg Counters.failedVotes counters).trans ?_⟩
    · rw [failure, failRound_machine, opened]
    · rw [failed]
      exact notify_noticed _ .voteFailed
    · rw [failed]
      simp
  · rw [failure, failRound_none _ _ _ none']
  · obtain ⟨phase', empty, current⟩ := State.takeHold_counts (cause := cause) (sent := sent) (sender := sender.toNat) phase
    obtain ⟨hard, soft, rest⟩ := State.takeHold_units (cause := cause) (sent := sent) (sender := sender.toNat) phase
    exact ⟨phase', empty, current, hard, soft, rest⟩

end
end

section
/-! PROOFS. The close of a ring, told by a peer or heard back, and RING_SET (O28). -/

-- In one thread: each proof that waits for those before it would keep a thread of its own.
set_option Elab.async false

namespace Sys2Proof.Machine

namespace State

variable {s t u : State}

/-! ### The stroke origin captured (R65) -/

/-- The origin and the advances after the capture, before the tests that follow it. -/
def originCaptured (s : State) : State :=
  (s.mapCylinders fun c => { c with origin := some c.stroke }).setThrust { (s.mapCylinders fun c =>
    { c with origin := some c.stroke }).thrust with sectorAdvance := 0, credited := 0, strokeReached := false, steerPause := false }

/-- Every cylinder's origin is its stroke, and nothing has been gained on it. -/
structure AtOrigin (t : State) : Prop where
  advance : t.thrust.sectorAdvance = 0
  credited : t.thrust.credited = 0
  reached : t.thrust.strokeReached = false
  pause : t.thrust.steerPause = false
  origin : ∀ c ∈ t.thrust.cylinders, c.origin = some c.stroke

theorem AtOrigin.originCaptured (s : State) : s.originCaptured.AtOrigin := by
  refine ⟨rfl, rfl, rfl, rfl, fun c held => ?_⟩
  obtain ⟨d, -, rfl⟩ := List.mem_map.1 held
  rfl

theorem AtOrigin.of_thrust (h : s.AtOrigin) (same : t.thrust = s.thrust) : t.AtOrigin :=
  ⟨same ▸ h.advance, same ▸ h.credited, same ▸ h.reached, same ▸ h.pause, same ▸ h.origin⟩

theorem AtOrigin.thrustEntersHold (h : s.AtOrigin) (fromBore : Bool) : (s.thrustEntersHold fromBore).AtOrigin := by
  refine ⟨h.advance, h.credited, h.reached, ?_, fun c held => ?_⟩
  · unfold State.thrustEntersHold
    dsimp only
    split
    · rfl
    · exact h.pause
  · obtain ⟨d, before, rfl⟩ := List.mem_map.1 held
    have captured := h.origin d before
    split
    · exact captured
    split
    · exact captured
    · exact captured

theorem AtOrigin.imposeHold (h : s.AtOrigin) (cause : HoldCause) : (s.imposeHold cause).AtOrigin := by
  have thrust := imposeHold_thrust cause s false
  cases phase : s.machine.phase with
  | hold now => exact h.of_thrust (by rw [thrust, phase])
  | bore => exact (h.thrustEntersHold true).of_thrust (by rw [thrust, phase])
  | build => exact (h.thrustEntersHold false).of_thrust (by rw [thrust, phase])

theorem AtOrigin.testStrokeEnd (h : s.AtOrigin) : s.testStrokeEnd.AtOrigin := by
  unfold State.testStrokeEnd
  split
  · exact h.imposeHold _
  · exact h

theorem AtOrigin.setMuck (h : s.AtOrigin) (m : MuckUnit) : (s.setMuck m).AtOrigin := h.of_thrust rfl

theorem AtOrigin.evaluateOverdig (h : s.AtOrigin) : s.evaluateOverdig.AtOrigin := by
  unfold State.evaluateOverdig
  split
  · exact (h.setMuck _).imposeHold _
  split
  · exact h.setMuck _
  · exact h

theorem AtOrigin.updateMachineAdvance (h : s.AtOrigin) : s.updateMachineAdvance.AtOrigin := by
  unfold State.updateMachineAdvance
  split
  · exact (h.setMuck _).evaluateOverdig
  · exact h

/-- With nothing gained the steer pause is off already (R70). -/
theorem AtOrigin.testSteer (h : s.AtOrigin) : s.testSteer = s := by
  by_cases bore : s.machine.phase = .bore
  · rw [testSteer_effect s bore, h.advance]
    have pause : (if s.cfg.steerLimit < 0 - s.slowestAdvance then true else if 2 * (0 - s.slowestAdvance) ≤ s.cfg.steerLimit then false
        else s.thrust.steerPause) = s.thrust.steerPause := by
      rw [Nat.zero_sub, if_neg (Nat.not_lt_zero _), if_pos (Nat.zero_le _), h.pause]
    rw [pause]
    rfl
  · exact testSteer_idle s bore

theorem captureOrigin_eq (s : State) : s.captureOrigin = s.originCaptured.testStrokeEnd.updateMachineAdvance :=
  congrArg (fun u : State => u.testStrokeEnd.updateMachineAdvance) (AtOrigin.originCaptured s).testSteer

theorem AtOrigin.captureOrigin (s : State) : s.captureOrigin.AtOrigin := by
  rw [captureOrigin_eq]
  exact (AtOrigin.originCaptured s).testStrokeEnd.updateMachineAdvance

theorem captureOrigin_of_noBore (out : s.machine.phase ≠ .bore) : s.captureOrigin = s.originCaptured.updateMachineAdvance := by
  rw [captureOrigin_eq]
  exact congrArg State.updateMachineAdvance (if_neg fun h => out h.1)

theorem captureOrigin_closing (none' : s.engine.requeue = none) : s.captureOrigin.closing = s.closing := by
  rw [captureOrigin_eq]
  have ended := testStrokeEnd_closing s.originCaptured none'
  exact (updateMachineAdvance_closing _ ((requeue_of_closing ended).trans none')).trans ended

/-! ### Close pending once cleared (R129) -/

/-- Close pending, once clear, stays so. -/
def StaysClosed (s t : State) : Prop := s.engine.closePending = false → t.engine.closePending = false

namespace StaysClosed

theorem of_engine (same : t.engine = s.engine) : s.StaysClosed t := fun clear => (congrArg Engine.closePending same).trans clear

theorem of_same (same : t.engine.closePending = s.engine.closePending) : s.StaysClosed t := fun clear => same.trans clear

theorem trans (h : s.StaysClosed t) (g : t.StaysClosed u) : s.StaysClosed u := fun clear => g (h clear)

theorem pre (g : t.StaysClosed u) (same : t.engine = s.engine) : s.StaysClosed u := (of_engine same).trans g

theorem frameEnded (f : TxFrame) (e : Ending) (s : State) : s.StaysClosed (s.frameEnded f e) := by
  intro clear
  cases closing : isClosing f.frame.body with
  | false => rw [frameEnded_engine e s closing, clear]
  | true =>
    unfold State.frameEnded
    cases body : f.frame.body <;> simp [isClosing, body] at closing
    cases f.tag <;> cases e <;> simp [clear]

theorem admitFrame (f : TxFrame) (s : State) : s.StaysClosed (s.admitFrame f) := by
  unfold State.admitFrame
  split
  · exact frameEnded _ _ s
  split
  · exact (frameEnded _ _ _).pre (by simp [countDrop])
  · exact of_engine rfl

theorem retryRingClosed (s : State) : s.StaysClosed s.retryRingClosed := by
  unfold State.retryRingClosed
  split
  · exact fun clear => clear
  · exact fun clear => admitFrame _ _ clear

theorem admitHold (f : TxFrame) (s : State) : s.StaysClosed (s.admitHold f) := by
  unfold State.admitHold
  split
  · split
    · exact (frameEnded _ _ _).pre (by simp [countDrop])
    · exact ((frameEnded _ _ _).trans (retryRingClosed _)).pre (by simp [countDrop])
  · exact admitFrame f s

theorem queueFrame (body : Body) (s : State) : s.StaysClosed (s.queueFrame body) := by
  unfold State.queueFrame queueTagged
  dsimp only
  split
  · exact (admitHold _ _).pre rfl
  · exact (admitFrame _ _).pre rfl

theorem framesEnded (fs : List TxFrame) (e : Ending) (s : State) : s.StaysClosed (s.framesEnded fs e) := by
  unfold State.framesEnded
  induction fs generalizing s with
  | nil => exact fun clear => clear
  | cons f fs ih => exact (frameEnded f e s).trans (ih _)

theorem removeZoneFrames (s : State) : s.StaysClosed s.removeZoneFrames := by
  unfold State.removeZoneFrames
  dsimp only
  split
  · exact of_engine rfl
  · exact ((framesEnded _ _ _).trans (retryRingClosed _)).pre rfl

theorem handEntryToHold (fromBore : Bool) (g : Grade) (s : State) : s.StaysClosed (s.handEntryToHold fromBore g) := by
  refine (removeZoneFrames s).trans (of_same ?_)
  unfold State.handEntryToHold
  dsimp only
  split <;> simp

theorem imposeHold (cause : HoldCause) (s : State) : s.StaysClosed (s.imposeHold cause) := by
  have failed : s.StaysClosed (s.failRound s.own .held) := of_engine (by simp)
  unfold State.imposeHold
  dsimp only
  generalize s.failRound s.own .held = u at failed
  cases u.machine.phase with
  | hold now =>
    have counted : s.StaysClosed (if (raises now (causeGrade cause .soft) || false) = true then
        (u.countHold cause u.own now (causeGrade cause .soft)).queueFrame (.hold cause (causeGrade cause .soft))
        else u.countHold cause u.own now (causeGrade cause .soft)) := by
      split
      · exact failed.trans ((queueFrame _ _).pre rfl)
      · exact failed.trans (of_engine rfl)
    dsimp only
    split
    · exact counted.trans (of_engine (by simp))
    · exact counted
  | bore => exact failed.trans (((queueFrame _ _).trans (handEntryToHold _ _ _)).pre rfl)
  | build => exact failed.trans (((queueFrame _ _).trans (handEntryToHold _ _ _)).pre rfl)

end StaysClosed

/-! ### The HOLD frame of an entry to HOLD stays in the queue (R40, R7) -/

theorem mem_queue_admitFrame {q : TxFrame} (held : q ∈ s.link.queue) (f : TxFrame) : q ∈ (s.admitFrame f).link.queue := by
  unfold admitFrame
  split
  · simpa using held
  split
  · simpa [countDrop] using held
  · exact (mem_insertTx _ _ _).2 (.inr held)

theorem mem_queue_retryRingClosed {q : TxFrame} (held : q ∈ s.link.queue) : q ∈ s.retryRingClosed.link.queue := by
  unfold retryRingClosed
  split
  · exact held
  · refine mem_queue_admitFrame ?_ _
    exact held

theorem mem_queue_removeZoneFrames {q : TxFrame} (held : q ∈ s.link.queue) (kind : isZoneRequest q.frame.body = false) :
    q ∈ s.removeZoneFrames.link.queue := by
  have stays : q ∈ s.link.queue.filter (fun f => !isZoneRequest f.frame.body) := List.mem_filter.2 ⟨held, by simp [kind]⟩
  unfold removeZoneFrames
  dsimp only
  split
  · exact stays
  · exact mem_queue_retryRingClosed (by simpa using stays)

theorem handEntryToHold_link (fromBore : Bool) (g : Grade) (s : State) :
    (s.handEntryToHold fromBore g).link = s.removeZoneFrames.link := by
  unfold handEntryToHold
  dsimp only
  split <;> simp

theorem queueFrame_hold_of_hasPlace (place : s.HasPlace) (cause : HoldCause) (g : Grade) :
    s.newFrame 0 (.hold cause g) .plain ∈ (s.queueFrame (.hold cause g)).link.queue := by
  obtain ⟨runs, room⟩ := place
  have free : ¬ Config.txqPlaces ≤ s.stepAge.link.held := Nat.not_le.2 room
  have runs' : s.stepAge.link.transmitting = true := runs
  simp only [queueFrame, queueTagged, isHold, if_true, admitHold, runs', free, decide_false, Bool.and_false, Bool.false_eq_true, if_false,
    admitFrame, Bool.not_true]
  exact mem_insertTx_self _ _

/-- From BORE or BUILD a hold queues its HOLD frame, where there is a place. -/
theorem imposeHold_queues (cause : HoldCause) (out : s.inHold = false) (place : s.HasPlace) :
    ∃ q ∈ (s.imposeHold cause).link.queue, q.frame.body = .hold cause (causeGrade cause .soft) := by
  obtain ⟨u, hu⟩ : ∃ u, u = s.failRound s.own .held := ⟨_, rfl⟩
  have link : u.link = s.link := by rw [hu]; simp
  have queued : ∀ fromBore, ∃ q ∈ (((u.openHold cause u.own (causeGrade cause .soft)).queueFrame
      (.hold cause (causeGrade cause .soft))).handEntryToHold fromBore (causeGrade cause .soft)).link.queue,
      q.frame.body = .hold cause (causeGrade cause .soft) := by
    intro fromBore
    rw [handEntryToHold_link]
    refine ⟨_, mem_queue_removeZoneFrames (queueFrame_hold_of_hasPlace ?_ _ _) rfl, rfl⟩
    show u.HasPlace
    simpa only [HasPlace, link] using place
  unfold imposeHold
  dsimp only
  rw [failRound_phase, ← hu]
  cases phase : s.machine.phase with
  | hold now => simp [inHold, phase] at out
  | bore => exact queued true
  | build => exact queued false

end State

end Sys2Proof.Machine
end

section
/-! PROOFS. The close of a ring at a node and at the erector owner, and RING_SET (O28). -/

-- In one thread: each proof that waits for those before it would keep a thread of its own.
set_option Elab.async false

namespace Sys2Proof.Machine

namespace State

variable {s t u : State}

/-! ### The accounts closed (R138) -/

/-- The accounts closed up to the stroke origin, which is captured next. -/
def accountsKept (n : Nat) (s : State) : State :=
  let s := ((s.keepRecord (s.ringRecord n)).carryOver).closeTallies
  s.setGuard { s.drive.guard with probes := 0 }

theorem closeAccounts_eq (n : Nat) (s : State) : s.closeAccounts n = (s.accountsKept n).captureOrigin.setRing n := rfl

theorem accountsKept_muck (n : Nat) (owns : s.ownsMuck = true) : (s.accountsKept n).muck = { s.muck with
    weighed := 0, carried := 0, uncarried := 0, excused := 0, indexed := 0, overdig := false } := by
  have owns' : (s.keepRecord (s.ringRecord n)).carryOver.ownsMuck = true := owns
  unfold accountsKept closeTallies
  dsimp only
  rw [if_pos owns']
  rfl

theorem updateMachineAdvance_of_noMass (weighed : s.ownsMuck = true → s.muck.weighed = 0) :
    s.updateMachineAdvance.link = s.link ∧ s.updateMachineAdvance.machine = s.machine := by
  unfold updateMachineAdvance
  split
  · rename_i owns
    have none' : (s.setMuck { s.muck with machineAdvance := s.computedMachineAdvance }).excess ≤ 0 := by
      unfold excess
      rw [show (s.setMuck { s.muck with machineAdvance := s.computedMachineAdvance }).muck.weighed = 0 from weighed owns]
      have least (a b c d : Nat) : ((0 : Nat) : Int) - a - b * c - d ≤ 0 := by
        have := Int.mul_nonneg (Int.natCast_nonneg b) (Int.natCast_nonneg c)
        omega
      exact least _ _ _ _
    rw [evaluateOverdig_of_noExcess none']
    exact ⟨rfl, rfl⟩
  · exact ⟨rfl, rfl⟩

/-- Without the owner's part, the close as R138 has it. -/
theorem closeAccounts_effect (n : Nat) (s : State) :
    (s.closeAccounts n).machine.ring = n
    ∧ (s.closeAccounts n).console.records = (if 16 ≤ s.console.records.length then s.console.records.drop 1 else s.console.records)
        ++ [s.ringRecord n]
    ∧ (s.closeAccounts n).grout.ports = s.grout.ports.map (fun p => { p with owed := p.gap, delivered := 0 })
    ∧ (s.closeAccounts n).drive.guard.probes = 0 ∧ (s.closeAccounts n).AtOrigin
    ∧ (s.ownsMuck = true → (s.closeAccounts n).muck.weighed = 0 ∧ (s.closeAccounts n).muck.carried = 0
        ∧ (s.closeAccounts n).muck.uncarried = 0 ∧ (s.closeAccounts n).muck.excused = 0 ∧ (s.closeAccounts n).muck.indexed = 0
        ∧ (s.closeAccounts n).muck.queue = s.muck.queue ∧ (s.closeAccounts n).muck.spill = s.muck.spill)
    ∧ (s.closeAccounts n).node = s.node ∧ (s.closeAccounts n).channels = s.channels
    ∧ (s.closeAccounts n).overrides = s.overrides ∧ (s.closeAccounts n).machine.view = s.machine.view := by
  have captured := AtOrigin.captureOrigin (s.accountsKept n)
  rw [closeAccounts_eq]
  refine ⟨rfl, ?_, ?_, ?_, captured.of_thrust rfl, fun owns => ?_, ?_, ?_, ?_, ?_⟩
  · simp [accountsKept, keepRecord]
  · simp [accountsKept, keepRecord, carryOver]
  · simp [accountsKept]
  · simp [accountsKept_muck n owns]
  all_goals simp [accountsKept]

/-- In BUILD the close touches neither the link nor the phase: no excess is left to hold for. -/
theorem closeAccounts_build (n : Nat) (build : s.machine.phase = .build) :
    (s.closeAccounts n).link = s.link ∧ (s.closeAccounts n).machine = { s.machine with ring := n } := by
  have phase : (s.accountsKept n).machine.phase = .build := by simpa [accountsKept] using build
  obtain ⟨link, machine⟩ := updateMachineAdvance_of_noMass (s := (s.accountsKept n).originCaptured) fun owns => by
    have muck := accountsKept_muck n (s := s) (by
      simpa [originCaptured, accountsKept, ownsMuck, configured, isMuckOwner, memberSection?, cfg, own] using owns)
    exact congrArg MuckUnit.weighed muck
  rw [closeAccounts_eq, captureOrigin_of_noBore (by rw [phase]; simp)]
  refine ⟨link.trans ?_, ?_⟩
  · simp [originCaptured, accountsKept, keepRecord]
  · rw [show ∀ u : State, (u.setRing n).machine = { u.machine with ring := n } from fun _ => rfl, machine]
    simp [originCaptured, accountsKept, keepRecord]

/-! ### The erector owner's part (R139) -/

/-- The erector owner before its RING_DONE hold. -/
def statisticsKept (s : State) : State :=
  (s.writeStatistics).setEngine { s.engine with seatRetries := 0, zoneRefusals := 0, placed := [], closePending := false }

theorem ownerCloses_eq (s : State) : s.ownerCloses = s.statisticsKept.imposeHold .ringDone := rfl

theorem statisticsKept_records {rs : List RingRecord} {r : RingRecord} (records : s.console.records = rs ++ [r]) :
    s.statisticsKept.console.records = rs ++ [{ r with statistics := some ⟨s.engine.seatRetries, s.engine.zoneRefusals⟩ }] := by
  simp [statisticsKept, writeStatistics, records]

/-- What the close of a ring leaves at a node. -/
def ringClosedAt (n : Nat) (s : State) : State :=
  if s.ownsErector then (s.closeAccounts n).ownerCloses else s.closeAccounts n

theorem ownsErector_of_node (same : t.node = s.node) : t.ownsErector = s.ownsErector := by
  simp [ownsErector, configured, isErectorOwner, memberSection?, cfg, own, same]

theorem configured_of_isErectorOwner {n : Nat} (owner : s.isErectorOwner n = true) : s.configured = true := by
  cases config : s.node.config with
  | some c => simp [configured, config]
  | none =>
    have nobody : s.memberSection? n = none := by simp [memberSection?, cfg, config, noConfiguration]
    simp [isErectorOwner, nobody, noSection] at owner

theorem takeRingClosed_of_ignored {sender : Nat} {payload : List Byte}
    (ignored : s.isErectorOwner sender = false ∨ ∀ n, ringOf payload = some n → n ≠ s.nextRing) :
    s.takeRingClosed sender payload = s := by
  unfold takeRingClosed
  split
  case h_1 n form =>
    refine if_neg ?_
    rcases ignored with other | wrong
    · simp [other]
    · simp [wrong n form]
  case h_2 => rfl

theorem takeRingClosed_of_next {sender : Nat} {payload : List Byte} (configured : s.configured = true)
    (owner : s.isErectorOwner sender = true) (next : ringOf payload = some s.nextRing) :
    s.takeRingClosed sender payload = s.ringClosedAt s.nextRing := by
  have same : (s.closeAccounts s.nextRing).ownsErector = s.ownsErector := ownsErector_of_node (by simp)
  unfold takeRingClosed
  rw [next]
  refine (if_pos (by simp [configured, owner])).trans ?_
  dsimp only
  rw [same]
  rfl

/-- The close of a ring is R138's, and R139's at the erector owner. -/
theorem ringClosedAt_closed (n : Nat) (s : State) : s.RingClosedInto n (s.ringClosedAt n) := by
  obtain ⟨ring, records, ports, probes, origin, muck, node, channels, overrides, view⟩ := closeAccounts_effect n s
  unfold ringClosedAt
  by_cases owner : s.ownsErector = true
  · have owner' (a b : Option RingStatistics) : (if s.ownsErector then a else b) = a := if_pos owner
    have engine : (s.closeAccounts n).engine.seatRetries = s.engine.seatRetries
        ∧ (s.closeAccounts n).engine.zoneRefusals = s.engine.zoneRefusals := by simp
    have captured : ((s.closeAccounts n).statisticsKept).AtOrigin := origin.of_thrust (by simp [statisticsKept])
    have held := captured.imposeHold .ringDone
    rw [if_pos owner, ownerCloses_eq]
    refine ⟨?_, ?_, ?_, ?_, held.advance, held.credited, held.reached, held.origin, fun owns => ?_, fun _ => ⟨?_, ?_, ?_, ?_, ?_, ?_⟩,
      ?_, ?_, ?_, ?_⟩
    · simpa [statisticsKept] using ring
    · have kept : ((s.closeAccounts n).statisticsKept.imposeHold .ringDone).console.records
          = (s.closeAccounts n).statisticsKept.console.records := by simp
      rw [owner', kept, statisticsKept_records records, engine.1, engine.2]
    · simpa [statisticsKept] using ports
    · simpa [statisticsKept] using probes
    · simpa [statisticsKept] using muck owns
    · simp [statisticsKept]
    · simp [statisticsKept]
    · simp [statisticsKept]
    · exact StaysClosed.imposeHold .ringDone _ rfl
    · exact imposeHold_inHold ..
    · intro build
      obtain ⟨link, machine⟩ := closeAccounts_build n build
      have machine' : (s.closeAccounts n).statisticsKept.machine = { s.machine with ring := n } := by
        simpa [statisticsKept] using machine
      have out : (s.closeAccounts n).statisticsKept.inHold = false := by
        simp only [inHold, machine', build]
      obtain ⟨phase, current⟩ := imposeHold_opens (s := (s.closeAccounts n).statisticsKept) .ringDone out false
      refine ⟨phase, current.trans ?_, fun place => ?_⟩
      · rw [machine', show State.own (State.statisticsKept _) = s.own by simp [statisticsKept, own]]
        rfl
      · exact imposeHold_queues .ringDone out (by simpa [HasPlace, statisticsKept, link] using place)
    all_goals simp [statisticsKept]
  · rw [if_neg owner]
    refine ⟨ring, ?_, ports, probes, origin.advance, origin.credited, origin.reached, origin.origin, muck, fun owns => absurd owns owner,
      node, channels, overrides, view⟩
    rw [records, if_neg owner]
    rfl

/-! ### The owner's own RING_CLOSED heard back (R9, R129) -/

theorem heardBack_ringClosed {w : WireFrame} {payload : List Byte} (body : w.tx.frame.body = .ringClosed payload)
    (tag : w.tx.tag = .plain) (configured : s.configured = true) (member : s.isMember s.own = true) :
    s.heardBack w = ((((s.setWire none).takeRingClosed s.own payload).setEngine
      { ((s.setWire none).takeRingClosed s.own payload).engine with closePending := false }).closeCleared
        s.engine.closePending).retryRingClosed := by
  have delivered : (s.setWire none).deliverOwn w.tx.frame.body = (s.setWire none).takeRingClosed s.own payload := by
    rw [body]
    exact if_pos (by simpa using ⟨configured, member⟩)
  have sent (u : State) : u.reportSent w.tx = u.setEngine { u.engine with closePending := false } := by
    simp only [reportSent, tag, body, frameEnded]
  unfold heardBack
  dsimp only
  rw [delivered, sent]

theorem setEngine_closed (clear : s.engine.closePending = false) : s.setEngine { s.engine with closePending := false } = s := by
  rw [← clear]
  rfl

theorem closeCleared_of_noBuild (out : s.machine.phase ≠ .build) (before : Bool) : s.closeCleared before = s := by
  unfold closeCleared
  split
  · exact takeHeadStep_of_noBuild out
  · rfl

theorem ringClosedAt_requeue (n : Nat) (owner : s.ownsErector = true) (none' : s.engine.requeue = none) :
    (s.ringClosedAt n).engine.requeue = none := by
  have accounts : (s.closeAccounts n).engine.requeue = none := by
    have kept := captureOrigin_closing (s := s.accountsKept n) (by simpa [accountsKept] using none')
    exact (requeue_of_closing kept).trans (by simpa [accountsKept] using none')
  unfold ringClosedAt
  rw [if_pos owner]
  exact (requeue_of_closing (imposeHold_closing .ringDone _ false (by simpa [statisticsKept] using accounts))).trans
    (by simpa [statisticsKept] using accounts)

/-! ### RING_SET (R140, R141) -/

theorem takeRingSet_of_ignored {payload : List Byte}
    (ignored : s.configured = false ∨ s.inHold = false ∨ ∀ n, ringOf payload = some n → n = 0 ∨ 65000 < n) :
    s.takeRingSet payload = s := by
  unfold takeRingSet
  split
  case h_1 n form =>
    refine if_neg ?_
    rcases ignored with unconfigured | out | range
    · simp [unconfigured]
    · simp [out]
    · have outside := range n form
      simp only [Bool.and_eq_true, decide_eq_true_eq]
      omega
  case h_2 => rfl

theorem takeRingSet_of_number {payload : List Byte} {n : Nat} (configured : s.configured = true) (held : s.inHold = true)
    (form : ringOf payload = some n) (least : 1 ≤ n) (most : n ≤ 65000) :
    s.takeRingSet payload = if s.ownsErector then (s.setRing n).ownerRingSet else s.setRing n := by
  unfold takeRingSet
  rw [form]
  exact if_pos (by simp [configured, held, least, most])

theorem not_build_of_inHold (held : s.inHold = true) : s.machine.phase ≠ .build := by
  intro build
  simp [inHold, build] at held

theorem ownerRingSet_of_held (held : s.inHold = true) : s.ownerRingSet
    = (if s.engine.state = .suspended ∨ s.engine.state = .stalled then s.dropStep else s).setEngine
      { (if s.engine.state = .suspended ∨ s.engine.state = .stalled then s.dropStep else s).engine with
        placed := [], seatRetries := 0, zoneRefusals := 0, closePending := false } := by
  have machine : (if s.engine.state = .suspended ∨ s.engine.state = .stalled then s.dropStep else s).machine = s.machine := by
    split
    · simp
    · rfl
  refine takeHeadStep_of_noBuild fun build => not_build_of_inHold held ?_
  rw [← machine]
  exact build

end State

end Sys2Proof.Machine

section
open Sys2Proof Sys2Proof.Machine

/-- Settles O28: the next ring's RING_CLOSED closes the ring, and RING_SET in HOLD sets its number alone. -/
theorem ringClosedAndRingSet : Obligations.RingClosedAndRingSet := by
  unfold Obligations.RingClosedAndRingSet
  refine ⟨fun sender target payload s heard => ?_, fun payload w s u onWire won body tag configured member requeue before => ?_,
    fun sender target payload s heard => ?_⟩
  · have run : exec (.ringClosed sender target payload) s = .next (s.takeRingClosed sender.toNat payload) :=
      congrArg _ (receive_of_hearsPeer heard)
    rw [run]
    exact ⟨fun ignored => congrArg _ (State.takeRingClosed_of_ignored ignored), fun owner next =>
      ⟨_, congrArg _ (State.takeRingClosed_of_next (State.configured_of_isErectorOwner owner) owner next), State.ringClosedAt_closed s.nextRing s⟩⟩
  · have run : exec (.loopbackCheck .same) s = .next (s.heardBack w) := exec_loopback_same onWire won
    rw [run, State.heardBack_ringClosed body tag configured member, ← before]
    refine ⟨fun ignored => ?_, fun owner next => ?_⟩
    · rw [State.takeRingClosed_of_ignored (by rw [before]; exact ignored)]
      refine ⟨fun clear => ?_, fun pending => ⟨_, rfl, ?_⟩⟩
      · have clear' : u.engine.closePending = false := by rw [before]; exact clear
        rw [State.setEngine_closed clear', clear]
        exact congrArg _ (State.retryRingClosed_of_none (s := u) (by rw [before]; exact requeue))
      · rw [pending]
        have cleared : State.closeCleared true (u.setEngine { u.engine with closePending := false })
            = (u.setEngine { u.engine with closePending := false }).takeHeadStep := rfl
        rw [cleared, State.retryRingClosed_of_none]
        · exact takeHeadStep_taken _
        · rw [requeue_of_closing (takeHeadStep_closing _), before]
          exact requeue
    · have owns : u.ownsErector = true := by
        rw [before, State.ownsErector_of_node (s := s) (t := s.setWire none) rfl]
        simp [State.ownsErector, configured, owner]
      have next' : ringOf payload = some u.nextRing := by rw [before]; exact next
      have taken : u.takeRingClosed s.own payload = u.ringClosedAt u.nextRing :=
        State.takeRingClosed_of_next (by rw [before]; exact configured) (by rw [before]; exact owner) next'
      have closed := State.ringClosedAt_closed u.nextRing u
      obtain ⟨-, -, -, -, -, -, -, -, -, engine, -⟩ := closed
      obtain ⟨-, -, -, clear, held, -⟩ := engine owns
      rw [taken, State.setEngine_closed clear, State.closeCleared_of_noBuild (State.not_build_of_inHold held),
        State.retryRingClosed_of_none (State.ringClosedAt_requeue _ owns (by rw [before]; exact requeue))]
      have same : s.nextRing = u.nextRing := by rw [before]; rfl
      rw [same]
      exact ⟨_, rfl, State.ringClosedAt_closed u.nextRing u⟩
  · have run : exec (.ringSet sender target payload) s = .next (s.takeRingSet payload) := congrArg _ (receive_of_hearsConsole heard)
    rw [run]
    refine ⟨fun ignored => congrArg _ (State.takeRingSet_of_ignored ignored), fun n configured held form least most => ?_⟩
    rw [State.takeRingSet_of_number configured held form least most]
    refine ⟨fun other => congrArg _ (if_neg (by simp [other])), fun owner => ⟨fun waits => ?_, fun suspended stalled => ?_⟩⟩
    all_goals rw [if_pos owner, State.ownerRingSet_of_held (s := s.setRing n) held]
    · have waits' : (s.setRing n).engine.state = .suspended ∨ (s.setRing n).engine.state = .stalled := waits
      rw [if_pos waits', State.dropStep_eq, State.popHeadStep_plans_congr (s := s) (t := s.setRing n) rfl]
      rfl
    · have none' : ¬((s.setRing n).engine.state = .suspended ∨ (s.setRing n).engine.state = .stalled) :=
        fun h => h.elim suspended stalled
      rw [if_neg none']
      rfl

end
end

section
/-! PROOFS. The answers to a stage's zone requests: the stage complete, the step done (O24). -/

-- In one thread: each proof that waits for those before it would keep a thread of its own.
set_option Elab.async false

namespace Sys2Proof.Machine

theorem mem_insertNumber (n m : Nat) (l : List Nat) : m ∈ insertNumber n l ↔ m = n ∨ m ∈ l := by
  induction l with
  | nil => simp [insertNumber]
  | cons k l ih =>
    unfold insertNumber
    split
    · simp
    split
    · rename_i same
      simp [same]
    · simp only [List.mem_cons, ih]
      tauto

namespace State

variable {s : State} {sender : Nat} {payload : List Byte} {stage : EngineState} {p : Plan} {st : PlanStep}

/-! ### An answer counted (R123) -/

theorem takeZoneAnswer_of_form (form : zoneFields payload = none) : s.takeZoneAnswer stage sender payload = s := by
  simp only [takeZoneAnswer, form]

theorem takeZoneAnswer_of_ignored {f : Nat × Nat × Nat} (form : zoneFields payload = some f)
    (ignored : ¬s.TakesAnswer sender f ∨ s.engine.state ≠ stage) : s.takeZoneAnswer stage sender payload = s := by
  rw [← answerFits_iff] at ignored
  simp only [takeZoneAnswer, form]
  exact if_neg fun h => ignored.elim (· h.2) (· h.1)

/-- The engine with the sender's answer. -/
def answered (s : State) (sender : Nat) : State := s.setEngine { s.engine with answered := insertNumber sender s.engine.answered }

theorem takeZoneAnswer_of_taken {f : Nat × Nat × Nat} (form : zoneFields payload = some f) (takes : s.TakesAnswer sender f)
    (state : s.engine.state = stage) : s.takeZoneAnswer stage sender payload = s.countAnswer sender := by
  simp only [takeZoneAnswer, form]
  exact if_pos ⟨state, (answerFits_iff s sender f).2 takes⟩

theorem all_answered_iff : ((s.answered sender).engine.zoneMembers.all (s.answered sender).engine.answered.contains) = true
    ↔ ∀ m ∈ s.engine.zoneMembers, m = sender ∨ m ∈ s.engine.answered := by
  rw [List.all_eq_true]
  refine forall₂_congr fun m _ => ?_
  rw [List.contains_iff_mem]
  exact mem_insertNumber sender m _

theorem countAnswer_of_more (more : ∃ m ∈ s.engine.zoneMembers, m ≠ sender ∧ m ∉ s.engine.answered) :
    s.countAnswer sender = s.answered sender := by
  refine if_neg fun all => ?_
  obtain ⟨m, member, other, missing⟩ := more
  exact (all_answered_iff.1 all m member).elim other missing

variable (all : ∀ m ∈ s.engine.zoneMembers, m = sender ∨ m ∈ s.engine.answered)
include all

theorem countAnswer_of_cleared (state : s.engine.state = .clearing) (member : s.node.state = .member)
    (step : s.currentStep = some (p, st)) : s.countAnswer sender = s.setEngine { s.engine with
      state := .placing, zoneMembers := [], answered := [], limit := some 120000, erector := .placing
      erectorCommand := .place st.position st.kind st.rotation } := by
  have state' : (s.answered sender).engine.state = .clearing := state
  refine (if_pos (all_answered_iff.2 all)).trans ?_
  have step' : ((s.answered sender).setEngine { (s.answered sender).engine with
      state := .placing, zoneMembers := [], answered := [], limit := none }).currentStep = some (p, st) := step
  simp only [answered] at state' step' ⊢
  simp only [state', enterPlacing, commandPlace, step']
  exact (congrArg (fun u : State => u.setEngine { u.engine with limit := some Config.placementLimit }) (if_pos member))

theorem countAnswer_of_held (state : s.engine.state = .reseating) (step : s.currentStep = some (p, st)) :
    s.countAnswer sender = (s.answered sender).stepDone p st := by
  have state' : (s.answered sender).engine.state = .reseating := state
  have step' : (s.answered sender).currentStep = some (p, st) := step
  refine (if_pos (all_answered_iff.2 all)).trans ?_
  simp only [answered] at state' step' ⊢
  simp only [state', step']

omit all

/-! ### A step done (R127, R113) -/

/-- The engine after a step done, the step out of the store. -/
def stepLeft (s : State) (state : EngineState) (stopping : Bool) : State :=
  (s.setPlans s.popHeadStep.plans).setEngine { s.engine with
    state := state, seated := none, zoneMembers := [], answered := [], limit := none, stopping := stopping }

/-- Where the engine goes after a step done. -/
def afterState (s : State) : EngineState := if s.engine.stopping then .disabled else .idle

theorem popHeadStep_answered : (s.answered sender).popHeadStep = (s.answered sender).setPlans s.popHeadStep.plans := by
  rw [popHeadStep_plans, popHeadStep_plans_congr (s := s) (t := s.answered sender) rfl]

theorem stepDone_standard (kind : st.kind = .standard) :
    (s.answered sender).stepDone p st = (s.stepLeft s.afterState false).takeHeadStep := by
  simp only [stepDone, kind, popHeadStep_answered]
  rfl

theorem stepDone_incomplete (kind : st.kind = .key) (open' : s.ringFull = false) : (s.answered sender).stepDone p st
    = ((s.setPlans s.popHeadStep.plans).setEngine { s.engine with
        state := .faulted, seated := none, zoneMembers := [], answered := [], limit := none, stopping := false
        fault := some ⟨.incomplete, p.identifier, st.index, st.position⟩ }).notify .planFault := by
  simp only [stepDone, kind, popHeadStep_answered]
  exact if_neg (show ¬s.ringFull = true by simp [open'])

/-- The engine with the close of the ring pending, before its frame is queued. -/
def closingRing (s : State) : State :=
  (s.setPlans s.popHeadStep.plans).setEngine { s.engine with
    seated := none, zoneMembers := [], answered := [], limit := none, closePending := true }

theorem stepDone_full (kind : st.kind = .key) (full : s.ringFull = true) : (s.answered sender).stepDone p st
    = (s.closingRing.queueFrame (.ringClosed (bytes16 s.nextRing))).afterStep := by
  simp only [stepDone, kind, popHeadStep_answered]
  exact if_pos full

theorem stepDone_full_of_hasPlace (kind : st.kind = .key) (full : s.ringFull = true) (place : s.HasPlace) :
    ((s.answered sender).stepDone p st).engine = { s.closingRing.engine with state := s.afterState, stopping := false }
    ∧ ∃ q ∈ ((s.answered sender).stepDone p st).link.queue, q.frame.body = .ringClosed (bytes16 s.nextRing) := by
  rw [stepDone_full kind full]
  refine ⟨?_, queueFrame_holds s.closingRing _ place rfl⟩
  rw [queueFrame_of_hasPlace s.closingRing _ place rfl]
  rfl

/-! ### What the close of a ring in the middle of a delivery leaves (R129) -/

/-- What no test for the head step and no frame queued changes. -/
structure KeepsSteps (s t : State) : Prop where
  plans : t.plans = s.plans
  placed : t.engine.placed = s.engine.placed
  records : s.KeepsRecords t
  thrust : t.thrust = s.thrust
  drive : t.drive = s.drive
  grout : t.grout = s.grout
  muck : t.muck = s.muck

theorem KeepsSteps.trans {t u : State} (h : s.KeepsSteps t) (g : t.KeepsSteps u) : s.KeepsSteps u where
  plans := g.plans.trans h.plans
  placed := g.placed.trans h.placed
  thrust := g.thrust.trans h.thrust
  drive := g.drive.trans h.drive
  grout := g.grout.trans h.grout
  muck := g.muck.trans h.muck
  records := by
    obtain ⟨node, channels, overrides, ring, view, index, pending⟩ := h.records
    obtain ⟨node', channels', overrides', ring', view', index', pending'⟩ := g.records
    exact ⟨node'.trans node, channels'.trans channels, overrides'.trans overrides, ring'.trans ring, view'.trans view,
      index'.trans index, pending'.trans pending⟩

theorem KeepsSteps.refl (s : State) : s.KeepsSteps s := ⟨rfl, rfl, ⟨rfl, rfl, rfl, rfl, rfl, rfl, rfl⟩, rfl, rfl, rfl, rfl⟩

theorem KeepsSteps.queueFrame (body : Body) (s : State) : s.KeepsSteps (s.queueFrame body) := by
  refine ⟨?_, ?_, ⟨?_, ?_, ?_, ?_, ?_, ?_, ?_⟩, ?_, ?_, ?_, ?_⟩ <;> simp

theorem KeepsSteps.takeHeadStep (s : State) : s.KeepsSteps s.takeHeadStep := by
  refine ⟨?_, ?_, ⟨?_, ?_, ?_, ?_, ?_, ?_, ?_⟩, ?_, ?_, ?_, ?_⟩ <;> simp

theorem KeepsSteps.closeCleared (before : Bool) (s : State) : s.KeepsSteps (s.closeCleared before) := by
  unfold State.closeCleared
  split
  · exact takeHeadStep s
  · exact refl s

theorem KeepsSteps.retryRingClosed (s : State) : s.KeepsSteps s.retryRingClosed := by
  refine ⟨?_, ?_, ⟨?_, ?_, ?_, ?_, ?_, ?_, ?_⟩, ?_, ?_, ?_, ?_⟩ <;> simp

theorem KeepsSteps.stepDone_full (kind : st.kind = .key) (full : s.ringFull = true) :
    (s.setPlans s.popHeadStep.plans).KeepsSteps ((s.answered sender).stepDone p st) := by
  rw [State.stepDone_full kind full]
  have before : (s.setPlans s.popHeadStep.plans).KeepsSteps s.closingRing :=
    ⟨rfl, rfl, ⟨rfl, rfl, rfl, rfl, rfl, rfl, rfl⟩, rfl, rfl, rfl, rfl⟩
  have queued := before.trans (queueFrame (.ringClosed (bytes16 s.nextRing)) _)
  exact queued.trans ⟨rfl, rfl, ⟨rfl, rfl, rfl, rfl, rfl, rfl, rfl⟩, rfl, rfl, rfl, rfl⟩

end State

/-! ### An answer that reaches the blocks (R9, R11) -/

/-- The answer reaches the node's blocks: its sender's frame accepted, or the owner's own heard back. -/
abbrev AnswerReaches (payload : List Byte) (i : Instr) (sender : Nat) (stage : EngineState) (s u : State) : Prop :=
  stage = .clearing ∧ s.Reaches (fun station target => .zoneCleared station target payload) (.zoneCleared payload) i sender u
    ∨ stage = .reseating ∧ s.Reaches (fun station target => .zoneHeld station target payload) (.zoneHeld payload) i sender u

section
variable {payload : List Byte} {i : Instr} {sender : Nat} {stage : EngineState} {s u : State}

theorem exec_zoneAnswer (reaches : AnswerReaches payload i sender stage s u)
    (kept : u.engine.requeue = none → (u.takeZoneAnswer stage sender payload).closing = u.closing) :
    exec i s = .next (u.takeZoneAnswer stage sender payload) := by
  rcases reaches with ⟨rfl, reaches⟩ | ⟨rfl, reaches⟩
  · exact exec_reaches (fun sender s => s.takeZoneAnswer .clearing sender payload) reaches
      (fun _ _ heard => congrArg _ (receive_of_hearsPeer heard)) (fun _ configured member => if_pos (by simp [configured, member]))
      rfl kept
  · exact exec_reaches (fun sender s => s.takeZoneAnswer .reseating sender payload) reaches
      (fun _ _ heard => congrArg _ (receive_of_hearsPeer heard)) (fun _ configured member => if_pos (by simp [configured, member]))
      rfl kept

/-- The answer that ends a KEY step may clear close pending again, where its RING_CLOSED finds no place; the engine then
tests for the head step. -/
theorem exec_zoneHeld (reaches : s.Reaches (fun station target => .zoneHeld station target payload) (.zoneHeld payload) i sender u) :
    exec i s = .next (u.takeZoneAnswer .reseating sender payload)
    ∨ ∃ before, u.engine.requeue = none
      ∧ exec i s = .next ((u.takeZoneAnswer .reseating sender payload).closeCleared before).retryRingClosed := by
  rcases reaches with ⟨a, b, rfl, heard, rfl, rfl⟩ | ⟨w, rfl, onWire, won, body, tag, configured, member, none', rfl, rfl⟩
  · exact .inl (congrArg _ (receive_of_hearsPeer heard))
  · refine .inr ⟨s.engine.closePending, none', ?_⟩
    have delivered : (s.setWire none).deliverOwn w.tx.frame.body = (s.setWire none).takeZoneAnswer .reseating s.own payload := by
      rw [body]
      exact if_pos (Bool.and_eq_true_iff.2 ⟨configured, member⟩)
    rw [exec_loopback_same onWire won]
    unfold State.heardBack
    dsimp only
    rw [delivered]
    simp only [State.reportSent, tag, body]

end

end Sys2Proof.Machine

section
open Sys2Proof Sys2Proof.Machine

/-- Settles O24: an answer is counted, and the last of a stage starts the placement or ends the step. -/
theorem zoneAnswersTaken : Obligations.ZoneAnswersTaken := by
  unfold Obligations.ZoneAnswersTaken
  intro payload i sender stage s u reaches
  refine ⟨fun length => ?_, fun f form => ⟨fun ignored => ?_, fun takes state => ⟨fun more => ?_, fun p st step all =>
    ⟨fun clearing member => ?_, fun held => ?_⟩⟩⟩⟩
  · have same := State.takeZoneAnswer_of_form (s := u) (stage := stage) (sender := sender) (State.zoneFields_of_length length)
    rw [exec_zoneAnswer reaches fun _ => by rw [same], same]
  · have same := State.takeZoneAnswer_of_ignored form ignored
    rw [exec_zoneAnswer reaches fun _ => by rw [same], same]
  · have counted := (State.takeZoneAnswer_of_taken form takes state).trans (State.countAnswer_of_more more)
    rw [exec_zoneAnswer reaches fun _ => by rw [counted]; rfl, counted]
    rfl
  · have placing := (State.takeZoneAnswer_of_taken form takes state).trans
      (State.countAnswer_of_cleared all (state.trans clearing) member step)
    rw [exec_zoneAnswer reaches fun _ => by rw [placing]; rfl, placing]
  · subst held
    have done := (State.takeZoneAnswer_of_taken form takes state).trans (State.countAnswer_of_held all state step)
    have run := exec_zoneAnswer reaches
    rw [done] at run
    cases kind : st.kind with
    | standard =>
      rw [State.stepDone_standard kind] at run
      have kept := State.KeepsSteps.takeHeadStep (u.stepLeft u.afterState false)
      refine ⟨_, run fun _ => takeHeadStep_closing _, kept.plans, kept.placed, kept.records, kept.thrust, kept.drive, kept.grout,
        kept.muck, fun _ => takeHeadStep_taken _, (nomatch ·), (nomatch ·)⟩
    | key =>
      cases full : u.ringFull with
      | false =>
        rw [State.stepDone_incomplete kind full] at run
        exact ⟨_, run fun _ => rfl, rfl, rfl, ⟨rfl, rfl, rfl, rfl, rfl, rfl, rfl⟩, rfl, rfl, rfl, rfl, (nomatch ·),
          (fun _ full' => absurd full' (by decide)), fun _ _ => ⟨rfl, rfl, rfl, notify_noticed _ .planFault⟩⟩
      | true =>
        have kept := State.KeepsSteps.stepDone_full (p := p) (sender := sender) kind full
        have placed := State.stepDone_full_of_hasPlace (p := p) (sender := sender) kind full
        obtain ⟨t, run', kept', same⟩ : ∃ t, exec i s = .next t
            ∧ (u.setPlans u.popHeadStep.plans).KeepsSteps t ∧ (u.HasPlace → t = (u.answered sender).stepDone p st) := by
          rcases exec_zoneHeld (reaches.resolve_left fun h => nomatch h.1).2 with run' | ⟨before, none', run'⟩
          · rw [done] at run'
            exact ⟨_, run', kept, fun _ => rfl⟩
          · rw [done] at run'
            refine ⟨_, run', (kept.trans (.closeCleared before _)).trans (.retryRingClosed _), fun place => ?_⟩
            obtain ⟨engine, -⟩ := placed place
            have pending : State.closeCleared before ((u.answered sender).stepDone p st) = (u.answered sender).stepDone p st :=
              if_neg (by simp [engine, State.closingRing])
            rw [pending, State.retryRingClosed_of_none (by rw [engine]; exact none')]
        refine ⟨t, run', kept'.plans, kept'.placed, kept'.records, kept'.thrust, kept'.drive, kept'.grout, kept'.muck, (nomatch ·),
          fun _ _ place => ?_, fun _ full' => absurd full' (by decide)⟩
        obtain ⟨engine, queued⟩ := placed place
        rw [same place, engine]
        exact ⟨rfl, rfl, rfl, queued⟩

end
end

section
/-! PROOFS. What the settling of the advance does to the cylinder records and the zone request in flight (R61, R66 to R72): what a
report, an override and a cancel need of it (O23, O42, O43). -/

-- In one thread: each proof that waits for those before it would keep a thread of its own.
set_option Elab.async false

namespace Sys2Proof.Machine

namespace State

/-- What a hold or stroke reached may make of a cylinder: its state and target at most, and not those of a FAILED one or of a
pinned one that does not advance. -/
structure Settled (s : State) (c d : Cylinder) : Prop where
  number : d.number = c.number
  stroke : d.stroke = c.stroke
  pressure : d.pressure = c.pressure
  fault : d.fault = c.fault
  origin : d.origin = c.origin
  failed : c.state = .failed → d = c
  pinned : c.state ≠ .advancing → s.cylPinned c = true → d = c

/-- Every cylinder is settled so, and the zone request in flight stands or is dropped. -/
structure SettlesTo (s t : State) : Prop where
  overrides : t.overrides = s.overrides
  zone : t.thrust.zone = s.thrust.zone ∨ t.thrust.zone = none
  cylinders : ∃ f : Cylinder → Cylinder, t.thrust.cylinders = s.thrust.cylinders.map f ∧ ∀ c, s.Settled c (f c)

theorem cylPinned_congr {s t : State} {c d : Cylinder} (overrides : t.overrides = s.overrides) (number : d.number = c.number) :
    t.cylPinned d = s.cylPinned c := by
  simp [cylPinned, pinned, override?, overrides, number]

namespace Settled

variable {s t : State} {c d e : Cylinder}

theorem refl (s : State) (c : Cylinder) : s.Settled c c := ⟨rfl, rfl, rfl, rfl, rfl, fun _ => rfl, fun _ _ => rfl⟩

theorem trans (overrides : t.overrides = s.overrides) (h : s.Settled c d) (g : t.Settled d e) : s.Settled c e where
  number := g.number.trans h.number
  stroke := g.stroke.trans h.stroke
  pressure := g.pressure.trans h.pressure
  fault := g.fault.trans h.fault
  origin := g.origin.trans h.origin
  failed := fun failed => by
    have same := h.failed failed
    subst same
    exact g.failed failed
  pinned := fun still pin => by
    have same := h.pinned still pin
    subst same
    exact g.pinned still ((cylPinned_congr overrides rfl).trans pin)

/-- A cylinder that stops advancing. -/
theorem bearing (advancing : c.state = .advancing) : s.Settled c { c with state := .bearing } :=
  ⟨rfl, rfl, rfl, rfl, rfl, fun failed => by simp [advancing] at failed, fun still => absurd advancing still⟩

end Settled

namespace SettlesTo

variable {s t u : State}

theorem of_same (thrust : t.thrust = s.thrust) (overrides : t.overrides = s.overrides) : s.SettlesTo t :=
  ⟨overrides, .inl (by rw [thrust]), id, by rw [thrust, List.map_id], Settled.refl s⟩

theorem refl (s : State) : s.SettlesTo s := of_same rfl rfl

theorem trans (h : s.SettlesTo t) (g : t.SettlesTo u) : s.SettlesTo u := by
  obtain ⟨overrides, zone, f, moved, settled⟩ := h
  obtain ⟨overrides', zone', f', moved', settled'⟩ := g
  refine ⟨overrides'.trans overrides, ?_, f' ∘ f, ?_, fun c => (settled c).trans overrides (settled' (f c))⟩
  · rcases zone' with same | gone
    · rw [same]
      exact zone
    · exact .inr gone
  · rw [moved', moved, List.map_map]

theorem of_fields (cylinders : t.thrust.cylinders = s.thrust.cylinders) (zone : t.thrust.zone = s.thrust.zone)
    (overrides : t.overrides = s.overrides) : s.SettlesTo t :=
  ⟨overrides, .inl zone, id, by rw [cylinders, List.map_id], Settled.refl s⟩

theorem thrustEntersHold (fromBore : Bool) (s : State) : s.SettlesTo (s.thrustEntersHold fromBore) := by
  refine ⟨rfl, .inr rfl, _, rfl, fun c => ?_⟩
  split
  · rename_i left
    exact .bearing left.1
  split
  · rename_i parks
    obtain ⟨state, free⟩ := parks
    exact ⟨rfl, rfl, rfl, rfl, rfl, fun failed => by simp [failed] at state, fun _ pin => by simp [pin] at free⟩
  · exact .refl s c

theorem imposeHold (cause : HoldCause) (s : State) : s.SettlesTo (s.imposeHold cause) := by
  have thrust := imposeHold_thrust cause s false
  have overrides : (s.imposeHold cause).overrides = s.overrides := by simp
  cases phase : s.machine.phase with
  | hold now => exact of_same (by rw [thrust, phase]) overrides
  | bore =>
    exact (SettlesTo.thrustEntersHold true s).trans (of_same (by rw [thrust, phase]) overrides)
  | build =>
    exact (SettlesTo.thrustEntersHold false s).trans (of_same (by rw [thrust, phase]) overrides)

theorem imposeHold_if (p : Prop) [Decidable p] (cause : HoldCause) (s : State) :
    s.SettlesTo (if p then s.imposeHold cause else s) := by
  split
  · exact imposeHold cause s
  · exact refl s

theorem setPorts (ports : List Port) (s : State) : s.SettlesTo (s.setPorts ports) := of_same rfl rfl

theorem setMuck (m : MuckUnit) (s : State) : s.SettlesTo (s.setMuck m) := of_same rfl rfl

theorem setCredited (n : Nat) (s : State) : s.SettlesTo (s.setThrust { s.thrust with credited := n }) := of_fields rfl rfl rfl

theorem setSectorAdvance (n : Nat) (s : State) : s.SettlesTo (s.setThrust { s.thrust with sectorAdvance := n }) :=
  of_fields rfl rfl rfl

theorem testGrout (s : State) : s.SettlesTo s.testGrout := of_fields (by simp) (by simp) (by simp)

theorem testDose (s : State) : s.SettlesTo s.testDose := of_same (by simp) (by simp)

theorem testSteer (s : State) : s.SettlesTo s.testSteer := of_fields (by simp) (by simp) (by simp)

theorem groutIncrement (d : Nat) (s : State) : s.SettlesTo (s.groutIncrement d) := by
  unfold State.groutIncrement
  dsimp only
  exact ((setPorts _ s).trans (testGrout _)).trans ((imposeHold_if _ _ _).trans (testDose _))

theorem creditAdvance (s : State) : s.SettlesTo s.creditAdvance := by
  unfold State.creditAdvance
  split
  · exact (setCredited _ s).trans (groutIncrement _ _)
  · exact refl s

theorem testStrokeReached (s : State) : s.SettlesTo s.testStrokeReached := by
  unfold State.testStrokeReached
  split
  · refine ⟨rfl, .inl rfl, _, rfl, fun c => ?_⟩
    split
    · exact .bearing ‹_›
    · exact .refl s c
  · exact refl s

theorem evaluateOverdig (s : State) : s.SettlesTo s.evaluateOverdig := by
  unfold State.evaluateOverdig
  split
  · exact (setMuck _ s).trans (imposeHold _ _)
  split
  · exact setMuck _ s
  · exact refl s

theorem updateMachineAdvance (s : State) : s.SettlesTo s.updateMachineAdvance := by
  unfold State.updateMachineAdvance
  split
  · exact (setMuck _ s).trans (evaluateOverdig _)
  · exact refl s

theorem recomputeAdvance (s : State) : s.SettlesTo s.recomputeAdvance := by
  unfold State.recomputeAdvance
  split
  · have settled := (((setSectorAdvance s.computedAdvance s).trans (creditAdvance _)).trans (testSteer _)).trans
      (testStrokeReached _)
    dsimp only
    split
    · exact settled
    · exact (settled.trans (imposeHold_if _ _ _)).trans (updateMachineAdvance _)
  · exact refl s

theorem testZone (s : State) : s.SettlesTo s.testZone := by
  unfold State.testZone
  split
  · exact refl s
  · have answered (v : State) (cylinders : v.thrust.cylinders = s.thrust.cylinders) (zone : v.thrust.zone = none)
        (overrides : v.overrides = s.overrides) : s.SettlesTo v :=
      ⟨overrides, .inr zone, id, by rw [cylinders, List.map_id], Settled.refl s⟩
    dsimp only
    split
    · exact answered _ (by simp) (by simp) (by simp)
    split
    · exact answered _ (by simp) (by simp) (by simp)
    · exact refl s

theorem cylinderPinChanged (n : Nat) (s : State) : s.SettlesTo (s.cylinderPinChanged n) := by
  unfold State.cylinderPinChanged
  refine (recomputeAdvance s).trans ?_
  dsimp only
  split
  · exact testZone _
  · exact refl _

/-- The record of a cylinder, found by its number. -/
theorem cylinder? (h : s.SettlesTo t) {n : Nat} {c : Cylinder} (found : s.cylinder? n = some c) :
    ∃ d, t.cylinder? n = some d ∧ s.Settled c d := by
  obtain ⟨-, -, f, moved, settled⟩ := h
  refine ⟨f c, ?_, settled c⟩
  have same : (fun c => c.number == n) ∘ f = fun c : Cylinder => c.number == n := by
    funext c
    simp [(settled c).number]
  unfold State.cylinder? at found ⊢
  rw [moved, List.find?_map, same, found]
  rfl

/-- A request in flight that does not hold a cylinder does not come to hold it. -/
theorem inFlightZoneHas (h : s.SettlesTo t) (node : t.node = s.node) {n : Nat} (free : s.inFlightZoneHas n = false) :
    t.inFlightZoneHas n = false := by
  unfold State.inFlightZoneHas at free ⊢
  have position (z : Nat) : (t.zonePosition t.own z) = s.zonePosition s.own z := by
    simp [zonePosition, memberSection?, State.cfg, own, node]
  rcases h.zone with same | gone
  · rw [same]
    simpa only [position] using free
  · rw [gone]

end SettlesTo

end State

end Sys2Proof.Machine
end

section
/-! PROOFS. OVERRIDE: the entry in the table, and what the forced state makes of the item (O42). -/

-- In one thread: each proof that waits for those before it would keep a thread of its own.
set_option Elab.async false

namespace Sys2Proof.Machine

namespace State

variable {s t : State} {station : Station} {kind : ItemKind} {forced : ForcedState} {n : Nat}

/-! ### The advance settled, told of an earlier state (R66) -/

/-- The advance is settled as from a state that has the same advances, grout unit and node. -/
theorem AdvanceSettled.of_before {u : State} (h : u.AdvanceSettled t) (advance : u.thrust.sectorAdvance = s.thrust.sectorAdvance)
    (credited : u.thrust.credited = s.thrust.credited) (reached : u.thrust.strokeReached = s.thrust.strokeReached)
    (pause : u.thrust.steerPause = s.thrust.steerPause) (ports : u.grout.ports = s.grout.ports) (node : u.node = s.node) :
    s.AdvanceSettled t := by
  have cfg : u.cfg = s.cfg := by simp [State.cfg, node]
  have factor (n : Nat) : u.portFactor n = s.portFactor n := by simp [portFactor, ownSection_of_node node]
  unfold AdvanceSettled AdvanceIsLeast at h ⊢
  simpa only [advance, credited, reached, pause, ports, cfg, factor] using h

/-! ### The table (R183) -/

theorem isFor_iff (e : OverrideEntry) : e.isFor kind n = true ↔ e.kind = kind ∧ e.number = n := by
  simp [OverrideEntry.isFor]

theorem pinned_eq_any : s.pinned kind n = s.overrides.any fun e => e.isFor kind n := by
  rw [Bool.eq_iff_iff, Keeps.pinned_iff, List.any_eq_true]
  simp only [isFor_iff]

theorem override?_eq : s.override? kind n = s.overrides.find? fun e => e.isFor kind n := rfl

theorem enterOverride_overrides : (s.enterOverride ⟨kind, n, forced⟩).overrides
    = if s.pinned kind n then s.overrides.map fun e => if e.kind = kind ∧ e.number = n then ⟨kind, n, forced⟩ else e
      else s.overrides ++ [⟨kind, n, forced⟩] := by
  rw [pinned_eq_any]
  unfold enterOverride
  split
  · refine List.map_congr_left fun e _ => ?_
    exact if_congr (isFor_iff e) rfl rfl
  · rfl

/-- Replacing an item's entry leaves whose entry each is. -/
theorem isFor_replaced (e : OverrideEntry) (kind' : ItemKind) (n' : Nat) :
    (if e.kind = kind ∧ e.number = n then (⟨kind, n, forced⟩ : OverrideEntry) else e).isFor kind' n' = e.isFor kind' n' := by
  split
  · rename_i same
    simp [OverrideEntry.isFor, same.1, same.2]
  · rfl

theorem override?_enterOverride : (s.enterOverride ⟨kind, n, forced⟩).override? kind n = some ⟨kind, n, forced⟩ := by
  rw [override?_eq, enterOverride_overrides]
  cases pin : s.pinned kind n with
  | true =>
    obtain ⟨e, found⟩ := Option.isSome_iff_exists.1 pin
    rw [override?_eq] at found
    have own : e.isFor kind n = true := List.find?_some (p := fun e : OverrideEntry => e.isFor kind n) found
    rw [if_pos rfl, List.find?_map, Function.comp_def]
    simp only [isFor_replaced]
    rw [found, Option.map_some, if_pos ((isFor_iff e).1 own)]
  | false =>
    have absent : s.overrides.find? (fun e => e.isFor kind n) = none := by
      rw [← override?_eq]
      simpa [pinned] using pin
    rw [if_neg Bool.false_ne_true, List.find?_append, absent]
    simp [OverrideEntry.isFor]

theorem override?_enterOverride_ne {kind' : ItemKind} {n' : Nat} (other : kind' ≠ kind ∨ n' ≠ n) :
    (s.enterOverride ⟨kind, n, forced⟩).override? kind' n' = s.override? kind' n' := by
  have apart (e : OverrideEntry) (own : e.isFor kind' n' = true) : ¬(e.kind = kind ∧ e.number = n) := by
    obtain ⟨kinds, numbers⟩ := (isFor_iff e).1 own
    exact fun h => other.elim (· (kinds.symm.trans h.1)) (· (numbers.symm.trans h.2))
  rw [override?_eq, override?_eq, enterOverride_overrides]
  split
  · rw [List.find?_map, Function.comp_def]
    simp only [isFor_replaced]
    cases found : s.overrides.find? (fun e => e.isFor kind' n') with
    | none => rfl
    | some e => rw [Option.map_some, if_neg (apart e (List.find?_some (p := fun e : OverrideEntry => e.isFor kind' n') found))]
  · have new : (⟨kind, n, forced⟩ : OverrideEntry).isFor kind' n' = false := by
      rw [← Bool.not_eq_true]
      exact fun own => apart _ own ⟨rfl, rfl⟩
    rw [List.find?_append]
    simp [new]

/-! ### The forced state applied (R185 to R187) -/

theorem cylinderPinChanged_of_free (free : s.inFlightZoneHas n = false) : s.cylinderPinChanged n = s.recomputeAdvance :=
  if_neg (by rw [(SettlesTo.recomputeAdvance s).inFlightZoneHas (by simp) free]; decide)

theorem recomputeAdvance_of_noBore (out : s.machine.phase ≠ .bore) : s.recomputeAdvance = s := if_neg out

/-- What a forced state makes of its cylinder. -/
def forceCylinder (s : State) (forced : ForcedState) (c : Cylinder) : Cylinder :=
  if forced = .forceBear then s.forceBear c else s.forceClear c

theorem forceCylinder_forced (cylinder : forced = .forceBear ∨ forced = .forceClear) (c : Cylinder) :
    s.CylinderForced forced c (s.forceCylinder forced c) := by
  rcases cylinder with rfl | rfl
  · exact forceBear_forced s c
  · exact forceClear_forced s c

theorem applyForced_cylinder (cylinder : forced = .forceBear ∨ forced = .forceClear) (free : s.inFlightZoneHas n = false) :
    s.applyForced forced n = (s.updateCylinder n (s.forceCylinder forced)).recomputeAdvance := by
  rcases cylinder with rfl | rfl
  · exact cylinderPinChanged_of_free (s := s.updateCylinder n s.forceBear) free
  · exact cylinderPinChanged_of_free (s := s.updateCylinder n s.forceClear) free

theorem forceCylinder_number (c : Cylinder) : (s.forceCylinder forced c).number = c.number := by
  unfold forceCylinder forceBear forceClear
  repeat' split
  all_goals rfl

theorem forceCylinder_notAdvancing (c : Cylinder) : (s.forceCylinder forced c).state ≠ .advancing := by
  unfold forceCylinder forceBear forceClear
  repeat' split
  all_goals simp_all

theorem forceCylinder_congr {u : State} (node : u.node = s.node) (c : Cylinder) :
    u.forceCylinder forced c = s.forceCylinder forced c := by
  simp [forceCylinder, State.forceBear, State.forceClear, cfg, node]

/-- A drive tested while it is pinned does not run. -/
theorem testDrive_of_pinned {d : Drive} (pin : s.pinned .drive d.number = true) :
    (s.testDrive d).state ≠ .starting ∧ (s.testDrive d).state ≠ .running := by
  have stays : s.runCondition d = false := by simp [runCondition, pin]
  exact ⟨fun run => by simp [Keeps.testDrive_runs (.inl run)] at stays, fun run => by simp [Keeps.testDrive_runs (.inr run)] at stays⟩

/-- A dose in flight at a port that is shut ends, and the next one is at another port. -/
theorem shutPort_dose (pin : s.pinned .port n = true) {d : Dose} (dose : (s.shutPort n).grout.dose = some d) (port : d.port = n) :
    d.ending.isSome = true := by
  obtain ⟨u, hu, overrides, ended⟩ : ∃ u : State, s.shutPort n = u.testDose ∧ u.overrides = s.overrides
      ∧ ∀ d : Dose, u.grout.dose = some d → d.port = n → d.ending.isSome = true := by
    cases flight : s.grout.dose with
    | none =>
      refine ⟨s, ?_, rfl, fun d held => by simp [flight] at held⟩
      simp only [shutPort, flight]
    | some e =>
      by_cases here : e.port = n
      · refine ⟨s.endDose .shut, ?_, by simp, fun d held _ => ?_⟩
        · simp only [shutPort, flight, if_pos here]
        · cases ending : e.ending with
          | none =>
            rw [endDose_of_flight .shut flight ending] at held
            cases held
            rfl
          | some how =>
            rw [endDose_idle .shut s (by simp [doseInFlight, flight, ending])] at held
            rw [flight] at held
            cases held
            simp [ending]
      · refine ⟨s, ?_, rfl, fun d held port => absurd port ?_⟩
        · simp only [shutPort, flight, if_neg here]
        · rw [flight] at held
          cases held
          exact here
  rw [hu] at dose
  by_cases condition : u.doseCondition = true
  · cases selected : u.selectPort with
    | none =>
      rw [testDose_of_none (.inr selected)] at dose
      exact ended d dose port
    | some m =>
      rw [testDose_of_port condition selected] at dose
      cases dose
      obtain ⟨p, -, number, eligible⟩ := Keeps.selectPort_eligible selected
      obtain ⟨-, free, -⟩ := (eligible_iff p).1 eligible
      have pin' : u.pinned .port n = true := by simpa [pinned, override?, overrides] using pin
      rw [number, show m = n from port, pin'] at free
      exact nomatch free
  · rw [testDose_of_none (.inl (by simpa using condition))] at dose
    exact ended d dose port

/-! ### What OVERRIDE leaves (R183 to R187) -/

/-- The override settled: the table, and the item's unit. -/
def overridden (s : State) (kind : ItemKind) (n : Nat) (forced : ForcedState) : State :=
  (s.enterOverride ⟨kind, n, forced⟩).applyForced forced n

theorem overridden_overrides : (s.overridden kind n forced).overrides = (s.enterOverride ⟨kind, n, forced⟩).overrides := by
  simp [overridden]

theorem forcedOf_cylinder {b : Byte} (forces : forcedOf .cylinder b = some forced) : forced = .forceBear ∨ forced = .forceClear := by
  unfold forcedOf at forces
  dsimp only at forces
  split at forces
  · exact .inl (Option.some.inj forces).symm
  split at forces
  · exact .inr (Option.some.inj forces).symm
  · exact nomatch forces

theorem forcedOf_off {b : Byte} (forces : forcedOf kind b = some .off) : kind = .drive := by
  cases kind with
  | drive => rfl
  | cylinder | port =>
    unfold forcedOf at forces
    simp only at forces
    repeat' split at forces
    all_goals exact nomatch forces

theorem forcedOf_shut {b : Byte} (forces : forcedOf kind b = some .shut) : kind = .port := by
  cases kind with
  | port => rfl
  | cylinder | drive =>
    unfold forcedOf at forces
    simp only at forces
    repeat' split at forces
    all_goals exact nomatch forces

theorem inFlightZoneHas_of_free (free : s.heldByZone .cylinder n = false) : s.inFlightZoneHas n = false := by
  simpa [heldByZone] using free

theorem overridden_cylinder (cylinder : forced = .forceBear ∨ forced = .forceClear) (free : s.heldByZone .cylinder n = false) :
    s.overridden .cylinder n forced = ((s.enterOverride ⟨.cylinder, n, forced⟩).updateCylinder n (s.forceCylinder forced)).recomputeAdvance := by
  have same : (s.enterOverride ⟨.cylinder, n, forced⟩).forceCylinder forced = s.forceCylinder forced :=
    funext fun c => forceCylinder_congr (by simp) c
  have free' : (s.enterOverride ⟨.cylinder, n, forced⟩).inFlightZoneHas n = false := by
    have zone := inFlightZoneHas_of_free free
    unfold inFlightZoneHas at zone ⊢
    simpa [zonePosition, memberSection?, cfg, own] using zone
  unfold overridden
  rw [applyForced_cylinder cylinder free', same]

theorem overridden_moved (cylinder : forced = .forceBear ∨ forced = .forceClear) (free : s.heldByZone .cylinder n = false)
    (out : s.machine.phase ≠ .bore) : (s.overridden .cylinder n forced).thrust.cylinders
      = s.thrust.cylinders.map fun c => if c.number = n then s.forceCylinder forced c else c := by
  rw [overridden_cylinder cylinder free, recomputeAdvance_of_noBore (by simpa [updateCylinder, mapCylinders] using out)]
  simp [updateCylinder, mapCylinders]

theorem overridden_settled (cylinder : forced = .forceBear ∨ forced = .forceClear) (free : s.heldByZone .cylinder n = false)
    (bore : s.machine.phase = .bore) : s.AdvanceSettled (s.overridden .cylinder n forced)
    ∧ ∀ c, s.cylinder? n = some c →
      (s.overridden .cylinder n forced).cylinder? n = some (s.forceCylinder forced c) := by
  rw [overridden_cylinder cylinder free]
  obtain ⟨v, hv⟩ : ∃ v, v = (s.enterOverride ⟨.cylinder, n, forced⟩).updateCylinder n (s.forceCylinder forced) := ⟨_, rfl⟩
  rw [← hv]
  have bore' : v.machine.phase = .bore := by rw [hv]; simpa [updateCylinder, mapCylinders] using bore
  refine ⟨(recomputeAdvance_settled v bore').1.of_before ?_ ?_ ?_ ?_ ?_ ?_, fun c found => ?_⟩
  iterate 6
    · rw [hv]
      simp [updateCylinder, mapCylinders]
  · have moved : v.cylinder? n = some (s.forceCylinder forced c) := by
      rw [hv, Sys2Proof.Machine.updateCylinder_eq _ _ forceCylinder_number]
      have same : (s.enterOverride ⟨.cylinder, n, forced⟩).cylinder? n = s.cylinder? n := by simp [State.cylinder?]
      rw [same, found]
      rfl
    obtain ⟨d, after, settled⟩ := (SettlesTo.recomputeAdvance v).cylinder? moved
    have number : (s.forceCylinder forced c).number = n := (forceCylinder_number c).trans (find_number found)
    have pin : v.cylPinned (s.forceCylinder forced c) = true := by
      unfold cylPinned pinned
      rw [number, show v.override? .cylinder n = some ⟨.cylinder, n, forced⟩ by
        rw [hv]
        exact override?_enterOverride]
      rfl
    rw [after, settled.pinned (forceCylinder_notAdvancing c) pin]

theorem overridden_off : ∀ d ∈ (s.overridden .drive n .off).drive.drives, d.number = n → d.state ≠ .starting ∧ d.state ≠ .running := by
  intro d held number
  obtain ⟨e, -, rfl⟩ := List.mem_map.1 held
  split at number
  · rename_i here
    rw [if_pos here]
    refine testDrive_of_pinned ?_
    unfold pinned
    rw [here, override?_enterOverride]
    rfl
  · rename_i elsewhere
    exact absurd number elsewhere

theorem overridden_shut {d : Dose} (dose : (s.overridden .port n .shut).grout.dose = some d) (port : d.port = n) :
    d.ending.isSome = true := by
  refine shutPort_dose (s := s.enterOverride ⟨.port, n, .shut⟩) ?_ dose port
  unfold pinned
  rw [override?_enterOverride]
  rfl

/-! ### The service's answers (R184) -/

section
variable (configured : s.configured = true)
include configured

theorem serveOverride_of_length {args : List Byte} (length : args.length ≠ 3) :
    s.serveOverride station true args = s.answer station true .override .format := by
  rw [serveOverride, configuredOnly_of_configured configured]
  simp only [Bool.not_true, Bool.false_eq_true, if_false]
  split
  · exact absurd rfl length
  · rfl

variable {k m f : Byte}

theorem serveOverride_of_form (form : itemKindOf k = none ∨ ∃ kind, itemKindOf k = some kind ∧ forcedOf kind f = none) :
    s.serveOverride station true [k, m, f] = s.answer station true .override .format := by
  rw [serveOverride, configuredOnly_of_configured configured]
  rcases form with none' | ⟨kind, some', none'⟩
  · simp only [Bool.not_true, Bool.false_eq_true, if_false, none']
  · simp only [Bool.not_true, Bool.false_eq_true, if_false, none', some']

theorem serveOverride_of_item (item : itemKindOf k = some kind) (forces : forcedOf kind f = some forced) :
    s.serveOverride station true [k, m, f] = if s.numberOutside kind m.toNat then s.answer station true .override .range
      else if s.heldByZone kind m.toNat then s.answer station true .override .busy
      else if forced = .forceClear ∧ s.minimumFails m.toNat = true then s.answer station true .override .refusedMinimum
      else (s.overridden kind m.toNat forced).answer station true .override .done := by
  rw [serveOverride, configuredOnly_of_configured configured]
  simp only [Bool.not_true, Bool.false_eq_true, if_false, item, forces]
  rfl

end

theorem numberOutside_iff {m : Byte} : s.numberOutside kind m.toNat = true ↔ m = 0 ∨ s.fitted kind < m.toNat := by
  simp only [numberOutside, Bool.or_eq_true, beq_iff_eq, decide_eq_true_eq]
  refine or_congr_left ⟨fun zero => BitVec.eq_of_toNat_eq zero, fun zero => congrArg BitVec.toNat zero⟩

end State

end Sys2Proof.Machine

section
open Sys2Proof Sys2Proof.Machine

/-- Settles O42: OVERRIDE is checked, and enters and applies its forced state. -/
theorem overrideSettled : Obligations.OverrideSettled := by
  unfold Obligations.OverrideSettled
  intro sender target args s heard
  have run : exec (.override sender target args) s = .next (s.serveOverride sender (target != 0) args) :=
    receiveCommand_console heard State.serveOverride args
  rw [run]
  refine ⟨fun not' => ?_, fun configured addressed => ?_⟩
  · by_cases configured : s.configured = true
    · have broadcast : target = 0 := not'.resolve_left (by simp [configured])
      subst broadcast
      rw [State.serveOverride, State.configuredOnly_of_configured configured]
      exact congrArg _ (State.answer_broadcast ..).symm
    · exact congrArg _ (State.configuredOnly_of_unconfigured (by simpa using configured) ..)
  · rw [bne_iff_ne.2 addressed]
    refine ⟨fun length => congrArg _ (State.serveOverride_of_length configured length), fun k n f given => ?_⟩
    subst given
    refine ⟨fun form => congrArg _ (State.serveOverride_of_form configured form), fun kind forced item forces => ?_⟩
    rw [State.serveOverride_of_item configured item forces]
    refine ⟨fun outside => by rw [if_pos (State.numberOutside_iff.2 outside)], fun some' fits held => ?_,
      fun some' fits free => ⟨fun clear fails => ?_, fun permitted => ⟨s.overridden kind n.toNat forced, ?_⟩⟩⟩
    all_goals
      have inside : ¬s.numberOutside kind n.toNat = true :=
        fun outside => (State.numberOutside_iff.1 outside).elim some' (Nat.not_lt.2 fits)
    · rw [if_neg inside, if_pos held]
    · rw [if_neg inside, if_neg (by simp [free]), if_pos ⟨clear, by simp [State.minimumFails, fails]⟩]
    · have allowed : ¬(forced = .forceClear ∧ s.minimumFails n.toNat = true) := fun h => by
        simp [State.minimumFails, permitted h.1] at h
      rw [if_neg inside, if_neg (by simp [free]), if_neg allowed]
      refine ⟨rfl, State.overridden_overrides.trans State.enterOverride_overrides, ?_, fun kind' n' other => ?_, ?_, ?_, ?_,
        fun cylinder out => ?_, fun bore cylinder => ?_, fun off => ?_, fun shut _ d dose port => ?_⟩
      · unfold State.forced
        rw [show (s.overridden kind n.toNat forced).override? kind n.toNat = some ⟨kind, n.toNat, forced⟩ from
          (congrArg (List.find? _) State.overridden_overrides).trans State.override?_enterOverride]
        rfl
      · exact (congrArg (List.find? _) State.overridden_overrides).trans (State.override?_enterOverride_ne other)
      iterate 3
        · simp [State.overridden]
      · subst cylinder
        have which := State.forcedOf_cylinder forces
        exact ⟨s.forceCylinder forced, State.forceCylinder_forced which, State.overridden_moved which free out⟩
      · subst cylinder
        have which := State.forcedOf_cylinder forces
        obtain ⟨settled, found⟩ := State.overridden_settled which free bore
        exact ⟨settled, fun c here => ⟨_, found c here, State.forceCylinder_forced which c⟩⟩
      · subst off
        obtain rfl := State.forcedOf_off forces
        exact State.overridden_off
      · subst shut
        obtain rfl := State.forcedOf_shut forces
        exact State.overridden_shut dose port

end
end

section
/-! PROOFS. A change of the view, a peer that departs, and a peer's beacon (O14). -/

-- In one thread: each proof that waits for those before it would keep a thread of its own.
set_option Elab.async false

namespace Sys2Proof.Machine

namespace State

variable {s t u : State} {peer : Nat}

/-! ### The units see a change of the view (R88, R70, R72, R178) -/

/-- The peers' restraint entries, a HARD hold and the notices stand. -/
structure PeersKept (s t : State) : Prop where
  own : t.own = s.own
  peers : ∀ x, x.1 ≠ s.own → (x ∈ t.thrust.restraints ↔ x ∈ s.thrust.restraints)
  hard : s.machine.phase = .hold .hard → t.machine.phase = .hold .hard
  notices : NoticesKept s t

namespace PeersKept

theorem trans (h : s.PeersKept t) (g : t.PeersKept u) : s.PeersKept u where
  own := g.own.trans h.own
  peers := fun x other => (g.peers x (by rw [h.own]; exact other)).trans (h.peers x other)
  hard := fun hard => g.hard (h.hard hard)
  notices := h.notices.trans g.notices

theorem of_same (own : t.own = s.own) (restraints : t.thrust.restraints = s.thrust.restraints) (machine : t.machine = s.machine)
    (notices : t.console.notices = s.console.notices) : s.PeersKept t :=
  ⟨own, fun x _ => by rw [restraints], fun hard => by rw [machine]; exact hard, NoticesKept.of notices⟩

theorem refl (s : State) : s.PeersKept s := of_same rfl rfl rfl rfl

theorem setMuck (m : MuckUnit) (s : State) : s.PeersKept (s.setMuck m) := of_same rfl rfl rfl rfl

theorem setGuard (g : Guard) (s : State) : s.PeersKept (s.setGuard g) := of_same rfl rfl rfl rfl

theorem imposeHold (cause : HoldCause) (s : State) : s.PeersKept (s.imposeHold cause) := by
  refine ⟨by simp [State.own], fun x _ => by simp, fun hard => ?_, NoticesKept_impose _ _ _⟩
  rw [imposeHold_machine, hard]
  simp [countHold]

theorem imposeHold_if (p : Prop) [Decidable p] (cause : HoldCause) (s : State) :
    s.PeersKept (if p then s.imposeHold cause else s) := by
  split
  · exact imposeHold cause s
  · exact refl s

theorem testSteer (s : State) : s.PeersKept s.testSteer := of_same (by simp [State.own]) (by simp) (by simp) (by simp)

theorem evaluateOverdig (s : State) : s.PeersKept s.evaluateOverdig := by
  unfold State.evaluateOverdig
  split
  · exact (setMuck _ s).trans (imposeHold _ _)
  split
  · exact setMuck _ s
  · exact refl s

theorem updateMachineAdvance (s : State) : s.PeersKept s.updateMachineAdvance := by
  unfold State.updateMachineAdvance
  split
  · exact (setMuck _ s).trans (evaluateOverdig _)
  · exact refl s

theorem guardBegins (s : State) : s.PeersKept s.guardBegins := by
  obtain ⟨-, thrust, -, -⟩ := guardBegins_effect s
  refine ⟨by simp [State.own], fun x other => ?_, fun hard => by simpa using hard, ?_⟩
  · rw [thrust, mem_insertRestraint]
    exact or_iff_right fun same => other (congrArg Prod.fst same)
  · unfold State.guardBegins
    simp only [startProbe_eq]
    exact ((NoticesKept_notify s .guardEntered).trans (noticesKept_restrain .torque _)).trans (NoticesKept.of rfl)

theorem guardEnds (s : State) : s.PeersKept s.guardEnds := by
  obtain ⟨thrust, -, -⟩ := guardEnds_effect s
  refine ⟨by simp [State.own], fun x other => ?_, fun hard => by simpa using hard, noticesKept_guardEnds s⟩
  rw [thrust, List.mem_filter]
  exact and_iff_left (by simp only [bne_iff_ne]; exact fun same => other (congrArg Prod.fst same))

theorem setGuardFlags (manual latch : Bool) (s : State) : s.PeersKept (s.setGuardFlags manual latch) := by
  unfold State.setGuardFlags
  dsimp only
  split
  · exact (setGuard _ s).trans (guardBegins _)
  split
  · exact (setGuard _ s).trans (guardEnds _)
  · exact setGuard _ s

theorem recomputeTotal (s : State) : s.PeersKept s.recomputeTotal := by
  unfold State.recomputeTotal
  split
  · dsimp only
    split
    · exact (setGuardFlags _ _ s).trans (setGuard _ _)
    · exact setGuard _ s
  · exact refl s

theorem viewChanged (s : State) : s.PeersKept s.viewChanged :=
  (((recomputeTotal s).trans (testSteer _)).trans (imposeHold_if _ _ _)).trans (updateMachineAdvance _)

theorem restrainedBy (h : s.PeersKept t) (other : peer ≠ s.own) : t.restrainedBy peer = s.restrainedBy peer := by
  have same (r : RestraintReason) : t.thrust.restraints.contains (peer, r) = s.thrust.restraints.contains (peer, r) := by
    rw [Bool.eq_iff_iff, List.contains_iff_mem, List.contains_iff_mem]
    exact h.peers (peer, r) other
  simp only [State.restrainedBy, same]

end PeersKept

/-! ### A peer departs (R35) -/

theorem removeSource_restrainedBy (peer : Nat) (s : State) :
    (s.removeSource peer).restrainedBy peer = (false, false, false, false) := by
  have gone (r : RestraintReason) : (s.removeSource peer).thrust.restraints.contains (peer, r) = false := by
    rw [← Bool.not_eq_true, List.contains_iff_mem]
    simp [removeSource]
  simp only [restrainedBy, gone]

theorem peerDeparts_effect (other : peer ≠ s.own) : (s.peerDeparts peer).restrainedBy peer = (false, false, false, false)
    ∧ (s.node.state = .member → (s.peerDeparts peer).machine.phase = .hold .hard ∧ (s.peerDeparts peer).noticed .peerSilent = true)
    ∧ (s.peerDeparts peer).own = s.own := by
  have removed := removeSource_restrainedBy peer s
  unfold peerDeparts
  dsimp only
  by_cases member : s.node.state = .member
  · have member' : (s.removeSource peer).node.state = .member := member
    have held := PeersKept.imposeHold .peerSilent ((s.removeSource peer).notify .peerSilent)
    rw [if_pos member']
    exact ⟨(held.restrainedBy (peer := peer) other).trans removed, fun _ => ⟨imposeHold_phase_hard _ _ _ rfl,
      held.notices _ (notify_noticed _ _)⟩, held.own⟩
  · have member' : ¬(s.removeSource peer).node.state = .member := member
    rw [if_neg member']
    exact ⟨removed, fun yes => absurd yes member, rfl⟩

/-- The peer's entry leaves PRESENT, and the units see it. -/
theorem departs_effect (other : peer ≠ s.own) : (s.peerDeparts peer).viewChanged.restrainedBy peer = (false, false, false, false)
    ∧ (s.node.state = .member → (s.peerDeparts peer).viewChanged.machine.phase = .hold .hard
      ∧ (s.peerDeparts peer).viewChanged.noticed .peerSilent = true) := by
  obtain ⟨gone, held, own⟩ := peerDeparts_effect other
  have kept := PeersKept.viewChanged (s.peerDeparts peer)
  refine ⟨(kept.restrainedBy (by rw [own]; exact other)).trans gone, fun member => ?_⟩
  obtain ⟨hard, noticed⟩ := held member
  exact ⟨kept.hard hard, kept.notices _ noticed⟩

/-! ### The flags of a beacon (R80) -/

theorem mem_reconcileOne (x : Nat × RestraintReason) (r : RestraintReason) (held : Bool) (s : State) :
    x ∈ (s.reconcileOne peer r held).thrust.restraints ↔ (x = (peer, r) ∧ held = true) ∨ (x ∈ s.thrust.restraints ∧ x ≠ (peer, r)) := by
  cases held with
  | true =>
    refine (mem_insertRestraint x (peer, r) s.thrust.restraints).trans ?_
    by_cases same : x = (peer, r) <;> simp [same]
  | false =>
    refine (List.mem_filter (p := fun e => e != (peer, r))).trans ?_
    simp

theorem contains_reconcileOne (r r' : RestraintReason) (held : Bool) (s : State) :
    (s.reconcileOne peer r held).thrust.restraints.contains (peer, r')
      = if r' = r then held else s.thrust.restraints.contains (peer, r') := by
  rw [Bool.eq_iff_iff, List.contains_iff_mem, mem_reconcileOne]
  by_cases same : r' = r <;> simp [same]

theorem reconcile_restrainedBy (b : Beacon) (s : State) :
    (s.reconcile peer b).restrainedBy peer = (b.grout, b.muck, b.torqueHigh, b.face) := by
  simp only [reconcile, restrainedBy, contains_reconcileOne]
  rfl

end State

end Sys2Proof.Machine
end

section
/-! PROOFS. A peer's beacon: the entry it makes, the discord check, the departure it may bring (O14). -/

-- In one thread: each proof that waits for those before it would keep a thread of its own.
set_option Elab.async false

namespace Sys2Proof.Machine

namespace State

variable {s t u : State} {peer : Nat} {b : Beacon} {e : ViewEntry}

theorem entry?_of_view {m : Nat} (view : t.machine.view = s.machine.view) : t.entry? m = s.entry? m := by
  simp only [entry?, view]

theorem updateEntry_entry? {f : ViewEntry → ViewEntry} (keeps : ∀ e, (f e).member = e.member) (entry : s.entry? peer = some e) :
    (s.updateEntry peer f).entry? peer = some (f e) ∧ ∀ m, m ≠ peer → (s.updateEntry peer f).entry? m = s.entry? m := by
  refine ⟨?_, fun m other => Sys2Proof.Machine.updateEntry_ne s f keeps peer m other⟩
  rw [Sys2Proof.Machine.updateEntry_eq s f keeps, entry]
  rfl

/-! ### The discord check (R36, R37) -/

theorem discordCheck_of_other (other : b.nodeState ≠ .member) :
    s.discordCheck peer b = s.updateEntry peer fun e => { e with strikes := 0 } := if_pos other

theorem discordCheck_of_noMember (member : b.nodeState = .member) (other : s.node.state ≠ .member) : s.discordCheck peer b = s :=
  (if_neg (not_not.2 member)).trans (if_pos other)

theorem discordCheck_of_agreed (member : b.nodeState = .member) (own : s.node.state = .member)
    (agreed : b.phase = s.phaseCode ∧ b.ring.toNat = s.machine.ring) :
    s.discordCheck peer b = s.updateEntry peer fun e => { e with strikes := 0 } :=
  (if_neg (not_not.2 member)).trans ((if_neg (not_not.2 own)).trans (if_pos agreed))

theorem discordCheck_of_discord (member : b.nodeState = .member) (own : s.node.state = .member)
    (differs : ¬(b.phase = s.phaseCode ∧ b.ring.toNat = s.machine.ring)) (entry : s.entry? peer = some e) :
    s.discordCheck peer b = if 1 ≤ e.strikes then
        ((s.updateEntry peer fun e => { e with strikes := 0 }).notify .discord).imposeHold .discord
      else s.updateEntry peer fun e => { e with strikes := e.strikes + 1 } := by
  refine (if_neg (not_not.2 member)).trans ((if_neg (not_not.2 own)).trans ((if_neg differs).trans ?_))
  rw [entry]

/-- The check changes the strikes of the peer's entry at most. -/
theorem discordCheck_entry? (entry : s.entry? peer = some e) : ∃ k, (s.discordCheck peer b).entry? peer = some { e with strikes := k }
    ∧ (∀ m, m ≠ peer → (s.discordCheck peer b).entry? m = s.entry? m)
    ∧ (b.nodeState ≠ .member → k = 0)
    ∧ (s.node.state = .member → b.nodeState = .member → b.phase = s.phaseCode → b.ring.toNat = s.machine.ring → k = 0)
    ∧ (s.node.state = .member → b.nodeState = .member → (b.phase ≠ s.phaseCode ∨ b.ring.toNat ≠ s.machine.ring) →
      (1 ≤ e.strikes → k = 0 ∧ (s.discordCheck peer b).machine.phase = .hold .hard ∧ (s.discordCheck peer b).noticed .discord = true)
      ∧ (e.strikes = 0 → k = 1)) := by
  have cleared := updateEntry_entry? (s := s) (f := fun e => { e with strikes := 0 }) (fun _ => rfl) entry
  have counted := updateEntry_entry? (s := s) (f := fun e => { e with strikes := e.strikes + 1 }) (fun _ => rfl) entry
  by_cases member : b.nodeState = .member
  case neg =>
    rw [discordCheck_of_other member]
    exact ⟨0, cleared.1, cleared.2, fun _ => rfl, fun _ yes => absurd yes member, fun _ yes => absurd yes member⟩
  by_cases own : s.node.state = .member
  case neg =>
    rw [discordCheck_of_noMember member own]
    exact ⟨e.strikes, entry, fun _ _ => rfl, fun no => absurd member no, fun yes => absurd yes own, fun yes => absurd yes own⟩
  by_cases agreed : b.phase = s.phaseCode ∧ b.ring.toNat = s.machine.ring
  case pos =>
    rw [discordCheck_of_agreed member own agreed]
    exact ⟨0, cleared.1, cleared.2, fun _ => rfl, fun _ _ _ _ => rfl,
      fun _ _ differs => absurd agreed fun h => differs.elim (· h.1) (· h.2)⟩
  rw [discordCheck_of_discord member own agreed entry]
  by_cases again : 1 ≤ e.strikes
  · rw [if_pos again]
    have view : (((s.updateEntry peer fun e => { e with strikes := 0 }).notify .discord).imposeHold .discord).machine.view
        = (s.updateEntry peer fun e => { e with strikes := 0 }).machine.view := by simp
    refine ⟨0, (entry?_of_view view).trans cleared.1, fun m other => (entry?_of_view view).trans (cleared.2 m other), fun _ => rfl,
      fun _ _ phase ring => absurd ⟨phase, ring⟩ agreed, fun _ _ _ => ⟨fun _ => ⟨rfl, imposeHold_phase_hard _ _ _ rfl, ?_⟩, fun none' => by omega⟩⟩
    exact NoticesKept_impose _ _ _ _ (notify_noticed _ _)
  · rw [if_neg again]
    refine ⟨e.strikes + 1, counted.1, counted.2, fun no => absurd member no, fun _ _ phase ring => absurd ⟨phase, ring⟩ agreed,
      fun _ _ _ => ⟨fun yes => absurd yes again, fun none' => by rw [none']⟩⟩

/-! ### The two kinds of beacon (R32, R33) -/

/-- The peer's entry as a beacon with the node's digest makes it, before the discord check. -/
def heardEntry (b : Beacon) (e : ViewEntry) : ViewEntry :=
  { e with since := some 0, strikes := if e.presence = .present then e.strikes else 0, presence := .present, last := some b }

theorem takeMatchingBeacon_eq (peer : Nat) (b : Beacon) (s : State) : s.takeMatchingBeacon peer b
    = (((s.updateEntry peer (heardEntry b)).discordCheck peer b).reconcile peer b).viewChanged := rfl

/-- An entry that is no longer heard with the node's digest. -/
def lostEntry (presence : Presence) (since : Option Nat) (e : ViewEntry) : ViewEntry :=
  { e with presence := presence, last := none, since := since, strikes := 0 }

theorem takeAlienBeacon_of_present (entry : s.entry? peer = some e) (present : e.presence = .present) : s.takeAlienBeacon peer
    = ((s.updateEntry peer (lostEntry .alien (some 0))).peerDeparts peer).viewChanged := by
  simp only [takeAlienBeacon, entry, present]
  rfl

theorem takeAlienBeacon_of_other (entry : s.entry? peer = some e) (other : e.presence ≠ .present) : s.takeAlienBeacon peer
    = if e.presence = .alien then s.updateEntry peer (lostEntry .alien (some 0))
      else (s.updateEntry peer (lostEntry .alien (some 0))).viewChanged := by
  simp only [takeAlienBeacon, entry, if_neg other]
  rfl

/-- A peer's entry lost: the units see it, and its departure from PRESENT. -/
def lose (peer : Nat) (presence : Presence) (since : Option Nat) (departs : Bool) (s : State) : State :=
  (if departs then (s.updateEntry peer (lostEntry presence since)).peerDeparts peer
    else s.updateEntry peer (lostEntry presence since)).viewChanged

theorem lose_effect (entry : s.entry? peer = some e) (presence : Presence) (since : Option Nat) (departs : Bool) :
    (s.lose peer presence since departs).entry? peer = some ⟨e.member, presence, none, since, 0⟩
    ∧ (∀ m, m ≠ peer → (s.lose peer presence since departs).entry? m = s.entry? m)
    ∧ (s.lose peer presence since departs).node = s.node ∧ (s.lose peer presence since departs).channels = s.channels
    ∧ (s.lose peer presence since departs).overrides = s.overrides
    ∧ (s.lose peer presence since departs).machine.ring = s.machine.ring := by
  obtain ⟨own, others⟩ := updateEntry_entry? (s := s) (f := lostEntry presence since) (fun _ => rfl) entry
  have view : (s.lose peer presence since departs).machine.view = (s.updateEntry peer (lostEntry presence since)).machine.view := by
    unfold lose
    split <;> simp
  refine ⟨(entry?_of_view view).trans own, fun m other => (entry?_of_view view).trans (others m other), ?_⟩
  unfold lose
  split <;> simp [updateEntry]

theorem lose_departs (other : peer ≠ s.own) (presence : Presence) (since : Option Nat) :
    (s.lose peer presence since true).restrainedBy peer = (false, false, false, false)
    ∧ (s.node.state = .member → (s.lose peer presence since true).machine.phase = .hold .hard
      ∧ (s.lose peer presence since true).noticed .peerSilent = true) :=
  departs_effect (s := s.updateEntry peer (lostEntry presence since)) other

end State

end Sys2Proof.Machine

section
open Sys2Proof Sys2Proof.Machine

/-- Settles O14: a beacon makes its peer's entry PRESENT or ALIEN, and the second disagreement in a row holds the machine. -/
theorem beaconTaken : Obligations.BeaconTaken := by
  unfold Obligations.BeaconTaken
  intro sender target b s e heard entry
  have other : sender.toNat ≠ s.own := sender_ne_own heard
  have run : exec (.beacon sender target b) s = .next (s.takeBeacon sender b) := congrArg _ (receive_of_hearsPeer heard)
  rw [run]
  refine ⟨fun digest => ?_, fun digest => ?_⟩
  · obtain ⟨own, others⟩ := State.updateEntry_entry? (s := s) (f := State.heardEntry b) (fun _ => rfl) entry
    obtain ⟨k, after, rest, joined, agreed, discord⟩ := State.discordCheck_entry? (b := b) own
    have kept := State.PeersKept.viewChanged (((s.updateEntry sender.toNat (State.heardEntry b)).discordCheck sender.toNat b).reconcile sender.toNat b)
    have view (m : Nat) : (s.takeMatchingBeacon sender.toNat b).entry? m
        = ((s.updateEntry sender.toNat (State.heardEntry b)).discordCheck sender.toNat b).entry? m := by
      rw [State.takeMatchingBeacon_eq]
      exact State.entry?_of_view (by simp)
    refine ⟨_, _, congrArg _ (if_pos digest), (view _).trans after, rfl, rfl, rfl, fun m apart => (view m).trans ((rest m apart).trans (others m apart)),
      ?_, ?_, ?_, ?_, ?_, joined, agreed, fun member peerMember differs => ⟨fun ⟨present, struck⟩ => ?_, fun first => ?_⟩⟩
    · exact (kept.restrainedBy (by simpa [State.own, State.updateEntry] using other)).trans (State.reconcile_restrainedBy b _)
    iterate 4
      · simp [State.takeMatchingBeacon, State.updateEntry]
    · obtain ⟨cleared, hard, noticed⟩ := (discord member peerMember differs).1 (by simpa [State.heardEntry, present] using struck)
      exact ⟨cleared, kept.hard (by simpa using hard), kept.notices _ (by simpa [State.noticed] using noticed)⟩
    · refine (discord member peerMember differs).2 ?_
      show (if e.presence = .present then e.strikes else 0) = 0
      split
      · rename_i present
        exact first.resolve_left (not_not.2 present)
      · rfl
  · rw [show s.takeBeacon sender b = s.takeAlienBeacon sender.toNat from if_neg digest]
    obtain ⟨own, others⟩ := State.updateEntry_entry? (s := s) (f := State.lostEntry .alien (some 0)) (fun _ => rfl) entry
    by_cases present : e.presence = .present
    · rw [State.takeAlienBeacon_of_present entry present]
      obtain ⟨after, rest, node, channels, overrides, ring⟩ := State.lose_effect entry .alien (some 0) true
      exact ⟨_, rfl, after, rest, node, channels, overrides, ring, fun _ => State.lose_departs other .alien (some 0)⟩
    · rw [State.takeAlienBeacon_of_other entry present]
      by_cases alien : e.presence = .alien
      · rw [if_pos alien]
        exact ⟨_, rfl, own, others, rfl, rfl, rfl, rfl, fun yes => absurd yes present⟩
      · rw [if_neg alien]
        obtain ⟨after, rest, node, channels, overrides, ring⟩ := State.lose_effect entry .alien (some 0) false
        exact ⟨_, rfl, after, rest, node, channels, overrides, ring, fun yes => absurd yes present⟩

end
end

section
/-! PROOFS. A peer's silence, and the end of a listen window (O16). -/

-- In one thread: each proof that waits for those before it would keep a thread of its own.
set_option Elab.async false

namespace Sys2Proof.Machine

namespace State

variable {s : State} {peer : Nat} {e : ViewEntry}

/-! ### SILENCE_EXPIRY (R34, R35) -/

theorem silenceExpiry_of_none (entry : s.entry? peer = some e) (none' : peer = s.own ∨ e.presence = .silent ∨ e.since = none) :
    exec (.silenceExpiry peer) s = .next s := by
  simp only [exec, execSilenceExpiry, entry]
  split
  · rename_i since
    refine if_pos (none'.imp_right fun h => h.resolve_right ?_)
    simp [since]
  · rfl

theorem silenceExpiry_of_run (entry : s.entry? peer = some e) (other : peer ≠ s.own) (heard : e.presence ≠ .silent)
    (run : e.since = some 150) :
    exec (.silenceExpiry peer) s = .next (s.lose peer .silent none (decide (e.presence = .present))) := by
  simp only [exec, execSilenceExpiry, entry, run]
  refine (if_neg (not_or.2 ⟨other, heard⟩)).trans ?_
  rw [show Config.silenceInterval - 150 = 0 from rfl, passTime_zero]
  unfold lose
  by_cases present : e.presence = .present
  · rw [if_pos present, if_pos (decide_eq_true present)]
    rfl
  · rw [if_neg present, if_neg (by simpa using present)]
    rfl

/-! ### LISTEN_WINDOW_END (R24) -/

theorem listenWindowEnd_of_none (none' : s.node.state ≠ .joining ∨ s.node.listen = none) :
    exec .listenWindowEnd s = .next s := by
  simp only [exec, execListenWindowEnd]
  split
  · rename_i joining listen
    rcases none' with other | stopped
    · exact absurd joining other
    · simp [stopped] at listen
  · rfl

theorem listenWindowEnd_of_run (joining : s.node.state = .joining) (run : s.node.listen = some 150) :
    exec .listenWindowEnd s = .next s.endListen := by
  simp only [exec, execListenWindowEnd, joining, run]
  rw [show Config.listenWindow - 150 = 0 from rfl, passTime_zero]

theorem firstMember_node (s : State) : s.firstMember.node = { s.node with firstMembership := false } := by
  unfold firstMember
  split
  · simp
  · rename_i later
    have later' : s.node.firstMembership = false := by simpa using later
    rw [← later']

theorem firstMember_of_first (first : s.node.firstMembership = true) :
    s.firstMember = (s.setNode { s.node with firstMembership := false }).captureOrigin := if_pos first

theorem firstMember_of_later (later : s.node.firstMembership = false) : s.firstMember = s := if_neg (by simp [later])

theorem enterMember_effect (s : State) : s.enterMember.node = { s.node with state := .member, listen := none, firstMembership := false }
    ∧ s.enterMember.machine.ring = s.machine.ring ∧ s.enterMember.machine.view = s.machine.view
    ∧ s.enterMember.overrides = s.overrides ∧ (s.node.firstMembership = true → s.enterMember.AtOrigin) := by
  have node : s.enterMember.node = ((s.setNode { s.node with state := .member, listen := none }).firstMember).node := by
    simp [enterMember]
  refine ⟨node.trans (firstMember_node _), ?_, ?_, ?_, fun first => ?_⟩
  iterate 3
    · unfold enterMember firstMember
      dsimp only
      split <;> simp
  · have captured : (s.setNode { s.node with state := .member, listen := none }).firstMember.AtOrigin := by
      rw [firstMember_of_first (s := s.setNode { s.node with state := .member, listen := none }) first]
      exact AtOrigin.captureOrigin _
    exact captured.of_thrust (by simp [enterMember])

theorem endListen_of_agreed {n : Nat} (agreed : ∀ m ∈ s.memberPeerRings, m = n) (alone : s.memberPeerRings = [] → n = s.machine.ring) :
    s.endListen = (s.setRing n).enterMember := by
  unfold endListen
  cases rings : s.memberPeerRings with
  | nil =>
    rw [alone rings]
    rfl
  | cons m more =>
    rw [rings] at agreed
    obtain ⟨rfl, rest⟩ := List.forall_mem_cons.1 agreed
    exact if_pos (List.all_eq_true.2 fun k held => beq_iff_eq.2 (rest k held))

theorem endListen_of_disagreed (differ : ∃ m ∈ s.memberPeerRings, ∃ n ∈ s.memberPeerRings, m ≠ n) :
    s.endListen = (s.setNode { s.node with listen := some 0 }).notify .ringMismatch := by
  obtain ⟨m, hm, n, hn, apart⟩ := differ
  unfold endListen
  cases rings : s.memberPeerRings with
  | nil => simp [rings] at hm
  | cons k more =>
    rw [rings] at hm hn
    refine if_neg fun same => apart ?_
    have same' : ∀ x ∈ k :: more, x = k := List.forall_mem_cons.2 ⟨rfl, fun x held => beq_iff_eq.1 (List.all_eq_true.1 same x held)⟩
    exact (same' m hm).trans (same' n hn).symm

end State

end Sys2Proof.Machine

section
open Sys2Proof Sys2Proof.Machine

/-- Settles O16: a peer not heard for 150 ms is SILENT, and the listen window ends in membership or in a new one. -/
theorem silenceAndListenWindowEnd : Obligations.SilenceAndListenWindowEnd := by
  unfold Obligations.SilenceAndListenWindowEnd
  refine ⟨fun peer s e entry => ⟨State.silenceExpiry_of_none entry, fun other heard run => ?_⟩,
    fun s => ⟨State.listenWindowEnd_of_none, fun joining run => ?_⟩⟩
  · obtain ⟨after, rest, node, channels, overrides, ring⟩ := State.lose_effect entry .silent none (decide (e.presence = .present))
    refine ⟨_, State.silenceExpiry_of_run entry other heard run, after, rest, node, channels, overrides, ring, fun present => ?_⟩
    rw [decide_eq_true present]
    exact State.lose_departs other .silent none
  · rw [State.listenWindowEnd_of_run joining run]
    refine ⟨fun n agreed alone => ⟨_, congrArg _ (State.endListen_of_agreed agreed alone), ?_⟩,
      fun differ => congrArg _ (State.endListen_of_disagreed differ)⟩
    obtain ⟨node, ring, view, overrides, first⟩ := State.enterMember_effect (s.setRing n)
    exact ⟨node, ring, view, overrides, fun flag =>
      ⟨(first flag).advance, (first flag).credited, (first flag).origin⟩⟩

end
end

section
/-! PROOFS. CLEAR_FAULT (O33). -/

-- In one thread: each proof that waits for those before it would keep a thread of its own.
set_option Elab.async false

namespace Sys2Proof.Machine

namespace State

variable {s t : State}

/-! ### A soft hold, and the capture of the origin, met in HOLD (R41, R65) -/

theorem inHold_iff : s.inHold = true ↔ ∃ now, s.machine.phase = .hold now := by
  unfold inHold
  cases s.machine.phase <;> simp

/-- A soft cause met in HOLD fails the round and is counted. -/
theorem imposeHold_soft_of_hold {cause : HoldCause} {now : Grade} (soft : causeGrade cause .soft = .soft) (hold : s.machine.phase = .hold now) :
    s.imposeHold cause = (s.failRound s.own .held).countHold cause (s.failRound s.own .held).own now .soft := by
  unfold imposeHold
  dsimp only
  rw [failRound_phase, hold, soft]
  cases now <;> rfl

/-- What neither a soft hold met in HOLD nor the capture of the origin there changes, the thrust unit aside. -/
structure HoldKept (s t : State) : Prop where
  link : t.link = s.link
  drive : t.drive = s.drive
  plans : t.plans = s.plans
  engine : t.engine = s.engine
  grout : t.grout = s.grout
  node : t.node = s.node
  channels : t.channels = s.channels
  overrides : t.overrides = s.overrides
  ring : t.machine.ring = s.machine.ring
  view : t.machine.view = s.machine.view
  cars : t.muck.queue = s.muck.queue
  hold : t.inHold = true

namespace HoldKept

variable {u : State}

theorem refl (hold : s.inHold = true) : s.HoldKept s := ⟨rfl, rfl, rfl, rfl, rfl, rfl, rfl, rfl, rfl, rfl, rfl, hold⟩

theorem trans (a : s.HoldKept t) (b : t.HoldKept u) : s.HoldKept u :=
  ⟨b.link.trans a.link, b.drive.trans a.drive, b.plans.trans a.plans, b.engine.trans a.engine, b.grout.trans a.grout,
    b.node.trans a.node, b.channels.trans a.channels, b.overrides.trans a.overrides, b.ring.trans a.ring,
    b.view.trans a.view, b.cars.trans a.cars, b.hold⟩

theorem imposeHold {cause : HoldCause} (soft : causeGrade cause .soft = .soft) (hold : s.inHold = true) :
    s.HoldKept (s.imposeHold cause) := by
  obtain ⟨now, phase⟩ := inHold_iff.1 hold
  rw [imposeHold_soft_of_hold soft phase]
  exact ⟨by simp, by simp, by simp, by simp, by simp, by simp, by simp, by simp, by simp, by simp, by simp, rfl⟩

theorem evaluateOverdig (hold : s.inHold = true) : s.HoldKept s.evaluateOverdig := by
  have flag : ∀ met : Bool, s.HoldKept (s.setMuck { s.muck with overdig := met }) :=
    fun _ => ⟨rfl, rfl, rfl, rfl, rfl, rfl, rfl, rfl, rfl, rfl, rfl, hold⟩
  unfold State.evaluateOverdig
  split
  · exact (flag true).trans (imposeHold rfl hold)
  split
  · exact flag false
  · exact refl hold

theorem updateMachineAdvance (hold : s.inHold = true) : s.HoldKept s.updateMachineAdvance := by
  unfold State.updateMachineAdvance
  split
  · have taken : s.HoldKept (s.setMuck { s.muck with machineAdvance := s.computedMachineAdvance }) :=
      ⟨rfl, rfl, rfl, rfl, rfl, rfl, rfl, rfl, rfl, rfl, rfl, hold⟩
    exact taken.trans (evaluateOverdig hold)
  · exact refl hold

theorem captureOrigin (hold : s.inHold = true) : s.HoldKept s.captureOrigin := by
  obtain ⟨now, phase⟩ := inHold_iff.1 hold
  rw [captureOrigin_of_noBore (by simp [phase])]
  have captured : s.HoldKept s.originCaptured := ⟨rfl, rfl, rfl, rfl, rfl, rfl, rfl, rfl, rfl, rfl, rfl, hold⟩
  exact captured.trans (updateMachineAdvance hold)

end HoldKept

theorem imposeHold_thrust_of_hold (cause : HoldCause) (hold : s.inHold = true) : (s.imposeHold cause).thrust = s.thrust := by
  obtain ⟨now, phase⟩ := inHold_iff.1 hold
  rw [imposeHold_thrust cause s false, phase]

theorem updateMachineAdvance_thrust_of_hold (hold : s.inHold = true) : s.updateMachineAdvance.thrust = s.thrust := by
  unfold updateMachineAdvance evaluateOverdig
  split
  · split
    · exact imposeHold_thrust_of_hold .overdig hold
    split <;> rfl
  · rfl

theorem captureOrigin_thrust_of_hold (hold : s.inHold = true) : s.captureOrigin.thrust = s.originCaptured.thrust := by
  obtain ⟨now, phase⟩ := inHold_iff.1 hold
  rw [captureOrigin_of_noBore (by simp [phase])]
  exact updateMachineAdvance_thrust_of_hold hold

/-! ### The answer -/

/-- The link after an answer is a function of the link before it and of the node's own number. -/
theorem answer_link_congr (link : t.link = s.link) (own : t.own = s.own) (station : Station) (addressed : Bool) (service : Service)
    (e : EndCode) : (t.answer station addressed service e).link = (s.answer station addressed service e).link := by
  have admitted : ∀ u : State, ∀ f : TxFrame, isClosing f.frame.body = false → (u.admitFrame f).link =
      if !u.link.transmitting || decide (Config.txqPlaces ≤ u.link.held) then u.link
      else { u.link with queue := insertTx f u.link.queue } := by
    intro u f other
    unfold admitFrame
    by_cases stopped : u.link.transmitting <;> by_cases full : Config.txqPlaces ≤ u.link.held <;> simp [stopped, full]
  have number : t.node.number = s.node.number := own
  unfold answer answerWith
  cases addressed
  · exact link
  · simp only [if_true, queueTagged, isHold, newFrame, ownStation, stepAge, link, number, Bool.false_eq_true, if_false]
    rw [admitted _ _ rfl, admitted _ _ rfl]
    rfl

/-! ### Leaving FAULTED (R28) -/

theorem leaveFaulted_of_sound (sound : s.node.state ≠ .faulted) : s.leaveFaulted = s := by
  unfold leaveFaulted
  split
  · exact absurd ‹_› sound
  all_goals rfl

theorem leaveFaulted_of_configured (faulted : s.node.state = .faulted) (configured : s.configured = true) :
    s.leaveFaulted = (s.setLink { s.link with transmitting := true }).setNode
      { s.node with state := .member, cause := none, furtherFaults := 0 } := by
  unfold leaveFaulted
  rw [faulted]
  exact if_pos configured

theorem leaveFaulted_of_unconfigured (faulted : s.node.state = .faulted) (unconfigured : s.configured = false) :
    s.leaveFaulted = ((s.setLink { s.link with transmitting := true }).setNode
      { s.node with state := .unconfigured, cause := none, collection := none }).setView [] := by
  unfold leaveFaulted
  rw [faulted]
  exact if_neg (by simpa [State.configured] using unconfigured)

/-- CLEAR_FAULT before the units clear their channel states: the origin is captured where the first-membership flag is set, and
a node that becomes MEMBER clears the flag (R28). -/
def reentered (leaves : Bool) (s : State) : State :=
  if leaves then s.firstMember else if s.node.firstMembership then s.captureOrigin else s

theorem clearsFault_eq (station : Station) (addressed : Bool) (s : State) : s.clearsFault station addressed =
    ((s.leaveFaulted.answer station addressed .clearFault .done).reentered (s.node.state = .faulted && s.configured)).clearUnits
      (s.node.state = .faulted && s.configured) := rfl

theorem reentered_kept {n : NodeRecord} {leaves : Bool} (hold : s.inHold = true)
    (node : n = if leaves then { s.node with firstMembership := false } else s.node) : (s.setNode n).HoldKept (s.reentered leaves) := by
  subst node
  unfold reentered firstMember
  cases first : s.node.firstMembership <;> cases leaves <;> dsimp only
  · exact HoldKept.refl hold
  · rw [show { s.node with firstMembership := false } = s.node by rw [← first]]
    exact HoldKept.refl hold
  · exact HoldKept.captureOrigin hold
  · exact HoldKept.captureOrigin (s := s.setNode { s.node with firstMembership := false }) hold

theorem reentered_thrust (leaves : Bool) (hold : s.inHold = true) :
    (s.reentered leaves).thrust = if s.node.firstMembership then s.originCaptured.thrust else s.thrust := by
  unfold reentered firstMember
  cases first : s.node.firstMembership <;> cases leaves
  · rfl
  · rfl
  · exact captureOrigin_thrust_of_hold hold
  · exact captureOrigin_thrust_of_hold (s := s.setNode { s.node with firstMembership := false }) hold

/-! ### The units clear their channel states (R62, R87, R162, R120, R166) -/

/-- A halted erector of a node that owns it is READY. -/
def readyErector (s : State) : State :=
  if s.ownsErector = true ∧ s.engine.erector = .halted then s.setEngine { s.engine with erector := .ready } else s

/-- The node's own channels show no fault that a release would find (R120, R166). -/
structure ReleasesClean (s : State) : Prop where
  screw : s.ownsMuck = true → s.channels.screwFault = false
  erector : s.ownsErector = true → s.channels.erectorFault = false

theorem releaseErector_of_clean (clean : s.ownsErector = true → s.channels.erectorFault = false) : s.releaseErector = s.readyErector := by
  unfold releaseErector readyErector
  cases owns : s.ownsErector
  · simp
  · by_cases halted : s.engine.erector = .halted <;> simp [halted, clean owns]

@[simp] theorem readyErector_frame (s : State) : s.readyErector.link = s.link ∧ s.readyErector.node = s.node
    ∧ s.readyErector.machine = s.machine ∧ s.readyErector.plans = s.plans ∧ s.readyErector.overrides = s.overrides
    ∧ s.readyErector.muck = s.muck ∧ s.readyErector.grout = s.grout ∧ s.readyErector.thrust = s.thrust
    ∧ s.readyErector.drive = s.drive ∧ s.readyErector.channels = s.channels := by
  unfold readyErector
  split <;> simp

theorem ownsMuck_of_config (config : t.node.config = s.node.config) (number : t.node.number = s.node.number) :
    t.ownsMuck = s.ownsMuck := by
  simp only [ownsMuck, configured, isMuckOwner, memberSection?, cfg, own, config, number]

theorem ownsErector_of_config (config : t.node.config = s.node.config) (number : t.node.number = s.node.number) :
    t.ownsErector = s.ownsErector := by
  simp only [ownsErector, configured, isErectorOwner, memberSection?, cfg, own, config, number]

/-- The thrust, drive and grout units of a CLEAR_FAULT. -/
def channelsCleared (leaves : Bool) (s : State) : State := (s.clearCylinders leaves).clearDrives.clearPump

theorem clearUnits_of_clean (leaves : Bool) (clean : s.ReleasesClean) :
    s.clearUnits leaves = ((s.channelsCleared leaves).readyErector.testDrives.commandScrew).testDose := by
  have kept : (s.channelsCleared leaves).channels = s.channels ∧ (s.channelsCleared leaves).node = s.node := by simp [channelsCleared]
  obtain ⟨channels, node⟩ := kept
  have clean' : (s.channelsCleared leaves).ReleasesClean :=
    ⟨by rw [ownsMuck_of_config (congrArg _ node) (congrArg _ node), channels]; exact clean.screw, by rw [ownsErector_of_node node, channels]; exact clean.erector⟩
  have screw : (s.channelsCleared leaves).readyErector.releaseScrew = (s.channelsCleared leaves).readyErector := by
    refine if_neg fun fault => ?_
    rw [Bool.and_eq_true, ownsMuck_of_config (s := s.channelsCleared leaves) (by simp) (by simp)] at fault
    simpa [clean'.screw fault.1] using fault.2
  show (((s.channelsCleared leaves).releaseErector.releaseScrew).testDrives.commandScrew).testDose = _
  rw [releaseErector_of_clean clean'.erector, screw]

theorem clearPump_pump (s : State) : s.clearPump.grout.pump ≠ .failed := by
  unfold clearPump
  split
  · simp
  · assumption

theorem testDose_pump (sound : s.grout.pump ≠ .failed) : s.testDose.grout.pump ≠ .failed := by
  unfold testDose
  split
  · split
    · simp [startDose]
    · exact sound
  · exact sound

/-- What becomes of a drive at CLEAR_FAULT in HOLD (R87, R84). -/
def clearedDrive (s : State) (d : Drive) : Drive := if d.state = .tripped then s.rebuiltDrive d else stopDrive d

theorem clearedDrive_congr (channels : t.channels = s.channels) (d : Drive) : t.clearedDrive d = s.clearedDrive d := by
  have report : t.driveReport d.number = s.driveReport d.number := by simp only [driveReport, channels]
  unfold clearedDrive rebuiltDrive
  rw [report]

theorem stopDrive_clearedDrive (s : State) (d : Drive) :
    stopDrive (if d.state = .tripped then s.rebuiltDrive d else d) = s.clearedDrive d := by
  unfold clearedDrive
  split
  · have still : (s.rebuiltDrive d).state ≠ .starting ∧ (s.rebuiltDrive d).state ≠ .running := by
      unfold rebuiltDrive
      dsimp only
      (repeat' split) <;> decide
    exact if_neg (not_or.2 still)
  · rfl

/-- A drive TRIPPED after a CLEAR_FAULT has a report that shows its fault. -/
theorem clearedDrive_fault (d : Drive) (tripped : (s.clearedDrive d).state = .tripped) :
    (s.driveReport (s.clearedDrive d).number).fault = true := by
  unfold clearedDrive at tripped ⊢
  split at tripped
  · rename_i before
    rw [if_pos before]
    unfold rebuiltDrive at tripped ⊢
    dsimp only at tripped ⊢
    split at tripped
    · assumption
    · split at tripped <;> simp at tripped
  · rename_i before
    unfold stopDrive at tripped
    split at tripped
    · simp at tripped
    · exact absurd tripped before

/-- The units after a CLEAR_FAULT in HOLD whose releases find no fault. -/
structure UnitsCleared (leaves : Bool) (s t : State) : Prop where
  link : t.link = s.link
  node : t.node = s.node
  machine : t.machine = s.machine
  plans : t.plans = s.plans
  overrides : t.overrides = s.overrides
  cars : t.muck.queue = s.muck.queue
  pump : t.grout.pump ≠ .failed
  thrust : t.thrust = (s.clearCylinders leaves).thrust
  drives : t.drive.drives = s.drive.drives.map s.clearedDrive
  erector : s.ownsErector = true → t.engine.erector = if s.engine.erector = .halted then .ready else s.engine.erector

theorem clearUnits_cleared (leaves : Bool) (clean : s.ReleasesClean) (out : s.machine.phase ≠ .bore) :
    s.UnitsCleared leaves (s.clearUnits leaves) := by
  rw [clearUnits_of_clean leaves clean]
  refine ⟨by simp [channelsCleared], by simp [channelsCleared], by simp [channelsCleared],
    by simp [channelsCleared], by simp [channelsCleared], by simp [channelsCleared], ?_,
    by simp [channelsCleared], ?_, fun owns => ?_⟩
  · refine testDose_pump ?_
    simp only [commandScrew_frame, testDrives_frame, readyErector_frame]
    exact clearPump_pump _
  · have out' : (s.channelsCleared leaves).readyErector.machine.phase ≠ .bore := by
      simpa [channelsCleared] using out
    simp only [testDose_frame, commandScrew_frame]
    rw [testDrives_of_noBore out']
    simp only [readyErector_frame, channelsCleared, clearPump_frame]
    have same : (s.clearCylinders leaves).drive = s.drive := by simp
    simp only [clearDrives, setDrives, setDrive_drive, List.map_map, same]
    exact List.map_congr_left fun d _ =>
      (stopDrive_clearedDrive (s.clearCylinders leaves) d).trans (clearedDrive_congr (by simp) d)
  · have kept : (s.channelsCleared leaves).node = s.node ∧ (s.channelsCleared leaves).engine = s.engine := by simp [channelsCleared]
    simp only [testDose_frame, commandScrew_frame, testDrives_frame]
    unfold readyErector
    rw [ownsErector_of_node kept.1, kept.2]
    by_cases halted : s.engine.erector = .halted
    · simp [owns, halted]
    · simp [halted, kept.2]

/-! ### The cylinders (R62) -/

/-- The flag cleared, the origin's capture set apart (R65). -/
def noFirst (s : State) : State := s.setNode { s.node with firstMembership := false }

/-- A cylinder with the origin the node's flag asks for. -/
def originOf (s : State) (c : Cylinder) : Cylinder := if s.node.firstMembership = true then { c with origin := some c.stroke } else c

/-- What CLEAR_FAULT makes of a cylinder. -/
def faultCleared (s : State) (c : Cylinder) : Cylinder :=
  if (s.originOf c).state = .failed then s.noFirst.clearedCylinder (s.originOf c)
  else if s.node.state = .faulted ∧ (s.originOf c).state = .parked ∧ s.noFirst.forced .cylinder (s.originOf c).number = some .forceClear then
    { s.originOf c with state := .retracting }
  else s.originOf c

theorem faultCleared_cleared (s : State) (c : Cylinder) : s.CylinderCleared c (s.faultCleared c) := by
  obtain ⟨number, origin, failed, sound⟩ := clearedCylinder_cleared s.noFirst (s.originOf c) (by simp [noFirst])
  cases first : s.node.firstMembership
  · have same : s.originOf c = c := if_neg (by simp [first])
    rw [same] at number origin failed sound
    unfold faultCleared
    rw [same]
    exact ⟨number, origin.trans (by simp [noFirst, first]), failed, sound⟩
  · have captured : s.originOf c = { c with origin := some c.stroke } := if_pos first
    rw [captured] at number origin failed sound
    unfold faultCleared
    rw [captured]
    exact ⟨number, origin.trans (by simp [noFirst, first]), failed, sound⟩

/-- A cylinder FAILED after a CLEAR_FAULT has a report that shows its fault. -/
theorem CylinderCleared.fault_of_failed {c c' : Cylinder} (cleared : s.CylinderCleared c c') (after : c'.state = .failed) :
    (s.cylReport c'.number).fault = true := by
  obtain ⟨number, -, failed, sound⟩ := cleared
  rw [number]
  by_cases before : c.state = .failed
  · obtain ⟨-, -, -, -, noFault⟩ := failed before _ rfl
    by_contra fault
    obtain ⟨forceClear, bearing, forceBear, free⟩ := noFault (Bool.eq_false_iff.2 fault)
    by_cases pinClear : s.forced .cylinder c.number = some .forceClear
    · simp [(forceClear pinClear).1] at after
    by_cases touch : s.cfg.contactPressure ≤ (s.cylReport c.number).pressure.toNat
    · simp [(bearing pinClear touch).1] at after
    by_cases pinBear : s.forced .cylinder c.number = some .forceBear
    · simp [(forceBear pinBear (Nat.lt_of_not_le touch)).1] at after
    · simp [(free pinClear pinBear (Nat.lt_of_not_le touch)).1] at after
  · obtain ⟨-, -, -, -, state⟩ := sound before
    rw [after] at state
    split at state
    · simp at state
    · exact absurd state.symm before

theorem clearedCylinder_congr (channels : t.channels = s.channels) (overrides : t.overrides = s.overrides)
    (config : t.node.config = s.node.config) (c : Cylinder) : t.clearedCylinder c = s.clearedCylinder c := by
  have report : t.cylReport c.number = s.cylReport c.number := by simp only [cylReport, channels]
  have pin : t.forced .cylinder c.number = s.forced .cylinder c.number := by simp only [forced, override?, overrides]
  have limits : t.cfg = s.cfg := by simp only [cfg, config]
  have rebuilt : t.rebuiltCylinder c = s.rebuiltCylinder c := by
    unfold rebuiltCylinder contact
    rw [report, limits]
  unfold clearedCylinder
  rw [rebuilt, pin, limits]

/-- The cylinders of a node that holds a configuration after CLEAR_FAULT in HOLD. -/
theorem clearCylinders_reentered {leaves : Bool} (hold : t.inHold = true) (thrust : t.thrust = s.thrust)
    (channels : t.channels = s.channels) (overrides : t.overrides = s.overrides) (config : t.node.config = s.node.config)
    (flag : t.node.firstMembership = s.node.firstMembership) (leaving : leaves = true ↔ s.node.state = .faulted) :
    ((t.reentered leaves).clearCylinders leaves).thrust.cylinders = s.thrust.cylinders.map s.faultCleared := by
  have kept := reentered_kept (leaves := leaves) hold rfl
  have channels' : (t.reentered leaves).channels = s.channels := kept.channels.trans channels
  have overrides' : (t.reentered leaves).overrides = s.overrides := kept.overrides.trans overrides
  have config' : (t.reentered leaves).node.config = s.node.config := by
    rw [kept.node, ← config]
    cases leaves <;> rfl
  have before : (t.reentered leaves).thrust.cylinders = s.thrust.cylinders.map s.originOf := by
    rw [reentered_thrust leaves hold, flag]
    unfold originOf
    cases s.node.firstMembership
    · simp [thrust]
    · simp [originCaptured, mapCylinders, setCylinders, thrust]
  simp only [clearCylinders, mapCylinders, setCylinders, setThrust_thrust, before, List.map_map]
  refine List.map_congr_left fun c _ => ?_
  have forced' : ∀ n, (t.reentered leaves).forced .cylinder n = s.noFirst.forced .cylinder n := by
    intro n
    simp only [forced, override?, overrides']
    rfl
  simp only [Function.comp_apply, faultCleared, forced', leaving,
    clearedCylinder_congr (s := s.noFirst) (t := t.reentered leaves) channels' overrides' config']

/-! ### The node leaves FAULTED (R28) -/

/-- The answer of a CLEAR_FAULT follows the node's change of state; the units are as they were (R28, R14). -/
structure Left (station : Station) (addressed : Bool) (s t : State) : Prop where
  node : t.node = if s.node.state = .faulted then { s.node with state := .member, cause := none, furtherFaults := 0 } else s.node
  link : t.link = ((if s.node.state = .faulted then s.setLink { s.link with transmitting := true } else s).answer
    station addressed .clearFault .done).link
  machine : t.machine = s.machine
  thrust : t.thrust = s.thrust
  drive : t.drive = s.drive
  plans : t.plans = s.plans
  engine : t.engine = s.engine
  muck : t.muck = s.muck
  channels : t.channels = s.channels
  overrides : t.overrides = s.overrides

theorem left_of_configured (configured : s.configured = true) (station : Station) (addressed : Bool) :
    s.Left station addressed (s.leaveFaulted.answer station addressed .clearFault .done) := by
  by_cases faulted : s.node.state = .faulted
  · have link := answer_link_congr (s := s.setLink { s.link with transmitting := true }) (t := s.leaveFaulted)
      (by rw [leaveFaulted_of_configured faulted configured]; rfl) (by simp [own]) station addressed .clearFault .done
    refine ⟨?_, by rw [if_pos faulted]; exact link, ?_, by simp, by simp, by simp, by simp, by simp, by simp, by simp⟩
    · rw [if_pos faulted, leaveFaulted_of_configured faulted configured]
      simp
    · rw [leaveFaulted_of_configured faulted configured]
      simp
  · rw [leaveFaulted_of_sound faulted]
    exact ⟨by simp [faulted], by rw [if_neg faulted], by simp, by simp, by simp, by simp, by simp, by simp, by simp, by simp⟩

namespace Left

variable {station : Station} {addressed : Bool}

theorem config (left : s.Left station addressed t) : t.node.config = s.node.config := by
  rw [left.node]
  split <;> rfl

theorem number (left : s.Left station addressed t) : t.node.number = s.node.number := by
  rw [left.node]
  split <;> rfl

theorem flag (left : s.Left station addressed t) : t.node.firstMembership = s.node.firstMembership := by
  rw [left.node]
  split <;> rfl

end Left

theorem left_of_unconfigured (faulted : s.node.state = .faulted) (unconfigured : s.configured = false) (station : Station)
    (addressed : Bool) :
    (s.leaveFaulted.answer station addressed .clearFault .done).node
      = { s.node with state := .unconfigured, cause := none, collection := none }
    ∧ (s.leaveFaulted.answer station addressed .clearFault .done).link
      = ((s.setLink { s.link with transmitting := true }).answer station addressed .clearFault .done).link
    ∧ (s.leaveFaulted.answer station addressed .clearFault .done).machine = { s.machine with view := [] } := by
  have link := answer_link_congr (s := s.setLink { s.link with transmitting := true }) (t := s.leaveFaulted)
    (by rw [leaveFaulted_of_unconfigured faulted unconfigured]; rfl) (by simp [own]) station addressed .clearFault .done
  refine ⟨?_, link, ?_⟩
  · rw [leaveFaulted_of_unconfigured faulted unconfigured]
    simp
  · rw [leaveFaulted_of_unconfigured faulted unconfigured]
    simp [setView]

theorem inHold_congr (machine : t.machine = s.machine) : t.inHold = s.inHold := by
  unfold inHold
  rw [machine]

/-- What CLEAR_FAULT in HOLD leaves at a node that holds a configuration and whose releases find no fault. -/
structure FaultCleared (station : Station) (addressed : Bool) (s t : State) : Prop where
  member : s.node.state = .faulted → t.node = { s.node with state := .member, cause := none, furtherFaults := 0, firstMembership := false }
  node : s.node.state ≠ .faulted → t.node = s.node
  link : t.link = ((if s.node.state = .faulted then s.setLink { s.link with transmitting := true } else s).answer
    station addressed .clearFault .done).link
  hold : t.inHold = true
  pump : t.grout.pump ≠ .failed
  cylinders : t.thrust.cylinders = s.thrust.cylinders.map s.faultCleared
  drives : t.drive.drives = s.drive.drives.map s.clearedDrive
  first : s.node.firstMembership = true → t.thrust.sectorAdvance = 0 ∧ t.thrust.credited = 0
    ∧ t.thrust.strokeReached = false ∧ t.thrust.steerPause = false
  later : s.node.firstMembership = false → t.thrust.sectorAdvance = s.thrust.sectorAdvance
    ∧ t.thrust.credited = s.thrust.credited ∧ t.thrust.strokeReached = s.thrust.strokeReached
    ∧ t.thrust.steerPause = s.thrust.steerPause
  erector : s.ownsErector = true → t.engine.erector = if s.engine.erector = .halted then .ready else s.engine.erector
  overrides : t.overrides = s.overrides
  ring : t.machine.ring = s.machine.ring
  view : t.machine.view = s.machine.view
  plans : t.plans = s.plans
  cars : t.muck.queue = s.muck.queue

theorem reentered_advance {u v : State} (thrust : t.thrust = s.thrust) (flag : t.node.firstMembership = s.node.firstMembership)
    (captured : v.thrust = if t.node.firstMembership then t.originCaptured.thrust else t.thrust) (leaves : Bool)
    (after : u.thrust = (v.clearCylinders leaves).thrust) :
    (s.node.firstMembership = true → u.thrust.sectorAdvance = 0 ∧ u.thrust.credited = 0
      ∧ u.thrust.strokeReached = false ∧ u.thrust.steerPause = false)
    ∧ (s.node.firstMembership = false → u.thrust.sectorAdvance = s.thrust.sectorAdvance
      ∧ u.thrust.credited = s.thrust.credited ∧ u.thrust.strokeReached = s.thrust.strokeReached
      ∧ u.thrust.steerPause = s.thrust.steerPause) := by
  rw [flag] at captured
  refine ⟨fun first => ?_, fun later => ?_⟩
  · rw [first, if_pos rfl] at captured
    simp [after, clearCylinders, mapCylinders, setCylinders, captured, originCaptured]
  · rw [later, if_neg Bool.false_ne_true, thrust] at captured
    simp [after, clearCylinders, mapCylinders, setCylinders, captured]

theorem Left.cleared {leaves : Bool} {station : Station} {addressed : Bool} (left : s.Left station addressed t)
    (hold : s.inHold = true) (clean : s.ReleasesClean) (leaving : leaves = true ↔ s.node.state = .faulted) :
    s.FaultCleared station addressed ((t.reentered leaves).clearUnits leaves) := by
  have hold' : t.inHold = true := (inHold_congr left.machine).trans hold
  have cylinders := clearCylinders_reentered hold' left.thrust left.channels left.overrides left.config left.flag leaving
  have again := reentered_kept (leaves := leaves) hold' rfl
  have config : (t.reentered leaves).node.config = s.node.config := by
    rw [again.node, ← left.config]
    cases leaves <;> rfl
  have number : (t.reentered leaves).node.number = s.node.number := by
    rw [again.node, ← left.number]
    cases leaves <;> rfl
  have channels : (t.reentered leaves).channels = s.channels := again.channels.trans left.channels
  have clean' : (t.reentered leaves).ReleasesClean :=
    ⟨by rw [ownsMuck_of_config config number, channels]; exact clean.screw,
      by rw [ownsErector_of_config config number, channels]; exact clean.erector⟩
  obtain ⟨now, phase⟩ := inHold_iff.1 again.hold
  have units := clearUnits_cleared leaves clean' (by simp [phase])
  obtain ⟨first, later⟩ := reentered_advance left.thrust left.flag (reentered_thrust leaves hold') leaves units.thrust
  exact {
    member := fun faulted => by
      rw [units.node, again.node, if_pos (leaving.2 faulted), setNode_node, left.node, if_pos faulted]
    node := fun sound => by
      rw [units.node, again.node, if_neg (mt leaving.1 sound), setNode_node, left.node, if_neg sound]
    link := units.link.trans (again.link.trans left.link)
    hold := (inHold_congr units.machine).trans again.hold
    pump := units.pump
    cylinders := (congrArg _ units.thrust).trans cylinders
    drives := by
      rw [units.drives, again.drive, setNode_drive, left.drive]
      exact List.map_congr_left fun d _ => clearedDrive_congr channels d
    first := first
    later := later
    erector := fun owns => by
      rw [units.erector (by rwa [ownsErector_of_config config number]), again.engine, setNode_engine, left.engine]
    overrides := units.overrides.trans (again.overrides.trans left.overrides)
    ring := by rw [units.machine, again.ring, setNode_machine, left.machine]
    view := by rw [units.machine, again.view, setNode_machine, left.machine]
    plans := by rw [units.plans, again.plans, setNode_plans, left.plans]
    cars := by rw [units.cars, again.cars, setNode_muck, left.muck] }

theorem clearsFault_cleared (station : Station) (addressed : Bool) (configured : s.configured = true) (hold : s.inHold = true)
    (clean : s.ReleasesClean) : s.FaultCleared station addressed (s.clearsFault station addressed) :=
  (left_of_configured configured station addressed).cleared hold clean (by simp [configured])

/-! ### An indication that still stands (R120, R166) -/

/-- The fault a release of the erector and the screw finds: the erector's first (log 18). -/
def standingCause (s : State) : FaultCause :=
  if s.ownsErector = true ∧ s.channels.erectorFault = true then .erector else .screw

theorem releases_fault (sound : s.node.state ≠ .faulted) (stands : (s.ownsMuck = true ∧ s.channels.screwFault = true)
    ∨ (s.ownsErector = true ∧ s.channels.erectorFault = true)) :
    s.releaseErector.releaseScrew.node.state = .faulted ∧ s.releaseErector.releaseScrew.node.cause = some s.standingCause := by
  unfold standingCause
  by_cases erector : s.ownsErector = true ∧ s.channels.erectorFault = true
  · rw [if_pos erector]
    have faulted : s.releaseErector.node.state = .faulted ∧ s.releaseErector.node.cause = some .erector := by
      unfold releaseErector
      rw [if_pos erector.1]
      dsimp only
      split
      · rw [setEngine_channels, if_pos erector.2]
        exact takeFault_of_sound .erector sound
      · rw [if_pos erector.2]
        exact takeFault_of_sound .erector sound
    unfold releaseScrew
    split
    · rw [takeFault_of_faulted .screw faulted.1]
      exact faulted
    · exact faulted
  · rw [if_neg erector, releaseErector_of_clean fun owns => by simpa [owns] using erector]
    have screw := stands.resolve_right erector
    have found : s.readyErector.ownsMuck = true ∧ s.readyErector.channels.screwFault = true := by
      rw [ownsMuck_of_config (s := s) (t := s.readyErector) (by simp) (by simp)]
      simpa using screw
    unfold releaseScrew
    rw [if_pos (by simpa using found)]
    exact takeFault_of_sound .screw (by simpa using sound)

theorem clearUnits_node (leaves : Bool) (s : State) :
    (s.clearUnits leaves).node = (s.channelsCleared leaves).releaseErector.releaseScrew.node := by
  simp [clearUnits, channelsCleared]

theorem clearsFault_stands (station : Station) (addressed : Bool) (hold : s.inHold = true)
    (stands : (s.ownsMuck = true ∧ s.channels.screwFault = true) ∨ (s.ownsErector = true ∧ s.channels.erectorFault = true)) :
    (s.clearsFault station addressed).node.state = .faulted ∧ (s.clearsFault station addressed).node.cause = some s.standingCause := by
  have configured : s.configured = true := by
    rcases stands with ⟨owns, -⟩ | ⟨owns, -⟩
    · exact State.Keeps.configured_of_ownsMuck owns
    · exact (Bool.and_eq_true _ _ ▸ owns : _ ∧ _).1
  have left := left_of_configured configured station addressed
  rw [clearsFault_eq, clearUnits_node]
  have leaving : (decide (s.node.state = .faulted) && s.configured) = true ↔ s.node.state = .faulted := by simp [configured]
  generalize s.leaveFaulted.answer station addressed .clearFault .done = u at *
  generalize (decide (s.node.state = .faulted) && s.configured) = leaves at *
  have again := reentered_kept (leaves := leaves) ((inHold_congr left.machine).trans hold) rfl
  have channels : ((u.reentered leaves).channelsCleared leaves).channels = s.channels := by
    simp [channelsCleared, again.channels, left.channels]
  have config : ((u.reentered leaves).channelsCleared leaves).node.config = s.node.config := by
    rw [← left.config]
    cases leaves <;> simp [channelsCleared, again.node]
  have number : ((u.reentered leaves).channelsCleared leaves).node.number = s.node.number := by
    rw [← left.number]
    cases leaves <;> simp [channelsCleared, again.node]
  have sound : ((u.reentered leaves).channelsCleared leaves).node.state ≠ .faulted := by
    have before : u.node.state ≠ .faulted := by
      rw [left.node]
      split
      · exact fun same => nomatch same
      · assumption
    cases leaves <;> simpa [channelsCleared, again.node] using before
  have cause : ((u.reentered leaves).channelsCleared leaves).standingCause = s.standingCause := by
    unfold standingCause
    rw [ownsErector_of_config config number, channels]
  rw [← cause]
  refine releases_fault sound ?_
  rwa [ownsMuck_of_config config number, ownsErector_of_config config number, channels]

/-! ### A FAULTED node without a configuration (R28) -/

theorem clearUnits_of_unconfigured (leaves : Bool) (unconfigured : s.configured = false) :
    (s.clearUnits leaves).node = s.node ∧ (s.clearUnits leaves).link = s.link ∧ (s.clearUnits leaves).machine = s.machine := by
  have config : (s.channelsCleared leaves).configured = false := by
    simpa [channelsCleared, configured] using unconfigured
  have erector : (s.channelsCleared leaves).releaseErector = s.channelsCleared leaves :=
    if_neg (by simp [ownsErector, config])
  have screw : (s.channelsCleared leaves).releaseScrew = s.channelsCleared leaves := if_neg (by simp [ownsMuck, config])
  have eq : s.clearUnits leaves = ((s.channelsCleared leaves).testDrives.commandScrew).testDose := by
    show (((s.channelsCleared leaves).releaseErector.releaseScrew).testDrives.commandScrew).testDose = _
    rw [erector, screw]
  rw [eq]
  simp [channelsCleared]

theorem clearsFault_unconfigured (faulted : s.node.state = .faulted) (unconfigured : s.configured = false) (hold : s.inHold = true)
    (station : Station) (addressed : Bool) :
    (s.clearsFault station addressed).node = { s.node with state := .unconfigured, cause := none, collection := none }
    ∧ (s.clearsFault station addressed).machine.view = []
    ∧ (s.clearsFault station addressed).link
      = ((s.setLink { s.link with transmitting := true }).answer station addressed .clearFault .done).link
    ∧ (s.clearsFault station addressed).inHold = true := by
  obtain ⟨node, link, machine⟩ := left_of_unconfigured faulted unconfigured station addressed
  rw [clearsFault_eq, unconfigured, Bool.and_false]
  generalize s.leaveFaulted.answer station addressed .clearFault .done = u at *
  have hold' : u.inHold = true := by
    unfold inHold
    rw [machine]
    exact hold
  have again := reentered_kept (leaves := false) hold' rfl
  have node' : (u.reentered false).node = u.node := again.node
  obtain ⟨units, unlink, unmachine⟩ := clearUnits_of_unconfigured (s := u.reentered false) false (by
    unfold configured
    rw [node', node]
    exact unconfigured)
  refine ⟨units.trans (node'.trans node), ?_, unlink.trans (again.link.trans link), (inHold_congr unmachine).trans again.hold⟩
  rw [unmachine, again.view, setNode_machine, machine]

/-! ### The service (R28) -/

theorem clearFault_of_unconfigured {sender target : Station} {args : List Byte} (heard : s.HearsConsole sender target)
    (unconfigured : s.node.state = .unconfigured) :
    exec (.clearFault sender target args) s = .next (s.answer sender (target != 0) .clearFault .state) :=
  (receiveCommand_console heard serveClearFault args).trans (congrArg Host.Outcome.next (if_pos unconfigured))

theorem clearFault_of_arguments {sender target : Station} {args : List Byte} (heard : s.HearsConsole sender target)
    (configured : s.node.state ≠ .unconfigured) (some' : args ≠ []) :
    exec (.clearFault sender target args) s = .next (s.answer sender (target != 0) .clearFault .format) :=
  (receiveCommand_console heard serveClearFault args).trans
    (congrArg Host.Outcome.next ((if_neg configured).trans (if_pos (by simpa using some'))))

theorem clearFault_outside_hold {sender target : Station} (heard : s.HearsConsole sender target)
    (configured : s.node.state ≠ .unconfigured) (out : s.inHold = false) :
    exec (.clearFault sender target []) s = .next (s.answer sender (target != 0) .clearFault .state) :=
  (receiveCommand_console heard serveClearFault []).trans
    (congrArg Host.Outcome.next ((if_neg configured).trans ((if_neg Bool.false_ne_true).trans (if_neg (by simp [out])))))

theorem clearFault_in_hold {sender target : Station} (heard : s.HearsConsole sender target)
    (configured : s.node.state ≠ .unconfigured) (hold : s.inHold = true) :
    exec (.clearFault sender target []) s = .next (s.clearsFault sender (target != 0)) :=
  (receiveCommand_console heard serveClearFault []).trans
    (congrArg Host.Outcome.next ((if_neg configured).trans ((if_neg Bool.false_ne_true).trans (if_pos hold))))

end State

end Sys2Proof.Machine

section
open Sys2Proof Sys2Proof.Machine

/-- Settles O33: CLEAR_FAULT in HOLD brings a FAULTED node back to MEMBER with its units' channel states cleared. -/
theorem clearFaultTaken : Obligations.ClearFaultTaken := by
  unfold Obligations.ClearFaultTaken
  intro sender target args s heard
  refine ⟨State.clearFault_of_unconfigured heard, State.clearFault_of_arguments heard, ?_, ?_, ?_, ?_⟩
  · rintro configured rfl out
    exact State.clearFault_outside_hold heard configured out
  · rintro state rfl hold configured screw erector
    have cleared := State.clearsFault_cleared sender (target != 0) configured hold ⟨screw, erector⟩
    refine ⟨_, State.clearFault_in_hold heard state hold, fun faulted => ⟨cleared.member faulted, ?_⟩, cleared.node, cleared.link,
      cleared.hold, cleared.pump, ⟨_, State.faultCleared_cleared s, cleared.cylinders⟩, cleared.drives, cleared.first,
      cleared.later, cleared.erector, ?_, ?_, cleared.overrides, cleared.ring, cleared.view, cleared.plans, cleared.cars⟩
    · rw [cleared.link, if_pos faulted]
      simp
    · intro d held tripped
      rw [cleared.drives, List.mem_map] at held
      obtain ⟨e, -, rfl⟩ := held
      exact State.clearedDrive_fault e tripped
    · intro c held failed
      rw [cleared.cylinders, List.mem_map] at held
      obtain ⟨e, -, rfl⟩ := held
      exact (State.faultCleared_cleared s e).fault_of_failed failed
  · rintro state rfl hold stands
    exact ⟨_, State.clearFault_in_hold heard state hold, State.clearsFault_stands sender (target != 0) hold stands⟩
  · rintro faulted rfl hold unconfigured
    obtain ⟨node, view, link, hold'⟩ := State.clearsFault_unconfigured faulted unconfigured hold sender (target != 0)
    refine ⟨_, State.clearFault_in_hold heard (by simp [faulted]) hold, node, view, link, ?_, hold'⟩
    rw [link]
    simp

end
end

section
/-! PROOFS. A warm restart: the transmit queue and the phase records (R27, R14, R54). -/

-- In one thread: each proof that waits for those before it would keep a thread of its own.
set_option Elab.async false

namespace Sys2Proof.Machine

namespace State

variable {s t u : State}

/-! ### The transmit queue begins anew with the HOLD frame (R14, R27) -/

theorem restartLink_link (s : State) : s.restartLink.link = { s.link with
    queue := [], onWire := s.link.onWire.map (fun w => { w with tx := { w.tx with discard := true } }), transmitting := true } := by
  simp [restartLink, removePending]

theorem restartLink_requeue (s : State) : s.restartLink.engine.requeue = none := by
  have kept : ∀ (fs : List TxFrame) (u : State), (u.framesEnded fs .removed).engine.requeue = u.engine.requeue := by
    intro fs
    induction fs with
    | nil => exact fun u => rfl
    | cons f fs ih =>
      intro u
      refine (ih (u.frameEnded f .removed)).trans ?_
      unfold frameEnded
      dsimp only
      split <;> split <;> rfl
  simp [restartLink, removePending, kept]

theorem removeZoneFrames_of_none (none' : ∀ q ∈ s.link.queue, isZoneRequest q.frame.body = false) :
    s.removeZoneFrames.link.queue = s.link.queue ∧ s.removeZoneFrames.link.held = s.link.held := by
  have stays : s.link.queue.filter (fun f => !isZoneRequest f.frame.body) = s.link.queue :=
    List.filter_eq_self.2 fun q held => by simp [none' q held]
  have gone : s.link.queue.filter (fun f => isZoneRequest f.frame.body) = [] :=
    List.filter_eq_nil_iff.2 fun q held => by simp [none' q held]
  unfold removeZoneFrames
  dsimp only
  rw [stays, gone]
  simp [setWire, setQueue, LinkUnit.held]

/-- The queue starts with the HOLD frame of the restart, the transmitter runs, and there is room for the frames to come. -/
structure RestartHeads (room : Nat) (s : State) : Prop where
  runs : s.link.transmitting = true
  held : s.link.held + room ≤ 16
  head : ∃ q rest, s.link.queue = q :: rest ∧ q.frame.body = .hold .restart .soft

theorem RestartHeads.of_queue {room : Nat} (heads : s.RestartHeads room) (runs : t.link.transmitting = s.link.transmitting)
    (queue : t.link.queue = s.link.queue) (held : t.link.held = s.link.held) : t.RestartHeads room :=
  ⟨runs ▸ heads.runs, held ▸ heads.held, queue ▸ heads.head⟩

theorem RestartHeads.of_link {room : Nat} (heads : s.RestartHeads room) (link : t.link = s.link) : t.RestartHeads room :=
  heads.of_queue (by rw [link]) (by rw [link]) (by rw [link])

/-- The HOLD frame into an empty queue. -/
theorem queueFrame_restart (runs : s.link.transmitting = true) (empty : s.link.queue = []) :
    (s.queueFrame (.hold .restart .soft)).link = { s.link with
      queue := [s.newFrame 0 (.hold .restart .soft) .plain], nextAge := s.link.nextAge + 1 } := by
  have room : ¬ Config.txqPlaces ≤ s.stepAge.link.held := by
    have few : s.stepAge.link.held ≤ 1 := by
      simp only [LinkUnit.held, stepAge, setLink_link, empty, List.length_nil]
      split <;> omega
    exact Nat.not_le.2 (Nat.lt_of_le_of_lt few (by decide))
  have runs' : s.stepAge.link.transmitting = true := runs
  have empty' : s.stepAge.link.queue = [] := empty
  simp only [queueFrame, queueTagged, isHold, if_true, admitHold, runs', room, decide_false, Bool.and_false, Bool.false_eq_true, if_false,
    admitFrame, Bool.not_true, empty', insertTx]
  rfl

/-- The hold of a restart, on an empty queue of a transmitter that runs. -/
theorem imposeHold_restartHeads (runs : s.link.transmitting = true) (empty : s.link.queue = []) :
    (s.imposeHold .restart (always := true)).RestartHeads 14 := by
  obtain ⟨v, hv⟩ : ∃ v, v = s.failRound s.own .held := ⟨_, rfl⟩
  have link : v.link = s.link := by rw [hv]; simp
  have queued : ∀ w : State, w.link = s.link → (w.queueFrame (.hold .restart .soft)).RestartHeads 14 := by
    intro w same
    have after := queueFrame_restart (s := w) (by rw [same, runs]) (by rw [same, empty])
    refine ⟨by rw [after, same]; exact runs, ?_, _, [], by rw [after], rfl⟩
    rw [after]
    simp only [LinkUnit.held, List.length_singleton]
    split <;> omega
  have handed : ∀ fromBore, (((v.openHold .restart v.own .soft).queueFrame (.hold .restart .soft)).handEntryToHold fromBore
      .soft).RestartHeads 14 := by
    intro fromBore
    have heads := queued (v.openHold .restart v.own .soft) link
    obtain ⟨queue, held⟩ := removeZoneFrames_of_none (s := (v.openHold .restart v.own .soft).queueFrame (.hold .restart .soft)) (by
      rw [queueFrame_restart (s := v.openHold .restart v.own .soft) (by rw [← runs, ← link]; rfl) (by rw [← empty, ← link]; rfl)]
      simp [newFrame, isZoneRequest])
    have same := handEntryToHold_link fromBore .soft ((v.openHold .restart v.own .soft).queueFrame (.hold .restart .soft))
    exact heads.of_queue (by simp) (by rw [same, queue]) (by rw [same, held])
  unfold imposeHold
  dsimp only
  rw [failRound_phase, ← hv]
  cases phase : s.machine.phase with
  | hold now =>
    have noRaise : raises now (causeGrade .restart .soft) = false := by cases now <;> rfl
    dsimp only
    rw [noRaise]
    exact queued _ link
  | bore => exact handed true
  | build => exact handed false

/-! ### The frames that follow it -/

theorem insertTx_after_hold {f q : TxFrame} {rest : List TxFrame} (hold : q.frame.body = .hold .restart .soft)
    (other : isHold f.frame.body = false) : insertTx f (q :: rest) = q :: insertTx f rest := by
  have later : 0 < urgency f.frame.body := by
    cases body : f.frame.body <;> simp [body, urgency, isHold] at other ⊢
  have first : urgency q.frame.body = 0 := by rw [hold]; rfl
  have before : q.before f = true := by simp [TxFrame.before, first, later]
  exact if_pos before

theorem RestartHeads.queueFrame {room : Nat} {b : Body} (heads : s.RestartHeads (room + 1)) (other : isHold b = false) :
    (s.queueFrame b).RestartHeads room := by
  obtain ⟨runs, held, q, rest, queue, hold⟩ := heads
  have after := queueFrame_of_hasPlace s b ⟨runs, by omega⟩ other
  refine ⟨by rw [after]; exact runs, ?_, q, ?_⟩
  · rw [after]
    have one : (insertTx (s.newFrame 0 b .plain) s.link.queue).length = s.link.queue.length + 1 := length_insertTx _ _
    dsimp only [LinkUnit.held, setLink] at held ⊢
    rw [one]
    omega
  · rw [after, setLink_link, queue, insertTx_after_hold hold other]
    exact ⟨_, rfl, hold⟩

theorem RestartHeads.queueFrames {room : Nat} (bs : List Body) (other : ∀ b ∈ bs, isHold b = false) :
    ∀ {s : State}, s.RestartHeads (room + bs.length) → (s.queueFrames bs).RestartHeads room := by
  induction bs with
  | nil => exact fun heads => heads
  | cons b bs ih =>
    intro s heads
    obtain ⟨first, later⟩ := List.forall_mem_cons.1 other
    exact ih later (RestartHeads.queueFrame (by simpa [Nat.add_assoc] using heads) first)

theorem RestartHeads.mono {room less : Nat} (heads : s.RestartHeads room) (le : less ≤ room) : s.RestartHeads less :=
  ⟨heads.runs, Nat.le_trans (Nat.add_le_add_left le _) heads.held, heads.head⟩

/-- The beacon after the other frames: it is in the queue, and so is every frame that is none. -/
theorem RestartHeads.queueBeacon {room : Nat} (heads : s.RestartHeads (room + 1)) : s.queueBeacon.RestartHeads room
    ∧ (∃ q ∈ s.queueBeacon.link.queue, isBeacon q.frame.body = true)
    ∧ ∀ q ∈ s.link.queue, isBeacon q.frame.body = false → q ∈ s.queueBeacon.link.queue := by
  obtain ⟨runs, held, q, rest, queue, hold⟩ := heads
  have notBeacon : isBeacon q.frame.body = false := by rw [hold]; rfl
  cases pending : s.pendingBeacon with
  | none =>
    have after := queueBeacon_of_none ⟨runs, by omega⟩ pending
    have one : (insertTx (s.newFrame 0 (.beacon s.beaconContents) .plain) s.link.queue).length = s.link.queue.length + 1 := length_insertTx _ _
    rw [after]
    refine ⟨⟨runs, ?_, q, ?_⟩, ⟨_, mem_insertTx_self _ _, rfl⟩, fun f there _ => (mem_insertTx _ _ _).2 (.inr there)⟩
    · dsimp only [LinkUnit.held, setLink] at held ⊢
      rw [one]
      omega
    · rw [setLink_link, queue, insertTx_after_hold hold rfl]
      exact ⟨_, rfl, hold⟩
  | some f =>
    have after := queueBeacon_of_some runs pending
    have there : f ∈ s.link.queue := List.mem_of_find?_eq_some pending
    have beacon : isBeacon f.frame.body = true := List.find?_some (p := fun f : TxFrame => isBeacon f.frame.body) pending
    rw [after]
    refine ⟨⟨runs, ?_, q, ?_⟩, ⟨_, List.mem_map.2 ⟨f, there, rfl⟩, by rw [if_pos beacon]; rfl⟩, fun g there' other =>
      List.mem_map.2 ⟨g, there', if_neg (by simp [other])⟩⟩
    · dsimp only [LinkUnit.held, setLink, replaceBeacon] at held ⊢
      rw [List.length_map]
      omega
    · refine ⟨replaceBeacon (.beacon s.beaconContents) rest, ?_, hold⟩
      rw [setLink_link, queue]
      exact congrArg (· :: replaceBeacon (.beacon s.beaconContents) rest) (if_neg (by simp [notBeacon]))

/-! ### The restraint set rebuilt, its changes told (R81) -/

def allReasons : List RestraintReason := [.grout, .muck, .torque, .face]

theorem mem_allReasons (r : RestraintReason) : r ∈ allReasons := by cases r <;> simp [allReasons]

/-- The reasons an own entry is given up for. -/
def reasonsReleased (s : State) : List RestraintReason :=
  (allReasons.filter s.restrains).filter fun r => !(allReasons.filter s.unitRestrains).contains r

/-- The reasons an own entry is new for. -/
def reasonsRestrained (s : State) : List RestraintReason :=
  (allReasons.filter s.unitRestrains).filter fun r => !(allReasons.filter s.restrains).contains r

theorem restartRestraints_eq (s : State) : s.restartRestraints =
    (((s.setThrust { s.thrust with restraints := [] }).addOwn (allReasons.filter s.unitRestrains)).queueFrames
      (s.reasonsReleased.map fun r => .release [restraintCode r])).queueFrames
      (s.reasonsRestrained.map fun r => .restrain [restraintCode r]) := rfl

theorem length_reasons (s : State) : s.reasonsReleased.length ≤ 4 ∧ s.reasonsRestrained.length ≤ 4 :=
  ⟨Nat.le_trans (List.length_filter_le _ _) (List.length_filter_le _ _), Nat.le_trans (List.length_filter_le _ _) (List.length_filter_le _ _)⟩

theorem addOwn_link (rs : List RestraintReason) : ∀ s : State, (s.addOwn rs).link = s.link := by
  induction rs with
  | nil => exact fun s => rfl
  | cons r rs ih => exact fun s => ih (s.addRestraint s.own r)

theorem restartRestraints_heads (heads : s.RestartHeads 14) : s.restartRestraints.RestartHeads 6
    ∧ (∀ r, s.restrains r = true → s.unitRestrains r = false →
        ∃ q ∈ s.restartRestraints.link.queue, q.frame.body = .release [restraintCode r])
    ∧ (∀ r, s.restrains r = false → s.unitRestrains r = true →
        ∃ q ∈ s.restartRestraints.link.queue, q.frame.body = .restrain [restraintCode r]) := by
  obtain ⟨released, restrained⟩ := length_reasons s
  obtain ⟨v, hv⟩ : ∃ v, v = (s.setThrust { s.thrust with restraints := [] }).addOwn (allReasons.filter s.unitRestrains) := ⟨_, rfl⟩
  have link : v.link = s.link := by rw [hv]; exact addOwn_link _ _
  have notHold : ∀ b ∈ s.reasonsReleased.map (fun r => Body.release [restraintCode r]), isHold b = false := by
    intro b held
    obtain ⟨r, -, rfl⟩ := List.mem_map.1 held
    rfl
  have notHold' : ∀ b ∈ s.reasonsRestrained.map (fun r => Body.restrain [restraintCode r]), isHold b = false := by
    intro b held
    obtain ⟨r, -, rfl⟩ := List.mem_map.1 held
    rfl
  have start : v.RestartHeads (10 + (s.reasonsReleased.map fun r => Body.release [restraintCode r]).length) :=
    (heads.of_link link).mono (by rw [List.length_map]; omega)
  have middle := RestartHeads.queueFrames _ notHold start
  have finish := RestartHeads.queueFrames _ notHold' (s := v.queueFrames (s.reasonsReleased.map fun r => .release [restraintCode r]))
    (room := 6) (middle.mono (by rw [List.length_map]; omega))
  obtain ⟨-, -, -, told⟩ := queueFrames_holds _ v start.runs
    (Nat.le_trans (Nat.add_le_add_left (Nat.le_add_left _ _) _) start.held) notHold
  obtain ⟨-, -, kept, told'⟩ := queueFrames_holds _ (v.queueFrames (s.reasonsReleased.map fun r => .release [restraintCode r]))
    middle.runs (Nat.le_trans (Nat.add_le_add_left (by rw [List.length_map]; omega) _) middle.held) notHold'
  rw [restartRestraints_eq, ← hv]
  refine ⟨finish, fun r before after => ?_, fun r before after => ?_⟩
  · obtain ⟨q, held, body⟩ := told _ (List.mem_map.2 ⟨r, List.mem_filter.2 ⟨List.mem_filter.2 ⟨mem_allReasons r, before⟩, by
      simp [after]⟩, rfl⟩)
    exact ⟨q, kept q held, body⟩
  · exact told' _ (List.mem_map.2 ⟨r, List.mem_filter.2 ⟨List.mem_filter.2 ⟨mem_allReasons r, after⟩, by simp [before]⟩, rfl⟩)

/-! ### Phase and records (R54, R40, R41) -/

/-- With no round open, the machine advance recomputed in HOLD at most counts a hold more. -/
theorem updateMachineAdvance_machine {now : Grade} (phase : s.machine.phase = .hold now) (closed : s.machine.round = none) :
    s.updateMachineAdvance.machine = s.machine
    ∨ (s.ownsMuck = true ∧ s.updateMachineAdvance.machine = (s.countHold .overdig s.own now .soft).machine) := by
  unfold updateMachineAdvance
  split
  · rename_i owns
    unfold evaluateOverdig
    split
    · right
      refine ⟨owns, ?_⟩
      rw [imposeHold_machine]
      simp only [setMuck_machine, phase]
      rw [failRound_none _ _ _ (by exact closed)]
      rfl
    · left
      split <;> rfl
  · exact .inl rfl

/-- What a further soft hold counted in HOLD changes of the machine: at most the count of its record. -/
structure Recounted (s t : State) : Prop where
  phase : t.machine.phase = s.machine.phase
  previous : t.machine.previous = s.machine.previous
  round : t.machine.round = s.machine.round
  lastFailure : t.machine.lastFailure = s.machine.lastFailure
  ring : t.machine.ring = s.machine.ring
  view : t.machine.view = s.machine.view
  current : ∀ r, s.machine.current = some r →
    ∃ k, t.machine.current = some { r with further := k } ∧ (s.ownsMuck = false → k = r.further)

theorem updateMachineAdvance_recounted {now : Grade} (phase : s.machine.phase = .hold now) (closed : s.machine.round = none) :
    s.Recounted s.updateMachineAdvance := by
  rcases updateMachineAdvance_machine phase closed with same | ⟨owns, counted⟩
  · exact ⟨by rw [same], by rw [same], by rw [same], by rw [same], by rw [same], by rw [same],
      fun r current => ⟨r.further, by rw [same, current], fun _ => rfl⟩⟩
  · refine ⟨by rw [counted, phase]; rfl, by rw [counted]; rfl, by rw [counted]; rfl, by rw [counted]; rfl, by rw [counted]; rfl,
      by rw [counted]; rfl, fun r current => ⟨min 255 (r.further + 1), ?_, fun other => absurd owns (by simp [other])⟩⟩
    rw [counted]
    simp [countHold, current]

/-- The hold of a restart. -/
structure RestartHold (s t : State) : Prop where
  round : t.machine.round = none
  previous : t.machine.previous = s.machine.previous
  ring : t.machine.ring = s.machine.ring
  opens : s.inHold = false → t.machine.phase = .hold .soft ∧ t.machine.current = some ⟨.restart, s.own, s.machine.ring, .soft, 0⟩
  counts : ∀ now, s.machine.phase = .hold now → t.machine.phase = .hold now
    ∧ (∀ r, s.machine.current = some r → t.machine.current = some { r with further := min 255 (r.further + 1) })
    ∧ (s.machine.current = none → t.machine.current = some ⟨.restart, s.own, s.machine.ring, now, 0⟩)
  closed : s.machine.round = none → t.machine.lastFailure = s.machine.lastFailure
  failed : ∀ r, s.machine.round = some r → t.machine.lastFailure = some ⟨r.target, s.own, .held⟩ ∧ t.noticed .voteFailed = true

theorem imposeHold_noticed (cause : HoldCause) (always : Bool) {r : Round} (open' : s.machine.round = some r) :
    (s.imposeHold cause always).noticed .voteFailed = true := by
  obtain ⟨v, hv⟩ : ∃ v, v = s.failRound s.own .held := ⟨_, rfl⟩
  have told : v.noticed .voteFailed = true := by
    rw [hv, failRound_some _ _ r _ open']
    exact NoticesKept_count _ _ _ (notify_noticed _ _)
  have closed : v.machine.round = none := by rw [hv, failRound_machine]
  have again : s.imposeHold cause always = v.imposeHold cause always := by
    have same : v.failRound v.own .held = v := failRound_none _ _ _ closed
    unfold imposeHold
    dsimp only
    rw [same, hv]
  rw [again]
  exact NoticesKept_impose _ _ _ _ told

theorem imposeHold_restartHold (s : State) : s.RestartHold (s.imposeHold .restart (always := true)) := by
  have machine := imposeHold_machine .restart s true
  have failure : (s.imposeHold .restart (always := true)).machine.lastFailure = (s.failRound s.own .held).machine.lastFailure := by
    rw [machine]
    cases s.machine.phase <;> rfl
  refine ⟨?_, by simp, by simp, fun out => ?_, fun now phase => ?_, fun closed => ?_, fun r open' => ⟨?_, imposeHold_noticed _ _ open'⟩⟩
  · rw [machine]
    cases s.machine.phase <;> simp [countHold, openHold, failRound_machine]
  · rw [machine]
    cases phase : s.machine.phase with
    | hold now => simp [inHold, phase] at out
    | bore => simp [openHold, causeGrade]
    | build => simp [openHold, causeGrade]
  · rw [machine, phase]
    refine ⟨rfl, fun r current => ?_, fun empty => ?_⟩
    · simp [countHold, failRound_machine, current, causeGrade]
    · simp [countHold, failRound_machine, empty, causeGrade]
  · rw [failure, failRound_none _ _ _ closed]
  · rw [failure, failRound_some _ _ r _ open']
    rfl

theorem RestartHold.inHold (held : s.RestartHold t) : t.inHold = true := by
  cases phase : s.machine.phase with
  | hold now => exact inHold_iff.2 ⟨now, (held.counts now phase).1⟩
  | bore => exact inHold_iff.2 ⟨_, (held.opens (by simp [State.inHold, phase])).1⟩
  | build => exact inHold_iff.2 ⟨_, (held.opens (by simp [State.inHold, phase])).1⟩

theorem RestartHold.current_some (held : s.RestartHold t) : ∃ r, t.machine.current = some r := by
  cases phase : s.machine.phase with
  | hold now =>
    obtain ⟨-, again, anew⟩ := held.counts now phase
    cases current : s.machine.current with
    | none => exact ⟨_, anew current⟩
    | some r => exact ⟨_, again r current⟩
  | bore => exact ⟨_, (held.opens (by simp [State.inHold, phase])).2⟩
  | build => exact ⟨_, (held.opens (by simp [State.inHold, phase])).2⟩

/-- The records of a warm restart, told of the hold and a possible count after it. -/
theorem RestartHold.restartHeld (held : s.RestartHold t) (again : t.Recounted u) (owns : t.ownsMuck = s.ownsMuck)
    (told : t.noticed .voteFailed = true → u.noticed .voteFailed = true) : s.RestartHeld u := by
  rw [RestartHeld]
  refine ⟨fun out => ?_, fun now phase => ?_, again.previous.trans held.previous, fun closed => again.lastFailure.trans (held.closed closed),
    fun r open' => ⟨again.lastFailure.trans (held.failed r open').1, told (held.failed r open').2⟩⟩
  · obtain ⟨phase, current⟩ := held.opens out
    obtain ⟨k, current', few⟩ := again.current _ current
    exact ⟨again.phase.trans phase, _, current', rfl, rfl, rfl, rfl, fun none' => few (owns.trans none')⟩
  · obtain ⟨phase', recounted, anew⟩ := held.counts now phase
    refine ⟨again.phase.trans phase', fun r current => ?_, fun empty => ?_⟩
    · obtain ⟨k, current', few⟩ := again.current _ (recounted r current)
      exact ⟨k, current', fun none' => few (owns.trans none')⟩
    · obtain ⟨k, current', few⟩ := again.current _ (anew empty)
      exact ⟨k, current', fun none' => few (owns.trans none')⟩

end State
end Sys2Proof.Machine
end

section
/-! PROOFS. A warm restart: the units (R27, R63, R81, R89, R100, R161), and what RESTART does (O32). -/

-- In one thread: each proof that waits for those before it would keep a thread of its own.
set_option Elab.async false

namespace Sys2Proof.Machine

namespace State

variable {s t u : State}

/-! ### The hold of a restart, the view and the override table (R27) -/

/-- The state in which the units restart. -/
def restartEntry (s : State) : State :=
  ((s.restartLink.imposeHold .restart (always := true)).setView
    (s.restartLink.imposeHold .restart (always := true)).freshView).setOverrides []

/-- The units restarted, the restraint set and the machine advance with them. -/
def unitsRestarted (s : State) : State := s.restartEntry.restartUnits.restartRestraints.updateMachineAdvance

theorem warmRestart_eq (s : State) : s.warmRestart = (((s.unitsRestarted.setNode
    { s.unitsRestarted.node with cause := none, furtherFaults := 0 }).enterJoining).testDrives.commandScrew).testDose := rfl

theorem imposeHold_grout_of_soft (cause : HoldCause) (always : Bool) (soft : causeGrade cause .soft = .soft) :
    (s.imposeHold cause always).grout = s.grout := by
  have handed : ∀ (fromBore : Bool) (u : State), (u.handEntryToHold fromBore .soft).grout = u.grout := by
    intro fromBore u
    simp [handEntryToHold]
  unfold imposeHold
  dsimp only
  rw [failRound_phase, soft]
  cases s.machine.phase with
  | hold now =>
    have noRaise : raises now .soft = false := by cases now <;> rfl
    dsimp only
    rw [noRaise]
    cases always <;> simp
  | bore => simp [handed, openHold]
  | build => simp [handed, openHold]

theorem freshView_of_node (node : t.node = s.node) : t.freshView = s.freshView := by
  have own' : t.own = s.own := congrArg NodeRecord.number node
  unfold freshView
  rw [membersInOrder_of_node node, own']

theorem restartEntry_hold (s : State) : s.RestartHold s.restartEntry := by
  have base := imposeHold_restartHold s.restartLink
  have machine : s.restartLink.machine = s.machine := by simp
  have own' : s.restartLink.own = s.own := by simp [own]
  refine ⟨base.round, base.previous.trans (by rw [machine]), base.ring.trans (by rw [machine]), fun out => ?_, fun now phase => ?_,
    fun closed => ?_, fun r open' => ?_⟩
  · have opened := base.opens ((inHold_congr machine).trans out)
    rwa [own', machine] at opened
  · have counted := base.counts now (by rw [machine]; exact phase)
    rwa [own', machine] at counted
  · have closed' := base.closed (by rw [machine]; exact closed)
    rwa [machine] at closed'
  · have failed := base.failed r (by rw [machine]; exact open')
    rwa [own'] at failed

theorem restartEntry_heads (s : State) : s.restartEntry.RestartHeads 14 := by
  have heads := imposeHold_restartHeads (s := s.restartLink) (by rw [restartLink_link]) (by rw [restartLink_link])
  exact heads.of_link rfl

theorem restartEntry_kept (s : State) : s.restartEntry.node = s.node ∧ s.restartEntry.channels = s.channels
    ∧ s.restartEntry.grout = s.grout ∧ s.restartEntry.overrides = [] ∧ s.restartEntry.machine.view = s.freshView
    ∧ s.restartEntry.muck.queue = s.muck.queue := by
  have grout := imposeHold_grout_of_soft (s := s.restartLink) .restart true rfl
  have view := freshView_of_node (s := s) (t := s.restartLink.imposeHold .restart (always := true)) (by simp)
  exact ⟨by simp [restartEntry], by simp [restartEntry], grout.trans (by simp), rfl, view, by simp [restartEntry]⟩

/-! ### The cylinders (R63) -/

/-- What a warm restart makes of a cylinder. -/
def restartedCylinder (s : State) (c : Cylinder) : Cylinder := if c.state = .failed then c else s.rebuiltCylinder c

theorem restartedCylinder_congr (channels : t.channels = s.channels) (node : t.node = s.node) (c : Cylinder) :
    t.restartedCylinder c = s.restartedCylinder c := by
  have report : t.cylReport c.number = s.cylReport c.number := by simp only [cylReport, channels]
  have limits : t.cfg = s.cfg := by simp only [cfg, node]
  unfold restartedCylinder rebuiltCylinder contact
  rw [report, limits]

/-- Entry to HOLD before it makes no difference to a cylinder that restarts. -/
theorem restartedCylinders_thrustEntersHold (fromBore : Bool) (s : State) :
    (s.thrustEntersHold fromBore).thrust.cylinders.map s.restartedCylinder = s.thrust.cylinders.map s.restartedCylinder := by
  simp only [thrustEntersHold, mapCylinders, setCylinders, setThrust_thrust, List.map_map]
  refine List.map_congr_left fun c _ => ?_
  simp only [Function.comp_apply]
  split
  · rename_i advancing
    simp [restartedCylinder, rebuiltCylinder, advancing.1]
  split
  · rename_i moving
    have sound : c.state ≠ .failed := by
      rcases moving.1 with state | state <;> simp [state]
    simp [restartedCylinder, rebuiltCylinder, sound]
  · rfl

theorem restartEntry_cylinders (s : State) :
    s.restartEntry.thrust.cylinders.map s.restartedCylinder = s.thrust.cylinders.map s.restartedCylinder := by
  have thrust := imposeHold_thrust .restart s.restartLink true
  have same : s.restartEntry.thrust = (s.restartLink.imposeHold .restart (always := true)).thrust := rfl
  have before : s.restartLink.thrust.cylinders = s.thrust.cylinders := by simp
  have restarted : s.restartLink.restartedCylinder = s.restartedCylinder :=
    funext fun c => restartedCylinder_congr (by simp) (by simp) c
  rw [same, thrust]
  cases s.restartLink.machine.phase with
  | hold now => exact congrArg _ before
  | bore =>
    have held := restartedCylinders_thrustEntersHold true s.restartLink
    rwa [restarted, before] at held
  | build =>
    have held := restartedCylinders_thrustEntersHold false s.restartLink
    rwa [restarted, before] at held

/-! ### The engine (R100, R112) -/

theorem restartEngine_effect (s : State) : s.restartEngine.plans = ⟨[], none⟩ ∧ s.restartEngine.engine.state = .disabled
    ∧ s.restartEngine.engine.seated = none ∧ s.restartEngine.engine.closePending = false := by
  unfold restartEngine
  exact ⟨rfl, rfl, rfl, rfl⟩

/-! ### Pump and dose (R161) -/

theorem stopDose_of_none (none' : s.doseInFlight = false) : s.stopDose = s := by
  unfold stopDose endDose
  split
  · rename_i d dose
    have ended : d.ending.isNone = false := by simpa [doseInFlight, dose] using none'
    exact if_neg (by simp [ended])
  · rfl

theorem clearPump_dose (s : State) : s.clearPump.grout = { s.grout with pump := if s.grout.pump = .failed then .idle else s.grout.pump } := by
  unfold clearPump
  split <;> rfl

/-- The grout unit of a warm restart, a dose tested for at the end. -/
theorem groutRestarted {v : State} (same : v.grout = s.grout) (node : v.node = s.node) (grout : u.grout = v.stopDose.clearPump.grout)
    (phase : s.machine.phase = .hold .hard → u.machine.phase = .hold .hard) (channels : u.channels = s.channels) :
    s.GroutRestarted u.testDose := by
  have flight : v.doseInFlight = s.doseInFlight := doseInFlight_congr same
  have stopped : u.doseInFlight = false := by
    have ended := stopDose_ends v
    unfold doseInFlight at ended ⊢
    rw [grout, clearPump_dose]
    exact ended
  have sound : u.grout.pump ≠ .failed := by
    rw [grout]
    exact clearPump_pump _
  refine ⟨testDose_pump sound, fun d dose runs => ?_, fun held dosing => ?_⟩
  · by_cases condition : u.doseCondition = true
    · cases port : u.selectPort with
      | none =>
        rw [testDose_of_none (.inr port)] at dose
        simp [doseInFlight, dose, runs] at stopped
      | some n =>
        rw [testDose_of_port condition port] at dose
        simp only [setChannels_grout, setGrout_grout, Option.some.injEq] at dose
        subst dose
        exact ⟨rfl, rfl⟩
    · rw [testDose_of_none (.inl (by simpa using condition))] at dose
      simp [doseInFlight, dose, runs] at stopped
  · have none' : u.doseCondition = false := by
      rcases held with hard | atWork
      · simp [doseCondition, phase hard]
      · simp [doseCondition, channels, atWork]
    rw [testDose_of_none (.inl none'), grout]
    have ownSame := ownSection_of_node node
    by_cases inFlight : s.doseInFlight = true
    · obtain ⟨d, dose, runs⟩ : ∃ d, s.grout.dose = some d ∧ d.ending = none := by
        cases dose : s.grout.dose with
        | none => simp [doseInFlight, dose] at inFlight
        | some d => exact ⟨d, rfl, by simpa [doseInFlight, dose] using inFlight⟩
      rw [clearPump_dose, stopDose, endDose_of_flight .stopped (same ▸ dose) runs]
      refine ⟨?_, fun other => absurd inFlight (by simp [other]), fun e dose' _ => ?_⟩
      · simp only [setGrout_grout]
        split <;> simp_all
      · obtain rfl : d = e := Option.some.inj (dose.symm.trans dose')
        exact ⟨rfl, by simp [pointerAfter, isChainPort, ownSame, same]⟩
    · have none'' : s.doseInFlight = false := by simpa using inFlight
      rw [stopDose_of_none (flight.trans none''), clearPump_dose, same]
      refine ⟨?_, fun _ => ⟨rfl, rfl⟩, fun d dose runs => ?_⟩
      · have notDosing : s.grout.pump ≠ .dosing := fun pump => inFlight (dosing.1 pump)
        cases pump : s.grout.pump <;> simp_all
      · simp [doseInFlight, dose, runs] at inFlight

/-! ### The units restarted -/

/-- The state whose machine advance a warm restart recomputes. -/
def unitsRebuilt (s : State) : State := s.restartEntry.restartUnits.restartRestraints

theorem queueFrames_engine (bs : List Body) (plain : ∀ b ∈ bs, isClosing b = false ∧ isHold b = false) :
    ∀ s : State, (s.queueFrames bs).engine = s.engine := by
  induction bs with
  | nil => exact fun s => rfl
  | cons b bs ih =>
    intro s
    obtain ⟨first, later⟩ := List.forall_mem_cons.1 plain
    exact (ih later (s.queueFrame b)).trans (queueTagged_engine 0 .plain s first.1 first.2)

theorem restartRestraints_engine (s : State) : s.restartRestraints.engine = s.engine := by
  rw [restartRestraints_eq, queueFrames_engine _ (by simp [isClosing, isHold]), queueFrames_engine _ (by simp [isClosing, isHold])]
  simp

theorem noticesKept_queueFrames (bs : List Body) : ∀ s : State, NoticesKept s (s.queueFrames bs) := by
  induction bs with
  | nil => exact fun s => NoticesKept.refl
  | cons b bs ih => exact fun s => (NoticesKept_queue 0 b .plain s).trans (ih (s.queueFrame b))

theorem noticesKept_restartRestraints (s : State) : NoticesKept s s.restartRestraints := by
  rw [restartRestraints_eq]
  exact ((noticesKept_queueFrames _ _).trans (noticesKept_queueFrames _ _)).pre (by simp)

theorem queueBeacon_engine (s : State) : s.queueBeacon.engine = s.engine := by
  unfold queueBeacon
  dsimp only
  split
  · rfl
  · exact queueTagged_engine 0 .plain s rfl rfl

theorem unitsRebuilt_kept (s : State) : s.unitsRebuilt.node = s.node ∧ s.unitsRebuilt.channels = s.channels
    ∧ s.unitsRebuilt.overrides = [] ∧ s.unitsRebuilt.muck.queue = s.muck.queue
    ∧ s.unitsRebuilt.machine = s.restartEntry.machine := by
  obtain ⟨node, channels, -, overrides, -, cars⟩ := restartEntry_kept s
  exact ⟨by simp [unitsRebuilt, node], by simp [unitsRebuilt, channels], by simp [unitsRebuilt, overrides], by simp [unitsRebuilt, cars],
    by simp [unitsRebuilt]⟩

theorem unitsRebuilt_hold (s : State) : s.RestartHold s.unitsRebuilt := by
  obtain ⟨-, -, -, -, machine⟩ := unitsRebuilt_kept s
  have told : NoticesKept s.restartEntry s.unitsRebuilt := (noticesKept_restartRestraints _).pre (by simp)
  have held := restartEntry_hold s
  exact ⟨by rw [machine]; exact held.round, by rw [machine]; exact held.previous, by rw [machine]; exact held.ring,
    by rw [machine]; exact held.opens, by rw [machine]; exact held.counts, by rw [machine]; exact held.closed,
    fun r open' => ⟨by rw [machine]; exact (held.failed r open').1, told _ (held.failed r open').2⟩⟩

theorem unitsRebuilt_engine (s : State) : s.unitsRebuilt.plans = ⟨[], none⟩ ∧ s.unitsRebuilt.engine.state = .disabled
    ∧ s.unitsRebuilt.engine.seated = none ∧ s.unitsRebuilt.engine.closePending = false := by
  obtain ⟨plans, state, seated, pending⟩ := restartEngine_effect s.restartEntry.restartCylinders.restartGuard
  have units : s.restartEntry.restartUnits.engine = s.restartEntry.restartCylinders.restartGuard.restartEngine.engine
      ∧ s.restartEntry.restartUnits.plans = s.restartEntry.restartCylinders.restartGuard.restartEngine.plans := by
    simp [restartUnits]
  have same : s.unitsRebuilt.plans = s.restartEntry.restartUnits.plans := by simp [unitsRebuilt]
  rw [same, unitsRebuilt, restartRestraints_engine, units.1, units.2]
  exact ⟨plans, state, seated, pending⟩

theorem unitsRebuilt_grout (s : State) : ∃ v : State, v.grout = s.grout ∧ v.node = s.node
    ∧ s.unitsRebuilt.grout = v.stopDose.clearPump.grout := by
  obtain ⟨node, -, grout, -, -, -⟩ := restartEntry_kept s
  refine ⟨s.restartEntry.restartCylinders.restartGuard.restartEngine, by simp [grout], by simp [node], ?_⟩
  simp only [unitsRebuilt, restartRestraints_frame]
  rfl

theorem unitsRebuilt_thrust (s : State) : s.unitsRebuilt.thrust.zone = none ∧ s.unitsRebuilt.thrust.steerPause = false
    ∧ s.unitsRebuilt.thrust.cylinders = s.thrust.cylinders.map s.restartedCylinder := by
  obtain ⟨node, channels, -⟩ := restartEntry_kept s
  have units : s.restartEntry.restartUnits.thrust = s.restartEntry.restartCylinders.thrust := by simp [restartUnits]
  have restarted : s.restartEntry.restartedCylinder = s.restartedCylinder := funext fun c => restartedCylinder_congr channels node c
  refine ⟨?_, ?_, ?_⟩
  · simp only [unitsRebuilt, restartRestraints_fields, units]
    rfl
  · simp only [unitsRebuilt, restartRestraints_fields, units]
    rfl
  · simp only [unitsRebuilt, restartRestraints_fields, units]
    rw [← restartEntry_cylinders, ← restarted]
    rfl

theorem unitsRebuilt_heads (s : State) : s.unitsRebuilt.RestartHeads 6
    ∧ (∀ r, s.restartEntry.restartUnits.restrains r = true → s.restartEntry.restartUnits.unitRestrains r = false →
        ∃ q ∈ s.unitsRebuilt.link.queue, q.frame.body = .release [restraintCode r])
    ∧ (∀ r, s.restartEntry.restartUnits.restrains r = false → s.restartEntry.restartUnits.unitRestrains r = true →
        ∃ q ∈ s.unitsRebuilt.link.queue, q.frame.body = .restrain [restraintCode r]) :=
  restartRestraints_heads ((restartEntry_heads s).of_link (by simp))

theorem restrains_restarted (s : State) (r : RestraintReason) : s.restartEntry.restartUnits.restrains r = s.restrains r := by
  obtain ⟨node, -⟩ := restartEntry_kept s
  have own' : s.restartEntry.restartUnits.own = s.own := by simp [own, node]
  have restraints : s.restartEntry.restartUnits.thrust.restraints = s.thrust.restraints := by simp [restartEntry]
  unfold restrains
  rw [own', restraints]

/-! ### The end of a warm restart -/

theorem enterJoining_queues (s : State) : ∃ v : State, v.link = s.link ∧ s.enterJoining = v.queueBeacon :=
  ⟨(s.setNode { s.node with state := .joining, listen := some 0 }).setMachine { s.machine with beaconTimer := 0 }, rfl, rfl⟩

/-- A node that joins anew, its units still to test what that asks for. -/
def joinsAnew (s : State) : State :=
  (s.unitsRestarted.setNode { s.unitsRestarted.node with cause := none, furtherFaults := 0 }).enterJoining

theorem unitsRestarted_kept (s : State) : s.unitsRebuilt.HoldKept s.unitsRestarted ∧ s.unitsRestarted.thrust = s.unitsRebuilt.thrust
    ∧ s.unitsRebuilt.Recounted s.unitsRestarted := by
  have hold := (unitsRebuilt_hold s).inHold
  obtain ⟨now, phase⟩ := inHold_iff.1 hold
  exact ⟨HoldKept.updateMachineAdvance hold, updateMachineAdvance_thrust_of_hold hold,
    updateMachineAdvance_recounted phase (unitsRebuilt_hold s).round⟩

theorem warmRestart_kept (s : State) : s.warmRestart.link = s.joinsAnew.link ∧ s.warmRestart.node = s.joinsAnew.node
    ∧ s.warmRestart.machine = s.joinsAnew.machine ∧ s.warmRestart.thrust = s.unitsRebuilt.thrust
    ∧ s.warmRestart.overrides = [] ∧ s.warmRestart.plans = s.unitsRebuilt.plans ∧ s.warmRestart.engine = s.unitsRebuilt.engine := by
  obtain ⟨kept, thrust, -⟩ := unitsRestarted_kept s
  obtain ⟨-, -, overrides, -, -⟩ := unitsRebuilt_kept s
  rw [warmRestart_eq, ← joinsAnew]
  refine ⟨by simp, by simp, by simp, by simp [joinsAnew, thrust], by simp [joinsAnew, kept.overrides, overrides],
    by simp [joinsAnew, kept.plans], ?_⟩
  simp only [testDose_frame, commandScrew_frame, testDrives_frame, joinsAnew, enterJoining]
  rw [queueBeacon_engine]
  exact kept.engine

theorem joinsAnew_node (s : State) :
    s.joinsAnew.node = { s.node with state := .joining, cause := none, furtherFaults := 0, listen := some 0 } := by
  obtain ⟨kept, -⟩ := unitsRestarted_kept s
  obtain ⟨node, -⟩ := unitsRebuilt_kept s
  simp [joinsAnew, enterJoining, kept.node, node]

theorem joinsAnew_recounted (s : State) : s.unitsRebuilt.Recounted s.joinsAnew := by
  obtain ⟨-, -, again⟩ := unitsRestarted_kept s
  exact ⟨by simpa [joinsAnew] using again.phase, by simpa [joinsAnew] using again.previous, by simpa [joinsAnew] using again.round,
    by simpa [joinsAnew] using again.lastFailure, by simpa [joinsAnew] using again.ring, by simpa [joinsAnew] using again.view,
    by simpa [joinsAnew] using again.current⟩

theorem warmRestart_recounted (s : State) : s.unitsRebuilt.Recounted s.warmRestart := by
  obtain ⟨-, -, machine, -⟩ := warmRestart_kept s
  have again := joinsAnew_recounted s
  exact ⟨by rw [machine]; exact again.phase, by rw [machine]; exact again.previous, by rw [machine]; exact again.round,
    by rw [machine]; exact again.lastFailure, by rw [machine]; exact again.ring, by rw [machine]; exact again.view,
    by rw [machine]; exact again.current⟩

theorem warmRestart_noticed (s : State) : NoticesKept s.unitsRebuilt s.warmRestart := by
  have counted : NoticesKept s.unitsRebuilt s.unitsRestarted := by
    unfold unitsRestarted updateMachineAdvance
    split
    · exact (noticesKept_evaluateOverdig _).pre rfl
    · exact NoticesKept.refl
  have joined : NoticesKept s.unitsRestarted s.joinsAnew := (noticesKept_queueBeacon _).pre rfl
  refine (counted.trans joined).trans (NoticesKept.of ?_)
  rw [warmRestart_eq, ← joinsAnew]
  simp

theorem warmRestart_heads (s : State) : s.warmRestart.RestartHeads 5
    ∧ (∃ q ∈ s.warmRestart.link.queue, isBeacon q.frame.body = true)
    ∧ ∀ q ∈ s.unitsRebuilt.link.queue, isBeacon q.frame.body = false → q ∈ s.warmRestart.link.queue := by
  obtain ⟨kept, -, -⟩ := unitsRestarted_kept s
  obtain ⟨heads, -, -⟩ := unitsRebuilt_heads s
  obtain ⟨v, link', joined⟩ := enterJoining_queues (s.unitsRestarted.setNode { s.unitsRestarted.node with cause := none, furtherFaults := 0 })
  have link : v.link = s.unitsRebuilt.link := link'.trans kept.link
  obtain ⟨heads', beacon, stay⟩ := RestartHeads.queueBeacon (room := 5) (heads.of_link link)
  have after : s.warmRestart.link = v.queueBeacon.link := (warmRestart_kept s).1.trans (congrArg State.link joined)
  rw [after]
  rw [link] at stay
  exact ⟨heads'.of_link after, beacon, stay⟩

theorem warmRestart_drives (s : State) : s.warmRestart.DrivesStop ∧ s.warmRestart.drive.guard.mode = false
    ∧ s.warmRestart.drive.guard.probe = none ∧ s.warmRestart.drive.guard.jam = s.drive.guard.jam := by
  obtain ⟨kept, -, -⟩ := unitsRestarted_kept s
  obtain ⟨now, phase⟩ := inHold_iff.1 kept.hold
  have drives : s.warmRestart.drive = s.joinsAnew.testDrives.drive := by
    rw [warmRestart_eq, ← joinsAnew]
    simp
  have drive : s.joinsAnew.drive = s.restartEntry.restartUnits.drive := by
    simp [joinsAnew, kept.drive, unitsRebuilt]
  have guard : s.warmRestart.drive.guard = s.restartEntry.restartUnits.drive.guard := by
    rw [drives, ← drive]
    rfl
  have jam : s.restartEntry.drive.guard = s.drive.guard := by simp [restartEntry]
  have units : s.restartEntry.restartUnits.drive = s.restartEntry.restartGuard.drive := by
    simp [restartUnits, restartGuard]
  refine ⟨?_, ?_, ?_, ?_⟩
  · refine drivesStop_of_map ((congrArg DriveUnit.drives drives).trans (testDrives_of_noBore ?_))
    simp [joinsAnew, phase]
  all_goals rw [guard, units]
  · rfl
  · rfl
  · show s.restartEntry.drive.guard.jam = s.drive.guard.jam
    rw [jam]

theorem warmRestart_restraints (s : State) : s.RestraintsRebuilt s.warmRestart := by
  obtain ⟨link, -, -, thrust, -⟩ := warmRestart_kept s
  obtain ⟨-, -, stay⟩ := warmRestart_heads s
  obtain ⟨kept, -, -⟩ := unitsRestarted_kept s
  obtain ⟨-, released, restrained⟩ := unitsRebuilt_heads s
  have grout : s.warmRestart.grout.restrained = s.grout.restrained := by simp
  have muck : s.warmRestart.muck.muckRestrained = s.muck.muckRestrained := by simp
  have face : s.warmRestart.muck.faceRestrained = s.muck.faceRestrained := by simp
  have mode : s.warmRestart.drive.guard.mode = false := (warmRestart_drives s).2.1
  have unit : ∀ r, s.restartEntry.restartUnits.unitRestrains r = s.warmRestart.unitRestrains r := by
    intro r
    cases r with
    | grout => exact Eq.trans (by simp [unitRestrains, restartEntry]) grout.symm
    | muck => exact Eq.trans (by simp [unitRestrains, restartEntry]) muck.symm
    | torque => exact Eq.trans (by simp [unitRestrains, restartUnits, restartGuard, Guard.mode]) mode.symm
    | face => exact Eq.trans (by simp [unitRestrains, restartEntry]) face.symm
  obtain ⟨node, -⟩ := restartEntry_kept s
  have own' : s.restartEntry.restartUnits.own = s.own := by simp [own, node]
  refine ⟨fun source r => ?_, grout, muck, face, fun r before after => ?_, fun r before after => ?_⟩
  · rw [thrust, unitsRebuilt, mem_restartRestraints, own', unit]
  · obtain ⟨q, held, body⟩ := released r ((restrains_restarted s r).trans before) ((unit r).trans after)
    exact ⟨q, stay q held (by rw [body]; rfl), body⟩
  · obtain ⟨q, held, body⟩ := restrained r ((restrains_restarted s r).trans before) ((unit r).trans after)
    exact ⟨q, stay q held (by rw [body]; rfl), body⟩

theorem warmRestart_grout (s : State) : s.GroutRestarted s.warmRestart := by
  obtain ⟨v, same, node, grout⟩ := unitsRebuilt_grout s
  obtain ⟨kept, -, -⟩ := unitsRestarted_kept s
  obtain ⟨-, channels, -⟩ := unitsRebuilt_kept s
  rw [warmRestart_eq, ← joinsAnew]
  refine groutRestarted same node ?_ (fun hard => ?_) ?_
  · simpa [joinsAnew, kept.grout] using grout
  · have phase := ((unitsRebuilt_hold s).counts .hard hard).1
    simpa [joinsAnew] using (joinsAnew_recounted s).phase.trans phase
  · simp [joinsAnew, kept.channels, channels]

theorem restartedCylinder_eq (s : State) (c : Cylinder) : s.restartedCylinder c = if c.state = .failed then c else { c with
    stroke := (s.cylReport c.number).stroke, pressure := (s.cylReport c.number).pressure
    fault := (s.cylReport c.number).fault, reseatTarget := none
    state := if (s.cylReport c.number).fault = true then .failed
      else if s.cfg.contactPressure ≤ (s.cylReport c.number).pressure.toNat then .bearing else .parked } := by
  simp [restartedCylinder, rebuiltCylinder, contact]

end State

end Sys2Proof.Machine

section
open Sys2Proof Sys2Proof.Machine

/-- Settles O32: RESTART holds the machine and begins the node anew, its configuration kept. -/
theorem warmRestartTaken : Obligations.WarmRestartTaken := by
  unfold Obligations.WarmRestartTaken
  intro sender target s heard
  have run : exec (.restart sender target) s = .next s.takeRestart := receive_console heard State.takeRestart
  refine ⟨fun unconfigured => run.trans (congrArg _ (if_neg (by simp [unconfigured]))), fun configured =>
    ⟨s.warmRestart, run.trans (congrArg _ (if_pos configured)), ?_⟩⟩
  obtain ⟨-, node, machine, thrust, overrides, plans, engine⟩ := State.warmRestart_kept s
  obtain ⟨heads, beacon, -⟩ := State.warmRestart_heads s
  obtain ⟨drives, mode, probe, jam⟩ := State.warmRestart_drives s
  obtain ⟨zone, pause, cylinders⟩ := State.unitsRebuilt_thrust s
  obtain ⟨noPlans, disabled, seated, pending⟩ := State.unitsRebuilt_engine s
  obtain ⟨node', -, -, -, machine'⟩ := State.unitsRebuilt_kept s
  have again := State.warmRestart_recounted s
  have held := State.unitsRebuilt_hold s
  refine ⟨node.trans (State.joinsAnew_node s), ?_, held.restartHeld again ?_ (State.warmRestart_noticed s _), again.round.trans held.round,
    by simp, ?_, heads.runs, heads.head, overrides, plans.trans noPlans, by rw [engine]; exact disabled, by rw [engine]; exact seated,
    by rw [engine]; exact pending, by simp, by simp, drives, mode, probe, jam, by rw [thrust]; exact zone, by rw [thrust]; exact pause,
    by simp, by simp, by simp, by simp, ?_, State.warmRestart_restraints s, State.warmRestart_grout s, beacon, by simp, by simp, by simp,
    ?_, by simp⟩
  · obtain ⟨now, phase⟩ := State.inHold_iff.1 held.inHold
    exact State.inHold_iff.2 ⟨now, again.phase.trans phase⟩
  · exact State.ownsMuck_of_config (by rw [node']) (by rw [node'])
  · rw [again.view, machine']
    exact (State.restartEntry_kept s).2.2.2.2.1
  · rw [thrust, cylinders]
    exact List.map_congr_left fun c _ => State.restartedCylinder_eq s c
  · rw [State.warmRestart_eq]
    simp [State.unitsRestarted, State.restartUnits]

end
end

section
/-! PROOFS. The hold that a settled advance may bring: what it leaves while BORE stands, and what it stops (R159, R72, R179).
What a vote, a cancel and a report need of it (O12, O43, O23). -/

-- In one thread: each proof that waits for those before it would keep a thread of its own.
set_option Elab.async false

namespace Sys2Proof.Machine

namespace State

variable {s t u : State}

/-- A hold for a cause that the settled advance brings stands, the drives stopped. -/
structure Halted (s : State) : Prop where
  hold : s.inHold = true
  drives : s.DrivesStop
  round : s.machine.round = none
  current : ∃ r, s.machine.current = some r ∧ (r.cause = .shortfall ∨ r.cause = .strokeEnd ∨ r.cause = .overdig)

theorem Halted.noBore (halted : s.Halted) : s.machine.phase ≠ .bore := fun bore => by
  have hold := halted.hold
  simp [inHold, bore] at hold

/-- The engine has no step under way that a hold would drop. -/
def Quiet (s : State) : Prop := s.engine.stopping = false ∨ s.engine.state ∉ [.clearing, .placing, .reseating]

/-- From BORE either the phase unit and the drives stand as they are, or the machine is halted; a halted machine stays so;
a quiet engine keeps its plans. -/
structure MayHalt (s t : State) : Prop where
  bore : s.machine.phase = .bore → (t.machine = s.machine ∧ t.drive = s.drive) ∨ t.Halted
  halted : s.Halted → t.Halted
  plans : s.Quiet → t.plans = s.plans ∧ t.Quiet

namespace MayHalt

theorem trans (h : s.MayHalt t) (g : t.MayHalt u) : s.MayHalt u where
  bore := fun bore => by
    rcases h.bore bore with ⟨machine, drive⟩ | halted
    · rcases g.bore (by rw [machine, bore]) with ⟨machine', drive'⟩ | halted
      · exact .inl ⟨machine'.trans machine, drive'.trans drive⟩
      · exact .inr halted
    · exact .inr (g.halted halted)
  halted := fun halted => g.halted (h.halted halted)
  plans := fun quiet => by
    obtain ⟨plans, quiet'⟩ := h.plans quiet
    obtain ⟨plans', quiet''⟩ := g.plans quiet'
    exact ⟨plans'.trans plans, quiet''⟩

theorem of_same (machine : t.machine = s.machine) (drive : t.drive = s.drive) (plans : t.plans = s.plans) (engine : t.engine = s.engine) :
    s.MayHalt t where
  bore := fun _ => .inl ⟨machine, drive⟩
  halted := fun ⟨hold, drives, round, current⟩ => by
    refine ⟨(inHold_congr machine).trans hold, ?_, by rw [machine]; exact round, by rw [machine]; exact current⟩
    unfold DrivesStop at drives ⊢
    rwa [drive]
  plans := fun quiet => by
    refine ⟨plans, ?_⟩
    unfold Quiet at quiet ⊢
    rwa [engine]

theorem refl (s : State) : s.MayHalt s := of_same rfl rfl rfl rfl

end MayHalt

theorem imposeHold_machine_of_bore (cause : HoldCause) (bore : s.machine.phase = .bore) :
    (s.imposeHold cause).machine.round = none
    ∧ (s.imposeHold cause).machine.phase = .hold (causeGrade cause .soft)
    ∧ (s.imposeHold cause).machine.current = some ⟨cause, s.own, s.machine.ring, causeGrade cause .soft, 0⟩ := by
  rw [imposeHold_machine, bore]
  simp [openHold, failRound_machine]

theorem imposeHold_drive_of_hold (cause : HoldCause) (hold : s.inHold = true) : (s.imposeHold cause).drive = s.drive := by
  obtain ⟨now, phase⟩ := inHold_iff.1 hold
  unfold imposeHold
  dsimp only
  rw [failRound_phase, phase]
  dsimp only
  (repeat' split) <;> simp

/-- A step under way is dropped by a hold only where the engine is stopping. -/
theorem engineEntersHold_quiet (quiet : s.Quiet) : s.engineEntersHold.plans = s.plans ∧ s.engineEntersHold.Quiet := by
  unfold engineEntersHold
  split
  iterate 3
    · rename_i work
      have still : s.engine.stopping = false := quiet.resolve_right fun out => by simp [work] at out
      simp [work, still, Quiet]
  all_goals exact ⟨rfl, quiet⟩

theorem Quiet.of_fields (quiet : s.Quiet) (state : t.engine.state = s.engine.state) (stopping : t.engine.stopping = s.engine.stopping) :
    t.Quiet := by
  unfold Quiet at quiet ⊢
  rwa [state, stopping]

theorem handEntryToHold_quiet (fromBore : Bool) (g : Grade) (quiet : s.Quiet) :
    (s.handEntryToHold fromBore g).plans = s.plans ∧ (s.handEntryToHold fromBore g).Quiet := by
  have handed : ∀ u : State, u.plans = s.plans → u.engine.state = s.engine.state → u.engine.stopping = s.engine.stopping →
      (u.engineEntersHold.commandScrew).plans = s.plans ∧ (u.engineEntersHold.commandScrew).Quiet := by
    intro u plans state stopping
    obtain ⟨kept, quiet'⟩ := engineEntersHold_quiet (quiet.of_fields (t := u) state stopping)
    exact ⟨by simp [kept, plans], quiet'.of_fields (by simp) (by simp)⟩
  unfold handEntryToHold
  dsimp only
  split
  · exact handed _ (by simp) (by simp) (by simp)
  · exact handed _ (by simp) (by simp) (by simp)

theorem imposeHold_quiet (cause : HoldCause) (quiet : s.Quiet) :
    (s.imposeHold cause).plans = s.plans ∧ (s.imposeHold cause).Quiet := by
  have opened : ∀ fromBore, ((((s.failRound s.own .held).openHold cause (s.failRound s.own .held).own (causeGrade cause .soft)).queueFrame
      (.hold cause (causeGrade cause .soft))).handEntryToHold fromBore (causeGrade cause .soft)).plans = s.plans
      ∧ ((((s.failRound s.own .held).openHold cause (s.failRound s.own .held).own (causeGrade cause .soft)).queueFrame
      (.hold cause (causeGrade cause .soft))).handEntryToHold fromBore (causeGrade cause .soft)).Quiet := by
    intro fromBore
    obtain ⟨plans, quiet'⟩ := handEntryToHold_quiet fromBore (causeGrade cause .soft) (s := ((s.failRound s.own .held).openHold cause
      (s.failRound s.own .held).own (causeGrade cause .soft)).queueFrame (.hold cause (causeGrade cause .soft)))
      (quiet.of_fields (by simp) (by simp))
    exact ⟨plans.trans (by simp), quiet'⟩
  unfold imposeHold
  dsimp only
  split
  · (repeat' split) <;> exact ⟨by simp, quiet.of_fields (by simp) (by simp)⟩
  · exact opened true
  · exact opened false

namespace MayHalt

theorem imposeHold {cause : HoldCause} (brings : cause = .shortfall ∨ cause = .strokeEnd ∨ cause = .overdig) (s : State) :
    s.MayHalt (s.imposeHold cause) where
  bore := fun bore => by
    obtain ⟨round, phase, current⟩ := imposeHold_machine_of_bore cause bore
    exact .inr ⟨inHold_iff.2 ⟨_, phase⟩, drivesStop_of_map (imposeHold_drives cause (by simp [inHold, bore])), round, _, current, brings⟩
  halted := fun ⟨hold, drives, round, r, current, cause'⟩ => by
    obtain ⟨now, phase⟩ := inHold_iff.1 hold
    have machine : (s.imposeHold cause).machine = (s.countHold cause s.own now (causeGrade cause .soft)).machine := by
      rw [imposeHold_machine, phase]
      dsimp only
      rw [failRound_none _ _ _ round]
    refine ⟨by unfold State.inHold; rw [machine]; rfl, ?_, by rw [machine]; exact round, ?_⟩
    · unfold DrivesStop at drives ⊢
      rwa [imposeHold_drive_of_hold cause hold]
    · refine ⟨{ r with
        further := min 255 (r.further + 1)
        grade := if causeGrade cause .soft = .hard ∧ now = .soft then .hard else r.grade }, ?_, cause'⟩
      rw [machine]
      simp [countHold, current]
  plans := imposeHold_quiet cause

theorem imposeHold_if (p : Prop) [Decidable p] {cause : HoldCause} (brings : cause = .shortfall ∨ cause = .strokeEnd ∨ cause = .overdig)
    (s : State) : s.MayHalt (if p then s.imposeHold cause else s) := by
  split
  · exact imposeHold brings s
  · exact refl s

theorem setPorts (ports : List Port) (s : State) : s.MayHalt (s.setPorts ports) := of_same rfl rfl rfl rfl

theorem setMuck (m : MuckUnit) (s : State) : s.MayHalt (s.setMuck m) := of_same rfl rfl rfl rfl

theorem setThrust (th : ThrustUnit) (s : State) : s.MayHalt (s.setThrust th) := of_same rfl rfl rfl rfl

theorem testGrout (s : State) : s.MayHalt s.testGrout := by
  refine of_same (by simp) (by simp) (by simp) ?_
  unfold State.testGrout
  (repeat' split) <;> simp

theorem testDose (s : State) : s.MayHalt s.testDose := of_same (by simp) (by simp) (by simp) (by simp)

theorem commandScrew (s : State) : s.MayHalt s.commandScrew := of_same (by simp) (by simp) (by simp) (by simp)

theorem testSteer (s : State) : s.MayHalt s.testSteer := of_same (by simp) (by simp) (by simp) (by simp)

theorem testStrokeReached (s : State) : s.MayHalt s.testStrokeReached := of_same (by simp) (by simp) (by simp) (by simp)

theorem groutIncrement (d : Nat) (s : State) : s.MayHalt (s.groutIncrement d) := by
  unfold State.groutIncrement
  dsimp only
  exact ((setPorts _ s).trans (testGrout _)).trans ((imposeHold_if _ (.inl rfl) _).trans (testDose _))

theorem creditAdvance (s : State) : s.MayHalt s.creditAdvance := by
  unfold State.creditAdvance
  split
  · exact (setThrust _ s).trans (groutIncrement _ _)
  · exact refl s

theorem evaluateOverdig (s : State) : s.MayHalt s.evaluateOverdig := by
  unfold State.evaluateOverdig
  split
  · exact (setMuck _ s).trans (imposeHold (.inr (.inr rfl)) _)
  split
  · exact setMuck _ s
  · exact refl s

theorem updateMachineAdvance (s : State) : s.MayHalt s.updateMachineAdvance := by
  unfold State.updateMachineAdvance
  split
  · exact (setMuck _ s).trans (evaluateOverdig _)
  · exact refl s

theorem recomputeAdvance (s : State) : s.MayHalt s.recomputeAdvance := by
  unfold State.recomputeAdvance
  split
  · have settled := (((setThrust { s.thrust with sectorAdvance := s.computedAdvance } s).trans (creditAdvance _)).trans (testSteer _)).trans
      (testStrokeReached _)
    dsimp only
    split
    · exact settled
    · exact (settled.trans (imposeHold_if _ (.inr (.inl rfl)) _)).trans (updateMachineAdvance _)
  · exact refl s

end MayHalt

/-! ### The advance, and when no hold follows it -/

theorem recomputeAdvance_advance (bore : s.machine.phase = .bore) : s.recomputeAdvance.thrust.sectorAdvance = s.computedAdvance := by
  unfold recomputeAdvance
  rw [if_pos bore]
  dsimp only
  split <;> simp

/-- An advance that neither changes nor rises over the credit brings no hold. -/
theorem recomputeAdvance_machine (same : s.computedAdvance = s.thrust.sectorAdvance) (low : s.thrust.sectorAdvance ≤ s.thrust.credited) :
    s.recomputeAdvance.machine = s.machine := by
  unfold recomputeAdvance
  split
  · have credit : (s.setThrust { s.thrust with sectorAdvance := s.computedAdvance }).creditAdvance
        = s.setThrust { s.thrust with sectorAdvance := s.computedAdvance } :=
      if_neg (Nat.not_lt.2 (Nat.le_trans (Nat.le_of_eq same) low))
    dsimp only
    rw [if_pos same, credit]
    simp
  · rfl

end State

end Sys2Proof.Machine
end

section
/-! PROOFS. A vote recorded, and the entry to BUILD or BORE that the last READY brings (O12). -/

-- In one thread: each proof that waits for those before it would keep a thread of its own.
set_option Elab.async false

namespace Sys2Proof.Machine

namespace State

variable {s t u : State}

/-! ### The vote recorded (R48 to R50) -/

section
variable {r : Round} {p : VoteTarget} {member : Nat}

theorem recordVote_of_refuse {why : RefuseReason} (open' : s.machine.round = some r) (target : r.target = p) (awaited : (member, none) ∈ r.votes) :
    s.recordVote member p (.refuse why) = ((s.setMachine { s.machine with
      round := none, lastFailure := some ⟨p, member, .refused why⟩ }).notify .voteFailed).count
        fun c => { c with failedVotes := c.failedVotes + 1 } := by
  subst target
  unfold recordVote
  rw [open']
  dsimp only
  rw [if_pos ⟨rfl, by simpa using awaited⟩, failRound_some member (.refused why) _ _ rfl]
  rfl

theorem allReady_iff {votes : List (Nat × Option VoteAnswer)} :
    (votes.map fun v => if v = (member, none) then (member, some VoteAnswer.ready) else v).all (fun v => v.2 == some .ready) = true
      ↔ ∀ v ∈ votes, v = (member, none) ∨ v.2 = some .ready := by
  rw [List.all_map, List.all_eq_true]
  refine forall₂_congr fun v held => ?_
  by_cases own : v = (member, none)
  · simp [own]
  · simp [own]

theorem recordVote_of_awaiting (open' : s.machine.round = some r) (target : r.target = p) (awaited : (member, none) ∈ r.votes)
    (more : ∃ v ∈ r.votes, v ≠ (member, none) ∧ v.2 ≠ some .ready) :
    s.recordVote member p .ready = s.setMachine { s.machine with round := some { r with
      votes := r.votes.map fun v => if v = (member, none) then (member, some .ready) else v } } := by
  subst target
  have notAll := mt allReady_iff.1 (fun all => by
    obtain ⟨v, held, other, unready⟩ := more
    exact (all v held).elim other unready)
  unfold recordVote
  rw [open']
  dsimp only
  rw [if_pos ⟨rfl, by simpa using awaited⟩, if_neg notAll]
  rfl

/-- The phase unit as a round succeeds (R49). -/
def succeeded (s : State) (phase : Phase) : State := s.setMachine { s.machine with
  phase := phase, current := none, round := none
  previous := if s.machine.current.isSome then s.machine.current else s.machine.previous }

theorem recordVote_of_last (open' : s.machine.round = some r) (target : r.target = p) (awaited : (member, none) ∈ r.votes)
    (last : ∀ v ∈ r.votes, v = (member, none) ∨ v.2 = some .ready) :
    (p = .build → s.recordVote member p .ready = (s.succeeded .build).handEntryToBuild)
    ∧ (p = .bore → s.recordVote member p .ready = (s.succeeded .bore).handEntryToBore) := by
  have previous : (s.machine.current.elim s.machine.previous some)
      = if s.machine.current.isSome then s.machine.current else s.machine.previous := by
    cases s.machine.current <;> rfl
  have all := allReady_iff.2 last
  have taken : s.recordVote member p .ready = (s.setRound (some { r with
      votes := r.votes.map fun v => if v = (member, none) then (member, some .ready) else v })).succeedRound p := by
    subst target
    unfold recordVote
    rw [open']
    dsimp only
    rw [if_pos ⟨rfl, by simpa using awaited⟩, if_pos all]
  refine ⟨fun build => ?_, fun bore => ?_⟩
  · subst build
    rw [taken, succeeded, ← previous]
    cases current : s.machine.current <;> simp [succeedRound, setRound, current]
  · subst bore
    rw [taken, succeeded, ← previous]
    cases current : s.machine.current <;> simp [succeedRound, setRound, current]

theorem recordVote_of_ignored {a : VoteAnswer} (ignored : ∀ r, s.machine.round = some r → r.target = p → (member, none) ∉ r.votes) :
    s.recordVote member p a = s := by
  unfold recordVote
  split
  · rfl
  · rename_i r open'
    exact if_neg fun ⟨target, awaited⟩ => ignored r open' target (by simpa using awaited)

end

theorem exec_vote {p : VoteTarget} {a : VoteAnswer} {i : Instr} {sender : Nat}
    (reaches : s.Reaches (fun station target => .vote station target p a) (.vote p a) i sender u) :
    exec i s = .next (u.recordVote sender p a) :=
  exec_reaches (fun n => recordVote n p a) reaches (fun station target heard => congrArg Host.Outcome.next (receive_of_hearsPeer heard))
    (fun v configured member => if_pos (by simp [configured, member])) rfl (recordVote_closing sender p a u)

/-! ### Entry to BUILD (R44) -/

theorem succeeded_build (s : State) : (s.succeeded .build).handEntryToBuild.machine = (s.succeeded .build).machine
    ∧ (s.succeeded .build).handEntryToBuild.node = s.node ∧ (s.succeeded .build).handEntryToBuild.overrides = s.overrides
    ∧ (s.succeeded .build).handEntryToBuild.DrivesStop ∧ (s.succeeded .build).handEntryToBuild.thrust = s.thrust
    ∧ (s.succeeded .build).handEntryToBuild.plans = s.plans := by
  refine ⟨by simp [handEntryToBuild], by simp [handEntryToBuild, succeeded], by simp [handEntryToBuild, succeeded], ?_,
    by simp [handEntryToBuild, succeeded], by simp [handEntryToBuild, succeeded]⟩
  have drives : (s.succeeded .build).handEntryToBuild.drive = (s.succeeded .build).testDrives.drive := by simp [handEntryToBuild]
  have stopped := testDrives_drivesStop (s.succeeded .build) (.inl (by simp [succeeded]))
  unfold DrivesStop at stopped ⊢
  rwa [drives]

/-! ### Entry to BORE: the drives and the cylinders (R84, R60) -/

theorem testDrive_tripped (s : State) (d : Drive) : (s.testDrive d).state = .tripped ↔ d.state = .tripped := by
  cases state : d.state <;> cases run : s.runCondition d <;> simp [testDrive, state, run]

theorem testDrives_tripped (s : State) :
    s.testDrives.drive.drives.any (fun d => d.state == .tripped) = s.drive.drives.any fun d => d.state == .tripped := by
  have same : s.testDrives.drive.drives = s.drive.drives.map s.testDrive := rfl
  rw [same, List.any_map]
  refine List.any_congr rfl fun d => ?_
  rw [Bool.eq_iff_iff]
  simp [testDrive_tripped]

theorem testDrive_of_bore (bore : s.machine.phase = .bore) {d : Drive} (sound : d.state ≠ .tripped) : s.testDrive d =
    if s.node.state = .member ∧ s.pinned .drive d.number = false then
      if d.state = .stopped ∨ d.state = .stopping then { d with state := .starting } else d
    else if d.state = .starting ∨ d.state = .running then { d with state := .stopping } else d := by
  have run : s.runCondition d = true ↔ s.node.state = .member ∧ s.pinned .drive d.number = false := by
    simp [runCondition, bore, sound]
  by_cases runs : s.runCondition d = true
  · rw [if_pos (run.1 runs)]
    cases state : d.state <;> simp [testDrive, state, runs]
  · rw [if_neg (mt run.2 runs)]
    have stays : s.runCondition d = false := by simpa using runs
    cases state : d.state <;> simp [testDrive, state, stays]

/-- The cylinders as BORE is entered, the advance not settled yet. -/
def enteredCylinder (s : State) (c : Cylinder) : Cylinder :=
  if c.state = .bearing ∧ !s.cylPinned c ∧ s.thrust.strokeReached = false then { c with state := .advancing } else s.reseatClear c

/-- The state whose advance the entry to BORE settles. -/
def boreMoved (s : State) : State := s.testDrives.mapCylinders s.testDrives.enteredCylinder

theorem handEntryToBore_of_sound (bore : s.machine.phase = .bore) (sound : ∀ d ∈ s.drive.drives, d.state ≠ .tripped) :
    s.handEntryToBore = (s.boreMoved.recomputeAdvance.testDose).commandScrew := by
  have none' : s.testDrives.drive.drives.any (fun d => d.state == .tripped) = false := by
    rw [testDrives_tripped]
    simpa using sound
  have drives : s.driveEntersBore = s.testDrives := if_neg (by rw [none']; decide)
  have entered : s.testDrives.whilePhase .bore thrustEntersBore = s.boreMoved.recomputeAdvance := if_pos (by simpa using bore)
  unfold handEntryToBore
  rw [drives, entered]

/-! ### Entry to BORE with no drive TRIPPED -/

theorem boreMoved_frame (s : State) : s.boreMoved.machine = s.machine ∧ s.boreMoved.node = s.node ∧ s.boreMoved.grout = s.grout
    ∧ s.boreMoved.overrides = s.overrides ∧ s.boreMoved.plans = s.plans ∧ s.boreMoved.engine = s.engine
    ∧ s.boreMoved.thrust.sectorAdvance = s.thrust.sectorAdvance ∧ s.boreMoved.thrust.credited = s.thrust.credited
    ∧ s.boreMoved.thrust.strokeReached = s.thrust.strokeReached ∧ s.boreMoved.thrust.steerPause = s.thrust.steerPause
    ∧ s.boreMoved.drive.drives = s.drive.drives.map s.testDrive
    ∧ s.boreMoved.thrust.cylinders = s.thrust.cylinders.map s.testDrives.enteredCylinder :=
  ⟨rfl, rfl, rfl, rfl, rfl, rfl, rfl, rfl, rfl, rfl, rfl, rfl⟩

/-- What is settled stays settled where the thrust unit, the ports, the phase unit, the node and the table stay. -/
theorem AdvanceSettled.of_after (h : s.AdvanceSettled t) (thrust : u.thrust = t.thrust) (ports : u.grout.ports = t.grout.ports)
    (machine : u.machine = t.machine) (node : u.node = t.node) (overrides : u.overrides = t.overrides) : s.AdvanceSettled u := by
  have usable : u.usableCylinders = t.usableCylinders := by
    simp only [usableCylinders, thrust]
    exact List.filter_congr fun c _ => by rw [cylPinned_congr overrides rfl]
  have slowest : u.slowestAdvance = t.slowestAdvance := by
    have own' : u.own = t.own := congrArg NodeRecord.number node
    unfold slowestAdvance peerBeacons
    rw [thrust, machine, own']
  unfold AdvanceSettled AdvanceIsLeast at h ⊢
  rw [usable, slowest, thrust, ports, machine]
  exact h

theorem entered_then_settled (s : State) (reached : Bool) (carries : s.thrust.strokeReached = true → reached = true)
    (bore : s.machine.phase = .bore) (c : Cylinder) :
    (if (s.enteredCylinder c).state = .advancing ∧ reached = true ∧ s.thrust.strokeReached = false then
        { s.enteredCylinder c with state := .bearing } else s.enteredCylinder c)
      = if c.state = .bearing ∧ s.cylPinned c = false ∧ reached = false then { c with state := .advancing }
        else if c.state = .clear ∧ s.cylPinned c = false then
          { c with state := .reseating, reseatTarget := some s.cfg.reseatPressure }
        else if c.state = .advancing ∧ reached = true ∧ s.thrust.strokeReached = false then { c with state := .bearing }
        else c := by
  unfold enteredCylinder reseatClear
  obtain ⟨number, state, stroke, pressure, fault, origin, target⟩ := c
  dsimp only
  generalize s.cylPinned ⟨number, state, stroke, pressure, fault, origin, target⟩ = pin
  cases pin with
  | true => simp
  | false =>
    cases reached with
    | true => cases state <;> cases before : s.thrust.strokeReached <;> simp [bore]
    | false =>
      have before : s.thrust.strokeReached = false := by simpa using mt carries Bool.false_ne_true
      cases state <;> simp [bore, before]

theorem commandScrew_screw (owns : s.ownsMuck = true) :
    s.commandScrew.muck.screw = if s.machine.phase = .bore ∧ s.node.state = .member then .run else .stop := by
  unfold commandScrew
  rw [if_pos owns]
  rfl

theorem boreEntered (sound : ∀ d ∈ s.drive.drives, d.state ≠ .tripped) : s.BoreEntered (s.succeeded .bore).handEntryToBore := by
  obtain ⟨v, hv⟩ : ∃ v, v = s.succeeded .bore := ⟨_, rfl⟩
  have bore : v.machine.phase = .bore := by rw [hv]; rfl
  have sound' : ∀ d ∈ v.drive.drives, d.state ≠ .tripped := by rw [hv]; exact sound
  have eq := handEntryToBore_of_sound bore sound'
  rw [← hv, eq]
  obtain ⟨machine, node, grout, overrides, -, -, advance, credited, reached, pause, drives, cylinders⟩ := boreMoved_frame v
  have bore' : v.boreMoved.machine.phase = .bore := by rw [machine]; exact bore
  have halts : v.boreMoved.MayHalt (v.boreMoved.recomputeAdvance.testDose).commandScrew :=
    ((MayHalt.recomputeAdvance _).trans (.testDose _)).trans (.commandScrew _)
  obtain ⟨settled, stands⟩ := recomputeAdvance_settled v.boreMoved bore'
  have least := recomputeAdvance_advance bore'
  have still := recomputeAdvance_machine (s := v.boreMoved)
  have node' : v.boreMoved.recomputeAdvance.node = v.node := (by simp : v.boreMoved.recomputeAdvance.node = v.boreMoved.node).trans node
  have kept : (v.boreMoved.recomputeAdvance.testDose.commandScrew).thrust = v.boreMoved.recomputeAdvance.thrust
      ∧ (v.boreMoved.recomputeAdvance.testDose.commandScrew).machine = v.boreMoved.recomputeAdvance.machine := by simp
  obtain ⟨thrust', machine'⟩ := kept
  have settled' : s.AdvanceSettled (v.boreMoved.recomputeAdvance.testDose.commandScrew) :=
    (settled.of_before (s := s) (by rw [advance, hv]; rfl) (by rw [credited, hv]; rfl) (by rw [reached, hv]; rfl)
      (by rw [pause, hv]; rfl) (by rw [grout, hv]; rfl) (by rw [node, hv]; rfl)).of_after thrust' (by simp) machine' (by simp) (by simp)
  refine ⟨settled', fun phase => ⟨?_, ?_⟩, fun out => ?_, fun same low => ?_, fun owns => ?_⟩
  · obtain ⟨-, drive⟩ := (halts.bore bore').resolve_right fun halted => halted.noBore phase
    rw [drive, drives]
    have before : v.drive.drives = s.drive.drives := by rw [hv]; rfl
    rw [before]
    refine List.map_congr_left fun d held => ?_
    rw [testDrive_of_bore bore (sound d held), hv]
    rfl
  · obtain ⟨-, moved⟩ := stands (by rw [← machine']; exact phase)
    have carries : v.testDrives.thrust.strokeReached = true → v.boreMoved.recomputeAdvance.thrust.strokeReached = true := by
      intro before
      obtain ⟨-, -, -, -, inBore, -⟩ := settled
      rw [(inBore (by rw [← machine']; exact phase)).1, reached, show v.thrust.strokeReached = true from before]
      rfl
    rw [thrust', moved, cylinders, List.map_map]
    have before : v.thrust.cylinders = s.thrust.cylinders := by rw [hv]; rfl
    rw [before]
    refine List.map_congr_left fun c _ => ?_
    refine (entered_then_settled v.testDrives _ carries bore c).trans ?_
    rw [hv]
    rfl
  · rcases halts.bore bore' with ⟨same, -⟩ | ⟨hold, stop, -, current⟩
    · exact absurd (by rw [same]; exact bore') out
    · exact ⟨hold, stop, current⟩
  · rw [thrust', least] at same low
    have unmoved := still (by rw [same, advance, hv]; rfl) (by rw [advance, credited, hv]; rw [same] at low; exact low)
    rw [machine', unmoved, machine, hv]
    exact ⟨rfl, rfl⟩
  · rw [commandScrew_screw]
    · have nodes : (v.boreMoved.recomputeAdvance.testDose).node = s.node := by
        simp only [testDose_frame, node']
        rw [hv]
        rfl
      rw [nodes]
      simp
    · rw [ownsMuck_of_config (s := s)]
      · exact owns
      · simp only [testDose_frame, node']
        rw [hv]
        rfl
      · simp only [testDose_frame, node']
        rw [hv]
        rfl

/-! ### Entry to BORE with a drive TRIPPED since the vote (R85) -/

theorem handEntryToBore_of_tripped (bore : s.machine.phase = .bore) (tripped : ∃ d ∈ s.drive.drives, d.state = .tripped) :
    s.handEntryToBore = (s.testDrives.imposeHold .driveTrip).commandScrew := by
  have some' : s.testDrives.drive.drives.any (fun d => d.state == .tripped) = true := by
    rw [testDrives_tripped]
    simpa using tripped
  have bore' : s.testDrives.machine.phase = .bore := by simpa using bore
  have phase : (s.testDrives.imposeHold .driveTrip).machine.phase = .hold .hard := (imposeHold_machine_of_bore .driveTrip bore').2.1
  have entered : (s.testDrives.imposeHold .driveTrip).whilePhase .bore thrustEntersBore = s.testDrives.imposeHold .driveTrip :=
    if_neg (by simp [phase])
  have dose : (s.testDrives.imposeHold .driveTrip).testDose = s.testDrives.imposeHold .driveTrip :=
    testDose_of_none (.inl (by simp [doseCondition, phase]))
  have drives : s.driveEntersBore = s.testDrives.imposeHold .driveTrip := if_pos some'
  unfold handEntryToBore
  rw [drives, entered, dose]

theorem imposeHold_of_bore (cause : HoldCause) (bore : s.machine.phase = .bore) : s.imposeHold cause
    = (((s.failRound s.own .held).openHold cause (s.failRound s.own .held).own (causeGrade cause .soft)).queueFrame
        (.hold cause (causeGrade cause .soft))).handEntryToHold true (causeGrade cause .soft) := by
  unfold imposeHold
  dsimp only
  rw [failRound_phase, bore]

theorem boreTripped (tripped : ∃ d ∈ s.drive.drives, d.state = .tripped) : s.BoreTripped (s.succeeded .bore).handEntryToBore := by
  obtain ⟨v, hv⟩ : ∃ v, v = s.succeeded .bore := ⟨_, rfl⟩
  have bore : v.testDrives.machine.phase = .bore := by rw [hv]; rfl
  have out : v.testDrives.inHold = false := by
    unfold inHold
    rw [bore]
  have eq := handEntryToBore_of_tripped (s := v) bore (by rw [hv]; exact tripped)
  rw [← hv, eq]
  obtain ⟨-, phase, current⟩ := imposeHold_machine_of_bore .driveTrip bore
  have drives := imposeHold_drives .driveTrip out
  have imposed := imposeHold_of_bore .driveTrip bore
  have screw : (v.testDrives.imposeHold .driveTrip).commandScrew.machine = (v.testDrives.imposeHold .driveTrip).machine := by simp
  refine ⟨(congrArg _ screw).trans phase, ?_, fun place => ?_, fun d held trips => ?_, ?_, ?_, ?_, ?_⟩
  · rw [screw, current, hv]
    rfl
  · have place' : v.testDrives.HasPlace := by rw [hv]; exact place
    have link : (v.testDrives.imposeHold .driveTrip).commandScrew.link = (v.testDrives.imposeHold .driveTrip).link := by simp
    rw [link]
    exact imposeHold_queues .driveTrip out place'
  · simp only [commandScrew_frame, drives, List.mem_map]
    have before : d ∈ v.drive.drives := by rw [hv]; exact held
    refine ⟨d, List.mem_map.2 ⟨d, before, ?_⟩, ?_⟩
    · simp [testDrive, trips]
    · simp [stopDrive, trips]
  · exact drivesStop_of_map (s := v.testDrives) (by simpa using drives)
  · simp only [commandScrew_frame, imposed]
    exact handEntryToHold_noneAdvancing _ _
  · simp [hv, succeeded]
  · have grout : (v.testDrives.imposeHold .driveTrip).commandScrew.grout = (((v.testDrives.failRound v.testDrives.own .held).openHold
        .driveTrip (v.testDrives.failRound v.testDrives.own .held).own .hard).queueFrame (.hold .driveTrip .hard)).stopDose.grout := by
      simp only [commandScrew_frame, imposed]
      exact handEntryToHold_hard_grout true _
    rw [doseInFlight_congr grout]
    exact stopDose_ends _

/-! ### What either entry to BORE leaves -/

theorem handEntryToBore_round (bore : s.machine.phase = .bore) (closed : s.machine.round = none) :
    s.handEntryToBore.machine.round = none := by
  by_cases tripped : ∃ d ∈ s.drive.drives, d.state = .tripped
  · rw [handEntryToBore_of_tripped bore tripped]
    simp only [commandScrew_frame]
    exact (imposeHold_machine_of_bore (s := s.testDrives) .driveTrip bore).1
  · rw [handEntryToBore_of_sound bore (by simpa using tripped)]
    have halts : s.boreMoved.MayHalt (s.boreMoved.recomputeAdvance.testDose).commandScrew :=
      ((MayHalt.recomputeAdvance _).trans (.testDose _)).trans (.commandScrew _)
    rcases halts.bore bore with ⟨machine, -⟩ | halted
    · rw [machine]
      exact closed
    · exact halted.round

theorem handEntryToBore_plans (bore : s.machine.phase = .bore) (quiet : s.Quiet) : s.handEntryToBore.plans = s.plans := by
  by_cases tripped : ∃ d ∈ s.drive.drives, d.state = .tripped
  · rw [handEntryToBore_of_tripped bore tripped]
    have quiet' : s.testDrives.Quiet := quiet.of_fields (by simp) (by simp)
    simpa using (imposeHold_quiet .driveTrip quiet').1
  · rw [handEntryToBore_of_sound bore (by simpa using tripped)]
    have halts : s.boreMoved.MayHalt (s.boreMoved.recomputeAdvance.testDose).commandScrew :=
      ((MayHalt.recomputeAdvance _).trans (.testDose _)).trans (.commandScrew _)
    exact (halts.plans quiet).1

theorem handEntryToBore_kept (s : State) : s.handEntryToBore.node = s.node ∧ s.handEntryToBore.overrides = s.overrides
    ∧ s.handEntryToBore.machine.previous = s.machine.previous ∧ s.handEntryToBore.machine.ring = s.machine.ring
    ∧ s.handEntryToBore.machine.view = s.machine.view := by simp

end State

end Sys2Proof.Machine

section
open Sys2Proof Sys2Proof.Machine

/-- Settles O12: a vote fails the round, is recorded in it, or takes the machine to the round's target. -/
theorem voteDecidesTheRound : Obligations.VoteDecidesTheRound := by
  unfold Obligations.VoteDecidesTheRound
  intro p a i sender s u reaches
  rw [State.exec_vote reaches]
  refine ⟨?_, ?_, ?_, fun ignored => congrArg _ (State.recordVote_of_ignored ignored)⟩
  · rintro r why rfl open' target awaited
    exact congrArg _ (State.recordVote_of_refuse open' target awaited)
  · rintro r rfl open' target awaited more
    exact congrArg _ (State.recordVote_of_awaiting open' target awaited more)
  · rintro r rfl open' target awaited last
    obtain ⟨build, bore⟩ := State.recordVote_of_last open' target awaited last
    refine ⟨fun target' => ?_, fun target' => congrArg _ (bore target'), fun target' => ?_⟩
    · rw [build target']
      obtain ⟨machine, node, overrides, stop, thrust, plans⟩ := State.succeeded_build u
      exact ⟨_, rfl, by rw [machine]; rfl, by rw [machine]; rfl, by rw [machine]; rfl, by rw [machine]; rfl, by rw [machine]; rfl,
        node, overrides, by rw [machine]; rfl, by rw [machine]; rfl, stop, thrust, plans⟩
    · rw [bore target']
      obtain ⟨node, overrides, previous, ring, view⟩ := State.handEntryToBore_kept (u.succeeded .bore)
      exact ⟨_, rfl, State.boreEntered, State.boreTripped, State.handEntryToBore_round rfl rfl, previous, node, overrides, ring, view,
        fun quiet => State.handEntryToBore_plans (s := u.succeeded .bore) rfl quiet⟩

end
end

section
/-! PROOFS. One entry of the override table removed, and several one after another (R189, R190): table, phase, zone, ports, drives. -/

-- In one thread: each proof that waits for those before it would keep a thread of its own.
set_option Elab.async false

namespace Sys2Proof.Machine

namespace State

variable {s t : State} {e : OverrideEntry} {n : Nat}

/-! ### One entry removed (R190) -/

/-- The table without the entries of the item of `e`. -/
def unlisted (s : State) (e : OverrideEntry) : State := s.setOverrides (s.overrides.filter fun o => !o.isFor e.kind e.number)

/-- The cylinder of `e` returned, the advance not settled yet. -/
def cylinderFreed (s : State) (e : OverrideEntry) : State :=
  (s.unlisted e).mapCylinders fun c => if c.number = e.number then (s.unlisted e).releaseCylinder e.forced c else c

/-- The request in flight holds no cylinder of `e`. -/
def FreeOfZone (s : State) (e : OverrideEntry) : Prop := s.heldByZone e.kind e.number = false

theorem FreeOfZone.cylinder (free : s.FreeOfZone e) (kind : e.kind = .cylinder) : s.inFlightZoneHas e.number = false := by
  unfold FreeOfZone heldByZone at free
  rw [kind] at free
  simpa using free

theorem cancelEntry_cylinder (kind : e.kind = .cylinder) (free : s.FreeOfZone e) :
    s.cancelEntry e = (s.cylinderFreed e).recomputeAdvance := by
  obtain ⟨kind', number, forced⟩ := e
  obtain rfl : kind' = .cylinder := kind
  exact cylinderPinChanged_of_free (s := s.cylinderFreed ⟨.cylinder, number, forced⟩) (free.cylinder rfl)

theorem cancelEntry_port (kind : e.kind = .port) : s.cancelEntry e =
    ((s.unlisted e).setPorts (s.grout.ports.map fun p => if p.number = e.number then { p with state := .opened, cuts := 0 } else p)).testDose := by
  obtain ⟨kind', number, forced⟩ := e
  obtain rfl : kind' = .port := kind
  rfl

theorem cancelEntry_drive (kind : e.kind = .drive) : s.cancelEntry e = (s.unlisted e).setDrives
    (s.drive.drives.map fun d => if d.number = e.number then (s.unlisted e).testDrive d else d) := by
  obtain ⟨kind', number, forced⟩ := e
  obtain rfl : kind' = .drive := kind
  rfl

theorem cancelEntry_overrides (e : OverrideEntry) (s : State) :
    (s.cancelEntry e).overrides = s.overrides.filter fun o => !o.isFor e.kind e.number := by
  unfold cancelEntry cylinderPinChanged
  cases e.kind <;> dsimp only
  · split <;> simp
  · simp
  · simp

/-- Neither a port nor a drive has to do with phase and cylinders. -/
theorem cancelEntry_of_other (kind : e.kind ≠ .cylinder) :
    (s.cancelEntry e).machine = s.machine ∧ (s.cancelEntry e).thrust = s.thrust := by
  cases kind' : e.kind with
  | cylinder => exact absurd kind' kind
  | port =>
    rw [cancelEntry_port kind']
    simp [unlisted]
  | drive =>
    rw [cancelEntry_drive kind']
    simp [unlisted]

theorem releaseCylinder_of_noBore (out : s.machine.phase ≠ .bore) (forced : ForcedState) (c : Cylinder) :
    s.releaseCylinder forced c = c :=
  (if_neg fun h => out h.2.2.1).trans (if_neg fun h => out h.2.1)

theorem cylinderFreed_of_noBore (out : s.machine.phase ≠ .bore) : (s.cylinderFreed e).thrust = s.thrust := by
  have same : (fun c => if c.number = e.number then (s.unlisted e).releaseCylinder e.forced c else c) = (id : Cylinder → Cylinder) := by
    funext c
    rw [releaseCylinder_of_noBore (s := s.unlisted e) out]
    exact ite_self c
  unfold cylinderFreed
  rw [same]
  simp [mapCylinders, setCylinders, unlisted]

/-- Outside BORE a removal moves no cylinder. -/
theorem cancelEntry_of_noBore (out : s.machine.phase ≠ .bore) (free : s.FreeOfZone e) :
    (s.cancelEntry e).machine = s.machine ∧ (s.cancelEntry e).thrust = s.thrust := by
  by_cases kind : e.kind = .cylinder
  · rw [cancelEntry_cylinder kind free, recomputeAdvance_of_noBore (s := s.cylinderFreed e) out]
    exact ⟨rfl, cylinderFreed_of_noBore out⟩
  · exact cancelEntry_of_other kind

/-- BORE stands after a removal only where it stood, the phase unit then as it was. -/
theorem cancelEntry_bore (free : s.FreeOfZone e) (bore : (s.cancelEntry e).machine.phase = .bore) :
    s.machine.phase = .bore ∧ (s.cancelEntry e).machine = s.machine := by
  by_cases before : s.machine.phase = .bore
  · refine ⟨before, ?_⟩
    by_cases kind : e.kind = .cylinder
    · rw [cancelEntry_cylinder kind free] at bore ⊢
      exact (((MayHalt.recomputeAdvance (s.cylinderFreed e)).bore before).resolve_right fun halted => halted.noBore bore).1
    · exact (cancelEntry_of_other kind).1
  · exact absurd ((congrArg PhaseUnit.phase (cancelEntry_of_noBore before free).1.symm).trans bore) before

theorem inFlightZoneHas_congr (node : t.node = s.node) (zone : t.thrust.zone = s.thrust.zone) :
    t.inFlightZoneHas n = s.inFlightZoneHas n := by
  have position (z : Nat) : t.zonePosition t.own z = s.zonePosition s.own z := by
    simp [zonePosition, memberSection?, State.cfg, own, node]
  unfold inFlightZoneHas
  rw [zone, position]

theorem cancelEntry_zone (free : s.FreeOfZone e) (clear : s.inFlightZoneHas n = false) : (s.cancelEntry e).inFlightZoneHas n = false := by
  by_cases kind : e.kind = .cylinder
  · rw [cancelEntry_cylinder kind free]
    exact (SettlesTo.recomputeAdvance (s.cylinderFreed e)).inFlightZoneHas (by simp) clear
  · rw [inFlightZoneHas_congr (s := s) (by simp) (by rw [(cancelEntry_of_other kind).2])]
    exact clear

theorem cancelEntry_freeOfZone {o : OverrideEntry} (free : s.FreeOfZone e) (other : s.FreeOfZone o) : (s.cancelEntry e).FreeOfZone o := by
  unfold FreeOfZone heldByZone at other ⊢
  cases kind : o.kind with
  | cylinder =>
    rw [kind] at other
    simpa using cancelEntry_zone free (by simpa using other)
  | port => rfl
  | drive => rfl

/-! ### Several entries, one after another (R189) -/

theorem cancelEntries_cons (e : OverrideEntry) (es : List OverrideEntry) (s : State) :
    s.cancelEntries (e :: es) = (s.cancelEntry e).cancelEntries es := rfl

/-- What holds at the start, and is kept by each removal with that entry added to those removed, holds at the end. -/
theorem cancelEntries_invariant {es : List OverrideEntry} (I : List OverrideEntry → State → Prop) (free : ∀ e ∈ es, s.FreeOfZone e)
    (start : I [] s) (step : ∀ done e t, e ∈ es → t.FreeOfZone e → I done t → I (done ++ [e]) (t.cancelEntry e)) :
    I es (s.cancelEntries es) := by
  have general : ∀ (rest done : List OverrideEntry) (t : State), (∀ e ∈ rest, e ∈ es) → (∀ e ∈ rest, t.FreeOfZone e) → I done t →
      I (done ++ rest) (t.cancelEntries rest) := by
    intro rest
    induction rest with
    | nil =>
      intro done t _ _ now
      rw [List.append_nil]
      exact now
    | cons e rest ih =>
      intro done t among free now
      obtain ⟨first, later⟩ := List.forall_mem_cons.1 free
      have next := ih (done ++ [e]) (t.cancelEntry e) (fun o held => among o (.tail _ held))
        (fun o held => cancelEntry_freeOfZone first (later o held)) (step done e t (among e (.head _)) first now)
      rwa [List.append_assoc] at next
  simpa using general es [] s (fun _ held => held) free start

theorem cancelEntries_of_noBore {es : List OverrideEntry} (out : s.machine.phase ≠ .bore) (free : ∀ e ∈ es, s.FreeOfZone e) :
    (s.cancelEntries es).machine = s.machine ∧ (s.cancelEntries es).thrust = s.thrust := by
  refine cancelEntries_invariant (fun _ t => t.machine = s.machine ∧ t.thrust = s.thrust) free ⟨rfl, rfl⟩ ?_
  rintro done e t - free' ⟨machine, thrust⟩
  obtain ⟨machine', thrust'⟩ := cancelEntry_of_noBore (s := t) (by rw [machine]; exact out) free'
  exact ⟨machine'.trans machine, thrust'.trans thrust⟩

theorem cancelEntries_overrides (es : List OverrideEntry) : ∀ s : State,
    (s.cancelEntries es).overrides = s.overrides.filter fun o => !es.any fun e => o.isFor e.kind e.number := by
  induction es with
  | nil => exact fun s => by simp [cancelEntries]
  | cons e es ih =>
    intro s
    rw [cancelEntries_cons, ih, cancelEntry_overrides, List.filter_filter]
    refine List.filter_congr fun o _ => ?_
    rw [List.any_cons, Bool.not_or, Bool.and_comm]

/-! ### Ports (R156, R190) -/

/-- A port returned, if its item is listed in `es`. -/
def portFreed (es : List OverrideEntry) (p : Port) : Port :=
  if es.any (fun e => e.isFor .port p.number) then { p with state := .opened, cuts := 0 } else p

theorem portFreed_append (done : List OverrideEntry) (e : OverrideEntry) (p : Port) :
    portFreed [e] (portFreed done p) = portFreed (done ++ [e]) p := by
  have number : (portFreed done p).number = p.number := by
    unfold portFreed
    split <;> rfl
  unfold portFreed at number ⊢
  simp only [number, List.any_append, List.any_cons, List.any_nil, Bool.or_false]
  cases done.any fun o => o.isFor .port p.number
  · rfl
  · simp

theorem cancelEntry_ports (unsettled : s.machine.phase ≠ .bore ∨ e.kind ≠ .cylinder) (free : s.FreeOfZone e) :
    (s.cancelEntry e).grout.ports = s.grout.ports.map (portFreed [e]) := by
  have untouched (kind : e.kind ≠ .port) : s.grout.ports.map (portFreed [e]) = s.grout.ports := by
    refine (List.map_congr_left fun p _ => ?_).trans (List.map_id _)
    exact if_neg (by simp [OverrideEntry.isFor, kind])
  cases kind : e.kind with
  | cylinder =>
    have out := unsettled.resolve_right (not_not_intro kind)
    rw [cancelEntry_cylinder kind free, recomputeAdvance_of_noBore (s := s.cylinderFreed e) out, untouched (by simp [kind])]
    rfl
  | drive =>
    rw [cancelEntry_drive kind, untouched (by simp [kind])]
    rfl
  | port =>
    rw [cancelEntry_port kind]
    simp only [testDose_fields]
    refine List.map_congr_left fun p _ => ?_
    simp only [portFreed, OverrideEntry.isFor, kind, List.any_cons, List.any_nil, Bool.or_false, beq_self_eq_true, Bool.true_and,
      beq_iff_eq, eq_comm (a := p.number)]

theorem cancelEntries_ports {es : List OverrideEntry} (unsettled : s.machine.phase ≠ .bore ∨ ∀ e ∈ es, e.kind ≠ .cylinder)
    (free : ∀ e ∈ es, s.FreeOfZone e) : (s.cancelEntries es).grout.ports = s.grout.ports.map (portFreed es) := by
  have kept := cancelEntries_invariant (fun done t => (s.machine.phase ≠ .bore → t.machine.phase ≠ .bore)
    ∧ t.grout.ports = s.grout.ports.map (portFreed done)) free ⟨id, (List.map_id _).symm⟩ ?_
  · exact kept.2
  · rintro done e t among free' ⟨out, ports⟩
    refine ⟨fun before bore => out before (cancelEntry_bore free' bore).1, ?_⟩
    rw [cancelEntry_ports (unsettled.imp out fun other => other e among) free', ports, List.map_map]
    exact List.map_congr_left fun p _ => portFreed_append done e p

/-- What a settled advance leaves of a port account. -/
def portAccount (p : Port) : Nat × Nat × PortState × Nat := (p.number, p.delivered, p.state, p.cuts)

/-- A port account returned, if its item is listed in `es`. -/
def accountFreed (es : List OverrideEntry) (a : Nat × Nat × PortState × Nat) : Nat × Nat × PortState × Nat :=
  if es.any (fun e => e.isFor .port a.1) then (a.1, a.2.1, .opened, 0) else a

theorem portAccount_portFreed (es : List OverrideEntry) (p : Port) : portAccount (portFreed es p) = accountFreed es (portAccount p) := by
  have number : (portAccount p).1 = p.number := rfl
  unfold portFreed accountFreed
  rw [number]
  split <;> rfl

theorem recomputeAdvance_accounts (s : State) : s.recomputeAdvance.grout.ports.map portAccount = s.grout.ports.map portAccount := by
  by_cases bore : s.machine.phase = .bore
  · obtain ⟨-, -, low, high, -⟩ := (recomputeAdvance_settled s bore).1
    rcases Nat.lt_or_ge s.thrust.credited s.recomputeAdvance.thrust.sectorAdvance with rises | stays
    · rw [high rises, List.map_map]
      rfl
    · rw [low stays]
  · rw [recomputeAdvance_of_noBore bore]

theorem cancelEntry_accounts (free : s.FreeOfZone e) :
    (s.cancelEntry e).grout.ports.map portAccount = (s.grout.ports.map portAccount).map (accountFreed [e]) := by
  have exact' (unsettled : s.machine.phase ≠ .bore ∨ e.kind ≠ .cylinder) :
      (s.cancelEntry e).grout.ports.map portAccount = (s.grout.ports.map portAccount).map (accountFreed [e]) := by
    rw [cancelEntry_ports unsettled free, List.map_map, List.map_map]
    exact List.map_congr_left fun p _ => portAccount_portFreed [e] p
  by_cases kind : e.kind = .cylinder
  · have none' : ∀ a, accountFreed [e] a = a := fun a => if_neg (by simp [OverrideEntry.isFor, kind])
    rw [cancelEntry_cylinder kind free, recomputeAdvance_accounts]
    exact ((List.map_congr_left fun a _ => none' a).trans (List.map_id _)).symm
  · exact exact' (.inr kind)

theorem cancelEntries_accounts {es : List OverrideEntry} (free : ∀ e ∈ es, s.FreeOfZone e) :
    (s.cancelEntries es).grout.ports.map portAccount = s.grout.ports.map fun p => accountFreed es (portAccount p) := by
  have kept := cancelEntries_invariant (fun done t => t.grout.ports.map portAccount
    = s.grout.ports.map fun p => portAccount (portFreed done p)) free rfl ?_
  · exact kept.trans (List.map_congr_left fun p _ => portAccount_portFreed es p)
  · rintro done e t - free' accounts
    rw [cancelEntry_accounts free', accounts, List.map_map]
    refine List.map_congr_left fun p _ => ?_
    rw [← portFreed_append, portAccount_portFreed [e]]
    rfl

/-! ### Drives (R84, R190) -/

/-- A drive released in BORE at a MEMBER node, if its item is listed in `es`. -/
def driveStarted (es : List OverrideEntry) (d : Drive) : Drive :=
  if es.any (fun e => e.isFor .drive d.number) ∧ (d.state = .stopped ∨ d.state = .stopping) then { d with state := .starting } else d

theorem driveStarted_append (done : List OverrideEntry) (e : OverrideEntry) (d : Drive) :
    driveStarted [e] (driveStarted done d) = driveStarted (done ++ [e]) d := by
  unfold driveStarted
  simp only [List.any_append, List.any_cons, List.any_nil, Bool.or_false, Bool.or_eq_true]
  by_cases rests : d.state = .stopped ∨ d.state = .stopping
  · by_cases listed : (done.any fun o => o.isFor .drive d.number) = true
    · simp [listed, rests]
    · simp [listed]
  · simp [rests]

theorem unlisted_free (s : State) (e : OverrideEntry) : (s.unlisted e).pinned e.kind e.number = false := by
  rw [pinned_eq_any, List.any_eq_false]
  intro o held
  have other := (List.mem_filter.1 held).2
  simpa using other

theorem cancelEntry_drives_of_bore (bore : s.machine.phase = .bore) (member : s.node.state = .member) (free : s.FreeOfZone e)
    (stands : (s.cancelEntry e).machine.phase = .bore) : (s.cancelEntry e).drive.drives = s.drive.drives.map (driveStarted [e]) := by
  have untouched (kind : e.kind ≠ .drive) : s.drive.drives.map (driveStarted [e]) = s.drive.drives := by
    refine (List.map_congr_left fun d _ => ?_).trans (List.map_id _)
    exact if_neg (by simp [OverrideEntry.isFor, kind])
  cases kind : e.kind with
  | cylinder =>
    rw [cancelEntry_cylinder kind free] at stands ⊢
    have kept := ((MayHalt.recomputeAdvance (s.cylinderFreed e)).bore bore).resolve_right fun halted => halted.noBore stands
    rw [kept.2, untouched (by simp [kind])]
    rfl
  | port =>
    rw [cancelEntry_port kind, untouched (by simp [kind])]
    simp [unlisted]
  | drive =>
    rw [cancelEntry_drive kind]
    refine List.map_congr_left fun d _ => ?_
    unfold driveStarted
    by_cases own : d.number = e.number
    · have run : (s.unlisted e).runCondition d = (d.state != .tripped) := by
        have unpinned := unlisted_free s e
        rw [kind] at unpinned
        have bore' : (s.unlisted e).machine.phase = .bore := bore
        have member' : (s.unlisted e).node.state = .member := member
        simp [runCondition, own, unpinned, bore', member']
      cases state : d.state <;> simp [testDrive, run, own, state, OverrideEntry.isFor, kind]
    · simp [own, Ne.symm own, OverrideEntry.isFor]

theorem cancelEntries_drives_of_bore {es : List OverrideEntry} (member : s.node.state = .member) (free : ∀ e ∈ es, s.FreeOfZone e)
    (stands : (s.cancelEntries es).machine.phase = .bore) :
    (s.cancelEntries es).drive.drives = s.drive.drives.map (driveStarted es) := by
  have kept := cancelEntries_invariant (fun done t => t.node = s.node ∧ (t.machine.phase = .bore →
    t.drive.drives = s.drive.drives.map (driveStarted done))) free ⟨rfl, fun _ => ?_⟩ ?_
  · exact kept.2 stands
  · refine ((List.map_congr_left fun d _ => ?_).trans (List.map_id _)).symm
    exact if_neg (by simp)
  · rintro done e t - free' ⟨node, drives⟩
    refine ⟨by simp [node], fun after => ?_⟩
    obtain ⟨before, -⟩ := cancelEntry_bore free' after
    rw [cancelEntry_drives_of_bore before (by rw [node]; exact member) free' after, drives before, List.map_map]
    exact List.map_congr_left fun d _ => driveStarted_append done e d

/-- Where no drive may run, none of an item listed in `es` does. -/
def StopsListed (es : List OverrideEntry) (s : State) : Prop :=
  s.machine.phase ≠ .bore ∨ s.node.state ≠ .member → ∀ d ∈ s.drive.drives, es.any (fun e => e.isFor .drive d.number) = true →
    d.state ≠ .starting ∧ d.state ≠ .running

theorem testDrive_stops (out : s.machine.phase ≠ .bore ∨ s.node.state ≠ .member) (d : Drive) :
    (s.testDrive d).state ≠ .starting ∧ (s.testDrive d).state ≠ .running := by
  have stays : s.runCondition d = false := by
    rcases out with phase | node
    · simp [runCondition, phase]
    · simp [runCondition, node]
  exact ⟨fun run => by simp [Keeps.testDrive_runs (.inl run)] at stays, fun run => by simp [Keeps.testDrive_runs (.inr run)] at stays⟩

theorem cancelEntry_stops {done : List OverrideEntry} (free : s.FreeOfZone e) (stops : StopsListed done s) :
    StopsListed (done ++ [e]) (s.cancelEntry e) := by
  intro out d held listed
  rw [List.any_append, Bool.or_eq_true] at listed
  have node : (s.cancelEntry e).node = s.node := by simp
  rw [node] at out
  cases kind : e.kind with
  | cylinder =>
    have listed' : done.any (fun o => o.isFor .drive d.number) = true := listed.resolve_right (by simp [OverrideEntry.isFor, kind])
    rw [cancelEntry_cylinder kind free] at out held
    by_cases bore : s.machine.phase = .bore
    · rcases (MayHalt.recomputeAdvance (s.cylinderFreed e)).bore bore with ⟨machine, drive⟩ | halted
      · rw [drive] at held
        rw [machine] at out
        exact stops out d held listed'
      · exact halted.drives d held
    · rw [recomputeAdvance_of_noBore (s := s.cylinderFreed e) bore] at held
      exact stops (.inl bore) d held listed'
  | port =>
    have listed' : done.any (fun o => o.isFor .drive d.number) = true := listed.resolve_right (by simp [OverrideEntry.isFor, kind])
    rw [(cancelEntry_of_other (by simp [kind])).1] at out
    rw [cancelEntry_port kind] at held
    exact stops out d (by simpa [unlisted] using held) listed'
  | drive =>
    rw [(cancelEntry_of_other (by simp [kind])).1] at out
    rw [cancelEntry_drive kind] at held
    obtain ⟨o, before, rfl⟩ := List.mem_map.1 held
    by_cases own : o.number = e.number
    · rw [if_pos own]
      exact testDrive_stops (s := s.unlisted e) out o
    · rw [if_neg own] at listed ⊢
      exact stops out o before (listed.resolve_right (by simp [OverrideEntry.isFor, Ne.symm own]))

theorem cancelEntries_stops {es : List OverrideEntry} (free : ∀ e ∈ es, s.FreeOfZone e) : StopsListed es (s.cancelEntries es) :=
  cancelEntries_invariant StopsListed free (fun _ d _ listed => by simp at listed) fun _ _ _ _ free' stops => cancelEntry_stops free' stops

end State

end Sys2Proof.Machine
end

section
/-! PROOFS. The cylinders and the sector advance as entries of the override table are removed in BORE (R190, R60, R66). -/

-- In one thread: each proof that waits for those before it would keep a thread of its own.
set_option Elab.async false

namespace Sys2Proof.Machine

namespace State

variable {s t u : State} {e : OverrideEntry} {n : Nat}

/-! ### A removal in BORE, BORE still standing -/

/-- A cylinder that stroke reached stops (R71). -/
def strokeStopped (before after : Bool) (c : Cylinder) : Cylinder :=
  if c.state = .advancing ∧ after = true ∧ before = false then { c with state := .bearing } else c

theorem releaseCylinder_kept (s : State) (forced : ForcedState) (c : Cylinder) : (s.releaseCylinder forced c).number = c.number
    ∧ (s.releaseCylinder forced c).gain = c.gain ∧ ((s.releaseCylinder forced c).state = .failed ↔ c.state = .failed) := by
  unfold releaseCylinder
  split
  · rename_i bearing
    simp [Cylinder.gain, bearing.2.1]
  · unfold reseatClear
    split
    · rename_i clear
      simp [Cylinder.gain, clear.1]
    · simp

theorem strokeStopped_kept (before after : Bool) (c : Cylinder) : (strokeStopped before after c).number = c.number
    ∧ (strokeStopped before after c).gain = c.gain ∧ ((strokeStopped before after c).state = .failed ↔ c.state = .failed) := by
  unfold strokeStopped
  split
  · rename_i advancing
    simp [Cylinder.gain, advancing.1]
  · simp

/-- The cylinder of `e` returned, any other as it is. -/
def freedCylinder (s : State) (e : OverrideEntry) (c : Cylinder) : Cylinder :=
  if c.number = e.number then (s.unlisted e).releaseCylinder e.forced c else c

theorem freedCylinder_kept (s : State) (e : OverrideEntry) (c : Cylinder) : (s.freedCylinder e c).number = c.number
    ∧ (s.freedCylinder e c).gain = c.gain ∧ ((s.freedCylinder e c).state = .failed ↔ c.state = .failed) := by
  unfold freedCylinder
  split
  · exact releaseCylinder_kept _ _ c
  · simp

/-- The removal of a cylinder's entry in BORE. -/
structure CylinderCancelled (s : State) (e : OverrideEntry) (t : State) : Prop where
  settled : s.AdvanceSettled t
  gains : t.gains = (s.cylinderFreed e).gains
  advance : t.thrust.sectorAdvance = (s.cylinderFreed e).computedAdvance
  cylinders : t.thrust.cylinders = s.thrust.cylinders.map fun c =>
    strokeStopped s.thrust.strokeReached t.thrust.strokeReached (s.freedCylinder e c)
  reached : s.thrust.strokeReached = true → t.thrust.strokeReached = true

theorem cancelEntry_settled (kind : e.kind = .cylinder) (free : s.FreeOfZone e) (bore : s.machine.phase = .bore) :
    s.AdvanceSettled (s.cancelEntry e) := by
  rw [cancelEntry_cylinder kind free]
  exact (recomputeAdvance_settled (s.cylinderFreed e) bore).1.of_before rfl rfl rfl rfl rfl rfl

theorem cancelEntry_cancelled (kind : e.kind = .cylinder) (free : s.FreeOfZone e) (bore : (s.cancelEntry e).machine.phase = .bore) :
    s.CylinderCancelled e (s.cancelEntry e) := by
  have before := (cancelEntry_bore free bore).1
  have settled := cancelEntry_settled kind free before
  rw [cancelEntry_cylinder kind free] at settled bore ⊢
  have moved := ((recomputeAdvance_settled (s.cylinderFreed e) before).2 bore).2
  refine ⟨settled, ?_, recomputeAdvance_advance before, ?_, fun reached => ?_⟩
  · refine (gains_congr (s := (s.cylinderFreed e).mapCylinders (strokeStopped s.thrust.strokeReached
      (s.cylinderFreed e).recomputeAdvance.thrust.strokeReached)) moved (by simp)).trans ?_
    exact gains_mapCylinders _ _ (strokeStopped_kept _ _)
  · rw [moved]
    exact List.map_map
  · obtain ⟨-, -, -, -, inBore, -⟩ := settled
    rw [(inBore bore).1, reached]
    rfl

/-- What becomes of the records in the removal of any entry in BORE. -/
theorem cancelEntry_cylinders (free : s.FreeOfZone e) (bore : (s.cancelEntry e).machine.phase = .bore) :
    ∃ f : Cylinder → Cylinder, (s.cancelEntry e).thrust.cylinders = s.thrust.cylinders.map f ∧ ∀ c, (f c).state = .failed ↔ c.state = .failed := by
  by_cases kind : e.kind = .cylinder
  · exact ⟨_, (cancelEntry_cancelled kind free bore).cylinders, fun c =>
      (strokeStopped_kept _ _ _).2.2.trans (freedCylinder_kept s e c).2.2⟩
  · exact ⟨id, by rw [(cancelEntry_of_other kind).2, List.map_id], fun c => Iff.rfl⟩

/-! ### The least advance after several removals (R66) -/

theorem cylPinned_of_unlisted (kind : e.kind ≠ .cylinder) (overrides : t.overrides = s.overrides.filter fun o => !o.isFor e.kind e.number)
    (c : Cylinder) : t.cylPinned c = s.cylPinned c := by
  unfold cylPinned
  rw [pinned_eq_any, pinned_eq_any, overrides, Bool.eq_iff_iff, List.any_eq_true, List.any_eq_true]
  constructor
  · rintro ⟨o, held, own⟩
    exact ⟨o, (List.mem_filter.1 held).1, own⟩
  · rintro ⟨o, held, own⟩
    refine ⟨o, List.mem_filter.2 ⟨held, ?_⟩, own⟩
    have kind' := ((isFor_iff o).1 own).1
    simp [OverrideEntry.isFor, kind', Ne.symm kind]

/-- The removal of a port's or a drive's entry leaves the cylinders that count. -/
theorem cancelEntry_usable_of_other (kind : e.kind ≠ .cylinder) : (s.cancelEntry e).usableCylinders = s.usableCylinders := by
  unfold usableCylinders
  rw [(cancelEntry_of_other kind).2]
  exact List.filter_congr fun c _ => by rw [cylPinned_of_unlisted kind (cancelEntry_overrides e s)]

/-- Where no cylinder counts the advance stays. -/
def AllFailed (s : State) : Prop := ∀ c ∈ s.thrust.cylinders, c.state = .failed

theorem usable_nil_of_allFailed (failed : s.AllFailed) : s.usableCylinders = [] :=
  List.filter_eq_nil_iff.2 fun c held => by simp [failed c held]

theorem cancelEntry_allFailed (free : s.FreeOfZone e) (bore : (s.cancelEntry e).machine.phase = .bore) :
    (s.cancelEntry e).AllFailed ↔ s.AllFailed := by
  obtain ⟨f, cylinders, failed⟩ := cancelEntry_cylinders free bore
  unfold AllFailed
  rw [cylinders, List.forall_mem_map]
  exact forall₂_congr fun c _ => failed c

/-- The advance is the least gain of the cylinders that count, and is credited. -/
structure LeastCredited (s : State) : Prop where
  below : ∀ c ∈ s.usableCylinders, s.thrust.sectorAdvance ≤ c.gain
  taken : s.usableCylinders ≠ [] → ∃ c ∈ s.usableCylinders, s.thrust.sectorAdvance = c.gain
  credited : s.thrust.sectorAdvance ≤ s.thrust.credited

/-- What removals done so far have made of the advance, BORE still standing. -/
structure AdvanceTracked (s : State) (done : List OverrideEntry) (t : State) : Prop where
  credited : s.thrust.credited ≤ t.thrust.credited
  failed : t.AllFailed ↔ s.AllFailed
  kept : s.AllFailed → t.thrust.sectorAdvance = s.thrust.sectorAdvance
  least : (∃ e ∈ done, e.kind = .cylinder) → t.LeastCredited

theorem AdvanceTracked.next {done : List OverrideEntry} (tracked : s.AdvanceTracked done t) (free : t.FreeOfZone e)
    (bore : (t.cancelEntry e).machine.phase = .bore) : s.AdvanceTracked (done ++ [e]) (t.cancelEntry e) := by
  have failed : (t.cancelEntry e).AllFailed ↔ s.AllFailed := (cancelEntry_allFailed free bore).trans tracked.failed
  by_cases kind : e.kind = .cylinder
  · obtain ⟨⟨below, taken, stays⟩, credited, -⟩ := cancelEntry_settled kind free (cancelEntry_bore free bore).1
    refine ⟨?_, failed, fun all => ?_, fun _ => ⟨below, taken, ?_⟩⟩
    · rw [credited]
      exact Nat.le_trans tracked.credited (Nat.le_max_left _ _)
    · exact (stays (usable_nil_of_allFailed (failed.2 all))).trans (tracked.kept all)
    · rw [credited]
      exact Nat.le_max_right _ _
  · obtain ⟨-, thrust⟩ := cancelEntry_of_other (s := t) kind
    have usable := cancelEntry_usable_of_other (s := t) kind
    refine ⟨by rw [thrust]; exact tracked.credited, failed, fun all => by rw [thrust]; exact tracked.kept all, ?_⟩
    rintro ⟨o, held, cylinder⟩
    rcases List.mem_append.1 held with before | last
    · obtain ⟨below, taken, credited⟩ := tracked.least ⟨o, before, cylinder⟩
      exact ⟨by rw [usable, thrust]; exact below, by rw [usable, thrust]; exact taken, by rw [thrust]; exact credited⟩
    · rw [List.mem_singleton.1 last] at cylinder
      exact absurd cylinder kind

theorem cancelEntries_tracked {es : List OverrideEntry} (free : ∀ e ∈ es, s.FreeOfZone e)
    (bore : (s.cancelEntries es).machine.phase = .bore) : s.AdvanceTracked es (s.cancelEntries es) := by
  have start : s.AdvanceTracked [] s := ⟨Nat.le_refl _, Iff.rfl, fun _ => rfl, fun ⟨_, held, _⟩ => absurd held (by simp)⟩
  refine cancelEntries_invariant (fun done t => t.machine.phase = .bore → s.AdvanceTracked done t) free (fun _ => start) ?_ bore
  intro done e t _ free' tracked bore'
  exact (tracked (cancelEntry_bore free' bore').1).next free' bore'

/-! ### One cylinder through several removals (R190, R60) -/

/-- What has become of the record `c`, not advancing, of cylinder `n`: `listed`, `bear` say whether an entry, and one of
FORCE_BEAR, has been removed. -/
def returned (s : State) (listed bear reached : Bool) (c : Cylinder) : Cylinder :=
  if c.state = .clear ∧ listed = true then { c with state := .reseating, reseatTarget := some s.cfg.reseatPressure }
  else if c.state = .bearing ∧ bear = true ∧ s.node.state ≠ .faulted then { c with state := if reached then .bearing else .advancing }
  else c

theorem returned_number (s : State) (listed bear reached : Bool) (c : Cylinder) : (s.returned listed bear reached c).number = c.number := by
  unfold returned
  split
  · rfl
  split <;> rfl

theorem strokeStopped_returned (s : State) (listed bear : Bool) {before after : Bool} (mono : before = true → after = true) {c : Cylinder}
    (still : c.state ≠ .advancing) : strokeStopped before after (s.returned listed bear before c) = s.returned listed bear after c := by
  unfold returned
  split
  · exact if_neg (by simp)
  split
  · unfold strokeStopped
    cases before with
    | true =>
      rw [mono rfl]
      exact if_neg (by simp)
    | false => cases after <;> simp
  · exact if_neg fun h => still h.1

/-- The release of the cylinder itself, its pin gone. -/
theorem releaseCylinder_returned {v : State} (bore : v.machine.phase = .bore) (node : v.node = s.node) {forced : ForcedState}
    {listed bear : Bool} {c : Cylinder} (unpinned : ∀ d : Cylinder, d.number = c.number → v.cylPinned d = false) :
    v.releaseCylinder forced (s.returned listed bear v.thrust.strokeReached c)
      = s.returned true (bear || forced == .forceBear) v.thrust.strokeReached c := by
  have limits : v.cfg = s.cfg := by simp only [cfg, node]
  have reseats : ∀ d : Cylinder, d.number = c.number → v.reseatClear d
      = if d.state = .clear then { d with state := .reseating, reseatTarget := some s.cfg.reseatPressure } else d := by
    intro d number
    simp [reseatClear, bore, unpinned d number, limits]
  unfold releaseCylinder
  rw [reseats _ (returned_number s listed bear _ c), node]
  unfold returned
  cases state : c.state with
  | clear => cases listed <;> simp [state, bore]
  | bearing =>
    have same : { c with state := .bearing } = c := by rw [← state]
    by_cases faulted : s.node.state = .faulted
    · simp [state, faulted]
    · by_cases bears : forced = .forceBear
      · cases v.thrust.strokeReached <;> cases bear <;> simp [state, bore, faulted, bears, same]
      · cases v.thrust.strokeReached <;> cases bear <;> simp [state, faulted, bears, same]
  | advancing | retracting | reseating | parked | failed => simp [state]

/-- An entry of the item, and one of FORCE_BEAR, among those removed. -/
def listed (es : List OverrideEntry) (n : Nat) : Bool := es.any fun e => e.isFor .cylinder n

def bearListed (es : List OverrideEntry) (n : Nat) : Bool := es.any fun e => e.isFor .cylinder n && e.forced == .forceBear

theorem cancelEntry_returned {done : List OverrideEntry} {c : Cylinder} (still : c.state ≠ .advancing) (number : c.number = n)
    (node : t.node = s.node) (free : t.FreeOfZone e) (bore : (t.cancelEntry e).machine.phase = .bore)
    (found : t.cylinder? n = some (s.returned (listed done n) (bearListed done n) t.thrust.strokeReached c)) :
    (t.cancelEntry e).cylinder? n = some (s.returned (listed (done ++ [e]) n) (bearListed (done ++ [e]) n)
      (t.cancelEntry e).thrust.strokeReached c) := by
  have before := (cancelEntry_bore free bore).1
  by_cases kind : e.kind = .cylinder
  · have cancelled := cancelEntry_cancelled kind free bore
    have moves : (t.cancelEntry e).cylinder? n = (t.cylinder? n).map fun c =>
        strokeStopped t.thrust.strokeReached (t.cancelEntry e).thrust.strokeReached (t.freedCylinder e c) := by
      have same : (fun c : Cylinder => c.number == n) ∘ (fun c => strokeStopped t.thrust.strokeReached
          (t.cancelEntry e).thrust.strokeReached (t.freedCylinder e c)) = fun c : Cylinder => c.number == n := by
        funext c
        simp only [Function.comp_apply, (strokeStopped_kept _ _ _).1, (freedCylinder_kept t e c).1]
      unfold cylinder?
      rw [cancelled.cylinders, List.find?_map, same]
    rw [moves, found, Option.map_some]
    congr 1
    unfold freedCylinder
    by_cases own : n = e.number
    · have unpinned : ∀ d : Cylinder, d.number = c.number → (t.unlisted e).cylPinned d = false := by
        intro d same
        have gone := unlisted_free t e
        rw [kind] at gone
        unfold cylPinned
        rw [same, number, own]
        exact gone
      have release := releaseCylinder_returned (s := s) (v := t.unlisted e) before node (forced := e.forced)
        (listed := listed done n) (bear := bearListed done n) unpinned
      have reached : (t.unlisted e).thrust.strokeReached = t.thrust.strokeReached := rfl
      rw [reached] at release
      rw [if_pos ((returned_number s _ _ _ c).trans (number.trans own)), release, strokeStopped_returned s _ _ cancelled.reached still]
      have isOwn : e.isFor .cylinder n = true := (isFor_iff e).2 ⟨kind, own.symm⟩
      simp [listed, bearListed, isOwn]
    · rw [if_neg (fun same => own (number.symm.trans ((returned_number s _ _ _ c).symm.trans same))),
        strokeStopped_returned s _ _ cancelled.reached still]
      have notOwn : e.isFor .cylinder n = false := by simp [OverrideEntry.isFor, Ne.symm own]
      simp [listed, bearListed, notOwn]
  · have thrust := (cancelEntry_of_other (s := t) kind).2
    have notOwn : e.isFor .cylinder n = false := by simp [OverrideEntry.isFor, kind]
    unfold cylinder? at found ⊢
    rw [thrust, found]
    simp [listed, bearListed, notOwn]

theorem cancelEntries_returned {es : List OverrideEntry} {c : Cylinder} (free : ∀ e ∈ es, s.FreeOfZone e)
    (bore : (s.cancelEntries es).machine.phase = .bore) (found : s.cylinder? n = some c) (still : c.state ≠ .advancing) :
    (s.cancelEntries es).cylinder? n
      = some (s.returned (listed es n) (bearListed es n) (s.cancelEntries es).thrust.strokeReached c) := by
  have number : c.number = n := find_number found
  have start : s.returned (listed [] n) (bearListed [] n) s.thrust.strokeReached c = c := by
    simp [returned, listed, bearListed]
  have kept := cancelEntries_invariant (fun done t => t.node = s.node ∧ (t.machine.phase = .bore →
    t.cylinder? n = some (s.returned (listed done n) (bearListed done n) t.thrust.strokeReached c))) free
    ⟨rfl, fun _ => by rw [start]; exact found⟩ ?_
  · exact kept.2 bore
  · rintro done e t - free' ⟨node, tracked⟩
    refine ⟨by simp [node], fun bore' => ?_⟩
    exact cancelEntry_returned still number node free' bore' (tracked (cancelEntry_bore free' bore').1)

/-- A cylinder returned, in the words of the statements. -/
theorem cylinderReturned {es : List OverrideEntry} {c : Cylinder} (free : ∀ e ∈ es, s.FreeOfZone e)
    (bore : (s.cancelEntries es).machine.phase = .bore) (found : s.cylinder? n = some c) (pin : s.pinned .cylinder n = true)
    (all : ∀ e ∈ s.overrides, e.isFor .cylinder n = true → e ∈ es) (only : ∀ e ∈ es, e ∈ s.overrides) :
    s.CylinderReturned (s.cancelEntries es) n c := by
  have listed' : listed es n = true := by
    rw [pinned_eq_any, List.any_eq_true] at pin
    obtain ⟨e, held, own⟩ := pin
    exact List.any_eq_true.2 ⟨e, all e held own, own⟩
  have bear : bearListed es n = true ↔ ⟨.cylinder, n, .forceBear⟩ ∈ s.overrides := by
    unfold bearListed
    rw [List.any_eq_true]
    constructor
    · rintro ⟨⟨kind, number, forced⟩, held, own⟩
      rw [Bool.and_eq_true, isFor_iff, beq_iff_eq] at own
      obtain ⟨⟨rfl, rfl⟩, rfl⟩ := own
      exact only _ held
    · intro held
      have own : (⟨.cylinder, n, .forceBear⟩ : OverrideEntry).isFor .cylinder n = true := (isFor_iff _).2 ⟨rfl, rfl⟩
      exact ⟨_, all _ held own, by simp [own]⟩
  have after (still : c.state ≠ .advancing) := cancelEntries_returned free bore found still
  unfold CylinderReturned
  refine ⟨fun held bearing sound => ?_, fun clear => ?_, fun other notClear still => ?_⟩
  · rw [after (by simp [bearing])]
    simp [returned, bearing, bear.2 held, sound]
  · rw [after (by simp [clear])]
    simp [returned, clear, listed']
  · rw [after still]
    refine congrArg some ((if_neg fun h => notClear h.1).trans (if_neg ?_))
    rintro ⟨bearing, bears, sound⟩
    rcases other with none' | moved | faulted
    · exact none' (bear.1 bears)
    · exact moved bearing
    · exact sound faulted

/-! ### One item whose entry stands more than once -/

theorem gains_cylinderFreed (overrides : (s.unlisted e).overrides = s.overrides) : (s.cylinderFreed e).gains = s.gains :=
  (gains_mapCylinders (s.unlisted e) (s.freedCylinder e) (freedCylinder_kept s e)).trans (gains_congr rfl overrides)

theorem computedAdvance_of_gains (gains : t.gains = s.gains) (advance : t.thrust.sectorAdvance = s.thrust.sectorAdvance) :
    t.computedAdvance = s.computedAdvance := by
  have eq : ∀ v : State, v.computedAdvance = (v.gains.head?.elim v.thrust.sectorAdvance fun g => leastOver g v.gains.tail) := by
    intro v
    have open' : v.gains = v.usableCylinders.map Cylinder.gain := rfl
    unfold computedAdvance
    rw [← open']
    cases v.gains <;> rfl
  rw [eq, eq, gains, advance]

theorem computedAdvance_settled (gains : t.gains = s.gains) (advance : t.thrust.sectorAdvance = s.computedAdvance) :
    t.computedAdvance = t.thrust.sectorAdvance := by
  cases none' : t.gains with
  | nil =>
    have open' : t.usableCylinders.map Cylinder.gain = [] := none'
    unfold computedAdvance
    rw [open']
  | cons g gs =>
    have open' : t.usableCylinders.map Cylinder.gain = g :: gs := none'
    have open'' : s.usableCylinders.map Cylinder.gain = g :: gs := gains.symm.trans none'
    rw [advance]
    unfold computedAdvance
    rw [open', open'']

theorem gains_eq_nil : s.gains = [] ↔ s.usableCylinders = [] := List.map_eq_nil_iff

theorem usable_nil_of_gains (gains : t.gains = s.gains) (none' : t.usableCylinders = []) : s.usableCylinders = [] := by
  have empty : s.gains = [] := gains.symm.trans (gains_eq_nil.2 none')
  exact gains_eq_nil.1 empty

/-- A settled advance settled again, where nothing of it changes. -/
theorem AdvanceSettled.again (first : s.AdvanceSettled t) (again : t.AdvanceSettled u) (node : t.node = s.node) (node' : u.node = t.node)
    (machine : u.machine = t.machine) (bore : t.machine.phase = .bore) (advance : u.thrust.sectorAdvance = t.thrust.sectorAdvance)
    (gains : u.gains = t.gains) : s.AdvanceSettled u := by
  obtain ⟨⟨-, -, stays⟩, credited, low, high, inBore, -⟩ := first
  obtain ⟨⟨below, taken, -⟩, credited', low', -, inBore', -⟩ := again
  have limits : t.cfg = s.cfg := by simp only [cfg, node]
  have slowest : u.slowestAdvance = t.slowestAdvance := by
    have own' : u.own = t.own := congrArg NodeRecord.number node'
    unfold slowestAdvance peerBeacons
    rw [advance, machine, own']
  have ports : u.grout.ports = t.grout.ports := low' (by rw [advance, credited]; exact Nat.le_max_right _ _)
  refine ⟨⟨below, taken, fun none' => ?_⟩, ?_, fun le => ?_, fun lt => ?_, fun _ => ⟨?_, ?_⟩, fun out => absurd (by rw [machine]; exact bore) out⟩
  · rw [advance]
    exact stays (usable_nil_of_gains gains none')
  · rw [credited', credited, advance]
    exact max_eq_left (Nat.le_max_right _ _)
  · rw [ports]
    exact low (by rw [← advance]; exact le)
  · rw [ports, advance]
    exact high (by rw [← advance]; exact lt)
  · rw [(inBore' (by rw [machine]; exact bore)).1, (inBore bore).1, advance, limits, Bool.or_assoc, Bool.or_self]
  · rw [(inBore' (by rw [machine]; exact bore)).2, (inBore bore).2, slowest, advance, limits]
    (repeat' split) <;> rfl

/-- The item's entries gone and its advance settled: what a further removal of an entry of the item finds. -/
structure SettledOnce (s : State) (n : Nat) (t : State) : Prop where
  settled : s.AdvanceSettled t
  node : t.node = s.node
  gone : ∀ o ∈ t.overrides, o.isFor .cylinder n = false
  computed : t.machine.phase = .bore → t.computedAdvance = t.thrust.sectorAdvance

theorem filter_gone (kind : e.kind = .cylinder) (number : e.number = n) (gone : ∀ o ∈ s.overrides, o.isFor .cylinder n = false) :
    (s.unlisted e).overrides = s.overrides :=
  List.filter_eq_self.2 fun o held => by
    rw [kind, number, gone o held]
    rfl

theorem settledOnce_first (kind : e.kind = .cylinder) (number : e.number = n) (free : s.FreeOfZone e) (bore : s.machine.phase = .bore) :
    s.SettledOnce n (s.cancelEntry e) := by
  refine ⟨cancelEntry_settled kind free bore, by simp, fun o held => ?_, fun after => ?_⟩
  · rw [cancelEntry_overrides, kind, number] at held
    simpa using (List.mem_filter.1 held).2
  · have cancelled := cancelEntry_cancelled kind free after
    exact computedAdvance_settled cancelled.gains cancelled.advance

theorem SettledOnce.next (once : s.SettledOnce n t) (kind : e.kind = .cylinder) (number : e.number = n) (free : t.FreeOfZone e) :
    s.SettledOnce n (t.cancelEntry e) := by
  have same := filter_gone kind number once.gone
  have overrides : (t.cancelEntry e).overrides = t.overrides := (cancelEntry_overrides e t).trans same
  by_cases bore : t.machine.phase = .bore
  · have gains := gains_cylinderFreed same
    have computed : (t.cylinderFreed e).computedAdvance = t.thrust.sectorAdvance :=
      (computedAdvance_of_gains gains rfl).trans (once.computed bore)
    have credited : t.thrust.sectorAdvance ≤ t.thrust.credited := by
      rw [once.settled.2.1]
      exact Nat.le_max_right _ _
    have entry := cancelEntry_cylinder kind free
    have machine : (t.cancelEntry e).machine = t.machine := by
      rw [entry]
      exact recomputeAdvance_machine (s := t.cylinderFreed e) computed credited
    have cancelled := cancelEntry_cancelled kind free (by rw [machine]; exact bore)
    have advance : (t.cancelEntry e).thrust.sectorAdvance = t.thrust.sectorAdvance := cancelled.advance.trans computed
    refine ⟨once.settled.again cancelled.settled once.node (by simp) machine bore advance (cancelled.gains.trans gains),
      by simp [once.node], by rw [overrides]; exact once.gone, fun _ => ?_⟩
    exact computedAdvance_settled cancelled.gains cancelled.advance
  · obtain ⟨machine, thrust⟩ := cancelEntry_of_noBore bore free
    have ports : (t.cancelEntry e).grout.ports = t.grout.ports := by
      rw [cancelEntry_cylinder kind free, recomputeAdvance_of_noBore (s := t.cylinderFreed e) bore]
      rfl
    exact ⟨once.settled.of_after thrust ports machine (by simp) overrides, by simp [once.node], by rw [overrides]; exact once.gone,
      fun after => absurd ((congrArg PhaseUnit.phase machine.symm).trans after) bore⟩

theorem cancelEntries_settled {es : List OverrideEntry} (bore : s.machine.phase = .bore) (free : ∀ e ∈ es, s.FreeOfZone e)
    (item : ∀ e ∈ es, e.isFor .cylinder n = true) (some' : es ≠ []) : s.AdvanceSettled (s.cancelEntries es) := by
  have kept := cancelEntries_invariant (fun done t => (done = [] → t = s) ∧ (done ≠ [] → s.SettledOnce n t)) free
    ⟨fun _ => rfl, fun none' => absurd rfl none'⟩ ?_
  · exact (kept.2 some').settled
  · rintro done e t among free' ⟨start, later⟩
    obtain ⟨kind, number⟩ := (isFor_iff e).1 (item e among)
    refine ⟨fun none' => absurd none' (by simp), fun _ => ?_⟩
    by_cases first : done = []
    · obtain rfl := start first
      exact settledOnce_first kind number free' bore
    · exact (later first).next kind number free'

end State

end Sys2Proof.Machine
end

section
/-! PROOFS. OVERRIDE_CANCEL (O43). -/

-- In one thread: each proof that waits for those before it would keep a thread of its own.
set_option Elab.async false

namespace Sys2Proof.Machine

namespace State

variable {s : State} {station : Station} {addressed : Bool} {kind : ItemKind} {n : Nat}

/-! ### The service's answers (R189) -/

section
variable (configured : s.configured = true)
include configured

theorem serveCancel_of_length {args : List Byte} (some' : args.length ≠ 0) (two : args.length ≠ 2) :
    s.serveOverrideCancel station addressed args = s.answer station addressed .overrideCancel .format := by
  rw [serveOverrideCancel, configuredOnly_of_configured configured]
  split
  · exact absurd rfl some'
  · exact absurd rfl two
  · rfl

theorem serveCancel_of_held (held : ∃ e ∈ s.overrides, s.heldByZone e.kind e.number = true) :
    s.serveOverrideCancel station addressed [] = s.answer station addressed .overrideCancel .busy := by
  rw [serveOverrideCancel, configuredOnly_of_configured configured]
  exact if_pos (List.any_eq_true.2 held)

theorem serveCancel_all (free : ∀ e ∈ s.overrides, s.heldByZone e.kind e.number = false) :
    s.serveOverrideCancel station addressed [] = (s.cancelEntries s.overrides).answer station addressed .overrideCancel .done := by
  rw [serveOverrideCancel, configuredOnly_of_configured configured]
  exact if_neg (by rw [List.any_eq_true]; rintro ⟨e, there, held⟩; simp [free e there] at held)

theorem serveCancel_of_noKind {k m : Byte} (form : itemKindOf k = none) :
    s.serveOverrideCancel station addressed [k, m] = s.answer station addressed .overrideCancel .format := by
  rw [serveOverrideCancel, configuredOnly_of_configured configured]
  simp only [form]

/-- The entries of one item removed. -/
def itemCancelled (s : State) (kind : ItemKind) (n : Nat) : State := s.cancelEntries (s.overrides.filter fun e => e.isFor kind n)

theorem serveCancel_of_item {k m : Byte} (item : itemKindOf k = some kind) :
    s.serveOverrideCancel station addressed [k, m] = if s.numberOutside kind m.toNat then s.answer station addressed .overrideCancel .range
      else if s.heldByZone kind m.toNat then s.answer station addressed .overrideCancel .busy
      else (s.itemCancelled kind m.toNat).answer station addressed .overrideCancel .done := by
  rw [serveOverrideCancel, configuredOnly_of_configured configured]
  simp only [item]
  rfl

end

/-! ### Every entry removed -/

theorem listed_pinned (s : State) (kind : ItemKind) (n : Nat) : (s.overrides.any fun e => e.isFor kind n) = s.pinned kind n :=
  pinned_eq_any.symm

theorem cancelAll_overrides (s : State) : (s.cancelEntries s.overrides).overrides = [] := by
  rw [cancelEntries_overrides, List.filter_eq_nil_iff]
  intro o held
  have own : (s.overrides.any fun e => o.isFor e.kind e.number) = true :=
    List.any_eq_true.2 ⟨o, held, (isFor_iff o).2 ⟨rfl, rfl⟩⟩
  simp [own]

theorem usable_of_noOverrides (none' : s.overrides = []) (empty : s.usableCylinders = []) : s.AllFailed := by
  intro c held
  have out := List.filter_eq_nil_iff.1 empty c held
  by_contra sound
  exact out (by simp [sound, cylPinned, pinned_eq_any, none'])

theorem cancelAll_advance (free : ∀ e ∈ s.overrides, s.FreeOfZone e) (bore : (s.cancelEntries s.overrides).machine.phase = .bore)
    (cylinder : ∃ e ∈ s.overrides, e.kind = .cylinder) : s.AdvanceIsLeast (s.cancelEntries s.overrides)
      ∧ s.thrust.credited ≤ (s.cancelEntries s.overrides).thrust.credited
      ∧ (s.cancelEntries s.overrides).thrust.sectorAdvance ≤ (s.cancelEntries s.overrides).thrust.credited := by
  have tracked := cancelEntries_tracked free bore
  obtain ⟨below, taken, credited⟩ := tracked.least cylinder
  refine ⟨⟨below, taken, fun empty => tracked.kept (tracked.failed.1 ?_)⟩, tracked.credited, credited⟩
  exact usable_of_noOverrides (cancelAll_overrides s) empty

/-! ### One item's entries removed -/

theorem itemCancelled_overrides : (s.itemCancelled kind n).overrides = s.overrides.filter fun o => !o.isFor kind n := by
  unfold itemCancelled
  rw [cancelEntries_overrides]
  refine List.filter_congr fun o held => congrArg _ ?_
  rw [Bool.eq_iff_iff, List.any_eq_true]
  constructor
  · rintro ⟨e, listed, own⟩
    obtain ⟨kinds, numbers⟩ := (isFor_iff e).1 (List.mem_filter.1 listed).2
    rwa [kinds, numbers] at own
  · intro own
    exact ⟨o, List.mem_filter.2 ⟨held, own⟩, (isFor_iff o).2 ⟨rfl, rfl⟩⟩

theorem itemCancelled_override? : (s.itemCancelled kind n).override? kind n = none := by
  rw [override?_eq, itemCancelled_overrides, List.find?_eq_none]
  intro o held
  simpa using (List.mem_filter.1 held).2

theorem itemCancelled_override?_ne {kind' : ItemKind} {n' : Nat} (other : kind' ≠ kind ∨ n' ≠ n) :
    (s.itemCancelled kind n).override? kind' n' = s.override? kind' n' := by
  rw [override?_eq, override?_eq, itemCancelled_overrides, List.find?_filter]
  congr 1
  funext o
  by_cases own : o.isFor kind' n' = true
  · obtain ⟨kinds, numbers⟩ := (isFor_iff o).1 own
    have apart : o.isFor kind n = false := by
      rw [← Bool.not_eq_true, isFor_iff]
      exact fun h => other.elim (· (kinds.symm.trans h.1)) (· (numbers.symm.trans h.2))
    simp [own, apart]
  · simp [own]

theorem itemCancelled_of_none (none' : s.override? kind n = none) : s.itemCancelled kind n = s := by
  have empty : (s.overrides.filter fun e => e.isFor kind n) = [] :=
    List.filter_eq_nil_iff.2 (List.find?_eq_none.1 none')
  unfold itemCancelled
  rw [empty]
  rfl

theorem item_isFor : ∀ e ∈ s.overrides.filter (fun e => e.isFor kind n), e.isFor kind n = true := fun _ held => (List.mem_filter.1 held).2

theorem item_free (free : s.heldByZone kind n = false) : ∀ e ∈ s.overrides.filter (fun e => e.isFor kind n), s.FreeOfZone e := by
  intro e held
  obtain ⟨kinds, numbers⟩ := (isFor_iff e).1 (item_isFor e held)
  unfold FreeOfZone
  rw [kinds, numbers]
  exact free

/-- An item that carries a pin has an entry, and every number listed for its kind is its own. -/
theorem item_listed (pin : s.override? kind n ≠ none) (m : Nat) :
    ((s.overrides.filter fun e => e.isFor kind n).any fun e => e.isFor kind m) = true ↔ m = n := by
  rw [List.any_eq_true]
  constructor
  · rintro ⟨e, held, own⟩
    exact ((isFor_iff e).1 own).2.symm.trans ((isFor_iff e).1 (item_isFor e held)).2
  · rintro rfl
    obtain ⟨e, found⟩ := Option.ne_none_iff_exists'.1 pin
    have own : e.isFor kind m = true := List.find?_some (p := fun e : OverrideEntry => e.isFor kind m) found
    exact ⟨e, List.mem_filter.2 ⟨List.mem_of_find?_eq_some found, own⟩, own⟩

theorem itemCancelled_ports (pin : s.override? .port n ≠ none) (free : s.heldByZone .port n = false) :
    (s.itemCancelled .port n).grout.ports = s.grout.ports.map fun p => if p.number = n then { p with state := .opened, cuts := 0 } else p := by
  refine (cancelEntries_ports (.inr fun e held => ?_) (item_free free)).trans (List.map_congr_left fun p _ => ?_)
  · simp [((isFor_iff e).1 (item_isFor e held)).1]
  · exact if_congr (item_listed pin p.number) rfl rfl

theorem itemCancelled_machine (other : kind ≠ .cylinder) (free : s.heldByZone kind n = false) :
    (s.itemCancelled kind n).machine = s.machine := by
  refine cancelEntries_invariant (fun _ t => t.machine = s.machine) (item_free free) rfl fun done e t held _ same => ?_
  exact (cancelEntry_of_other (by rw [((isFor_iff e).1 (item_isFor e held)).1]; exact other)).1.trans same

theorem itemCancelled_drives (pin : s.override? .drive n ≠ none) (free : s.heldByZone .drive n = false) :
    (s.machine.phase = .bore → s.node.state = .member → (s.itemCancelled .drive n).drive.drives = s.drive.drives.map fun d =>
      if d.number = n ∧ (d.state = .stopped ∨ d.state = .stopping) then { d with state := .starting } else d)
    ∧ (s.machine.phase ≠ .bore ∨ s.node.state ≠ .member →
      ∀ d ∈ (s.itemCancelled .drive n).drive.drives, d.number = n → d.state ≠ .starting ∧ d.state ≠ .running) := by
  have machine := itemCancelled_machine (s := s) (n := n) (kind := .drive) (by decide) free
  refine ⟨fun bore member => ?_, fun out d held number => ?_⟩
  · refine (cancelEntries_drives_of_bore member (item_free free) (by
      rw [← itemCancelled, machine]; exact bore)).trans (List.map_congr_left fun d _ => ?_)
    exact if_congr (and_congr_left' (item_listed pin d.number)) rfl rfl
  · refine cancelEntries_stops (item_free free) ?_ d held ((item_listed pin d.number).2 number)
    rw [← itemCancelled, machine, show (s.itemCancelled .drive n).node = s.node by simp [itemCancelled]]
    exact out

theorem itemCancelled_cylinder (pin : s.override? .cylinder n ≠ none) (free : s.heldByZone .cylinder n = false)
    (bore : s.machine.phase = .bore) : s.AdvanceSettled (s.itemCancelled .cylinder n)
      ∧ ((s.itemCancelled .cylinder n).machine.phase = .bore → ∀ c, s.cylinder? n = some c →
        s.CylinderReturned (s.itemCancelled .cylinder n) n c) := by
  have pin' : s.pinned .cylinder n = true := by
    unfold pinned
    exact Option.isSome_iff_ne_none.2 pin
  refine ⟨cancelEntries_settled bore (item_free free) item_isFor fun empty => ?_, fun stands c found => ?_⟩
  · have own := (item_listed pin n).2 rfl
    rw [empty] at own
    exact nomatch own
  · exact cylinderReturned (item_free free) stands found pin' (fun e held own => List.mem_filter.2 ⟨held, own⟩)
      fun e held => (List.mem_filter.1 held).1

end State

end Sys2Proof.Machine

section
open Sys2Proof Sys2Proof.Machine

/-- Settles O43: OVERRIDE_CANCEL is checked, and returns one item or every item to automatic control. -/
theorem overrideCancelled : Obligations.OverrideCancelled := by
  unfold Obligations.OverrideCancelled
  intro sender target args s heard
  have run : exec (.overrideCancel sender target args) s = .next (s.serveOverrideCancel sender (target != 0) args) :=
    receiveCommand_console heard State.serveOverrideCancel args
  rw [run]
  refine ⟨fun unconfigured => congrArg _ (State.configuredOnly_of_unconfigured unconfigured ..), fun configured =>
    ⟨fun some' two => congrArg _ (State.serveCancel_of_length configured some' two), ?_, ?_, ?_⟩⟩
  · rintro rfl held
    exact congrArg _ (State.serveCancel_of_held configured held)
  · rintro rfl free
    refine ⟨s.cancelEntries s.overrides, congrArg _ (State.serveCancel_all configured free), State.cancelAll_overrides s,
      fun empty => by rw [empty]; rfl, by simp, by simp, fun out => ?_, ?_, fun bore member => ?_, fun out d held pin => ?_,
      fun bore cylinder => ?_⟩
    · obtain ⟨machine, thrust⟩ := State.cancelEntries_of_noBore out free
      refine ⟨machine, thrust, (State.cancelEntries_ports (.inl out) free).trans (List.map_congr_left fun p _ => ?_)⟩
      exact if_congr (by rw [State.listed_pinned]) rfl rfl
    · refine (State.cancelEntries_accounts free).trans (List.map_congr_left fun p _ => ?_)
      exact if_congr (by rw [State.listed_pinned]; rfl) rfl rfl
    · refine (State.cancelEntries_drives_of_bore member free bore).trans (List.map_congr_left fun d _ => ?_)
      exact if_congr (by rw [State.listed_pinned]) rfl rfl
    · refine State.cancelEntries_stops free ?_ d held ((State.listed_pinned s .drive d.number).trans pin)
      rwa [show (s.cancelEntries s.overrides).node = s.node by simp]
    · obtain ⟨least, rises, credited⟩ := State.cancelAll_advance free bore cylinder
      exact ⟨least, rises, credited, fun n c pin found =>
        State.cylinderReturned free bore found pin (fun _ held _ => held) fun _ held => held⟩
  · rintro k n rfl
    refine ⟨fun form => congrArg _ (State.serveCancel_of_noKind configured form), fun kind item => ?_⟩
    rw [State.serveCancel_of_item configured item]
    refine ⟨fun outside => by rw [if_pos (State.numberOutside_iff.2 outside)], fun some' fits held => ?_, fun some' fits free =>
      ⟨s.itemCancelled kind n.toNat, ?_, State.itemCancelled_override?, fun kind' n' other => State.itemCancelled_override?_ne other,
        State.itemCancelled_of_none, by simp [State.itemCancelled], by simp [State.itemCancelled], ?_, ?_, ?_, ?_, ?_⟩⟩
    · have inside : ¬s.numberOutside kind n.toNat = true :=
        fun outside => (State.numberOutside_iff.1 outside).elim some' (Nat.not_lt.2 fits)
      rw [if_neg inside, if_pos held]
    · have inside : ¬s.numberOutside kind n.toNat = true :=
        fun outside => (State.numberOutside_iff.1 outside).elim some' (Nat.not_lt.2 fits)
      rw [if_neg inside, if_neg (by simp [free])]
    · rintro rfl pin
      exact State.itemCancelled_ports pin free
    · rintro rfl pin bore member
      exact (State.itemCancelled_drives pin free).1 bore member
    · rintro rfl pin out
      exact (State.itemCancelled_drives pin free).2 out
    · rintro rfl out
      obtain ⟨machine, thrust⟩ := State.cancelEntries_of_noBore out (State.item_free free)
      exact ⟨thrust, machine⟩
    · rintro rfl pin bore
      exact State.itemCancelled_cylinder pin free bore

end
end

section
/-! PROOFS. The settling of the advance after a cylinder report: the zone request in flight, the queue, the notices, the shortfall
(R58, R66 to R72, R158, R159). -/

-- In one thread: each proof that waits for those before it would keep a thread of its own.
set_option Elab.async false

namespace Sys2Proof.Machine

namespace State

variable {s t u : State} {k l : Nat}

/-! ### The zone request and the queue -/

/-- HOLD, and no zone request in flight. -/
def HeldFree (s : State) : Prop := s.inHold = true ∧ s.thrust.zone = none

/-- From BORE either phase unit and zone request stand, with at most `k` frames more, or the machine is held and the request
gone; the notices stay. -/
structure Tests (k : Nat) (s t : State) : Prop where
  bore : s.machine.phase = .bore → (t.machine = s.machine ∧ t.thrust.zone = s.thrust.zone
    ∧ t.link.transmitting = s.link.transmitting ∧ t.link.held ≤ s.link.held + k) ∨ t.HeldFree
  held : s.HeldFree → t.HeldFree
  notices : NoticesKept s t

namespace Tests

theorem trans (h : Tests k s t) (g : Tests l t u) : Tests (k + l) s u where
  bore := fun bore => by
    rcases h.bore bore with ⟨machine, zone, runs, few⟩ | free
    · rcases g.bore (by rw [machine]; exact bore) with ⟨machine', zone', runs', few'⟩ | free
      · exact .inl ⟨machine'.trans machine, zone'.trans zone, runs'.trans runs, by omega⟩
      · exact .inr free
    · exact .inr (g.held free)
  held := fun free => g.held (h.held free)
  notices := h.notices.trans g.notices

theorem of_same (machine : t.machine = s.machine) (zone : t.thrust.zone = s.thrust.zone) (link : t.link = s.link)
    (console : t.console.notices = s.console.notices) : Tests 0 s t where
  bore := fun _ => .inl ⟨machine, zone, by rw [link], by rw [link]; exact Nat.le_refl _⟩
  held := fun ⟨hold, none'⟩ => ⟨(inHold_congr machine).trans hold, zone.trans none'⟩
  notices := NoticesKept.of console

theorem refl (s : State) : Tests 0 s s := of_same rfl rfl rfl rfl

theorem imposeHold (cause : HoldCause) (s : State) : Tests 0 s (s.imposeHold cause) where
  bore := fun bore => by
    refine .inr ⟨inHold_iff.2 ⟨_, (imposeHold_machine_of_bore cause bore).2.1⟩, ?_⟩
    rw [imposeHold_thrust, bore]
    rfl
  held := fun ⟨hold, none'⟩ => by
    refine ⟨imposeHold_inHold cause s false, ?_⟩
    rw [imposeHold_thrust_of_hold cause hold]
    exact none'
  notices := NoticesKept_impose _ _ _

theorem imposeHold_if (p : Prop) [Decidable p] (cause : HoldCause) (s : State) : Tests 0 s (if p then s.imposeHold cause else s) := by
  split
  · exact imposeHold cause s
  · exact refl s

theorem setPorts (ports : List Port) (s : State) : Tests 0 s (s.setPorts ports) := of_same rfl rfl rfl rfl

theorem setMuck (m : MuckUnit) (s : State) : Tests 0 s (s.setMuck m) := of_same rfl rfl rfl rfl

/-- A frame queued holds at most one place more. -/
theorem queueFrame_held (b : Body) (other : isHold b = false) (s : State) : (s.queueFrame b).link.held ≤ s.link.held + 1 := by
  unfold queueFrame queueTagged
  rw [other]
  simp only [Bool.false_eq_true, if_false]
  unfold admitFrame
  split
  · simp [LinkUnit.held, stepAge]
  split
  · simp [LinkUnit.held, stepAge]
  · dsimp only [LinkUnit.held, setQueue, setLink, stepAge]
    rw [length_insertTx]
    omega

theorem queueFrame (b : Body) (other : isHold b = false) (s : State) : Tests 1 s (s.queueFrame b) where
  bore := fun _ => .inl ⟨by simp, by simp, by simp, queueFrame_held b other s⟩
  held := fun ⟨hold, none'⟩ => ⟨(inHold_congr (by simp)).trans hold, by simpa using none'⟩
  notices := NoticesKept_queue _ _ _ _

theorem mono (h : Tests k s t) (le : k ≤ l) : Tests l s t where
  bore := fun bore => (h.bore bore).imp_left fun ⟨machine, zone, runs, few⟩ => ⟨machine, zone, runs, by omega⟩
  held := h.held
  notices := h.notices

theorem testGrout (s : State) : Tests 1 s s.testGrout := by
  have first : ∀ g : GroutUnit, ∀ th : List (Nat × RestraintReason),
      Tests 0 s ((s.setGrout g).setThrust { s.thrust with restraints := th }) := fun _ _ => of_same rfl rfl rfl rfl
  unfold State.testGrout
  split
  · exact (refl s).mono (by decide)
  split
  · exact (first _ _).trans (queueFrame _ rfl _)
  split
  · exact (first _ _).trans (queueFrame _ rfl _)
  · exact (refl s).mono (by decide)

theorem testDose (s : State) : Tests 0 s s.testDose := of_same (by simp) (by simp) (by simp) (by simp)

theorem testSteer (s : State) : Tests 0 s s.testSteer := of_same (by simp) (by simp) (by simp) (by simp)

theorem testStrokeReached (s : State) : Tests 0 s s.testStrokeReached := of_same (by simp) (by simp) (by simp) (by simp)

theorem groutIncrement (d : Nat) (s : State) : Tests 1 s (s.groutIncrement d) := by
  unfold State.groutIncrement
  dsimp only
  exact (((setPorts _ s).trans (testGrout _)).trans (imposeHold_if _ _ _)).trans (testDose _)

theorem creditAdvance (s : State) : Tests 1 s s.creditAdvance := by
  unfold State.creditAdvance
  split
  · have set' : Tests 0 s (s.setThrust { s.thrust with credited := s.thrust.sectorAdvance }) := of_same rfl rfl rfl rfl
    exact set'.trans (groutIncrement _ _)
  · exact (refl s).mono (by decide)

theorem updateMachineAdvance (s : State) : Tests 0 s s.updateMachineAdvance := by
  unfold State.updateMachineAdvance State.evaluateOverdig
  split
  · refine (setMuck { s.muck with machineAdvance := s.computedMachineAdvance } s).trans (k := 0) (l := 0) ?_
    split
    · exact (setMuck _ _).trans (imposeHold _ _)
    split
    · exact setMuck _ _
    · exact refl _
  · exact refl s

theorem recomputeAdvance (s : State) : Tests 1 s s.recomputeAdvance := by
  unfold State.recomputeAdvance
  split
  · have set' : Tests 0 s (s.setThrust { s.thrust with sectorAdvance := s.computedAdvance }) := of_same rfl rfl rfl rfl
    have settled := ((set'.trans (creditAdvance _)).trans (testSteer _)).trans (testStrokeReached _)
    dsimp only
    split
    · exact settled
    · exact (settled.trans (imposeHold_if _ _ _)).trans (updateMachineAdvance _)
  · exact (refl s).mono (by decide)

end Tests

/-! ### A rise of the advance: the grout owed, the GROUT restraint, the SHORTFALL hold (R67, R143, R158, R159) -/

theorem imposeHold_fromBore_out (cause : HoldCause) (bore : s.machine.phase = .bore) : (s.imposeHold cause).machine.phase ≠ .bore := by
  rw [(imposeHold_machine_of_bore cause bore).2.1]
  exact (nomatch ·)

/-- The ports' debt and the GROUT restraint as a rise by `d` leaves them. -/
def owedTested (s : State) (d : Nat) : State :=
  (s.setPorts (s.grout.ports.map fun p => { p with owed := min owedCap (p.owed + d * s.portFactor p.number) })).testGrout

theorem groutIncrement_eq (d : Nat) (s : State) : s.groutIncrement d = (if s.cfg.shortfallHold ≤ (s.owedTested d).shortfallL
    ∧ s.inHold = false then (s.owedTested d).imposeHold .shortfall else s.owedTested d).testDose := by
  have cfg' : (s.owedTested d).cfg = s.cfg := by simp [State.cfg, owedTested]
  have hold' : (s.owedTested d).inHold = s.inHold := inHold_congr (by simp [owedTested])
  unfold groutIncrement
  dsimp only
  rw [← owedTested, cfg', hold']
  simp only [Bool.not_eq_true']

/-- The GROUT restraint after its test (R158). -/
theorem testGrout_restrained (configured : s.configured = true) :
    s.testGrout.grout.restrained = (if s.grout.restrained then decide (s.cfg.shortfallOff < s.shortfallL)
      else decide (s.cfg.shortfallOn ≤ s.shortfallL))
    ∧ (s.grout.restrained = false → s.cfg.shortfallOn ≤ s.shortfallL → (s.own, RestraintReason.grout) ∈ s.testGrout.thrust.restraints)
    ∧ (s.grout.restrained = true → s.shortfallL ≤ s.cfg.shortfallOff →
        (s.own, RestraintReason.grout) ∉ s.testGrout.thrust.restraints) := by
  unfold testGrout
  rw [if_neg (by simp [configured])]
  cases restrained : s.grout.restrained
  · by_cases on : s.cfg.shortfallOn ≤ s.shortfallL
    · rw [if_pos (by simp [on])]
      refine ⟨by simp [on], fun _ _ => ?_, (nomatch ·)⟩
      simp only [restrain_thrust]
      exact (mem_insertRestraint _ _ _).2 (.inl rfl)
    · simp [on, restrained]
  · by_cases off : s.shortfallL ≤ s.cfg.shortfallOff
    · rw [if_neg (by simp), if_pos (by simp [off])]
      refine ⟨by simp [Nat.not_lt.2 off], (nomatch ·), fun _ _ => ?_⟩
      simp [release_thrust, own]
    · simp [off, restrained, Nat.lt_of_not_le off]

end State
end Sys2Proof.Machine
end

section
/-! PROOFS. What the settling of the advance leaves of grout, stroke reached and phase, by the tests it makes in turn (log 12). -/

-- In one thread: each proof that waits for those before it would keep a thread of its own.
set_option Elab.async false

namespace Sys2Proof.Machine

namespace State

variable {s t u : State}

/-! ### The tests in turn -/

/-- The advance computed and credited. -/
def advanceCredited (s : State) : State := (s.setThrust { s.thrust with sectorAdvance := s.computedAdvance }).creditAdvance

/-- Steer pause and stroke reached tested. -/
def strokeTested (s : State) : State := s.advanceCredited.testSteer.testStrokeReached

theorem recomputeAdvance_eq (bore : s.machine.phase = .bore) : s.recomputeAdvance =
    if s.computedAdvance = s.thrust.sectorAdvance then s.strokeTested else s.strokeTested.testStrokeEnd.updateMachineAdvance := if_pos bore

theorem advanceCredited_of_low (low : s.computedAdvance ≤ s.thrust.credited) :
    s.advanceCredited = s.setThrust { s.thrust with sectorAdvance := s.computedAdvance } := if_neg (Nat.not_lt.2 low)

/-- The state whose ports take the rise. -/
def rising (s : State) : State := s.setThrust { s.thrust with sectorAdvance := s.computedAdvance, credited := s.computedAdvance }

/-- The ports' debt and the GROUT restraint after the rise. -/
def risen (s : State) : State := s.rising.owedTested (s.computedAdvance - s.thrust.credited)

theorem advanceCredited_of_rise (rises : s.thrust.credited < s.computedAdvance) : s.advanceCredited =
    (if s.cfg.shortfallHold ≤ s.risen.shortfallL ∧ s.inHold = false then s.risen.imposeHold .shortfall else s.risen).testDose :=
  (if_pos rises).trans (groutIncrement_eq _ s.rising)

theorem shortfallL_congr (ports : t.grout.ports = s.grout.ports) : t.shortfallL = s.shortfallL := by
  unfold shortfallL shortfallMl
  rw [ports]

theorem recomputeAdvance_risen (bore : s.machine.phase = .bore) (rises : s.thrust.credited < s.computedAdvance) :
    s.recomputeAdvance.grout.ports = s.risen.grout.ports ∧ s.recomputeAdvance.grout.restrained = s.risen.grout.restrained
    ∧ s.recomputeAdvance.thrust.restraints = s.risen.thrust.restraints := by
  have credited : s.advanceCredited.grout.ports = s.risen.grout.ports ∧ s.advanceCredited.grout.restrained = s.risen.grout.restrained
      ∧ s.advanceCredited.thrust.restraints = s.risen.thrust.restraints := by
    rw [advanceCredited_of_rise rises]
    split <;> simp
  obtain ⟨ports, restrained, restraints⟩ := credited
  rw [recomputeAdvance_eq bore]
  split <;> simp [strokeTested, ports, restrained, restraints]

/-- The GROUT restraint after a rise, by the shortfall that then stands (R158). -/
theorem recomputeAdvance_restrained (bore : s.machine.phase = .bore) (rises : s.thrust.credited < s.computedAdvance)
    (configured : s.configured = true) :
    s.recomputeAdvance.grout.restrained = (if s.grout.restrained then decide (s.cfg.shortfallOff < s.recomputeAdvance.shortfallL)
      else decide (s.cfg.shortfallOn ≤ s.recomputeAdvance.shortfallL))
    ∧ (s.grout.restrained = false → s.cfg.shortfallOn ≤ s.recomputeAdvance.shortfallL →
        (s.own, RestraintReason.grout) ∈ s.recomputeAdvance.thrust.restraints)
    ∧ (s.grout.restrained = true → s.recomputeAdvance.shortfallL ≤ s.cfg.shortfallOff →
        (s.own, RestraintReason.grout) ∉ s.recomputeAdvance.thrust.restraints) := by
  obtain ⟨ports, restrained, restraints⟩ := recomputeAdvance_risen bore rises
  obtain ⟨v, hv, tested⟩ : ∃ v : State, v = s.rising.setPorts (s.rising.grout.ports.map fun p =>
      { p with owed := min owedCap (p.owed + (s.computedAdvance - s.thrust.credited) * s.rising.portFactor p.number) })
      ∧ s.risen = v.testGrout := ⟨_, rfl, rfl⟩
  have shortfall : s.recomputeAdvance.shortfallL = v.shortfallL := shortfallL_congr (by rw [ports, tested]; simp)
  rw [restrained, restraints, shortfall, tested]
  have flag : v.grout.restrained = s.grout.restrained := by rw [hv]; rfl
  have limits : v.cfg = s.cfg := by rw [hv]; rfl
  have own' : v.own = s.own := by rw [hv]; rfl
  have test := testGrout_restrained (s := v) (by rw [hv]; exact configured)
  rwa [flag, limits, own'] at test

theorem testStrokeEnd_idle (out : s.machine.phase ≠ .bore) : s.testStrokeEnd = s := if_neg fun h => out h.1

/-- A shortfall at its hold threshold holds the machine before stroke reached is tested (R159, log 12). -/
theorem recomputeAdvance_shortfall (bore : s.machine.phase = .bore) (rises : s.thrust.credited < s.computedAdvance)
    (short : s.cfg.shortfallHold ≤ s.recomputeAdvance.shortfallL) :
    s.recomputeAdvance.inHold = true ∧ s.recomputeAdvance.thrust.strokeReached = s.thrust.strokeReached := by
  have ports := (recomputeAdvance_risen bore rises).1
  rw [shortfallL_congr ports] at short
  have imposed : s.advanceCredited = (s.risen.imposeHold .shortfall).testDose := by
    rw [advanceCredited_of_rise rises, if_pos ⟨short, by simp [inHold, bore]⟩]
  have hold : s.advanceCredited.inHold = true := by
    rw [imposed]
    exact (inHold_congr (by simp)).trans (imposeHold_inHold .shortfall s.risen false)
  have out : s.advanceCredited.machine.phase ≠ .bore := fun phase => by simp [inHold, phase] at hold
  have reached : s.advanceCredited.thrust.strokeReached = s.thrust.strokeReached := by
    rw [imposed]
    simp [risen, owedTested, rising]
  have tested : s.strokeTested = s.advanceCredited := by
    unfold strokeTested
    rw [testSteer_idle _ out, testStrokeReached_idle _ out]
  rw [recomputeAdvance_eq bore, tested, testStrokeEnd_idle out]
  split
  · exact ⟨hold, reached⟩
  · exact ⟨(HoldKept.updateMachineAdvance hold).hold, by rw [updateMachineAdvance_thrust_of_hold hold]; exact reached⟩

/-- The advance settled without a SHORTFALL hold: the credit leaves the phase unit. -/
theorem advanceCredited_machine (bore : s.machine.phase = .bore)
    (few : s.thrust.credited < s.computedAdvance → s.recomputeAdvance.shortfallL < s.cfg.shortfallHold) :
    s.advanceCredited.machine = s.machine ∧ s.advanceCredited.thrust.strokeReached = s.thrust.strokeReached
    ∧ s.advanceCredited.thrust.sectorAdvance = s.computedAdvance := by
  rcases Nat.lt_or_ge s.thrust.credited s.computedAdvance with rises | low
  · have ports := (recomputeAdvance_risen bore rises).1
    have below := few rises
    rw [shortfallL_congr ports] at below
    rw [advanceCredited_of_rise rises, if_neg fun h => Nat.not_le.2 below h.1]
    simp [risen, owedTested, rising]
  · rw [advanceCredited_of_low low]
    exact ⟨rfl, rfl, rfl⟩

theorem updateMachineAdvance_inHold (hold : s.inHold = true) : s.updateMachineAdvance.inHold = true :=
  (HoldKept.updateMachineAdvance hold).hold

theorem recomputeAdvance_stroke (bore : s.machine.phase = .bore)
    (few : s.thrust.credited < s.computedAdvance → s.recomputeAdvance.shortfallL < s.cfg.shortfallHold) :
    s.recomputeAdvance.thrust.strokeReached = (s.thrust.strokeReached || decide (s.cfg.strokeTarget ≤ s.computedAdvance))
    ∧ (s.computedAdvance ≠ s.thrust.sectorAdvance → s.cfg.strokeTarget ≤ s.computedAdvance →
        (∀ b ∈ s.peerBeacons, s.cfg.strokeTarget ≤ b.advance.toNat) → s.recomputeAdvance.inHold = true)
    ∧ ((s.computedAdvance = s.thrust.sectorAdvance ∨ s.computedAdvance < s.cfg.strokeTarget
        ∨ ∃ b ∈ s.peerBeacons, b.advance.toNat < s.cfg.strokeTarget) →
        s.ownsMuck = false → s.recomputeAdvance.machine = s.machine) := by
  obtain ⟨machine, reached, advance⟩ := advanceCredited_machine bore few
  have node : s.advanceCredited.node = s.node := by simp [advanceCredited]
  have limits : s.advanceCredited.cfg = s.cfg := by simp only [cfg, node]
  have machine' : s.strokeTested.machine = s.machine := by simp [strokeTested, machine]
  have advance' : s.strokeTested.thrust.sectorAdvance = s.computedAdvance := by simp [strokeTested, advance]
  have node' : s.strokeTested.node = s.node := by simp [strokeTested, node]
  have limits' : s.strokeTested.cfg = s.cfg := by simp only [cfg, node']
  have peers : s.strokeTested.peerBeacons = s.peerBeacons := by
    have own' : s.strokeTested.own = s.own := congrArg NodeRecord.number node'
    unfold peerBeacons
    rw [machine', own']
  have ends : s.strokeTested.testStrokeEnd = if s.cfg.strokeTarget ≤ s.computedAdvance
      ∧ ∀ b ∈ s.peerBeacons, s.cfg.strokeTarget ≤ b.advance.toNat then s.strokeTested.imposeHold .strokeEnd else s.strokeTested := by
    unfold testStrokeEnd
    rw [machine', limits', advance', peers]
    refine if_congr ?_ rfl rfl
    simp [bore]
  refine ⟨?_, fun moved atTarget all => ?_, fun short none' => ?_⟩
  · have tested : s.strokeTested.thrust.strokeReached = (s.thrust.strokeReached || decide (s.cfg.strokeTarget ≤ s.computedAdvance)) := by
      have effect := (testStrokeReached_effect s.advanceCredited.testSteer (by simp [machine, bore])).1
      have steered : s.advanceCredited.testSteer.thrust.strokeReached = s.thrust.strokeReached
          ∧ s.advanceCredited.testSteer.thrust.sectorAdvance = s.computedAdvance := by simp [reached, advance]
      have steered' : s.advanceCredited.testSteer.cfg = s.cfg := by simp [cfg, node]
      rw [steered.1, steered.2, steered'] at effect
      exact effect
    rw [recomputeAdvance_eq bore]
    split
    · exact tested
    · rw [ends]
      split <;> simp [tested]
  · rw [recomputeAdvance_eq bore, if_neg moved, ends, if_pos ⟨atTarget, all⟩]
    exact updateMachineAdvance_inHold (imposeHold_inHold .strokeEnd _ false)
  · rw [recomputeAdvance_eq bore]
    by_cases same : s.computedAdvance = s.thrust.sectorAdvance
    · rw [if_pos same]
      exact machine'
    · have open' : ¬(s.cfg.strokeTarget ≤ s.computedAdvance ∧ ∀ b ∈ s.peerBeacons, s.cfg.strokeTarget ≤ b.advance.toNat) := by
        rintro ⟨atTarget, all⟩
        rcases short with same' | low | ⟨b, held, low⟩
        · exact same same'
        · exact Nat.not_le.2 low atTarget
        · exact Nat.not_le.2 low (all b held)
      have other : s.strokeTested.ownsMuck = false :=
        (ownsMuck_of_config (congrArg NodeRecord.config node') (congrArg NodeRecord.number node')).trans none'
      have idle : s.strokeTested.updateMachineAdvance = s.strokeTested := if_neg (by simp [other])
      rw [if_neg same, ends, if_neg open', idle]
      exact machine'

/-- An advance at or below the credit owes no grout. -/
theorem recomputeAdvance_grout (bore : s.machine.phase = .bore) (low : s.computedAdvance ≤ s.thrust.credited) :
    s.recomputeAdvance.grout = s.grout := by
  have tested : s.strokeTested.grout = s.grout := by
    unfold strokeTested
    rw [advanceCredited_of_low low]
    simp
  have ended : s.strokeTested.testStrokeEnd.grout = s.grout := by
    unfold testStrokeEnd
    split
    · exact (imposeHold_grout_of_soft .strokeEnd false rfl).trans tested
    · exact tested
  have machineAdvance : ∀ v : State, v.updateMachineAdvance.grout = v.grout := by
    intro v
    unfold updateMachineAdvance evaluateOverdig
    split
    · split
      · exact imposeHold_grout_of_soft .overdig false rfl
      split <;> rfl
    · rfl
  rw [recomputeAdvance_eq bore]
  split
  · exact tested
  · exact (machineAdvance _).trans ended

end State

end Sys2Proof.Machine
end

section
/-! PROOFS. CYLINDER_REPORT: the record, its moves, and the zone request in flight (O23). -/

-- In one thread: each proof that waits for those before it would keep a thread of its own.
set_option Elab.async false

namespace Sys2Proof.Machine

namespace State

variable {s t v : State} {n : Nat} {r : CylReport} {c : Cylinder}

/-! ### The report recorded (R58 steps 1, 2) -/

def reportedCylinder (r : CylReport) (c : Cylinder) : Cylinder := { c with stroke := r.stroke, pressure := r.pressure, fault := r.fault }

/-- The report in the channel's record, and in the cylinder's. -/
def cylReported (s : State) (n : Nat) (r : CylReport) : State := (s.keepCylReport n r).updateCylinder n (reportedCylinder r)

/-- Steps 3 and 4 made. -/
def cylMoved (s : State) (n : Nat) (r : CylReport) : State :=
  (s.cylReported n r).updateCylinder n ((s.cylReported n r).reportMoves r.retracted)

/-- Step 6: the request in flight tested, if the cylinder is in its zone. -/
def zoneTested (n : Nat) (s : State) : State := if s.inFlightZoneHas n then s.testZone else s

/-- The state at step 6. -/
def reportTaken (s : State) (n : Nat) (r : CylReport) (old : CylState) : State :=
  if r.fault then (s.cylReported n r).cylinderFault n old else (s.cylMoved n r).recomputeAdvance

theorem keepCylReport_eq (some' : 1 ≤ n) : s.keepCylReport n r = s.setChannels
    { s.channels with cylinders := s.channels.cylinders.set (n - 1) r } := if_neg (Nat.ne_of_gt some')

theorem keepCylReport_cylinder? (n m : Nat) (r : CylReport) (s : State) : (s.keepCylReport n r).cylinder? m = s.cylinder? m := by
  simp [cylinder?]

theorem takeCylReport_of_none (none' : s.cylinder? n = none) : s.takeCylReport n r = s.keepCylReport n r := by
  have none'' : (s.keepCylReport n r).cylinder? n = none := (keepCylReport_cylinder? n n r s).trans none'
  unfold takeCylReport
  dsimp only
  rw [none'']

theorem takeCylReport_of_some (found : s.cylinder? n = some c) :
    s.takeCylReport n r = (s.reportTaken n r c.state).zoneTested n := by
  have found' : (s.keepCylReport n r).cylinder? n = some c := (keepCylReport_cylinder? n n r s).trans found
  unfold takeCylReport
  dsimp only
  rw [found']
  rfl

/-- What the record alone leaves. -/
theorem cylReported_frame (s : State) (n : Nat) (r : CylReport) : (s.cylReported n r).machine = s.machine
    ∧ (s.cylReported n r).node = s.node ∧ (s.cylReported n r).overrides = s.overrides ∧ (s.cylReported n r).grout = s.grout
    ∧ (s.cylReported n r).link = s.link ∧ (s.cylReported n r).console = s.console
    ∧ (s.cylReported n r).thrust.cylinders = s.thrust.cylinders.map (fun c => if c.number = n then reportedCylinder r c else c)
    ∧ (s.cylReported n r).thrust.zone = s.thrust.zone ∧ (s.cylReported n r).thrust.sectorAdvance = s.thrust.sectorAdvance
    ∧ (s.cylReported n r).thrust.credited = s.thrust.credited ∧ (s.cylReported n r).thrust.strokeReached = s.thrust.strokeReached
    ∧ (s.cylReported n r).thrust.steerPause = s.thrust.steerPause := by
  simp [cylReported]

theorem cylReported_cylinder? (found : s.cylinder? n = some c) : (s.cylReported n r).cylinder? n = some (reportedCylinder r c) := by
  unfold cylReported
  rw [Sys2Proof.Machine.updateCylinder_eq _ (reportedCylinder r) (fun _ => rfl), keepCylReport_cylinder?, found]
  rfl

/-! ### The moves of one report (R58 steps 3, 4; R60) -/

theorem stopMoves_of_other {retracted : Bool} (other : ¬(c.state = .retracting ∧ retracted = true)) : s.stopMoves retracted c = c := if_neg other

theorem targetMoves_of_other (other : ¬(c.state = .reseating ∧ c.reseatTarget.getD 0 ≤ c.pressure.toNat)) : s.targetMoves c = c := if_neg other

/-- A cylinder at its target. -/
def atTarget (s : State) (c : Cylinder) : Cylinder := { c with
  reseatTarget := none
  state := if s.machine.phase = .bore ∧ !s.cylPinned c ∧ s.thrust.strokeReached = false then .advancing else .bearing }

theorem reportMoves_of_neither {retracted : Bool} (stop : ¬(c.state = .retracting ∧ retracted = true))
    (target : ¬(c.state = .reseating ∧ c.reseatTarget.getD 0 ≤ c.pressure.toNat)) : s.reportMoves retracted c = c := by
  unfold reportMoves
  rw [stopMoves_of_other stop, targetMoves_of_other target]

theorem reportMoves_of_target {retracted : Bool} (reseating : c.state = .reseating) (target : c.reseatTarget.getD 0 ≤ c.pressure.toNat) :
    s.reportMoves retracted c = s.atTarget c := by
  unfold reportMoves
  rw [stopMoves_of_other (by simp [reseating])]
  exact if_pos ⟨reseating, target⟩

theorem cylPinned_state (s : State) (c d : Cylinder) (number : d.number = c.number) : s.cylPinned d = s.cylPinned c :=
  cylPinned_congr rfl number

/-- At the stop, where no reseating follows. -/
theorem reportMoves_of_stop (retracting : c.state = .retracting) (stays : s.machine.phase ≠ .bore ∨ s.cylPinned c = true) :
    s.reportMoves true c = { c with state := .clear } := by
  have stays' : ¬(s.machine.phase = .bore ∧ (!s.cylPinned { c with state := .clear }) = true) := by
    rw [cylPinned_state s c { c with state := .clear } rfl]
    rcases stays with out | pin
    · exact fun h => out h.1
    · simp [pin]
  have stop : s.stopMoves true c = { c with state := .clear } := by
    unfold stopMoves reseatClear
    rw [if_pos ⟨retracting, rfl⟩]
    exact if_neg fun h => stays' h.2
  unfold reportMoves
  rw [stop]
  exact targetMoves_of_other fun h => nomatch h.1

/-- At the stop in BORE without a pin: reseated, and at its target at once where the pressure reaches it. -/
theorem reportMoves_of_reseat (retracting : c.state = .retracting) (bore : s.machine.phase = .bore) (free : s.cylPinned c = false) :
    s.reportMoves true c = if s.cfg.reseatPressure ≤ c.pressure.toNat
      then s.atTarget { c with state := .reseating, reseatTarget := some s.cfg.reseatPressure }
      else { c with state := .reseating, reseatTarget := some s.cfg.reseatPressure } := by
  have stop : s.stopMoves true c = { c with state := .reseating, reseatTarget := some s.cfg.reseatPressure } := by
    unfold stopMoves reseatClear
    rw [if_pos ⟨retracting, rfl⟩, if_pos ⟨rfl, bore, by rw [cylPinned_state s c { c with state := .clear } rfl, free]; rfl⟩]
  unfold reportMoves
  rw [stop]
  by_cases reaches : s.cfg.reseatPressure ≤ c.pressure.toNat
  · rw [if_pos reaches]
    exact if_pos ⟨rfl, reaches⟩
  · rw [if_neg reaches]
    exact if_neg fun h => reaches h.2

theorem atTarget_kept (s : State) (c : Cylinder) : (s.atTarget c).number = c.number ∧ (s.atTarget c).stroke = c.stroke
    ∧ (s.atTarget c).pressure = c.pressure ∧ (s.atTarget c).fault = c.fault ∧ (s.atTarget c).origin = c.origin
    ∧ (s.atTarget c).state ≠ .failed := by
  refine ⟨rfl, rfl, rfl, rfl, rfl, ?_⟩
  unfold atTarget
  dsimp only
  split <;> exact (nomatch ·)

theorem reportMoves_kept (s : State) (retracted : Bool) (c : Cylinder) : (s.reportMoves retracted c).number = c.number
    ∧ (s.reportMoves retracted c).stroke = c.stroke ∧ (s.reportMoves retracted c).pressure = c.pressure
    ∧ (s.reportMoves retracted c).fault = c.fault ∧ (s.reportMoves retracted c).origin = c.origin
    ∧ ((s.reportMoves retracted c).state = .failed ↔ c.state = .failed) := by
  have stop : (s.stopMoves retracted c).number = c.number ∧ (s.stopMoves retracted c).stroke = c.stroke
      ∧ (s.stopMoves retracted c).pressure = c.pressure ∧ (s.stopMoves retracted c).fault = c.fault
      ∧ (s.stopMoves retracted c).origin = c.origin ∧ ((s.stopMoves retracted c).state = .failed ↔ c.state = .failed) := by
    unfold stopMoves
    split
    · rename_i moves
      unfold reseatClear
      split <;> simp [moves.1]
    · exact ⟨rfl, rfl, rfl, rfl, rfl, Iff.rfl⟩
  have target : ∀ d : Cylinder, (s.targetMoves d).number = d.number ∧ (s.targetMoves d).stroke = d.stroke
      ∧ (s.targetMoves d).pressure = d.pressure ∧ (s.targetMoves d).fault = d.fault
      ∧ (s.targetMoves d).origin = d.origin ∧ ((s.targetMoves d).state = .failed ↔ d.state = .failed) := by
    intro d
    by_cases moves : d.state = .reseating ∧ d.reseatTarget.getD 0 ≤ d.pressure.toNat
    · have at' : s.targetMoves d = s.atTarget d := if_pos moves
      obtain ⟨number, stroke, pressure, fault, origin, sound⟩ := atTarget_kept s d
      rw [at']
      exact ⟨number, stroke, pressure, fault, origin, by simp [sound, moves.1]⟩
    · rw [targetMoves_of_other moves]
      exact ⟨rfl, rfl, rfl, rfl, rfl, Iff.rfl⟩
  obtain ⟨number, stroke, pressure, fault, origin, failed⟩ := stop
  obtain ⟨number', stroke', pressure', fault', origin', failed'⟩ := target (s.stopMoves retracted c)
  exact ⟨number'.trans number, stroke'.trans stroke, pressure'.trans pressure, fault'.trans fault, origin'.trans origin, failed'.trans failed⟩

/-! ### The zone request in flight at the end of a report (R58 step 6, R61, R76, R188) -/

/-- What a report has left of the request and the queue before the request is tested. -/
structure BeforeZone (s v : State) : Prop where
  node : v.node = s.node
  overrides : v.overrides = s.overrides
  zone : v.thrust.zone = s.thrust.zone ∨ v.thrust.zone = none
  moved : v.machine.phase ≠ s.machine.phase → v.thrust.zone = none
  still : v.machine.phase = s.machine.phase → v.thrust.zone = s.thrust.zone ∧ v.link.transmitting = s.link.transmitting
    ∧ v.link.held ≤ s.link.held + (if s.machine.phase = .bore then 1 else 0)

theorem testZone_kept (v : State) : v.testZone.machine = v.machine ∧ v.testZone.thrust.cylinders = v.thrust.cylinders := by simp

theorem zoneTested_frame (n : Nat) (v : State) : (v.zoneTested n).machine = v.machine ∧ (v.zoneTested n).node = v.node
    ∧ (v.zoneTested n).overrides = v.overrides ∧ (v.zoneTested n).channels = v.channels ∧ (v.zoneTested n).grout = v.grout
    ∧ (v.zoneTested n).thrust.cylinders = v.thrust.cylinders ∧ (v.zoneTested n).thrust.sectorAdvance = v.thrust.sectorAdvance
    ∧ (v.zoneTested n).thrust.credited = v.thrust.credited ∧ (v.zoneTested n).thrust.strokeReached = v.thrust.strokeReached
    ∧ (v.zoneTested n).thrust.steerPause = v.thrust.steerPause ∧ (v.zoneTested n).thrust.restraints = v.thrust.restraints := by
  unfold zoneTested
  split <;> simp

theorem noticesKept_testZone (v : State) : NoticesKept v v.testZone := by
  unfold testZone
  split
  · exact NoticesKept.refl
  dsimp only
  split
  · exact (NoticesKept_queue 0 _ .plain _).pre rfl
  split
  · unfold queueAnswer
    split
    · exact (NoticesKept_queue 0 _ .plain _).pre rfl
    · exact (NoticesKept_queue 0 _ .plain _).pre rfl
  · exact NoticesKept.refl

theorem noticesKept_zoneTested (n : Nat) (v : State) : NoticesKept v (v.zoneTested n) := by
  unfold zoneTested
  split
  · exact noticesKept_testZone v
  · exact NoticesKept.refl

/-- The end of the test: the request refused, answered, or in flight still. -/
theorem testZone_atReport {z : ZoneRequest} (zone : v.thrust.zone = some z) (place : Prop) (has : place → (v.setZone none).HasPlace) :
    ((∃ d ∈ v.zoneCylinders z.position, v.AgainstZone z.kind d) → v.testZone.thrust.zone = none
      ∧ (place → ∃ q ∈ v.testZone.link.queue, q.frame.body = .zoneRefused (zoneBytes z.ring z.position z.attempt ++ [zoneRefusalCode .pinned])))
    ∧ ((∀ d ∈ v.zoneCylinders z.position, ¬v.AgainstZone z.kind d) →
      ((∀ d ∈ v.zoneCylinders z.position, ZoneDone z.kind d) → v.testZone.thrust.zone = none
        ∧ (place → (z.kind = .clear → ∃ q ∈ v.testZone.link.queue, q.frame.body = .zoneCleared (zoneBytes z.ring z.position z.attempt))
          ∧ (z.kind = .seat → ∃ q ∈ v.testZone.link.queue, q.frame.body = .zoneHeld (zoneBytes z.ring z.position z.attempt))))
      ∧ ((∃ d ∈ v.zoneCylinders z.position, ¬ZoneDone z.kind d) → v.testZone.thrust.zone = some z)) := by
  obtain ⟨refuse, rest⟩ := testZone_effect v z zone
  refine ⟨fun against => ?_, fun free => ⟨fun done => ?_, fun open' => ?_⟩⟩
  · rw [refuse against]
    exact ⟨by simp [queueRefusal], fun room => queueFrame_holds _ _ (has room) rfl⟩
  · rw [(rest free).1 done]
    refine ⟨by simp, fun room => ⟨fun kind => ?_, fun kind => ?_⟩⟩
    · have answer : (v.setZone none).queueAnswer z = (v.setZone none).queueFrame (.zoneCleared (zoneBytes z.ring z.position z.attempt)) := by
        unfold queueAnswer
        rw [kind]
      rw [answer]
      exact queueFrame_holds _ _ (has room) rfl
    · have answer : (v.setZone none).queueAnswer z = (v.setZone none).queueFrame (.zoneHeld (zoneBytes z.ring z.position z.attempt)) := by
        unfold queueAnswer
        rw [kind]
      rw [answer]
      exact queueFrame_holds _ _ (has room) rfl
  · rw [(rest free).2 open']
    exact zone

theorem inFlightZoneHas_iff {z : ZoneRequest} (zone : v.thrust.zone = some z) :
    v.inFlightZoneHas n = true ↔ z.position ≠ 0 ∧ v.zonePosition v.own n = z.position := by
  unfold inFlightZoneHas
  rw [zone]
  simp

theorem zoneAtReport (before : s.BeforeZone v) (number : c.number = n) : s.ZoneAtReport c (v.zoneTested n) := by
  have machine := (zoneTested_frame n v).1
  have none' (gone : v.thrust.zone = none) : v.zoneTested n = v := if_neg (by simp [inFlightZoneHas, gone])
  unfold ZoneAtReport
  rw [machine]
  refine ⟨fun absent => ?_, fun moved => ?_, fun z zone phase => ?_⟩
  · have gone : v.thrust.zone = none := before.zone.elim (·.trans absent) id
    rw [none' gone]
    exact gone
  · have gone := before.moved moved
    rw [none' gone]
    exact gone
  · obtain ⟨same, runs, few⟩ := before.still phase
    have zone' : v.thrust.zone = some z := same.trans zone
    have position : v.zonePosition v.own n = s.zonePosition s.own n := by
      simp [zonePosition, memberSection?, cfg, own, before.node]
    have has := inFlightZoneHas_iff (n := n) zone'
    rw [position] at has
    rw [number]
    refine ⟨fun other => ?_, fun some' own' => ?_⟩
    · have idle : v.zoneTested n = v := if_neg fun h => other.elim (has.1 h).1 ((· (has.1 h).2))
      rw [idle]
      exact zone'
    · have tested : v.zoneTested n = v.testZone := if_pos (has.2 ⟨some', own'⟩)
      have cylinders : v.testZone.zoneCylinders z.position = v.zoneCylinders z.position := by
        unfold zoneCylinders
        rw [(testZone_kept v).2]
        refine List.filter_congr fun d _ => ?_
        simp [inZone, zonePosition, memberSection?, cfg, own]
      have against : ∀ d, s.AgainstZone z.kind d ↔ v.AgainstZone z.kind d := by
        intro d
        have forced' : v.forced .cylinder d.number = s.forced .cylinder d.number := by simp only [forced, override?, before.overrides]
        unfold AgainstZone
        rw [forced']
      obtain ⟨refused, answered⟩ := testZone_atReport zone' (s.HasPlace ∧ (s.machine.phase = .bore → s.link.held < 15)) (by
        rintro ⟨⟨runs', room⟩, spare⟩
        refine ⟨runs.trans runs', ?_⟩
        show v.link.held < 16
        by_cases bore : s.machine.phase = .bore
        · rw [if_pos bore] at few
          have := spare bore
          omega
        · rw [if_neg bore] at few
          omega)
      rw [tested, cylinders]
      simp only [against]
      refine ⟨fun pinned => ⟨(refused pinned).1, fun place spare => (refused pinned).2 ⟨place, spare⟩⟩, fun free =>
        ⟨fun done => ⟨((answered free).1 done).1, fun place spare => ?_⟩, (answered free).2⟩⟩
      obtain ⟨clear, seat⟩ := ((answered free).1 done).2 ⟨place, spare⟩
      cases kind : z.kind with
      | clear => exact clear kind
      | seat => exact seat kind

end State
end Sys2Proof.Machine
end

section
/-! PROOFS. CYLINDER_REPORT with a fault and without, outside BORE and in it (O23). -/

-- In one thread: each proof that waits for those before it would keep a thread of its own.
set_option Elab.async false

namespace Sys2Proof.Machine

namespace State

variable {s t v : State} {n : Nat} {r : CylReport} {c d : Cylinder}

/-! ### A record told by its report -/

/-- The record shows the report; its origin is the old one. -/
structure Recorded (r : CylReport) (n : Nat) (c d : Cylinder) : Prop where
  number : d.number = n
  stroke : d.stroke = r.stroke
  pressure : d.pressure = r.pressure
  fault : d.fault = r.fault
  origin : d.origin = c.origin

theorem Recorded.settled {e : Cylinder} (h : Recorded r n c d) (settled : s.Settled d e) : Recorded r n c e :=
  ⟨settled.number.trans h.number, settled.stroke.trans h.stroke, settled.pressure.trans h.pressure, settled.fault.trans h.fault,
    settled.origin.trans h.origin⟩

theorem recorded_reported (number : c.number = n) : Recorded r n c (reportedCylinder r c) := ⟨number, rfl, rfl, rfl, rfl⟩

theorem beforeZone_of_same (machine : v.machine = s.machine) (zone : v.thrust.zone = s.thrust.zone) (link : v.link = s.link)
    (node : v.node = s.node) (overrides : v.overrides = s.overrides) : s.BeforeZone v :=
  ⟨node, overrides, .inl zone, fun moved => absurd (by rw [machine]) moved,
    fun _ => ⟨zone, by rw [link], by rw [link]; exact Nat.le_add_right _ _⟩⟩

theorem BeforeZone.of_tests (tests : Tests 1 s v) (bore : s.machine.phase = .bore) (node : v.node = s.node)
    (overrides : v.overrides = s.overrides) : s.BeforeZone v := by
  rcases tests.bore bore with ⟨machine, zone, runs, few⟩ | ⟨hold, gone⟩
  · exact ⟨node, overrides, .inl zone, fun moved => absurd (by rw [machine]) moved, fun _ => ⟨zone, runs, by rw [if_pos bore]; exact few⟩⟩
  · refine ⟨node, overrides, .inr gone, fun _ => gone, fun same => ?_⟩
    simp [inHold, same, bore] at hold

/-! ### A report with a fault (R59) -/

def failing (c : Cylinder) : Cylinder := { c with state := .failed, reseatTarget := none }

/-- The cylinder FAILED, the notice set. -/
def cylFailed (s : State) (n : Nat) (r : CylReport) : State := ((s.cylReported n r).updateCylinder n failing).notify .cylFault

/-- The hold below h_min. -/
def cylFailHeld (s : State) (n : Nat) (r : CylReport) : State :=
  if s.machine.phase = .bore ∧ (s.cylFailed n r).bearingCount < s.cfg.hMin then (s.cylFailed n r).imposeHold .cylFail else s.cylFailed n r

theorem reportTaken_of_failed (fault : r.fault = true) : s.reportTaken n r .failed = s.cylReported n r := by
  unfold reportTaken
  rw [if_pos fault]
  exact if_pos rfl

theorem cylFailed_frame (s : State) (n : Nat) (r : CylReport) : (s.cylFailed n r).machine = s.machine ∧ (s.cylFailed n r).node = s.node
    ∧ (s.cylFailed n r).overrides = s.overrides ∧ (s.cylFailed n r).link = s.link ∧ (s.cylFailed n r).thrust.zone = s.thrust.zone := by
  simp [cylFailed, cylReported]

theorem reportTaken_of_fault {old : CylState} (fault : r.fault = true) (sound : old ≠ .failed) :
    s.reportTaken n r old = (s.cylFailHeld n r).recomputeAdvance := by
  obtain ⟨machine, node, -⟩ := cylFailed_frame s n r
  have limits : (s.cylFailed n r).cfg = s.cfg := by simp only [cfg, node]
  unfold reportTaken cylFailHeld
  rw [if_pos fault, ← limits, ← machine]
  exact if_neg sound

theorem cylFailed_cylinder? (found : s.cylinder? n = some c) : (s.cylFailed n r).cylinder? n = some (failing (reportedCylinder r c)) := by
  have before := cylReported_cylinder? (r := r) found
  have moved : ((s.cylReported n r).updateCylinder n failing).cylinder? n = some (failing (reportedCylinder r c)) := by
    rw [Sys2Proof.Machine.updateCylinder_eq _ failing (fun _ => rfl), before]
    rfl
  exact moved

theorem cylFailed_bearing (s : State) (n : Nat) (r : CylReport) : (s.cylFailed n r).bearingCount
    = (s.thrust.cylinders.map fun d => if d.number = n then { d with state := .failed } else d).countP Cylinder.isBearing := by
  have cylinders : (s.cylFailed n r).thrust.cylinders
      = s.thrust.cylinders.map fun d => if d.number = n then failing (reportedCylinder r d) else d := by
    simp only [cylFailed, updateCylinder_eq, mapCylinders, notify_eq, setConsole_thrust, setCylinders, setThrust_thrust,
      (cylReported_frame s n r).2.2.2.2.2.2.1, List.map_map]
    refine List.map_congr_left fun d _ => ?_
    by_cases own : d.number = n
    · simp [own, reportedCylinder]
    · simp [own]
  unfold bearingCount
  rw [cylinders, List.countP_map, List.countP_map]
  refine List.countP_congr fun d _ => ?_
  by_cases own : d.number = n
  · simp [own, failing, Cylinder.isBearing]
  · simp [own]

theorem cylFailHeld_settles (s : State) (n : Nat) (r : CylReport) :
    (s.cylFailed n r).SettlesTo (s.cylFailHeld n r).recomputeAdvance :=
  (SettlesTo.imposeHold_if _ .cylFail (s.cylFailed n r)).trans (SettlesTo.recomputeAdvance _)

/-- A FAILED cylinder's fault brings the hold and the recomputation; a request in flight stands or goes with a hold. -/
theorem cylFailHeld_beforeZone (s : State) (n : Nat) (r : CylReport) : s.BeforeZone (s.cylFailHeld n r).recomputeAdvance := by
  obtain ⟨machine, node, overrides, link, zone⟩ := cylFailed_frame s n r
  by_cases bore : s.machine.phase = .bore
  · have tests : Tests 1 (s.cylFailed n r) (s.cylFailHeld n r).recomputeAdvance :=
      (Tests.imposeHold_if _ .cylFail (s.cylFailed n r)).trans (Tests.recomputeAdvance _)
    have start : Tests 0 s (s.cylFailed n r) :=
      ⟨fun _ => .inl ⟨machine, zone, by rw [link], by rw [link]; exact Nat.le_refl _⟩,
        fun ⟨hold, none'⟩ => ⟨(inHold_congr machine).trans hold, zone.trans none'⟩,
        (NoticesKept_notify ((s.cylReported n r).updateCylinder n failing) .cylFault).pre (by simp [cylReported])⟩
    refine BeforeZone.of_tests (start.trans tests) bore ?_ ?_
    · simp only [recomputeAdvance_frame, cylFailHeld]
      split <;> simp [node]
    · simp only [recomputeAdvance_frame, cylFailHeld]
      split <;> simp [overrides]
  · have held : s.cylFailHeld n r = s.cylFailed n r := if_neg fun h => bore h.1
    rw [held, recomputeAdvance_of_noBore (by rw [machine]; exact bore)]
    exact beforeZone_of_same machine zone link node overrides

theorem cylFailHeld_noticed (s : State) (n : Nat) (r : CylReport) : (s.cylFailHeld n r).recomputeAdvance.noticed .cylFault = true := by
  have tests : Tests 1 (s.cylFailed n r) (s.cylFailHeld n r).recomputeAdvance :=
    (Tests.imposeHold_if _ .cylFail (s.cylFailed n r)).trans (Tests.recomputeAdvance _)
  exact tests.notices _ (notify_noticed _ _)

theorem cylFailHeld_hard (bore : s.machine.phase = .bore) (few : (s.cylFailed n r).bearingCount < s.cfg.hMin) :
    (s.cylFailHeld n r).recomputeAdvance.machine.phase = .hold .hard := by
  have held : s.cylFailHeld n r = (s.cylFailed n r).imposeHold .cylFail := if_pos ⟨bore, few⟩
  have phase := (imposeHold_machine_of_bore (s := s.cylFailed n r) .cylFail (by rw [(cylFailed_frame s n r).1]; exact bore)).2.1
  rw [held, recomputeAdvance_of_noBore (by rw [phase]; exact (nomatch ·))]
  exact phase

/-! ### A report without a fault: the record moved -/

/-- The cylinder as the report's moves leave it, the advance not settled yet. -/
def movedCylinder (s : State) (n : Nat) (r : CylReport) (c : Cylinder) : Cylinder :=
  (s.cylReported n r).reportMoves r.retracted (reportedCylinder r c)

theorem cylMoved_frame (s : State) (n : Nat) (r : CylReport) : (s.cylMoved n r).machine = s.machine ∧ (s.cylMoved n r).node = s.node
    ∧ (s.cylMoved n r).overrides = s.overrides ∧ (s.cylMoved n r).grout = s.grout ∧ (s.cylMoved n r).link = s.link
    ∧ (s.cylMoved n r).console = s.console ∧ (s.cylMoved n r).thrust.zone = s.thrust.zone
    ∧ (s.cylMoved n r).thrust.sectorAdvance = s.thrust.sectorAdvance ∧ (s.cylMoved n r).thrust.credited = s.thrust.credited
    ∧ (s.cylMoved n r).thrust.strokeReached = s.thrust.strokeReached ∧ (s.cylMoved n r).thrust.steerPause = s.thrust.steerPause := by
  simp [cylMoved, cylReported]

theorem cylMoved_cylinder? (found : s.cylinder? n = some c) : (s.cylMoved n r).cylinder? n = some (s.movedCylinder n r c) := by
  have before := cylReported_cylinder? (r := r) found
  unfold cylMoved
  rw [Sys2Proof.Machine.updateCylinder_eq _ _ (fun d => (reportMoves_kept _ _ d).1), before]
  rfl

theorem movedCylinder_recorded (number : c.number = n) : Recorded r n c (s.movedCylinder n r c) := by
  obtain ⟨number', stroke, pressure, fault, origin, -⟩ := reportMoves_kept (s.cylReported n r) r.retracted (reportedCylinder r c)
  exact ⟨number'.trans number, stroke, pressure, fault, origin⟩

theorem reportTaken_of_noFault {old : CylState} (noFault : r.fault = false) : s.reportTaken n r old = (s.cylMoved n r).recomputeAdvance :=
  if_neg (by simp [noFault])

theorem cylMoved_beforeZone (s : State) (n : Nat) (r : CylReport) : s.BeforeZone (s.cylMoved n r).recomputeAdvance := by
  obtain ⟨machine, node, overrides, -, link, console, zone, -⟩ := cylMoved_frame s n r
  by_cases bore : s.machine.phase = .bore
  · have start : Tests 0 s (s.cylMoved n r) := .of_same machine zone link (by rw [console])
    exact BeforeZone.of_tests (start.trans (.recomputeAdvance _)) bore (by simp [node]) (by simp [overrides])
  · rw [recomputeAdvance_of_noBore (by rw [machine]; exact bore)]
    exact beforeZone_of_same machine zone link node overrides

/-! ### The moves, in the words of the statement -/

theorem reported_pinned (s : State) (n : Nat) (r : CylReport) (c : Cylinder) : (s.cylReported n r).cylPinned (reportedCylinder r c) = s.cylPinned c :=
  cylPinned_congr (cylReported_frame s n r).2.2.1 rfl

theorem movedCylinder_of_neither (stop : ¬(c.state = .retracting ∧ r.retracted = true))
    (target : ¬(c.state = .reseating ∧ c.reseatTarget.getD 0 ≤ r.pressure.toNat)) : s.movedCylinder n r c = reportedCylinder r c :=
  reportMoves_of_neither stop target

theorem movedCylinder_of_target (reseating : c.state = .reseating) (target : c.reseatTarget.getD 0 ≤ r.pressure.toNat) :
    s.movedCylinder n r c = { reportedCylinder r c with
      reseatTarget := none
      state := if s.machine.phase = .bore ∧ s.cylPinned c = false ∧ s.thrust.strokeReached = false then .advancing else .bearing } := by
  obtain ⟨machine, -, -, -, -, -, -, -, -, -, reached, -⟩ := cylReported_frame s n r
  refine (reportMoves_of_target (s := s.cylReported n r) (c := reportedCylinder r c) reseating target).trans ?_
  unfold atTarget
  rw [machine, reached, reported_pinned]
  simp only [Bool.not_eq_true']

theorem movedCylinder_of_stop (retracting : c.state = .retracting) (stop : r.retracted = true)
    (stays : s.machine.phase ≠ .bore ∨ s.cylPinned c = true) : s.movedCylinder n r c = { reportedCylinder r c with state := .clear } := by
  unfold movedCylinder
  rw [stop]
  refine reportMoves_of_stop retracting ?_
  rwa [(cylReported_frame s n r).1, reported_pinned]

theorem movedCylinder_of_reseat (retracting : c.state = .retracting) (stop : r.retracted = true) (bore : s.machine.phase = .bore)
    (free : s.cylPinned c = false) : s.movedCylinder n r c = if s.cfg.reseatPressure ≤ r.pressure.toNat then { reportedCylinder r c with
        reseatTarget := none, state := if s.thrust.strokeReached = false then .advancing else .bearing }
      else { reportedCylinder r c with state := .reseating, reseatTarget := some s.cfg.reseatPressure } := by
  obtain ⟨machine, node, -, -, -, -, -, -, -, -, reached, -⟩ := cylReported_frame s n r
  have limits : (s.cylReported n r).cfg = s.cfg := by simp only [cfg, node]
  have bore' : (s.cylReported n r).machine.phase = .bore := by rw [machine]; exact bore
  have free' : (s.cylReported n r).cylPinned (reportedCylinder r c) = false := by rw [reported_pinned]; exact free
  unfold movedCylinder
  rw [stop, reportMoves_of_reseat (c := reportedCylinder r c) retracting bore' free', limits]
  refine if_congr Iff.rfl ?_ rfl
  unfold atTarget
  have pin : (s.cylReported n r).cylPinned { reportedCylinder r c with state := .reseating, reseatTarget := some s.cfg.reseatPressure }
      = false := (cylPinned_state _ (reportedCylinder r c) _ rfl).trans free'
  rw [pin, reached]
  simp [bore']

/-! ### In BORE: the advance over the counting cylinders (R66) -/

/-- The state whose cylinders that count are those of the report, with the advance that comes of it. -/
def counted (s : State) (n : Nat) (stroke : Half) (advance : Nat) : State :=
  (s.mapCylinders fun c => if c.number = n then { c with stroke := stroke } else c).setThrust
    { (s.mapCylinders fun c => if c.number = n then { c with stroke := stroke } else c).thrust with sectorAdvance := advance }

theorem counted_usable (s : State) (n : Nat) (stroke : Half) (advance : Nat) :
    (s.counted n stroke advance).usableCylinders = s.countingCylinders n stroke := rfl

theorem counted_gains (s : State) (n : Nat) (r : CylReport) (advance : Nat) :
    (s.counted n r.stroke advance).gains = (s.cylMoved n r).gains := by
  have report : (s.cylReported n r).gains = (s.counted n r.stroke advance).gains := by
    let shown : Cylinder → Cylinder := fun c => if c.number = n then { c with pressure := r.pressure, fault := r.fault } else c
    refine (gains_congr (s := (s.counted n r.stroke advance).mapCylinders shown) ?_ (cylReported_frame s n r).2.2.1).trans ?_
    · rw [(cylReported_frame s n r).2.2.2.2.2.2.1]
      simp only [counted, mapCylinders, setCylinders, setThrust_thrust, List.map_map]
      refine List.map_congr_left fun c _ => ?_
      by_cases own : c.number = n
      · simp [shown, own, reportedCylinder]
      · simp [shown, own]
    · refine gains_mapCylinders _ shown fun c => ?_
      by_cases own : c.number = n
      · simp [shown, own, Cylinder.gain]
      · simp [shown, own]
  have moves : (s.cylMoved n r).gains = (s.cylReported n r).gains := by
    refine gains_mapCylinders (s.cylReported n r) _ fun c => ?_
    by_cases own : c.number = n
    · obtain ⟨number, stroke, -, -, origin, failed⟩ := reportMoves_kept (s.cylReported n r) r.retracted c
      rw [if_pos own]
      exact ⟨number, by simp only [Cylinder.gain, stroke, origin], failed⟩
    · rw [if_neg own]
      exact ⟨rfl, rfl, Iff.rfl⟩
  exact (moves.trans report).symm

theorem countingCylinders_least (s : State) (n : Nat) (r : CylReport) :
    (∀ d ∈ s.countingCylinders n r.stroke, (s.cylMoved n r).computedAdvance ≤ d.gain)
    ∧ (s.countingCylinders n r.stroke ≠ [] → ∃ d ∈ s.countingCylinders n r.stroke, (s.cylMoved n r).computedAdvance = d.gain)
    ∧ (s.countingCylinders n r.stroke = [] → (s.cylMoved n r).computedAdvance = s.thrust.sectorAdvance) := by
  obtain ⟨-, -, -, -, -, -, -, advance, -⟩ := cylMoved_frame s n r
  exact advanceIsLeast_of (s := s) (t := s.counted n r.stroke (s.cylMoved n r).computedAdvance) (u := s.cylMoved n r)
    (counted_gains s n r _) advance rfl

/-- While BORE stands, only stroke reached has moved the record since. -/
theorem cylMoved_settled_cylinder? (found : s.cylinder? n = some c) (bore : s.machine.phase = .bore)
    (stands : (s.cylMoved n r).recomputeAdvance.machine.phase = .bore) : (s.cylMoved n r).recomputeAdvance.cylinder? n
      = some (strokeStopped s.thrust.strokeReached (s.cylMoved n r).recomputeAdvance.thrust.strokeReached (s.movedCylinder n r c)) := by
  obtain ⟨machine, -, -, -, -, -, -, -, -, reached, -⟩ := cylMoved_frame s n r
  have moved := ((recomputeAdvance_settled (s.cylMoved n r) (by rw [machine]; exact bore)).2 stands).2
  rw [reached] at moved
  have same : (fun d : Cylinder => d.number == n) ∘ strokeStopped s.thrust.strokeReached
      (s.cylMoved n r).recomputeAdvance.thrust.strokeReached = fun d : Cylinder => d.number == n := by
    funext d
    simp only [Function.comp_apply, (strokeStopped_kept _ _ d).1]
  have before := cylMoved_cylinder? (r := r) found
  unfold cylinder? at before ⊢
  rw [moved]
  show List.find? _ (List.map (strokeStopped s.thrust.strokeReached (s.cylMoved n r).recomputeAdvance.thrust.strokeReached) _) = _
  rw [List.find?_map, same, before]
  rfl

end State
end Sys2Proof.Machine
end

section
/-! PROOFS. CYLINDER_REPORT: the advance settled after a report in BORE, and the whole of it (O23). -/

-- In one thread: each proof that waits for those before it would keep a thread of its own.
set_option Elab.async false

namespace Sys2Proof.Machine

namespace State

variable {s v : State} {n : Nat} {r : CylReport} {c : Cylinder}

/-! ### The advance settled after the moves (R66 to R72) -/

/-- The moves made and the advance settled. -/
def reportSettled (s : State) (n : Nat) (r : CylReport) : State := (s.cylMoved n r).recomputeAdvance

section
variable (n : Nat) (r : CylReport) (bore : s.machine.phase = .bore)
include bore

theorem cylMoved_bore : (s.cylMoved n r).machine.phase = .bore := by rw [(cylMoved_frame s n r).1, bore]

theorem reportSettled_advance : (s.reportSettled n r).thrust.sectorAdvance = (s.cylMoved n r).computedAdvance :=
  recomputeAdvance_advance (cylMoved_bore n r bore)

theorem reportSettled_settled : s.AdvanceSettled (s.reportSettled n r) := by
  obtain ⟨-, node, -, grout, -, -, -, advance, credited, reached, pause⟩ := cylMoved_frame s n r
  exact (recomputeAdvance_settled _ (cylMoved_bore n r bore)).1.of_before advance credited reached pause (by rw [grout]) node

theorem reportSettled_least : (∀ d ∈ s.countingCylinders n r.stroke, (s.reportSettled n r).thrust.sectorAdvance ≤ d.gain)
    ∧ (s.countingCylinders n r.stroke ≠ [] →
        ∃ d ∈ s.countingCylinders n r.stroke, (s.reportSettled n r).thrust.sectorAdvance = d.gain)
    ∧ (s.countingCylinders n r.stroke = [] → (s.reportSettled n r).thrust.sectorAdvance = s.thrust.sectorAdvance) := by
  rw [reportSettled_advance n r bore]
  exact countingCylinders_least s n r

theorem reportSettled_grout (low : (s.reportSettled n r).thrust.sectorAdvance ≤ s.thrust.credited) :
    (s.reportSettled n r).grout = s.grout := by
  obtain ⟨-, -, -, grout, -, -, -, -, credited, -⟩ := cylMoved_frame s n r
  rw [reportSettled_advance n r bore, ← credited] at low
  exact (recomputeAdvance_grout (cylMoved_bore n r bore) low).trans grout

theorem reportSettled_restrained (rises : s.thrust.credited < (s.reportSettled n r).thrust.sectorAdvance) (configured : s.configured = true) :
    (s.reportSettled n r).grout.restrained = (if s.grout.restrained then decide (s.cfg.shortfallOff < (s.reportSettled n r).shortfallL)
      else decide (s.cfg.shortfallOn ≤ (s.reportSettled n r).shortfallL))
    ∧ (s.grout.restrained = false → s.cfg.shortfallOn ≤ (s.reportSettled n r).shortfallL →
        (s.own, RestraintReason.grout) ∈ (s.reportSettled n r).thrust.restraints)
    ∧ (s.grout.restrained = true → (s.reportSettled n r).shortfallL ≤ s.cfg.shortfallOff →
        (s.own, RestraintReason.grout) ∉ (s.reportSettled n r).thrust.restraints) := by
  obtain ⟨-, node, -, grout, -, -, -, -, credited, -⟩ := cylMoved_frame s n r
  rw [reportSettled_advance n r bore, ← credited] at rises
  have limits : (s.cylMoved n r).cfg = s.cfg := by simp only [cfg, node]
  have own' : (s.cylMoved n r).own = s.own := congrArg NodeRecord.number node
  have configured' : (s.cylMoved n r).configured = true := by rwa [State.configured, node]
  have test := recomputeAdvance_restrained (cylMoved_bore n r bore) rises configured'
  rwa [grout, limits, own'] at test

theorem reportSettled_shortfall (rises : s.thrust.credited < (s.reportSettled n r).thrust.sectorAdvance)
    (short : s.cfg.shortfallHold ≤ (s.reportSettled n r).shortfallL) :
    (s.reportSettled n r).inHold = true ∧ (s.reportSettled n r).thrust.strokeReached = s.thrust.strokeReached := by
  obtain ⟨-, node, -, -, -, -, -, -, credited, reached, -⟩ := cylMoved_frame s n r
  rw [reportSettled_advance n r bore, ← credited] at rises
  have limits : (s.cylMoved n r).cfg = s.cfg := by simp only [cfg, node]
  have held := recomputeAdvance_shortfall (cylMoved_bore n r bore) rises (by rw [limits]; exact short)
  rwa [reached] at held

theorem reportSettled_stroke
    (few : s.thrust.credited < (s.reportSettled n r).thrust.sectorAdvance → (s.reportSettled n r).shortfallL < s.cfg.shortfallHold) :
    (s.reportSettled n r).thrust.strokeReached
      = (s.thrust.strokeReached || decide (s.cfg.strokeTarget ≤ (s.reportSettled n r).thrust.sectorAdvance))
    ∧ ((s.reportSettled n r).thrust.sectorAdvance ≠ s.thrust.sectorAdvance →
        s.cfg.strokeTarget ≤ (s.reportSettled n r).thrust.sectorAdvance →
        (∀ b ∈ s.peerBeacons, s.cfg.strokeTarget ≤ b.advance.toNat) → (s.reportSettled n r).inHold = true)
    ∧ (((s.reportSettled n r).thrust.sectorAdvance = s.thrust.sectorAdvance
        ∨ (s.reportSettled n r).thrust.sectorAdvance < s.cfg.strokeTarget
        ∨ ∃ b ∈ s.peerBeacons, b.advance.toNat < s.cfg.strokeTarget) →
        s.ownsMuck = false → (s.reportSettled n r).machine = s.machine) := by
  obtain ⟨machine, node, -, -, -, -, -, advance, credited, reached, -⟩ := cylMoved_frame s n r
  have limits : (s.cylMoved n r).cfg = s.cfg := by simp only [cfg, node]
  have own' : (s.cylMoved n r).own = s.own := congrArg NodeRecord.number node
  have peers : (s.cylMoved n r).peerBeacons = s.peerBeacons := by
    unfold peerBeacons
    rw [machine, own']
  have muck : (s.cylMoved n r).ownsMuck = s.ownsMuck :=
    ownsMuck_of_config (congrArg NodeRecord.config node) own'
  have moved := reportSettled_advance n r bore
  rw [moved, ← credited, ← limits] at few
  have stroke := recomputeAdvance_stroke (cylMoved_bore n r bore) few
  rwa [← reportSettled, machine, limits, advance, reached, peers, muck, ← moved] at stroke

/-- Stroke reached by this report stops the advance, held or not (R71). -/
theorem reportSettled_noneAdvancing (before : s.thrust.strokeReached = false) (after : (s.reportSettled n r).thrust.strokeReached = true) :
    ∀ d ∈ (s.reportSettled n r).thrust.cylinders, d.state ≠ .advancing := by
  have reached := (cylMoved_frame s n r).2.2.2.2.2.2.2.2.2.1
  by_cases stands : (s.reportSettled n r).machine.phase = .bore
  · intro d held
    have stopped := ((recomputeAdvance_settled _ (cylMoved_bore n r bore)).2 stands).2
    rw [← reportSettled] at stopped
    rw [stopped] at held
    obtain ⟨e, -, rfl⟩ := List.mem_map.1 held
    rw [reached, before, after]
    split
    · exact (nomatch ·)
    · rename_i still
      exact fun advancing => still ⟨advancing, rfl, rfl⟩
  · obtain ⟨-, -, -, -, -, out⟩ := reportSettled_settled n r bore
    exact (out stands).2

end

/-! ### The cylinder of the report while BORE stands (R58 steps 3, 4; R60, R71) -/

/-- What the statement says of the cylinder of a report in BORE, stroke reached standing as `reached`. -/
structure MovedInBore (s : State) (r : CylReport) (reached : Bool) (c d : Cylinder) : Prop where
  stop : c.state = .retracting → r.retracted = true → (s.cylPinned c = true → d.state = .clear)
    ∧ (s.cylPinned c = false → r.pressure.toNat < s.cfg.reseatPressure →
        d.state = .reseating ∧ d.reseatTarget = some s.cfg.reseatPressure)
    ∧ (s.cylPinned c = false → s.cfg.reseatPressure ≤ r.pressure.toNat →
        d.state = (if reached then .bearing else .advancing) ∧ d.reseatTarget = none)
  target : c.state = .reseating → c.reseatTarget.getD 0 ≤ r.pressure.toNat → d.reseatTarget = none
    ∧ d.state = (if s.cylPinned c || reached then .bearing else .advancing)
  advances : c.state = .advancing → reached = false → d.state = .advancing
  others : c.state ≠ .advancing → ¬(c.state = .retracting ∧ r.retracted = true) →
    ¬(c.state = .reseating ∧ c.reseatTarget.getD 0 ≤ r.pressure.toNat) → d.state = c.state

theorem strokeStopped_of_still {before after : Bool} (still : c.state ≠ .advancing) : strokeStopped before after c = c :=
  if_neg fun h => still h.1

theorem strokeStopped_reseatTarget (before after : Bool) (c : Cylinder) : (strokeStopped before after c).reseatTarget = c.reseatTarget := by
  unfold strokeStopped
  split <;> rfl

/-- A cylinder that was to advance advances unless stroke is reached. -/
theorem strokeStopped_state {before after : Bool} (carries : before = true → after = true)
    (state : c.state = if before = false then .advancing else .bearing) :
    (strokeStopped before after c).state = if after then .bearing else .advancing := by
  cases before
  · cases after <;> simp_all [strokeStopped]
  · simp_all [strokeStopped]

theorem movedInBore {reached : Bool} (bore : s.machine.phase = .bore) (carries : s.thrust.strokeReached = true → reached = true) :
    s.MovedInBore r reached c (strokeStopped s.thrust.strokeReached reached (s.movedCylinder n r c)) where
  stop := fun retracting stop => by
    refine ⟨fun pin => ?_, fun free low => ?_, fun free reaches => ?_⟩
    · rw [movedCylinder_of_stop retracting stop (.inr pin)]
      exact congrArg Cylinder.state (strokeStopped_of_still (c := { reportedCylinder r c with state := .clear }) (nomatch ·))
    · rw [movedCylinder_of_reseat retracting stop bore free, if_neg (Nat.not_le.2 low), strokeStopped_of_still (c :=
        { reportedCylinder r c with state := .reseating, reseatTarget := some s.cfg.reseatPressure }) (nomatch ·)]
      exact ⟨rfl, rfl⟩
    · rw [movedCylinder_of_reseat retracting stop bore free, if_pos reaches]
      exact ⟨strokeStopped_state carries rfl, strokeStopped_reseatTarget ..⟩
  target := fun reseating target => by
    rw [movedCylinder_of_target reseating target]
    refine ⟨strokeStopped_reseatTarget .., ?_⟩
    cases pin : s.cylPinned c
    · exact strokeStopped_state carries (if_congr (by simp [bore]) rfl rfl)
    · rw [if_neg (by simp)]
      exact congrArg Cylinder.state
        (strokeStopped_of_still (c := { reportedCylinder r c with reseatTarget := none, state := .bearing }) (nomatch ·))
  advances := fun advancing short => by
    rw [movedCylinder_of_neither (by simp [advancing]) (by simp [advancing]), short]
    exact (congrArg Cylinder.state (if_neg (by simp))).trans advancing
  others := fun still stop target => by
    rw [movedCylinder_of_neither stop target]
    exact (congrArg Cylinder.state (strokeStopped_of_still (c := reportedCylinder r c) still)).trans rfl

theorem reportSettled_movedInBore {d : Cylinder} (found : s.cylinder? n = some c) (bore : s.machine.phase = .bore)
    (stands : (s.reportSettled n r).machine.phase = .bore) (found' : (s.reportSettled n r).cylinder? n = some d) :
    s.MovedInBore r (s.reportSettled n r).thrust.strokeReached c d := by
  have reached := ((reportSettled_settled n r bore).2.2.2.2.1 stands).1
  cases (cylMoved_settled_cylinder? found bore stands).symm.trans found'
  exact movedInBore bore fun before => by rw [reached, before]; rfl

/-- A record after the report without a fault, in any phase. -/
theorem reportSettled_cylinder? (found : s.cylinder? n = some c) : ∃ d, (s.reportSettled n r).cylinder? n = some d ∧ Recorded r n c d := by
  obtain ⟨d, found', settled⟩ := (SettlesTo.recomputeAdvance _).cylinder? (cylMoved_cylinder? (r := r) found)
  exact ⟨d, found', (movedCylinder_recorded (find_number found)).settled settled⟩

/-! ### Outside BORE -/

theorem reportSettled_of_noBore (out : s.machine.phase ≠ .bore) : s.reportSettled n r = s.cylMoved n r :=
  recomputeAdvance_of_noBore (by rw [(cylMoved_frame s n r).1]; exact out)

/-! ### What any report leaves -/

theorem reportTaken_frame (s : State) (n : Nat) (r : CylReport) (old : CylState) : (s.reportTaken n r old).node = s.node
    ∧ (s.reportTaken n r old).overrides = s.overrides ∧ (s.reportTaken n r old).machine.ring = s.machine.ring
    ∧ (s.reportTaken n r old).machine.view = s.machine.view
    ∧ (s.reportTaken n r old).channels.cylinders = (s.keepCylReport n r).channels.cylinders := by
  unfold reportTaken cylMoved cylReported
  split <;> simp

theorem reportTaken_beforeZone (s : State) (n : Nat) (r : CylReport) (old : CylState) : s.BeforeZone (s.reportTaken n r old) := by
  cases fault : r.fault
  · rw [reportTaken_of_noFault fault]
    exact cylMoved_beforeZone s n r
  · by_cases failed : old = .failed
    · obtain ⟨machine, node, overrides, -, link, -, -, zone, -⟩ := cylReported_frame s n r
      rw [failed, reportTaken_of_failed fault]
      exact beforeZone_of_same machine zone link node overrides
    · rw [reportTaken_of_fault fault failed]
      exact cylFailHeld_beforeZone s n r

/-- A cylinder whose report shows a fault is FAILED, without a target unless it was FAILED before. -/
theorem reportTaken_failed (fault : r.fault = true) (found : s.cylinder? n = some c) :
    ∃ d, (s.reportTaken n r c.state).cylinder? n = some d ∧ Recorded r n c d ∧ d.state = .failed
      ∧ (c.state ≠ .failed → d.reseatTarget = none) := by
  have recorded : Recorded r n c (reportedCylinder r c) := recorded_reported (find_number found)
  by_cases failed : c.state = .failed
  · rw [failed, reportTaken_of_failed fault]
    exact ⟨_, cylReported_cylinder? found, recorded, failed, fun sound => absurd rfl sound⟩
  · rw [reportTaken_of_fault fault failed]
    obtain ⟨d, found', settled⟩ := (cylFailHeld_settles s n r).cylinder? (cylFailed_cylinder? found)
    cases settled.failed rfl
    exact ⟨_, found', ⟨recorded.number, rfl, rfl, rfl, rfl⟩, rfl, fun _ => rfl⟩

theorem reportTaken_cylinder? (found : s.cylinder? n = some c) :
    ∃ d, (s.reportTaken n r c.state).cylinder? n = some d ∧ Recorded r n c d := by
  cases fault : r.fault
  · rw [reportTaken_of_noFault fault]
    exact reportSettled_cylinder? found
  · obtain ⟨d, found', recorded, -⟩ := reportTaken_failed fault found
    exact ⟨d, found', recorded⟩

theorem zoneTested_shortfallL (n : Nat) (v : State) : (v.zoneTested n).shortfallL = v.shortfallL :=
  shortfallL_congr (by rw [(zoneTested_frame n v).2.2.2.2.1])

theorem zoneTested_slowestAdvance (n : Nat) (v : State) : (v.zoneTested n).slowestAdvance = v.slowestAdvance := by
  obtain ⟨machine, node, -, -, -, -, advance, -⟩ := zoneTested_frame n v
  have own' : (v.zoneTested n).own = v.own := congrArg NodeRecord.number node
  unfold slowestAdvance peerBeacons
  rw [advance, machine, own']

theorem zoneTested_cylinder? (n m : Nat) (v : State) : (v.zoneTested n).cylinder? m = v.cylinder? m := by
  unfold cylinder?
  rw [(zoneTested_frame n v).2.2.2.2.2.1]

end State
end Sys2Proof.Machine

section
open Sys2Proof Sys2Proof.Machine

/-- Settles O23: a cylinder report is recorded, moves or fails its cylinder, settles the advance in BORE, and tests the zone
request in flight. -/
theorem cylinderReportTaken : Obligations.CylinderReportTaken := by
  unfold Obligations.CylinderReportTaken
  intro n stroke pressure fault retracted s positive _
  obtain ⟨r, hr⟩ : ∃ r : CylReport, r = ⟨stroke, pressure, fault, retracted⟩ := ⟨_, rfl⟩
  have run : exec (.cylinderReport n stroke pressure fault retracted) s = .next (s.takeCylReport n r) := by rw [hr]; rfl
  rw [run, ← hr]
  refine ⟨fun none' => by rw [State.takeCylReport_of_none none', State.keepCylReport_eq positive], fun c found => ?_⟩
  obtain ⟨v, hv⟩ : ∃ v, v = s.reportTaken n r c.state := ⟨_, rfl⟩
  obtain ⟨d, found', recorded⟩ := State.reportTaken_cylinder? (r := r) found
  obtain ⟨node, overrides, ring, view, channels⟩ := State.reportTaken_frame s n r c.state
  have before := State.reportTaken_beforeZone s n r c.state
  rw [← hv] at found' node overrides ring view channels before
  obtain ⟨machine, node', overrides', channels', grout, cylinders, advance, credited, reached, pause, restraints⟩ :=
    State.zoneTested_frame n v
  have strokeEq : r.stroke = stroke := by rw [hr]
  have pressureEq : r.pressure = pressure := by rw [hr]
  have faultEq : r.fault = fault := by rw [hr]
  have retractedEq : r.retracted = retracted := by rw [hr]
  rw [State.takeCylReport_of_some found, ← hv]
  refine ⟨v.zoneTested n, d, rfl, ?_, (State.zoneTested_cylinder? n n v).trans found', recorded.number,
    recorded.stroke.trans strokeEq, recorded.pressure.trans pressureEq, recorded.fault.trans faultEq, recorded.origin,
    node'.trans node, overrides'.trans overrides, by rw [machine, ring], by rw [machine, view],
    State.zoneAtReport before (find_number found), fun faulty => ?_, fun sound out => ?_, fun sound bore => ?_⟩
  · rw [channels', channels, State.keepCylReport_eq positive]
    rfl
  · rw [← faultEq] at faulty
    obtain ⟨e, found'', -, failed, target⟩ := State.reportTaken_failed faulty found
    rw [← hv, found'] at found''
    cases found''
    refine ⟨failed, fun old => ⟨target old, ?_, fun bore few => ?_⟩⟩
    · rw [hv, State.reportTaken_of_fault faulty old]
      exact State.noticesKept_zoneTested n _ _ (State.cylFailHeld_noticed s n r)
    · rw [machine, hv, State.reportTaken_of_fault faulty old]
      exact State.cylFailHeld_hard bore (by rw [State.cylFailed_bearing]; exact few)
  · rw [← faultEq] at sound
    have moved : v = s.cylMoved n r := hv.trans ((State.reportTaken_of_noFault sound).trans (State.reportSettled_of_noBore out))
    obtain ⟨same, -, -, grout', -, -, -, advance', -⟩ := State.cylMoved_frame s n r
    rw [moved, State.cylMoved_cylinder? found] at found'
    cases found'
    rw [machine, advance, grout, moved, ← pressureEq, ← retractedEq]
    refine ⟨fun retracting stop => ?_, fun reseating target => ?_, fun stop target => ?_, advance', grout', same⟩
    · rw [State.movedCylinder_of_stop retracting stop (.inl out)]
    · rw [State.movedCylinder_of_target reseating target, if_neg fun h => out h.1]
      exact ⟨rfl, rfl⟩
    · rw [State.movedCylinder_of_neither stop target]
      rfl
  · rw [← faultEq] at sound
    have settled : v = s.reportSettled n r := hv.trans (State.reportTaken_of_noFault sound)
    have hold : (v.zoneTested n).inHold = v.inHold := State.inHold_congr machine
    rw [hold, machine, grout, cylinders, advance, credited, reached, pause, restraints, State.zoneTested_shortfallL,
      State.zoneTested_slowestAdvance, settled, ← strokeEq, ← pressureEq, ← retractedEq]
    rw [settled] at found'
    obtain ⟨-, credit, -, ports, stands, holds⟩ := State.reportSettled_settled n r bore
    refine ⟨State.reportSettled_least n r bore, credit, State.reportSettled_grout n r bore, fun rises =>
      ⟨ports rises, State.reportSettled_restrained n r bore rises, State.reportSettled_shortfall n r bore rises⟩, fun few => ?_,
      fun phase => ?_, fun held => holds fun phase => by simp [State.inHold, phase] at held⟩
    · obtain ⟨stroke', ends, idle⟩ := State.reportSettled_stroke n r bore few
      exact ⟨stroke', fun first atTarget => State.reportSettled_noneAdvancing n r bore first (by rw [stroke']; simp [atTarget]), ends, idle⟩
    · obtain ⟨stop, target, advances, others⟩ := State.reportSettled_movedInBore found bore phase found'
      exact ⟨(stands phase).2, stop, target, advances, others⟩

end
end
